-- ==== Sys2Proof/Word.lean ====
section
/-! DEFINITION. The machine's word types: a register is 32 bits wide (spec/00_scope.md R4), memory is bytes. -/
namespace Sys2Proof

/-- One register word (R4). -/
abbrev Word := BitVec 32

/-- One byte of device memory. -/
abbrev Byte := BitVec 8

end Sys2Proof
end

