-- ==== Sys2Proof/Syntax.lean ====
section
/-! DEFINITION. The commands of spec/opcode_table.json as one inductive, one constructor per row, with the operands a row's rule
gives it: the party or unit that acts, an address, a value, and, where the row is an event of the device's surroundings,
what those surroundings say (a reading, a message, a test result). -/
namespace Sys2Proof

/-- Who accesses the device: the host ports, the board controller, the firmware, the debug port (spec/00_scope.md, Parties). -/
inductive Party where
  | h0 | h1 | h2 | h3 | bmc | mgt | dbg
  deriving DecidableEq, Repr

/-- A write of a register, `4 × reg` the BAR0 offset, as one of those that arrive in one fabric cycle (spec/02_register_pages_and_hosts.md R29). -/
structure CycleWrite where
  party : Party
  reg : Fin 16777216
  value : Word
  deriving DecidableEq, Repr

/-- What the host has configured of a port's function in PCI Express configuration space (R43): bus mastering, and the Enable and Function
Mask bits of the MSI-X capability. -/
structure PcieCfg where
  busMaster : Bool
  msixEnable : Bool
  functionMask : Bool
  deriving DecidableEq, Repr

/-- A unit that a fault fences or whose work depends on one (spec/15_faults_and_fencing.md R342). -/
inductive FUnit where
  | port (p : Fin 4) | geoBank | slice (s : Fin 26) | subarray (i : Fin 512) | reelSpares | tonBank | lane (l : Fin 96)
  | group (g : Fin 6) | dcp (e : Fin 24) | cmp (e : Fin 4) | mover (m : Fin 2) | channel (c : Fin 6) | netPort (p : Fin 4)
  | corePll (k : Fin 2) | plkPll | netPll (p : Fin 4) | timePll | panel | mgtPair (i : Fin 2)
  | workOf (k i : Nat) | tray (p : Fin 4) | blkQueue (p : Fin 4) | txQueue (p : Fin 4) | proofView (v : Fin 4)
  | sender (x : Fin 4) | receiver (r : Fin 4) | ptpDomain (d : Fin 2)
  deriving DecidableEq, Repr

/-- One fault report: the source, what its block records of it (R337), and its origins beyond the source's own unit (R345). -/
structure Report where
  src : Nat
  lo : Word := 0
  hi : Word := 0
  origins : List FUnit := []
  injected : Bool := false
  deriving DecidableEq, Repr

/-- One DIMM as its SPD describes it (spec/12_ddr5_memory.md R246, R247). -/
structure Dimm where
  gib : Nat
  ranks : Nat
  width : Nat
  density : Nat
  rdimmEcc : Bool
  maxSpeed : Nat
  /-- tRFC in ns (R259, R261). -/
  trfc : Nat
  deriving DecidableEq, Repr

/-- What the check of one 64-byte line gives (R266): clean, corrected (device position, 15 when not confined), uncorrectable. -/
inductive Ecc where
  | clean | corrected (dev : Fin 16) | uncorrectable (dev : Fin 16)
  deriving DecidableEq, Repr

/-- The class of a memory request (R255). -/
inductive MemClass where
  | frame | host | background
  deriving DecidableEq, Repr

/-- Who asks memory for a line (R255): the rows of the table of classes, with the engine's number. -/
inductive MemUser where
  | reelFill | scalerSource | overlaySource | proofWrite | proofStream
  | bar2 | ingRing | dcp (e : Fin 24) | tray | blkQueue | cmp (e : Fin 4) | blk (m : Fin 2) | geoImage | tonImage
  | scrub | dose | dailies | otherBackground
  deriving DecidableEq, Repr

/-- The class of a requester (R255). -/
def MemUser.cls : MemUser → MemClass
  | .reelFill | .scalerSource | .overlaySource | .proofWrite | .proofStream => .frame
  | .bar2 | .ingRing | .dcp _ | .tray | .blkQueue | .cmp _ | .blk _ | .geoImage | .tonImage => .host
  | .scrub | .dose | .dailies | .otherBackground => .background

/-- A request to the memory controller: its requester, the host port whose rights apply, its address, and the bytes of a write. -/
structure MemReq where
  who : MemUser
  port : Option (Fin 4)
  addr : BitVec 40
  write : Option (List Byte)
  deriving DecidableEq, Repr

/-- What a boot flash holds (spec/18_boot_identity_attestation.md R399), region by region, each from its first byte; the rest of a
region is erased. The record area is held by its owners (R387, R392, R270). -/
structure FlashImage where
  dir0 : List Byte
  dir1 : List Byte
  fwA : List Byte
  fwB : List Byte
  cfgA : List Byte
  cfgB : List Byte
  eq : List Byte
  deriving DecidableEq, Repr

/-- The fuse fields that Goyth programs (R396): SERIAL, the root key digests as little-endian numbers, IDENTITY_SEED. -/
structure Factory where
  serial : BitVec 64
  root0 : BitVec 512
  root1 : BitVec 512
  root2 : BitVec 512
  root3 : BitVec 512
  seed : BitVec 528
  deriving DecidableEq, Repr

/-- Where a word of the Reel lies (R95): a cell of unit slot `slot` in row buffer `buf` at column index `col` from lens column −32; a staged
pixel of a proof view's band buffer; or one of the sub-arrays of row tags, deal lists and band control: the rest of 443, and 474 to 479. -/
inductive ReelPlace where
  | cell (slot : Fin 40) (buf : Fin 93) (col : Fin 3904)
  | staged (view : Fin 4) (half : Fin 2) (row : Fin 32) (col : Fin 3840)
  | control (i : Fin 7)
  deriving DecidableEq, Repr

/-- What a scrub of an on-chip array finds (spec/01_frame_to_light.md R13): nothing; an error corrected, by its block's source; an
uncorrectable word of the Reel, of a staging buffer, of the Print, of a table bank, of a group queue, of an ingest context, of a unit's
own memory; or of a memory whose source is GRAVE. -/
inductive ScrubFind where
  | clean
  | corrected (src : Fin 512)
  | reel (at_ : ReelPlace)
  | staging (n : Fin 40) (line : Fin 16384) (x : Fin 8192)
  | print (x : Fin 8) (row : Fin 2160)
  | geoActive (t : Fin 6) (word : Fin 1580)
  | geoInactive
  | tonActive (t : Fin 6) (word : Fin 8448)
  | tonInactive
  | wear (other : Bool) (t : Fin 6) (word : Fin 4305)
  | plkQueue (g : Fin 6) (word : Fin 16384)
  | ingContext (parcel : Bool) (i : Fin 1024)
  | ownMemory (u : FUnit)
  | lost (src : Fin 512)
  deriving DecidableEq, Repr


/-- The commands of the block, in the order of the opcode table. -/
inductive Instr where
  /-- REGISTER_WRITE (R28, R29): a write, and the others that arrive in its fabric cycle. -/
  | registerWrite (p : Party) (reg : Fin 16777216) (v : Word) (others : List CycleWrite)
  /-- PAIR_LOW_READ (R5). -/
  | pairLowRead (p : Party) (reg : Fin 16777216)
  /-- PAIR_HIGH_READ (R5). -/
  | pairHighRead (p : Party) (reg : Fin 16777216)
  /-- PAIR_LOW_WRITE (R5). -/
  | pairLowWrite (p : Party) (reg : Fin 16777216) (v : Word)
  /-- PAIR_HIGH_WRITE (R5). -/
  | pairHighWrite (p : Party) (reg : Fin 16777216) (v : Word)
  /-- RC_READ (R8). -/
  | rcRead (p : Party) (reg : Fin 16777216)
  /-- EVT_FORCE (R41). -/
  | evtForce (p : Party) (pg : Fin 5632) (v : Word)
  /-- EVT_PEND_CLEAR (R41). -/
  | evtPendClear (p : Party) (pg : Fin 5632) (v : Word)
  /-- MSIX_UNMASK (R43). -/
  | msixUnmask (port : Fin 4) (vec : Fin 256)
  /-- PAGE_ENABLE (R26). -/
  | pageEnable (p : Party) (pg : Fin 5632)
  /-- PAGE_DISABLE (R26). -/
  | pageDisable (p : Party) (pg : Fin 5632) (mode : Fin 4)
  /-- DRAIN_END (R26). -/
  | drainEnd (pg : Fin 5632)
  /-- DRAIN_TIMEOUT_EXPIRY (R26). -/
  | drainTimeoutExpiry (pg : Fin 5632)
  /-- PAGE_TEST (R455). -/
  | pageTest (p : Party) (pg : Fin 5632)
  /-- SELFTEST_END (R455). -/
  | selftestEnd (pg : Fin 5632) (pass second : Bool)
  /-- FENCE_REQ_SET (R24). -/
  | fenceReqSet (p : Party) (pg : Fin 5632)
  /-- FENCE_REQ_CLEAR (R347). -/
  | fenceReqClear (p : Party) (pg : Fin 5632)
  /-- UNIT_JOIN (R347). -/
  | unitJoin (u : FUnit)
  /-- HIF_SEAL (R31). -/
  | hifSeal (p : Party) (v : Word)
  /-- CS_PROPOSE (R33). -/
  | csPropose (p : Party) (slot : Fin 6)
  /-- CS_WITHDRAW (R35). -/
  | csWithdraw (p : Party) (slot : Fin 6)
  /-- CS_CONFIRM (R34, R36): a CONFIRM, and the others, by party and slot, that arrive in its fabric cycle. -/
  | csConfirm (p : Party) (slot : Fin 6) (others : List (Party × Fin 6))
  /-- CS_TIMEOUT (R35). -/
  | csTimeout (slot : Fin 6)
  /-- BAR2_READ (R39). -/
  | bar2Read (port : Fin 4) (addr : BitVec 40) (len : Fin 4097)
  /-- BAR2_WRITE (R39). -/
  | bar2Write (port : Fin 4) (addr : BitVec 40) (data : List Byte)
  /-- FUNCTION_LEVEL_RESET (R420). -/
  | functionLevelReset (port : Fin 4)
  /-- LINK_RESET (R420). -/
  | linkReset (port : Fin 4)
  /-- PCIE_LINK_UP (R420): with what the host has configured of the function (R43). -/
  | pcieLinkUp (port : Fin 4) (width : Fin 5) (speed : Fin 6) (cfg : PcieCfg)
  /-- GEO_T_HOST (R50). -/
  | geoTHost (p : Party) (t : Fin 6) (v : Word)
  /-- GEO_LOAD (R57). -/
  | geoLoad (p : Party)
  /-- GEO_LOAD_READ_DONE (R57). -/
  | geoLoadReadDone
  /-- GEO_ARM (R59). -/
  | geoArm (p : Party)
  /-- GEO_DISARM (R60). -/
  | geoDisarm (p : Party)
  /-- GEO_ACTIVE_UNCORR (R62): word 1579 is T_REF, which the bank holds once. -/
  | geoActiveUncorr (t : Fin 6) (word : Fin 1580)
  /-- GEO_REPAIR_START (R62). -/
  | geoRepairStart
  /-- GEO_INACTIVE_UNCORR (R62). -/
  | geoInactiveUncorr
  /-- GEO_PROBE (R64). -/
  | geoProbe (p : Party) (t : Fin 6) (v : Word)
  /-- GEO_PROBE_DONE (R64). -/
  | geoProbeDone (t : Fin 6)
  /-- LATCH_POINT (R118). -/
  | latchPoint
  /-- SLATE_WRITE (R122). -/
  | slateWrite (p : Party) (n : Fin 40) (i : Fin 12) (v : Word)
  /-- LYR_SRAM_UNCORR (R88). -/
  | lyrSramUncorr (n : Fin 40) (line : Fin 16384) (x : Fin 8192)
  /-- BAND0_FILL_START (R96). -/
  | band0FillStart
  /-- REEL_BURST_LANDS (R96). -/
  | reelBurstLands
  /-- BAND_START (R92). -/
  | bandStart
  /-- DEAL_FINISH (R92). -/
  | dealFinish (n : Fin 26)
  /-- RAY_DONE (R100). -/
  | rayDone (n : Fin 26) (lane : Fin 64)
  /-- RUN_SEND (R93). -/
  | runSend (n : Fin 26)
  /-- PROOF_BAND_WRITE (R103). -/
  | proofBandWrite (v : Fin 4)
  /-- REEL_UNCORR (R107). -/
  | reelUncorr (at_ : ReelPlace)
  /-- FRAME_EPOCH (R112). -/
  | frameEpoch
  /-- CMT_LOCK_WAIT_END (R113). -/
  | cmtLockWaitEnd
  /-- SLEW_COMPLETE (R114). -/
  | slewComplete
  /-- SYNC_IN_EDGE (R115). -/
  | syncInEdge (rising : Bool) (t : Nat)
  /-- SYNC_IN_MISS (R115). -/
  | syncInMiss
  /-- SYNC_OUT_RISE (R116). -/
  | syncOutRise
  /-- SYNC_OUT_FALL (R116). -/
  | syncOutFall
  /-- FENCE_VAL_WRITE (R119). -/
  | fenceValWrite (p : Party) (i : Fin 256) (v : Word)
  /-- FENCE_ADD_WRITE (R119). -/
  | fenceAddWrite (p : Party) (i : Fin 256) (v : Word)
  /-- TAKE_ARM (R123). -/
  | takeArm (p : Party) (q : Fin 6) (v : Word)
  /-- TAKE_DISARM (R123). -/
  | takeDisarm (p : Party) (q : Fin 6) (v : Word)
  /-- CUE_TIME_FIRE (R127). -/
  | cueTimeFire (c : Fin 4)
  /-- TON_LOAD (R151). -/
  | tonLoad (p : Party)
  /-- TON_LOAD_READ_DONE (R151). -/
  | tonLoadReadDone
  /-- TON_ARM (R151). -/
  | tonArm (p : Party)
  /-- TON_DISARM (R151). -/
  | tonDisarm (p : Party)
  /-- TON_COMMIT (R153). -/
  | tonCommit (p : Party) (v : Word)
  /-- TON_ACTIVE_UNCORR (R151). -/
  | tonActiveUncorr (t : Fin 6) (word : Fin 8448)
  /-- TON_REPAIR_START (R151). -/
  | tonRepairStart
  /-- TON_WEAR_UNCORR (R152). -/
  | tonWearUncorr (other : Bool) (t : Fin 6) (word : Fin 4305)
  /-- LINK_RELEASE (R161). -/
  | linkRelease
  /-- STREAM_ROW_SEND (R160). -/
  | streamRowSend (g : Fin 6)
  /-- ALIGN_SEND (R160). -/
  | alignSend (g : Fin 6)
  /-- COMMAND_COPY_SEND (R168). -/
  | commandCopySend (g : Fin 6)
  /-- GROUP_END_SEND (R161). -/
  | groupEndSend (g : Fin 6)
  /-- INVALID_CONTROL_BLOCK (R157). -/
  | invalidControlBlock (g : Fin 6) (payload : BitVec 64)
  /-- HELLO (R167). -/
  | hello (g : Fin 6) (panelId : Word) (version : Byte)
  /-- LANE_REPORT (R167). -/
  | laneReport (g : Fin 6) (k : Fin 16) (rxInput : Fin 16) (status : Fin 16) (errs : Fin 65536)
  /-- LANE_LOST (R167). -/
  | laneLost (g : Fin 6) (k : Fin 16)
  /-- TX_DETECT_FAIL (R172). -/
  | txDetectFail (l : Fin 96)
  /-- DESKEW (R167). -/
  | deskew (g : Fin 6) (ok : Bool) (skew : Byte)
  /-- RATE_OK (R167). -/
  | rateOk (g : Fin 6)
  /-- MAP_ACK (R167). -/
  | mapAck (g : Fin 6) (seq : Fin 16) (frame : Fin 65536)
  /-- FRAME_REPORT (R167). -/
  | frameReport (g : Fin 6) (held : Bool) (runs : Fin 2097152)
  /-- FRAME_ID (R167). -/
  | frameId (g : Fin 6) (frame : Fin 65536)
  /-- TEMP (R167). -/
  | temp (g : Fin 6) (t : Fin 65536)
  /-- PANEL_FAULT (R167). -/
  | panelFault (g : Fin 6) (code : Fin 65536)
  /-- USER_MESSAGE (R167). -/
  | userMessage (g : Fin 6) (code : Fin 128) (args : BitVec 40)
  /-- BC_LOST (R166). -/
  | bcLost (g : Fin 6)
  /-- BC_QUEUE_READ (R178). -/
  | bcQueueRead (p : Party) (g : Fin 6)
  /-- BRINGUP (R169). -/
  | bringup (p : Party) (g : Fin 6)
  /-- RESTRIPE (R173). -/
  | restripe (p : Party) (g : Fin 6)
  /-- SEND_MSG (R168). -/
  | sendMsg (p : Party) (g : Fin 6)
  /-- BRINGUP_STAGE_DONE (R169). -/
  | bringupStageDone (g : Fin 6)
  /-- BRINGUP_STAGE_TIMEOUT (R169). -/
  | bringupStageTimeout (g : Fin 6) (failing : BitVec 16)
  /-- LANE_SLIP (R179). -/
  | laneSlip (p : Party) (l : Fin 96) (v : Word)
  /-- EQ_TABLE_APPLY (R170). -/
  | eqTableApply (img : List Byte)
  /-- LANE_AUTO_RETURN (R175). -/
  | laneAutoReturn (l : Fin 96)
  /-- LANE_RETURN_QUALIFIED (R175). -/
  | laneReturnQualified (l : Fin 96)
  /-- PLK_QUEUE_UNCORR (R176). -/
  | plkQueueUncorr (g : Fin 6) (word : Fin 16384)
  /-- FRAME_RECEIVE (R280). -/
  | frameReceive (port : Fin 4) (frame : List (BitVec 8))
  /-- PARCEL_TIMEOUT (R187). -/
  | parcelTimeout (i : Fin 1024)
  /-- PLANE_TIMEOUT (R188). -/
  | planeTimeout (k : Fin 256)
  /-- PLANE_DONE (R188). -/
  | planeDone (k : Fin 256)
  /-- TRAY_TAIL (R189). -/
  | trayTail (p : Party) (port : Fin 4) (v : Word)
  /-- ENVELOPE_PARCEL (R191). -/
  | envelopeParcel (port : Fin 4)
  /-- ENVELOPE_INFLATE (R191). -/
  | envelopeInflate (port : Fin 4)
  /-- ENVELOPE_COPY (R191). -/
  | envelopeCopy (port : Fin 4)
  /-- ENVELOPE_FENCE (R191). -/
  | envelopeFence (port : Fin 4)
  /-- ENVELOPE_NOP (R191). -/
  | envelopeNop (port : Fin 4)
  /-- RCPT_HEAD (R193). -/
  | rcptHead (p : Party) (port : Fin 4) (v : Word)
  /-- DISPATCH (R194). -/
  | dispatch
  /-- DCP_INPUT_CONSUMED (R199). -/
  | dcpInputConsumed (e : Fin 24)
  /-- DCP_JOB_END (R196). -/
  | dcpJobEnd (e : Fin 24) (points : Nat)
  /-- DCP_UNCORR (R201). -/
  | dcpUncorr (e : Fin 24)
  /-- CMP_START (R209). -/
  | cmpStart (p : Party) (e : Fin 4)
  /-- CMP_RESUME (R216). -/
  | cmpResume (p : Party) (e : Fin 4)
  /-- CMP_DISCARD (R216). -/
  | cmpDiscard (p : Party) (e : Fin 4)
  /-- CMP_SUSPEND (R216). -/
  | cmpSuspend (e : Fin 4)
  /-- CMP_JOB_END (R211). -/
  | cmpJobEnd (e : Fin 4)
  /-- CMP_VERIFY_FAIL (R215). -/
  | cmpVerifyFail (e : Fin 4)
  /-- CMP_UNCORR (R217). -/
  | cmpUncorr (e : Fin 4)
  /-- PRINT_STRIP_DONE (R220). -/
  | printStripDone (e : Fin 4)
  /-- PRINT_STRIP_ABANDON (R220). -/
  | printStripAbandon (e : Fin 4)
  /-- INVALIDATE_ALL (R222). -/
  | invalidateAll (p : Party)
  /-- RETRY (R220). -/
  | printRetry (p : Party)
  /-- PRINT_UNCORR (R222). -/
  | printUncorr (x : Fin 8) (row : Fin 2160)
  /-- BLK_Q_TAIL (R226). -/
  | blkQTail (p : Party) (port : Fin 4) (v : Word)
  /-- BLK_COPY (R230). -/
  | blkCopy (port : Fin 4)
  /-- BLK_FILL (R230). -/
  | blkFill (port : Fin 4)
  /-- BLK_BLEND (R233). -/
  | blkBlend (port : Fin 4)
  /-- BLK_FENCE (R230). -/
  | blkFence (port : Fin 4)
  /-- BLK_NOP (R230). -/
  | blkNop (port : Fin 4)
  /-- MOVER_TAKE (R228). -/
  | moverTake
  /-- BLK_BURST_DONE (R232). -/
  | blkBurstDone (m : Fin 2)
  /-- DEAD_TIME_EXPIRY (R236). -/
  | deadTimeExpiry (m : Fin 2)
  /-- BLK_OP_END (R239). -/
  | blkOpEnd (m : Fin 2)
  /-- BLK_R_HEAD (R227). -/
  | blkRHead (p : Party) (port : Fin 4) (v : Word)
  /-- MOVER_FENCE_REQ (R241). -/
  | moverFenceReq (p : Party) (v : Word)
  /-- BLK_UNCORR (R241). -/
  | blkUncorr (m : Fin 2)
  /-- TRAIN (R248). -/
  | train (p : Party) (c : Fin 6)
  /-- TRAIN_KEEP (R249). -/
  | trainKeep (p : Party) (c : Fin 6)
  /-- TRAIN_STAGE_DONE (R248). -/
  | trainStageDone (c : Fin 6) (pass : Bool) (dimms : List Dimm) (osc : List Nat)
  /-- TRAIN_STAGE_TIMEOUT (R248). -/
  | trainStageTimeout (c : Fin 6)
  /-- RETIRE (R269). -/
  | retire (p : Party) (c : Fin 6)
  /-- RETIRE_COPY_DONE (R269). -/
  | retireCopyDone (c : Fin 6)
  /-- RETRAIN_CHECK (R250). -/
  | retrainCheck (c : Fin 6) (counts : List Nat)
  /-- MR4_POLL (R260). -/
  | mr4Poll (c : Fin 6) (codes : List Byte)
  /-- REFRESH_TICK (R259). -/
  | refreshTick (c : Fin 6) (rank : Fin 4)
  /-- MEMORY_REQUEST (R256). -/
  | memoryRequest (rq : MemReq)
  /-- DMC_READ_RETURN (R266). -/
  | dmcReadReturn (c : Fin 6) (sub : Bool) (ecc : Ecc)
  /-- CA_PARITY (R267). -/
  | caParity (c : Fin 6) (lost : Bool)
  /-- TS_POLL (R264). -/
  | tsPoll (c : Fin 6) (reading : Option Int)
  /-- SCRUB_BATCH (R268). -/
  | scrubBatch (c : Fin 6) (corrected : List Nat) (uncorrectable : List Nat) (behind : Bool)
  /-- POWER_DOWN_ENTRY (R265). -/
  | powerDownEntry (c : Fin 6) (rank : Fin 4)
  /-- CHANNEL_JOIN (R273). -/
  | channelJoin (c : Fin 6)
  /-- NET_LINK_UP (R304). -/
  | netLinkUp (port : Fin 4)
  /-- NET_LINK_DOWN (R304). -/
  | netLinkDown (port : Fin 4) (localFault remoteFault : Bool)
  /-- EXCEPTION_FRAME (R280). -/
  | exceptionFrame (port : Fin 4)
  /-- NET_TXQ_TAIL (R283). -/
  | netTxqTail (p : Party) (port : Fin 4) (v : Word)
  /-- TX_DESC_FETCH (R284). -/
  | txDescFetch (port : Fin 4)
  /-- TX_LAUNCH (R285). -/
  | txLaunch (port : Fin 4)
  /-- TX_FRAME_SENT (R286). -/
  | txFrameSent (port : Fin 4)
  /-- NET_TXR_HEAD (R283). -/
  | netTxrHead (p : Party) (port : Fin 4) (v : Word)
  /-- PS_ENABLE (R288). -/
  | psEnable (p : Party) (x : Fin 4) (v : Word)
  /-- PS_SLOT (R288). -/
  | psSlot (x : Fin 4)
  /-- PS_PACKET_LAUNCH (R290). -/
  | psPacketLaunch (x : Fin 4)
  /-- PORT_JOIN (R300). -/
  | portJoin (port : Fin 4)
  /-- PTP_OFFSET (R294). -/
  | ptpOffset (d : Fin 2) (o : Int) (mpd : Word) (gm : BitVec 64) (quality : Word)
  /-- ANNOUNCE_TIMEOUT (R294). -/
  | announceTimeout (d : Fin 2)
  /-- SYNC_TIMEOUT (R294). -/
  | syncTimeout (d : Fin 2)
  /-- DELAY_REQ_SEND (R293). -/
  | delayReqSend (d : Fin 2)
  /-- PDELAY_REQ (R287). -/
  | pdelayReq (port : Fin 4) (measured : Option Word)
  /-- SET (R305). -/
  | timSet (p : Party)
  /-- TIM_STEP (R305). -/
  | timStep (p : Party)
  /-- SET64 (R292). -/
  | set64 (p : Party)
  /-- SWITCH (R297). -/
  | timSwitch (p : Party)
  /-- REACQUIRE (R295). -/
  | reacquire (p : Party)
  /-- TIM_RATE_WRITE (R296). -/
  | timRateWrite (p : Party) (inc : Bool) (v : BitVec 48)
  /-- HOST_TIMEOUT (R296). -/
  | hostTimeout
  /-- PPS_OUT_RISE (R299). -/
  | ppsOutRise
  /-- PPS_OUT_FALL (R299). -/
  | ppsOutFall
  /-- PPS_IN (R299). -/
  | ppsIn (rising : Bool) (t : Nat)
  /-- PPS_IN_LOST (R299). -/
  | ppsInLost
  /-- REF_LOS (R309). -/
  | refLos (r : Fin 2) (d : Int)
  /-- REF_FREQ_WINDOW (R309). -/
  | refFreqWindow (r : Fin 2) (ppm move : Int)
  /-- REF_QUALIFIED (R309). -/
  | refQualified (r : Fin 2) (d : Int)
  /-- XTAL_FAIL (R309). -/
  | xtalFail
  /-- PLL_OFFSET_WRITE (R314). -/
  | pllOffsetWrite (p : Party) (k : Fin 8) (v : Word)
  /-- REALIGN (R316). -/
  | realign (p : Party) (k : Fin 8)
  /-- RELOCK (R318). -/
  | pllRelock (p : Party) (k : Fin 8)
  /-- PLL_SLEW_DONE (R317). -/
  | pllSlewDone (k : Fin 8)
  /-- PLL_LOCK_LOSS (R318). -/
  | pllLockLoss (k : Fin 8)
  /-- BYPASS_RELEASE (R318). -/
  | bypassRelease (k : Fin 8)
  /-- PLL_LOCK_TIMEOUT (R318). -/
  | pllLockTimeout (k : Fin 8)
  /-- PLL_DITHER_SEED (R322). -/
  | pllDitherSeed (p : Party) (k : Fin 8) (v : Word)
  /-- OUT_CTRL_WRITE (R323). -/
  | outCtrlWrite (p : Party) (n : Fin 8) (j : Fin 3) (v : Word)
  /-- CLK_OUT_SYNC (R325). -/
  | clkOutSync (p : Party) (v : Word)
  /-- OUT_SYNC_LAPSE (R325). -/
  | outSyncLapse
  /-- FAULT_ARRIVAL (R333). -/
  | faultArrival (reports : List Report)
  /-- SECONDARY_WINDOW_CLOSE (R345). -/
  | secondaryWindowClose (i : Fin 16)
  /-- FAULT_CLEAR (R348). -/
  | faultClear (p : Party) (w : Fin 16) (v : Word)
  /-- FAULT_INJECT (R353). -/
  | faultInject (p : Party) (v : Word)
  /-- FF_RELEASE (R339). -/
  | ffRelease (p : Party) (v : Word)
  /-- LOG_SELECT (R338). -/
  | logSelect (p : Party) (v : Word)
  /-- FLT_READY (R351). -/
  | fltReady (p : Party) (v : Word)
  /-- HEARTBEAT (R352). -/
  | heartbeat
  /-- COMPUTE_LOST (R352). -/
  | computeLost
  /-- UPDATE (R363). -/
  | panelUpdate (p : Party)
  /-- STORE_POSTCARD (R368). -/
  | storePostcard (p : Party)
  /-- SHOW_POSTCARD (R368). -/
  | showPostcard (p : Party)
  /-- COMMON_DONE (R363). -/
  | commonDone
  /-- PANEL_REFRESH (R367). -/
  | panelRefresh
  /-- SEG_CRC_CHECK (R370). -/
  | segCrcCheck (upset : BitVec 256)
  /-- CRACK_CHECK (R371). -/
  | crackCheck (ohms : Nat)
  /-- PANEL_DRIVE (R371). -/
  | panelDrive
  /-- NTC_CONVERSION (R372). -/
  | ntcConversion (v0 v1 : Nat) (tc ts : BitVec 16) (vhold : Nat)
  /-- VREF_CONVERSION (R372). -/
  | vrefConversion (uv : Nat)
  /-- STORE_READ (R359). -/
  | storeRead (p : Party)
  /-- STORE_WRITE (R359). -/
  | storeWrite (p : Party)
  /-- SERVICE_POWER_ON (R365). -/
  | servicePowerOn (addrSel autoOn : Bool)
  /-- VHOLD_READY (R365). -/
  | vholdReady (ok : Bool)
  /-- POWER_FAIL_WARNING (R365). -/
  | powerFailWarning
  /-- SMB_STATUS (R373). -/
  | smbStatus
  /-- SMB_REG_READ (R373). -/
  | smbRegRead (a : Word)
  /-- SMB_REG_WRITE (R373). -/
  | smbRegWrite (a v : Word) (pec : Option Bool)
  /-- SMB_STANDBY (R418). -/
  | smbStandby (pec : Option Bool)
  /-- SMB_WAKE (R415). -/
  | smbWake (pec : Option Bool)
  /-- SMB_PANEL_IMAGE (R373). -/
  | smbPanelImage (img : BitVec 240) (pec : Option Bool)
  /-- SMB_SHOWN_IMAGE (R373). -/
  | smbShownImage
  /-- SMB_STORE_READ (R373). -/
  | smbStoreRead (off : BitVec 16) (len : BitVec 8)
  /-- SMB_STORE_WRITE (R373). -/
  | smbStoreWrite (off : BitVec 16) (data : BitVec 128) (pec : Option Bool)
  /-- SMB_FF_COPY (R373). -/
  | smbFfCopy
  /-- SMB_FG_COPY (R373). -/
  | smbFgCopy
  /-- SMB_EVENT_POP (R374). -/
  | smbEventPop
  /-- SMB_SENSORS (R373). -/
  | smbSensors
  /-- SMB_ALERT_RESPONSE (R374). -/
  | smbAlertResponse
  /-- CAL_RUN (R378). -/
  | calRun (p : Party) (kind : Fin 16) (mask : Fin 64)
  /-- CAL_ABORT (R386). -/
  | calAbort (p : Party)
  /-- REG_RESULT (R379). -/
  | regResult (g : Fin 6) (mx my : BitVec 16) (seq : BitVec 8)
  /-- PHOTO_RESULT (R379). -/
  | photoResult (g : Fin 6) (r : BitVec 16) (seq : BitVec 8)
  /-- MEASURE_TIMEOUT (R380). -/
  | measureTimeout
  /-- CAL_RESULT_CHECK (R384). -/
  | calResultCheck
  /-- CAL_APPLY_SWITCHED (R385). -/
  | calApplySwitched
  /-- CAL_APPLY_TIMEOUT (R385). -/
  | calApplyTimeout
  /-- RECORD_STORED (R385). -/
  | recordStored (ok : Bool)
  /-- SENSOR_RUN_END (R377). -/
  | sensorRunEnd (mean : Nat) (osc xtal : Int)
  /-- DOSE_UPDATE (R390). -/
  | doseUpdate
  /-- WEAR_UPDATED (R391). -/
  | wearUpdated
  /-- DOSE_SAVED (R392). -/
  | doseSaved
  /-- BOOT_ROM (R402). -/
  | bootRom (factory : Option Factory) (f0 f1 : Option FlashImage)
  /-- STAGE (R403). -/
  | secStage (p : Party)
  /-- STAGE_CONFIG (R403). -/
  | stageConfig (p : Party)
  /-- UPDATE_END (R403). -/
  | updateEnd (written : Bool)
  /-- SVN_COMMIT (R404). -/
  | svnCommit (p : Party) (v : Word)
  /-- REVOKE (R405). -/
  | revoke (p : Party) (v : Word)
  /-- PROVISION_INTEGRATOR_KEY (R396). -/
  | provisionIntegratorKey (p : Party)
  /-- PROVISION_DEBUG_KEY (R396). -/
  | provisionDebugKey (p : Party) (k : Fin 2)
  /-- PROVISION_FIELD (R397). -/
  | provisionField (p : Party)
  /-- FUSE_DONE (R398). -/
  | fuseDone (ok : Bool)
  /-- ATTEST (R407). -/
  | attest (p : Party)
  /-- ATTEST_DONE (R407). -/
  | attestDone
  /-- CHALLENGE (R410). -/
  | dbgChallenge (p : Party)
  /-- RESPONSE (R410). -/
  | dbgResponse (p : Party)
  /-- RELOCK_DEBUG (R411). -/
  | relockDebug (p : Party)
  /-- DBG_POLICY_WRITE (R411). -/
  | dbgPolicyWrite (p : Party) (v : Word)
  /-- HOLD (R417). -/
  | pwrHold (p : Party)
  /-- RUN (R415). -/
  | pwrRun (p : Party)
  /-- SR_IDLE_EXPIRY (R417). -/
  | srIdleExpiry
  /-- STBY_ACK (R418). -/
  | stbyAck
  /-- STBY_TIMEOUT (R418). -/
  | stbyTimeout
  /-- POWER_GOOD (R440). -/
  | powerGood (k : Fin 4)
  /-- POWER_GOOD_TIMEOUT (R441). -/
  | powerGoodTimeout
  /-- POWER_DOWN_STEP (R442). -/
  | powerDownStep
  /-- COMPUTE_POWER_ON (R420). -/
  | computePowerOn (strap : Fin 4)
  /-- SYS_RESET_PIN (R420). -/
  | sysResetPin
  /-- PWR_RESET_WARM (R420). -/
  | pwrResetWarm (p : Party)
  /-- DM_WARM_RESET (R420). -/
  | dmWarmReset
  /-- RAIL_MONITOR (R439). -/
  | railMonitor (out : BitVec 9) (fail : BitVec 8) (pgDrop : BitVec 4)
  /-- GATE_WRITE (R419). -/
  | gateWrite (p : Party) (k : Fin 3) (v : Word)
  /-- GATE_OPENED (R419). -/
  | gateOpened (k : Fin 3) (i : Fin 26)
  /-- CHECKPOINT (R422). -/
  | checkpoint
  /-- LOCKSTEP_MISMATCH (R422). -/
  | lockstepMismatch (i : Fin 2)
  /-- PAIR_RETURN (R422). -/
  | pairReturn (p : Party) (i : Fin 2)
  /-- POSTBOX_READ (R423). -/
  | postboxRead (port : Fin 4) (off : Fin 1048576) (len : Fin 4097)
  /-- POSTBOX_WRITE (R423). -/
  | postboxWrite (port : Fin 4) (off : Fin 1048576) (data : List Byte)
  /-- DOORBELL_RING (R424). -/
  | doorbellRing (p : Party) (q : Fin 5) (v : Word)
  /-- DAILY_WRITE (R425). -/
  | dailyWrite (body : List Byte)
  /-- EXTEST (R426). -/
  | extest
  /-- IDCODE (R426). -/
  | idcode
  /-- SAMPLE_PRELOAD (R426). -/
  | samplePreload (capture preload : List Bool)
  /-- BYPASS (R426). -/
  | jtagBypass (code : BitVec 8)
  /-- DBG_ACCESS_READ (R427). -/
  | dbgAccessRead (a : Word)
  /-- DBG_ACCESS_WRITE (R427). -/
  | dbgAccessWrite (a v : Word)
  /-- DBG_ACCESS_NOP (R427). -/
  | dbgAccessNop
  /-- DM_SYS_ACCESS (R428). -/
  | dmSysAccess
  /-- DM_HALT (R429). -/
  | dmHalt (c : Fin 4)
  /-- DM_RESUME (R429). -/
  | dmResume (c : Fin 4)
  /-- DM_STEP (R429). -/
  | dmStep (c : Fin 4)
  /-- BREAKPOINT_HIT (R429). -/
  | breakpointHit (c : Fin 4) (i : Fin 8)
  /-- WATCHPOINT_HIT (R429). -/
  | watchpointHit (c : Fin 4) (j : Fin 4) (a : Word) (write : Bool)
  /-- RETURN_TEST_END (R347). -/
  | returnTestEnd (u : FUnit) (pass : Bool)
  /-- BACK_CHANNEL_LOCK_LOSS (R166). -/
  | backChannelLockLoss (g : Fin 6)
  /-- BACK_CHANNEL_LOCK_GAIN (R166). -/
  | backChannelLockGain (g : Fin 6)
  /-- RS_FEC_CODEWORD (R303). -/
  | rsFecCodeword (port : Fin 4) (corrected : Bool)
  /-- SRAM_SCRUB (R13). -/
  | sramScrub (found : ScrubFind)
  /-- DMC_COMMAND_SLOT (R256). -/
  | dmcCommandSlot (c : Fin 6) (sub : Bool)
  /-- HOLD_TRANSITION_END (R417). -/
  | holdTransitionEnd
  /-- STORE_OP_END (R376). -/
  | storeOpEnd
  deriving DecidableEq, Repr

end Sys2Proof
end

