-- ==== Sys2Proof/Config.lean ====
section
/-! DEFINITION. What the spec leaves open: free values, as constants without a body, so that nothing can be proved of them. -/
namespace Sys2Proof.Config

/-- The free value number `n`, a word of `w` bits: what a step writes where the spec leaves the value open (log 1). -/
opaque freeBits (w n : Nat) : BitVec w

/-- The stream a compressor's search gives for a source at a LEVEL (spec/10_compressor_and_print.md R213, R214): the spec fixes what
the stream must be, not which of the streams that qualify it is (log 36). -/
opaque deflate (level : Nat) (src : List (BitVec 8)) : List (BitVec 8)

/-- The private identity key that the fixed Goyth derivation gives for a seed (spec/18_boot_identity_attestation.md R406), before it is
taken into the range 1 to n − 1 of the curve: the spec does not state the derivation (log 2). -/
opaque identity (seed : BitVec 528) : Nat

end Sys2Proof.Config
end

