-- ==== Sys2Proof/Machine/Bits.lean ====
section
/-! DEFINITION. Bit-field, sign and byte-order helpers used by every block (spec/00_scope.md R3 to R6). -/
namespace Sys2Proof.Machine

/-- Bits `[hi:lo]` of a word, as a number. -/
def fld (w : Word) (hi lo : Nat) : Nat := (w.toNat >>> lo) % 2 ^ (hi - lo + 1)

/-- Bits `[hi:lo]` of a number. -/
def nfld (n hi lo : Nat) : Nat := (n >>> lo) % 2 ^ (hi - lo + 1)

/-- The mask of bits `[hi:lo]`. -/
def fldMask (hi lo : Nat) : Word := BitVec.ofNat 32 ((2 ^ (hi - lo + 1) - 1) <<< lo)

/-- `w` with bits `[hi:lo]` replaced by the low bits of `v`. -/
def setFld (w : Word) (hi lo v : Nat) : Word :=
  (w &&& ~~~(fldMask hi lo)) ||| (BitVec.ofNat 32 ((v % 2 ^ (hi - lo + 1)) <<< lo))

/-- Bit `i` of a word. -/
def bit (w : Word) (i : Nat) : Bool := w.getLsbD i

/-- `w` with bit `i` set to `b`. -/
def setBit (w : Word) (i : Nat) (b : Bool) : Word :=
  if b then w ||| BitVec.ofNat 32 (1 <<< i) else w &&& ~~~(BitVec.ofNat 32 (1 <<< i))

/-- One or zero. -/
def b2n (b : Bool) : Nat := if b then 1 else 0

/-- A number of `n` bits read as two's complement (R3). -/
def sgn (n : Nat) (x : Nat) : Int :=
  let y := x % 2 ^ n
  if y < 2 ^ (n - 1) then (y : Int) else (y : Int) - 2 ^ n

/-- The two's complement code of `x` in `n` bits (R3). -/
def unsgn (n : Nat) (x : Int) : Nat := (x % (2 ^ n : Int)).toNat

/-- `x` limited to `lo … hi`. -/
def clampI (lo hi x : Int) : Int := if x < lo then lo else if hi < x then hi else x

/-- `x` limited to `lo … hi`. -/
def clampN (lo hi x : Nat) : Nat := if x < lo then lo else if hi < x then hi else x

/-- A word from a number, modulo 2^32. -/
abbrev wd (n : Nat) : Word := BitVec.ofNat 32 n

/-- Saturating increment by `k` of a count held in `n` bits. -/
def satAdd (n x k : Nat) : Nat := if x + k < 2 ^ n then x + k else 2 ^ n - 1

/-- The number a list of bytes spells, least significant first (R4). -/
def leNat : List Byte → Nat
  | [] => 0
  | b :: t => b.toNat + 256 * leNat t

/-- The number a list of bytes spells, most significant first (network order). -/
def beNat (l : List Byte) : Nat := leNat l.reverse

/-- The `k` bytes of a number, least significant first. -/
def leBytes : Nat → Nat → List Byte
  | 0, _ => []
  | k + 1, n => BitVec.ofNat 8 n :: leBytes k (n / 256)

/-- The `k` bytes of a number, most significant first. -/
def beBytes (k n : Nat) : List Byte := (leBytes k n).reverse

/-- The 32-bit word at byte offset `i` of a byte list, little-endian. -/
def leWordAt (l : List Byte) (i : Nat) : Nat := leNat ((l.drop i).take 4)

/-- `n` bytes at offset `i` of a byte list, little-endian. -/
def leAt (l : List Byte) (i n : Nat) : Nat := leNat ((l.drop i).take n)

/-- `n` bytes at offset `i` of a byte list, big-endian. -/
def beAt (l : List Byte) (i n : Nat) : Nat := beNat ((l.drop i).take n)

/-- Rounded division: the nearest integer to `a / b`, halves away from minus infinity (`⌊a/b + 1/2⌋`), for `b > 0`. -/
def rdiv (a b : Int) : Int := (2 * a + b) / (2 * b)

/-- `⌊x / 2^k + 1/2⌋`: a right shift that rounds half up. -/
def rshr (x : Int) (k : Nat) : Int := if k = 0 then x else (x + 2 ^ (k - 1)) / 2 ^ k

/-- Element `i` of a list with a default. -/
def nth {α : Type} (d : α) (l : List α) (i : Nat) : α := l.getD i d

/-- A list with element `i` replaced (nothing where `i` lies outside it). -/
def upd {α : Type} (l : List α) (i : Nat) (v : α) : List α := l.set i v

/-- A list with element `i` transformed. -/
def updWith {α : Type} (l : List α) (i : Nat) (f : α → α) : List α := l.modify i f

end Sys2Proof.Machine
end

