-- ==== Sys2Proof/Machine/RegMap.lean ====
section
/-! DEFINITION. The BAR0 byte offset of every register, by the register's own name
 (spec/02_register_pages_and_hosts.md R22, R24 and the register tables of the chapters).
Where a table repeats per unit or per entry, the arguments are the unit's index and the entry's index.
 -/
namespace Sys2Proof.Machine.Reg

/-- Base of page `p` in the window of block `b` (0 HIF … 21 MGT), R22. -/
abbrev page (b p : Nat) : Nat := b * 0x100000 + p * 0x1000

abbrev PAGE_ID (pg : Nat) : Nat := pg + 0x0
abbrev PAGE_CAPS (pg : Nat) : Nat := pg + 0x4
abbrev PAGE_OWNER (pg : Nat) : Nat := pg + 0x8
abbrev PAGE_CTRL (pg : Nat) : Nat := pg + 0xC
abbrev PAGE_STATUS (pg : Nat) : Nat := pg + 0x10
abbrev EVT_RAW (pg : Nat) : Nat := pg + 0x14
abbrev EVT_EN (pg : Nat) : Nat := pg + 0x18
abbrev EVT_PEND (pg : Nat) : Nat := pg + 0x1C
abbrev EVT_FORCE (pg : Nat) : Nat := pg + 0x20
abbrev ERR_CNT (pg : Nat) : Nat := pg + 0x24
abbrev ERR_WINDOW (pg : Nat) : Nat := pg + 0x28
abbrev ERR_THRESH (pg : Nat) : Nat := pg + 0x2C
abbrev SHADOW_CTRL (pg : Nat) : Nat := pg + 0x30
abbrev SEQ (pg : Nat) : Nat := pg + 0x34
abbrev DRAIN_TIMEOUT (pg : Nat) : Nat := pg + 0x38
abbrev CS_CMD (n : Nat) : Nat := 0x6040 + 0x1000 * n
abbrev CS_STATUS (n : Nat) : Nat := 0x6044 + 0x1000 * n
abbrev CS_COUNT (n : Nat) : Nat := 0x6048 + 0x1000 * n
abbrev CS_SIGNERS (n : Nat) : Nat := 0x604C + 0x1000 * n
abbrev CS_NONCE (n : Nat) : Nat := 0x6050 + 0x1000 * n
abbrev CS_REMAIN (n : Nat) : Nat := 0x6054 + 0x1000 * n
abbrev CS_OFFSET (n i : Nat) : Nat := 0x6080 + 0x1000 * n + 0x8 * i
abbrev CS_VALUE (n i : Nat) : Nat := 0x6084 + 0x1000 * n + 0x8 * i
abbrev CS_DIGEST (n i : Nat) : Nat := 0x6100 + 0x1000 * n + 0x4 * i
abbrev CS_SIGN (n i : Nat) : Nat := 0x6140 + 0x1000 * n + 0x4 * i
abbrev PH_BASE (i : Nat) : Nat := 0x5040 + 0x10 * i
abbrev PH_LIMIT (i : Nat) : Nat := 0x5044 + 0x10 * i
abbrev PH_RIGHTS (i : Nat) : Nat := 0x5048 + 0x10 * i
abbrev PH_STATUS (i : Nat) : Nat := 0x504C + 0x10 * i
abbrev HIF_SEAL : Nat := 0x40
abbrev HIF_CS_WINDOW : Nat := 0x44
abbrev HIF_BIFUR : Nat := 0x48
abbrev HIF_OWN_VIOL : Nat := 0x4C
abbrev HIF_OWN_LAST : Nat := 0x50
abbrev HIF_PH_VIOL : Nat := 0x54
abbrev HIF_PH_LAST_LO : Nat := 0x58
abbrev HIF_PH_LAST_HI : Nat := 0x5C
abbrev HIF_PORT_STATUS (n : Nat) : Nat := 0x1040 + 0x1000 * n
abbrev HIF_PORT_NP (n : Nat) : Nat := 0x1044 + 0x1000 * n
abbrev HIF_PORT_FLR_CNT (n : Nat) : Nat := 0x1048 + 0x1000 * n
abbrev HIF_PORT_AER_CNT (n : Nat) : Nat := 0x104C + 0x1000 * n
abbrev GEO_LAYOUT : Nat := 0x300040
abbrev GEO_CMD : Nat := 0x300044
abbrev GEO_LOAD_ADDR_LO : Nat := 0x300048
abbrev GEO_LOAD_ADDR_HI : Nat := 0x30004C
abbrev GEO_LOAD_LEN : Nat := 0x300050
abbrev GEO_LOAD_STATUS : Nat := 0x300054
abbrev GEO_ARM : Nat := 0x300058
abbrev GEO_BANK : Nat := 0x30005C
abbrev GEO_MAP_ID_LO : Nat := 0x300060
abbrev GEO_MAP_ID_HI : Nat := 0x300064
abbrev GEO_MAP_ID_NEXT_LO : Nat := 0x300068
abbrev GEO_MAP_ID_NEXT_HI : Nat := 0x30006C
abbrev GEO_SWITCH_CNT : Nat := 0x300070
abbrev GEO_REPAIR : Nat := 0x300074
abbrev GEO_TEMP_DEADBAND : Nat := 0x300078
abbrev GEO_TEMP_MAXAGE : Nat := 0x30007C
abbrev GEO_TREF : Nat := 0x300080
abbrev GEO_LAST_ADDR_LO : Nat := 0x300084
abbrev GEO_LAST_ADDR_HI : Nat := 0x300088
abbrev GEO_LAST_LEN : Nat := 0x30008C
abbrev GEO_T_SRC (n : Nat) : Nat := 0x301040 + 0x1000 * n
abbrev GEO_T_HOST (n : Nat) : Nat := 0x301044 + 0x1000 * n
abbrev GEO_T_READING (n : Nat) : Nat := 0x301048 + 0x1000 * n
abbrev GEO_T_EFF (n : Nat) : Nat := 0x30104C + 0x1000 * n
abbrev GEO_OX_EFF (n : Nat) : Nat := 0x301050 + 0x1000 * n
abbrev GEO_OY_EFF (n : Nat) : Nat := 0x301054 + 0x1000 * n
abbrev GEO_PX_EFF (n : Nat) : Nat := 0x301058 + 0x1000 * n
abbrev GEO_PY_EFF (n : Nat) : Nat := 0x30105C + 0x1000 * n
abbrev GEO_OX (n : Nat) : Nat := 0x301060 + 0x1000 * n
abbrev GEO_OY (n : Nat) : Nat := 0x301064 + 0x1000 * n
abbrev GEO_PX (n : Nat) : Nat := 0x301068 + 0x1000 * n
abbrev GEO_PY (n : Nat) : Nat := 0x30106C + 0x1000 * n
abbrev GEO_SXY (n : Nat) : Nat := 0x301070 + 0x1000 * n
abbrev GEO_SYX (n : Nat) : Nat := 0x301074 + 0x1000 * n
abbrev GEO_KU (n : Nat) : Nat := 0x301078 + 0x1000 * n
abbrev GEO_KV (n : Nat) : Nat := 0x30107C + 0x1000 * n
abbrev GEO_TC_PITCH (n : Nat) : Nat := 0x301080 + 0x1000 * n
abbrev GEO_TC_ORG (n : Nat) : Nat := 0x301084 + 0x1000 * n
abbrev GEO_SAT_CNT (n : Nat) : Nat := 0x301088 + 0x1000 * n
abbrev GEO_PROBE (n : Nat) : Nat := 0x30108C + 0x1000 * n
abbrev GEO_PROBE_UV (n : Nat) : Nat := 0x301090 + 0x1000 * n
abbrev GEO_PROBE_LENS (n : Nat) : Nat := 0x301094 + 0x1000 * n
abbrev SL_ADDR_LO (n : Nat) : Nat := 0x401040 + 0x1000 * n
abbrev SL_ADDR_LO_ACT (n : Nat) : Nat := 0x4010C0 + 0x1000 * n
abbrev SL_ADDR_HI (n : Nat) : Nat := 0x401044 + 0x1000 * n
abbrev SL_ADDR_HI_ACT (n : Nat) : Nat := 0x4010C4 + 0x1000 * n
abbrev SL_PITCH (n : Nat) : Nat := 0x401048 + 0x1000 * n
abbrev SL_PITCH_ACT (n : Nat) : Nat := 0x4010C8 + 0x1000 * n
abbrev SL_FORMAT (n : Nat) : Nat := 0x40104C + 0x1000 * n
abbrev SL_FORMAT_ACT (n : Nat) : Nat := 0x4010CC + 0x1000 * n
abbrev SL_DISPARITY (n : Nat) : Nat := 0x401050 + 0x1000 * n
abbrev SL_DISPARITY_ACT (n : Nat) : Nat := 0x4010D0 + 0x1000 * n
abbrev SL_ALPHA (n : Nat) : Nat := 0x401054 + 0x1000 * n
abbrev SL_ALPHA_ACT (n : Nat) : Nat := 0x4010D4 + 0x1000 * n
abbrev SL_ORIGIN (n : Nat) : Nat := 0x401058 + 0x1000 * n
abbrev SL_ORIGIN_ACT (n : Nat) : Nat := 0x4010D8 + 0x1000 * n
abbrev SL_SIZE (n : Nat) : Nat := 0x40105C + 0x1000 * n
abbrev SL_SIZE_ACT (n : Nat) : Nat := 0x4010DC + 0x1000 * n
abbrev SL_SRC (n : Nat) : Nat := 0x401060 + 0x1000 * n
abbrev SL_SRC_ACT (n : Nat) : Nat := 0x4010E0 + 0x1000 * n
abbrev SL_SCALE (n : Nat) : Nat := 0x401064 + 0x1000 * n
abbrev SL_SCALE_ACT (n : Nat) : Nat := 0x4010E4 + 0x1000 * n
abbrev SL_FENCE (n : Nat) : Nat := 0x401068 + 0x1000 * n
abbrev SL_FENCE_ACT (n : Nat) : Nat := 0x4010E8 + 0x1000 * n
abbrev SL_FENCE_TARGET (n : Nat) : Nat := 0x40106C + 0x1000 * n
abbrev SL_FENCE_TARGET_ACT (n : Nat) : Nat := 0x4010EC + 0x1000 * n
abbrev LYR_SCALER_QUOTA : Nat := 0x400040
abbrev LYR_UNITS_USED : Nat := 0x400044
abbrev LYR_SCALERS_USED : Nat := 0x400048
abbrev LYR_ACTIVE_LO : Nat := 0x40004C
abbrev LYR_ACTIVE_HI : Nat := 0x400050
abbrev LYR_STATUS (n : Nat) : Nat := 0x401100 + 0x1000 * n
abbrev LYR_STEP_X (n : Nat) : Nat := 0x401104 + 0x1000 * n
abbrev LYR_STEP_Y (n : Nat) : Nat := 0x401108 + 0x1000 * n
abbrev LYR_FLIP_CNT (n : Nat) : Nat := 0x40110C + 0x1000 * n
abbrev LYR_STALE_COUNT (n : Nat) : Nat := 0x401110 + 0x1000 * n
abbrev LYR_STALE_LIMIT (n : Nat) : Nat := 0x401114 + 0x1000 * n
abbrev LYR_IND_EN_LO : Nat := 0x428200
abbrev LYR_IND_EN_HI : Nat := 0x428204
abbrev LYR_IND_POS : Nat := 0x428208
abbrev LYR_IND_GEOM : Nat := 0x42820C
abbrev LYR_IND_COLOUR : Nat := 0x428210
abbrev LYR_IND_SHOWN_LO : Nat := 0x428214
abbrev LYR_IND_SHOWN_HI : Nat := 0x428218
abbrev SYN_ACTIVE : Nat := 0x500040
abbrev SYN_BAND : Nat := 0x500044
abbrev SYN_PV_EN : Nat := 0x500048
abbrev SYN_PV_GRANT : Nat := 0x50004C
abbrev SYN_SLACK_WARN : Nat := 0x500050
abbrev SYN_SLACK_LAST : Nat := 0x500054
abbrev SYN_SLACK_MIN : Nat := 0x500058
abbrev SYN_FILL_WAIT : Nat := 0x50005C
abbrev SYN_SAMPLES_LO : Nat := 0x500060
abbrev SYN_SAMPLES_HI : Nat := 0x500064
abbrev SYN_TERM_LO : Nat := 0x500068
abbrev SYN_TERM_HI : Nat := 0x50006C
abbrev SYN_REEL_MAP : Nat := 0x500070
abbrev SYN_REEL_LAST : Nat := 0x500074
abbrev PV_UV (i : Nat) : Nat := 0x500080 + 0x20 * i
abbrev PV_ADDR0_LO (i : Nat) : Nat := 0x500084 + 0x20 * i
abbrev PV_ADDR0_HI (i : Nat) : Nat := 0x500088 + 0x20 * i
abbrev PV_ADDR1_LO (i : Nat) : Nat := 0x50008C + 0x20 * i
abbrev PV_ADDR1_HI (i : Nat) : Nat := 0x500090 + 0x20 * i
abbrev PV_PITCH (i : Nat) : Nat := 0x500094 + 0x20 * i
abbrev PV_OWNER (i : Nat) : Nat := 0x500098 + 0x20 * i
abbrev PV_STATUS (i : Nat) : Nat := 0x50009C + 0x20 * i
abbrev SLC_STATUS (n : Nat) : Nat := 0x501040 + 0x1000 * n
abbrev SLC_RAYS (n : Nat) : Nat := 0x501044 + 0x1000 * n
abbrev SLC_SAMPLES (n : Nat) : Nat := 0x501048 + 0x1000 * n
abbrev SLC_BUSY (n : Nat) : Nat := 0x50104C + 0x1000 * n
abbrev SLC_WAIT (n : Nat) : Nat := 0x501050 + 0x1000 * n
abbrev SLC_TERM (n : Nat) : Nat := 0x501054 + 0x1000 * n
abbrev SLC_SELFTEST (n : Nat) : Nat := 0x501058 + 0x1000 * n
abbrev SLC_FENCES (n : Nat) : Nat := 0x50105C + 0x1000 * n
abbrev CMT_RATE : Nat := 0x200040
abbrev CMT_SRC : Nat := 0x200044
abbrev CMT_LEAD : Nat := 0x200048
abbrev CMT_SLEW : Nat := 0x20004C
abbrev CMT_FRAME_LO : Nat := 0x200050
abbrev CMT_FRAME_HI : Nat := 0x200054
abbrev CMT_EPOCH_SEC_LO : Nat := 0x200058
abbrev CMT_EPOCH_SEC_HI : Nat := 0x20005C
abbrev CMT_EPOCH_NSEC : Nat := 0x200060
abbrev CMT_OFFSET : Nat := 0x200064
abbrev CMT_STATUS : Nat := 0x200068
abbrev CMT_PENDING_LO : Nat := 0x20006C
abbrev CMT_PENDING_HI : Nat := 0x200070
abbrev FENCE_VAL (n i : Nat) : Nat := 0x201040 + 0x1000 * n + 0x4 * i
abbrev FENCE_ADD (n i : Nat) : Nat := 0x2010C0 + 0x1000 * n + 0x4 * i
abbrev FENCE_WATCH (n i : Nat) : Nat := 0x201140 + 0x1000 * n + 0x4 * i
abbrev TAKE_ARM (i : Nat) : Nat := 0x209040 + 0x20 * i
abbrev TAKE_DISARM (i : Nat) : Nat := 0x209044 + 0x20 * i
abbrev TAKE_AT (i : Nat) : Nat := 0x209048 + 0x20 * i
abbrev EXPECT_LO (i : Nat) : Nat := 0x20904C + 0x20 * i
abbrev EXPECT_HI (i : Nat) : Nat := 0x209050 + 0x20 * i
abbrev RESET_ACTION (i : Nat) : Nat := 0x209054 + 0x20 * i
abbrev TAKE_LAST (i : Nat) : Nat := 0x209058 + 0x20 * i
abbrev CUE_CTRL (i : Nat) : Nat := 0x20A040 + 0x8 * i
abbrev CUE_OFFSET (i : Nat) : Nat := 0x20A044 + 0x8 * i
abbrev CUE_STATUS (i : Nat) : Nat := 0x20A060 + 0x4 * i
abbrev SYNC_OUT_CTRL : Nat := 0x20B040
abbrev SYNC_OUT_OFFSET : Nat := 0x20B044
abbrev SYNC_IN_CTRL : Nat := 0x20B048
abbrev SYNC_IN_STATUS : Nat := 0x20B04C
abbrev SYNC_IN_LAST_NS : Nat := 0x20B050
abbrev TON_SDR_WHITE : Nat := 0x600040
abbrev TON_HLG_PEAK : Nat := 0x600044
abbrev TON_CMD : Nat := 0x600048
abbrev TON_LOAD_ADDR_LO : Nat := 0x60004C
abbrev TON_LOAD_ADDR_HI : Nat := 0x600050
abbrev TON_LOAD_LEN : Nat := 0x600054
abbrev TON_LOAD_STATUS : Nat := 0x600058
abbrev TON_ARM : Nat := 0x60005C
abbrev TON_BANK : Nat := 0x600060
abbrev TON_TABLE_ID_LO : Nat := 0x600064
abbrev TON_TABLE_ID_HI : Nat := 0x600068
abbrev TON_TABLE_ID_NEXT_LO : Nat := 0x60006C
abbrev TON_TABLE_ID_NEXT_HI : Nat := 0x600070
abbrev TON_SWITCH_CNT : Nat := 0x600074
abbrev TON_REPAIR : Nat := 0x600078
abbrev TON_LAST_ADDR_LO : Nat := 0x60007C
abbrev TON_LAST_ADDR_HI : Nat := 0x600080
abbrev TON_COMMIT : Nat := 0x600084
abbrev TON_WEAR : Nat := 0x600088
abbrev TON_LAST_LEN : Nat := 0x60008C
abbrev TON_PV_CTRL (i : Nat) : Nat := 0x600090 + 0x8 * i
abbrev TON_PV_SCALE (i : Nat) : Nat := 0x600094 + 0x8 * i
abbrev TON_M (n i : Nat) : Nat := 0x601040 + 0x1000 * n + 0x4 * i
abbrev TON_OUT_CTRL (n : Nat) : Nat := 0x601064 + 0x1000 * n
abbrev TON_CLIP_CNT (n : Nat) : Nat := 0x601068 + 0x1000 * n
abbrev TON_NEG_CNT (n : Nat) : Nat := 0x60106C + 0x1000 * n
abbrev PLK_UP : Nat := 0x700040
abbrev PLK_ACK_FRAMES : Nat := 0x700044
abbrev PLK_RETRY : Nat := 0x700048
abbrev PLK_LOSS_ERRS : Nat := 0x70004C
abbrev PLK_EQ_ID_LO : Nat := 0x700050
abbrev PLK_EQ_ID_HI : Nat := 0x700054
abbrev PLK_GRP_CMD (n : Nat) : Nat := 0x701040 + 0x1000 * n
abbrev PLK_GRP_CTRL (n : Nat) : Nat := 0x701044 + 0x1000 * n
abbrev PLK_GRP_STATUS (n : Nat) : Nat := 0x701048 + 0x1000 * n
abbrev PLK_GRP_MASK (n : Nat) : Nat := 0x70104C + 0x1000 * n
abbrev PLK_GRP_MAP_LO (n : Nat) : Nat := 0x701050 + 0x1000 * n
abbrev PLK_GRP_MAP_HI (n : Nat) : Nat := 0x701054 + 0x1000 * n
abbrev PLK_GRP_RUNS (n : Nat) : Nat := 0x701058 + 0x1000 * n
abbrev PLK_GRP_PANEL_RUNS (n : Nat) : Nat := 0x70105C + 0x1000 * n
abbrev PLK_GRP_FRAMES (n : Nat) : Nat := 0x701060 + 0x1000 * n
abbrev PLK_GRP_HELD (n : Nat) : Nat := 0x701064 + 0x1000 * n
abbrev PLK_GRP_LATE (n : Nat) : Nat := 0x701068 + 0x1000 * n
abbrev PLK_GRP_TEMP (n : Nat) : Nat := 0x70106C + 0x1000 * n
abbrev PLK_GRP_BC_STATUS (n : Nat) : Nat := 0x701070 + 0x1000 * n
abbrev PLK_GRP_BC_LO (n : Nat) : Nat := 0x701074 + 0x1000 * n
abbrev PLK_GRP_BC_HI (n : Nat) : Nat := 0x701078 + 0x1000 * n
abbrev PLK_GRP_TX_LO (n : Nat) : Nat := 0x70107C + 0x1000 * n
abbrev PLK_GRP_TX_HI (n : Nat) : Nat := 0x701080 + 0x1000 * n
abbrev PLK_LANE_CTRL (n : Nat) : Nat := 0x708040 + 0x1000 * n
abbrev PLK_LANE_STATUS (n : Nat) : Nat := 0x708044 + 0x1000 * n
abbrev PLK_LANE_EQ (n : Nat) : Nat := 0x708048 + 0x1000 * n
abbrev PLK_LANE_SLIP (n : Nat) : Nat := 0x70804C + 0x1000 * n
abbrev PLK_LANE_PRBS_ERR (n : Nat) : Nat := 0x708050 + 0x1000 * n
abbrev PLK_LANE_SYNC_ERR (n : Nat) : Nat := 0x708054 + 0x1000 * n
abbrev PLK_LANE_LOSSES (n : Nat) : Nat := 0x708058 + 0x1000 * n
abbrev ING_DISPATCH : Nat := 0x800040
abbrev ING_ENGINES : Nat := 0x800044
abbrev ING_PLANE_TIMEOUT : Nat := 0x800048
abbrev ING_PARCEL_TIMEOUT : Nat := 0x80004C
abbrev ING_CTX_USED : Nat := 0x800050
abbrev ING_RX_CTRL (n : Nat) : Nat := 0x801040 + 0x1000 * n
abbrev ING_RX_VLAN (n : Nat) : Nat := 0x801044 + 0x1000 * n
abbrev ING_RING_BASE_LO (n : Nat) : Nat := 0x801048 + 0x1000 * n
abbrev ING_RING_BASE_HI (n : Nat) : Nat := 0x80104C + 0x1000 * n
abbrev ING_RING_SIZE (n : Nat) : Nat := 0x801050 + 0x1000 * n
abbrev ING_RX_PARCELS (n : Nat) : Nat := 0x801054 + 0x1000 * n
abbrev ING_RX_PLANES (n : Nat) : Nat := 0x801058 + 0x1000 * n
abbrev ING_RX_ERRORS (n : Nat) : Nat := 0x80105C + 0x1000 * n
abbrev ING_RX_DUPS (n : Nat) : Nat := 0x801060 + 0x1000 * n
abbrev ING_RX_LAST_LO (n : Nat) : Nat := 0x801064 + 0x1000 * n
abbrev ING_RX_LAST_HI (n : Nat) : Nat := 0x801068 + 0x1000 * n
abbrev ING_RX_INFLIGHT (n : Nat) : Nat := 0x80106C + 0x1000 * n
abbrev ING_RX_RING_FREE (n : Nat) : Nat := 0x801070 + 0x1000 * n
abbrev ING_STREAM (n i : Nat) : Nat := 0x801080 + 0x1000 * n + 0x8 * i
abbrev ING_STREAM_FENCE (n i : Nat) : Nat := 0x801084 + 0x1000 * n + 0x8 * i
abbrev TRAY_BASE_LO (n : Nat) : Nat := 0x805040 + 0x1000 * n
abbrev TRAY_BASE_HI (n : Nat) : Nat := 0x805044 + 0x1000 * n
abbrev TRAY_SIZE (n : Nat) : Nat := 0x805048 + 0x1000 * n
abbrev TRAY_TAIL (n : Nat) : Nat := 0x80504C + 0x1000 * n
abbrev TRAY_HEAD (n : Nat) : Nat := 0x805050 + 0x1000 * n
abbrev RCPT_BASE_LO (n : Nat) : Nat := 0x805054 + 0x1000 * n
abbrev RCPT_BASE_HI (n : Nat) : Nat := 0x805058 + 0x1000 * n
abbrev RCPT_HEAD (n : Nat) : Nat := 0x80505C + 0x1000 * n
abbrev RCPT_TAIL (n : Nat) : Nat := 0x805060 + 0x1000 * n
abbrev TRAY_STATUS (n : Nat) : Nat := 0x805064 + 0x1000 * n
abbrev TRAY_JOBS (n : Nat) : Nat := 0x805068 + 0x1000 * n
abbrev TRAY_ERRORS (n : Nat) : Nat := 0x80506C + 0x1000 * n
abbrev DCP_STATUS (n : Nat) : Nat := 0x901040 + 0x1000 * n
abbrev DCP_JOBS (n : Nat) : Nat := 0x901044 + 0x1000 * n
abbrev DCP_IN_BYTES (n : Nat) : Nat := 0x901048 + 0x1000 * n
abbrev DCP_OUT_BYTES (n : Nat) : Nat := 0x90104C + 0x1000 * n
abbrev DCP_ERRORS (n : Nat) : Nat := 0x901050 + 0x1000 * n
abbrev DCP_SELFTEST (n : Nat) : Nat := 0x901054 + 0x1000 * n
abbrev DCP_FENCES (n : Nat) : Nat := 0x901058 + 0x1000 * n
abbrev CMP_PRINT_CTRL : Nat := 0xA00040
abbrev CMP_PRINT_CMD : Nat := 0xA00044
abbrev CMP_PRINT_USED : Nat := 0xA00048
abbrev CMP_PRINT_LAST : Nat := 0xA0004C
abbrev CMP_PRINT_ENT (i : Nat) : Nat := 0xA00050 + 0x4 * i
abbrev CMP_CMD (n : Nat) : Nat := 0xA01040 + 0x1000 * n
abbrev CMP_JOB (n : Nat) : Nat := 0xA01044 + 0x1000 * n
abbrev CMP_SRC_LO (n : Nat) : Nat := 0xA01048 + 0x1000 * n
abbrev CMP_SRC_HI (n : Nat) : Nat := 0xA0104C + 0x1000 * n
abbrev CMP_SRC_LEN (n : Nat) : Nat := 0xA01050 + 0x1000 * n
abbrev CMP_DST_LO (n : Nat) : Nat := 0xA01054 + 0x1000 * n
abbrev CMP_DST_HI (n : Nat) : Nat := 0xA01058 + 0x1000 * n
abbrev CMP_DST_LEN (n : Nat) : Nat := 0xA0105C + 0x1000 * n
abbrev CMP_RCPT_LO (n : Nat) : Nat := 0xA01060 + 0x1000 * n
abbrev CMP_RCPT_HI (n : Nat) : Nat := 0xA01064 + 0x1000 * n
abbrev CMP_TAG (n : Nat) : Nat := 0xA01068 + 0x1000 * n
abbrev CMP_FENCE_AMOUNT (n : Nat) : Nat := 0xA0106C + 0x1000 * n
abbrev CMP_HDR_STREAM (n : Nat) : Nat := 0xA01070 + 0x1000 * n
abbrev CMP_HDR_TILE (n : Nat) : Nat := 0xA01074 + 0x1000 * n
abbrev CMP_HDR_GEOM_LO (n : Nat) : Nat := 0xA01078 + 0x1000 * n
abbrev CMP_HDR_GEOM_HI (n : Nat) : Nat := 0xA0107C + 0x1000 * n
abbrev CMP_STATUS (n : Nat) : Nat := 0xA01080 + 0x1000 * n
abbrev CMP_IN_DONE (n : Nat) : Nat := 0xA01084 + 0x1000 * n
abbrev CMP_OUT_DONE (n : Nat) : Nat := 0xA01088 + 0x1000 * n
abbrev CMP_SELFTEST (n : Nat) : Nat := 0xA0108C + 0x1000 * n
abbrev CMP_FENCES (n : Nat) : Nat := 0xA01090 + 0x1000 * n
abbrev BLK_MOVERS : Nat := 0xB00040
abbrev BLK_MOVER_TEST : Nat := 0xB00044
abbrev BLK_BYTES : Nat := 0xB00048
abbrev BLK_Q_BASE_LO (n : Nat) : Nat := 0xB01040 + 0x1000 * n
abbrev BLK_Q_BASE_HI (n : Nat) : Nat := 0xB01044 + 0x1000 * n
abbrev BLK_Q_SIZE (n : Nat) : Nat := 0xB01048 + 0x1000 * n
abbrev BLK_Q_TAIL (n : Nat) : Nat := 0xB0104C + 0x1000 * n
abbrev BLK_Q_HEAD (n : Nat) : Nat := 0xB01050 + 0x1000 * n
abbrev BLK_R_BASE_LO (n : Nat) : Nat := 0xB01054 + 0x1000 * n
abbrev BLK_R_BASE_HI (n : Nat) : Nat := 0xB01058 + 0x1000 * n
abbrev BLK_R_HEAD (n : Nat) : Nat := 0xB0105C + 0x1000 * n
abbrev BLK_R_TAIL (n : Nat) : Nat := 0xB01060 + 0x1000 * n
abbrev BLK_Q_DEAD (n : Nat) : Nat := 0xB01064 + 0x1000 * n
abbrev BLK_Q_SCRATCH_LO (n : Nat) : Nat := 0xB01068 + 0x1000 * n
abbrev BLK_Q_SCRATCH_HI (n : Nat) : Nat := 0xB0106C + 0x1000 * n
abbrev BLK_Q_SCRATCH_LEN (n : Nat) : Nat := 0xB01070 + 0x1000 * n
abbrev BLK_Q_STATUS (n : Nat) : Nat := 0xB01074 + 0x1000 * n
abbrev BLK_Q_OPS (n : Nat) : Nat := 0xB01078 + 0x1000 * n
abbrev BLK_Q_BYTES (n : Nat) : Nat := 0xB0107C + 0x1000 * n
abbrev DMC_SPEED : Nat := 0xC00040
abbrev DMC_SHARE : Nat := 0xC00044
abbrev DMC_AGE_CAP : Nat := 0xC00048
abbrev DMC_PD : Nat := 0xC0004C
abbrev DMC_MR4_PERIOD : Nat := 0xC00050
abbrev DMC_SCRUB_PERIOD : Nat := 0xC00054
abbrev DMC_RETIRE_THRESH : Nat := 0xC00058
abbrev DMC_TS_PERIOD : Nat := 0xC0005C
abbrev DMC_TS_LIMIT : Nat := 0xC00060
abbrev DMC_RETRAIN_PERIOD : Nat := 0xC00064
abbrev DMC_WR_WM : Nat := 0xC00068
abbrev DMC_ISET_CTRL (i : Nat) : Nat := 0xC00070 + 0x8 * i
abbrev DMC_ISET_SIZE (i : Nat) : Nat := 0xC00074 + 0x8 * i
abbrev DMC_MAP_STATUS : Nat := 0xC00090
abbrev DMC_UNMAPPED : Nat := 0xC00094
abbrev DMC_SCRUB_PROGRESS : Nat := 0xC00098
abbrev DMC_CH_STATUS (n : Nat) : Nat := 0xC01040 + 0x1000 * n
abbrev DMC_CH_CMD (n : Nat) : Nat := 0xC01044 + 0x1000 * n
abbrev DMC_CH_ADDR_LO (n : Nat) : Nat := 0xC01048 + 0x1000 * n
abbrev DMC_CH_ADDR_HI (n : Nat) : Nat := 0xC0104C + 0x1000 * n
abbrev DMC_CH_REFRESH (n : Nat) : Nat := 0xC01050 + 0x1000 * n
abbrev DMC_CH_MR4 (n : Nat) : Nat := 0xC01054 + 0x1000 * n
abbrev DMC_CH_TEMP (n : Nat) : Nat := 0xC01058 + 0x1000 * n
abbrev DMC_CH_CE (n : Nat) : Nat := 0xC0105C + 0x1000 * n
abbrev DMC_CH_UE (n : Nat) : Nat := 0xC01060 + 0x1000 * n
abbrev DMC_CH_LAST_LO (n : Nat) : Nat := 0xC01064 + 0x1000 * n
abbrev DMC_CH_LAST_HI (n : Nat) : Nat := 0xC01068 + 0x1000 * n
abbrev DMC_CH_RETIRED (n : Nat) : Nat := 0xC0106C + 0x1000 * n
abbrev DMC_CH_RET_IDX (n : Nat) : Nat := 0xC01070 + 0x1000 * n
abbrev DMC_CH_RET_ENTRY (n : Nat) : Nat := 0xC01074 + 0x1000 * n
abbrev DMC_CH_PD (n : Nat) : Nat := 0xC01078 + 0x1000 * n
abbrev DMC_CH_RETRAINS (n : Nat) : Nat := 0xC0107C + 0x1000 * n
abbrev DMC_CH_RD_BYTES (n : Nat) : Nat := 0xC01080 + 0x1000 * n
abbrev DMC_CH_WR_BYTES (n : Nat) : Nat := 0xC01084 + 0x1000 * n
abbrev DMC_CH_SELFTEST (n : Nat) : Nat := 0xC01088 + 0x1000 * n
abbrev DMC_CH_FENCES (n : Nat) : Nat := 0xC0108C + 0x1000 * n
abbrev PS_CTRL (i : Nat) : Nat := 0xD00080 + 0x40 * i
abbrev PS_VLAN (i : Nat) : Nat := 0xD00084 + 0x40 * i
abbrev PS_DMAC_LO (i : Nat) : Nat := 0xD00088 + 0x40 * i
abbrev PS_DMAC_HI (i : Nat) : Nat := 0xD0008C + 0x40 * i
abbrev PS_DIP (i j : Nat) : Nat := 0xD00090 + 0x40 * i + 0x4 * j
abbrev PS_UDP (i : Nat) : Nat := 0xD000A0 + 0x40 * i
abbrev PS_SSRC (i : Nat) : Nat := 0xD000A4 + 0x40 * i
abbrev PS_IPHDR (i : Nat) : Nat := 0xD000A8 + 0x40 * i
abbrev PS_TRO (i : Nat) : Nat := 0xD000AC + 0x40 * i
abbrev PS_STATUS (i : Nat) : Nat := 0xD000B0 + 0x40 * i
abbrev PS_PKTS (i : Nat) : Nat := 0xD000B4 + 0x40 * i
abbrev PS_REPEATS (i : Nat) : Nat := 0xD000B8 + 0x40 * i
abbrev PS_LATE (i : Nat) : Nat := 0xD000BC + 0x40 * i
abbrev NET_PORT_CTRL (n : Nat) : Nat := 0xD01040 + 0x1000 * n
abbrev NET_PORT_STATUS (n : Nat) : Nat := 0xD01044 + 0x1000 * n
abbrev NET_MAC_LO (n : Nat) : Nat := 0xD01048 + 0x1000 * n
abbrev NET_MAC_HI (n : Nat) : Nat := 0xD0104C + 0x1000 * n
abbrev NET_IP4 (n : Nat) : Nat := 0xD01050 + 0x1000 * n
abbrev NET_IP6 (n i : Nat) : Nat := 0xD01054 + 0x1000 * n + 0x4 * i
abbrev NET_MCAST_HASH_LO (n : Nat) : Nat := 0xD01064 + 0x1000 * n
abbrev NET_MCAST_HASH_HI (n : Nat) : Nat := 0xD01068 + 0x1000 * n
abbrev NET_DELAY_TX (n : Nat) : Nat := 0xD0106C + 0x1000 * n
abbrev NET_DELAY_RX (n : Nat) : Nat := 0xD01070 + 0x1000 * n
abbrev NET_TXQ_BASE_LO (n : Nat) : Nat := 0xD01074 + 0x1000 * n
abbrev NET_TXQ_BASE_HI (n : Nat) : Nat := 0xD01078 + 0x1000 * n
abbrev NET_TXQ_SIZE (n : Nat) : Nat := 0xD0107C + 0x1000 * n
abbrev NET_TXQ_TAIL (n : Nat) : Nat := 0xD01080 + 0x1000 * n
abbrev NET_TXQ_HEAD (n : Nat) : Nat := 0xD01084 + 0x1000 * n
abbrev NET_TXR_BASE_LO (n : Nat) : Nat := 0xD01088 + 0x1000 * n
abbrev NET_TXR_BASE_HI (n : Nat) : Nat := 0xD0108C + 0x1000 * n
abbrev NET_TXR_HEAD (n : Nat) : Nat := 0xD01090 + 0x1000 * n
abbrev NET_TXR_TAIL (n : Nat) : Nat := 0xD01094 + 0x1000 * n
abbrev NET_TXQ_PARTY (n : Nat) : Nat := 0xD01098 + 0x1000 * n
abbrev NET_TXQ_STATUS (n : Nat) : Nat := 0xD0109C + 0x1000 * n
abbrev NET_RX_FRAMES (n : Nat) : Nat := 0xD010A0 + 0x1000 * n
abbrev NET_RX_DROPS (n : Nat) : Nat := 0xD010A4 + 0x1000 * n
abbrev NET_RX_CSUM (n : Nat) : Nat := 0xD010A8 + 0x1000 * n
abbrev NET_RX_FRAG (n : Nat) : Nat := 0xD010AC + 0x1000 * n
abbrev NET_FEC_CORR (n : Nat) : Nat := 0xD010B0 + 0x1000 * n
abbrev NET_FEC_UNCORR (n : Nat) : Nat := 0xD010B4 + 0x1000 * n
abbrev NET_TX_FRAMES (n : Nat) : Nat := 0xD010B8 + 0x1000 * n
abbrev NET_TX_LATE (n : Nat) : Nat := 0xD010BC + 0x1000 * n
abbrev NET_LINK_DOWNS (n : Nat) : Nat := 0xD010C0 + 0x1000 * n
abbrev NET_SELFTEST (n : Nat) : Nat := 0xD010C4 + 0x1000 * n
abbrev NET_FENCES (n : Nat) : Nat := 0xD010C8 + 0x1000 * n
abbrev TIM_CTRL : Nat := 0xE00040
abbrev TIM_NOW_SEC_LO : Nat := 0xE00044
abbrev TIM_NOW_SEC_HI : Nat := 0xE00048
abbrev TIM_NOW_NS : Nat := 0xE0004C
abbrev TIM_NOW_FRAC : Nat := 0xE00050
abbrev TIM_NOW64_LO : Nat := 0xE00054
abbrev TIM_NOW64_HI : Nat := 0xE00058
abbrev TIM_RATE_LO : Nat := 0xE0005C
abbrev TIM_RATE_HI : Nat := 0xE00060
abbrev TIM_INCREMENT : Nat := 0xE00064
abbrev TIM_SET_SEC_LO : Nat := 0xE00068
abbrev TIM_SET_SEC_HI : Nat := 0xE0006C
abbrev TIM_SET_NS : Nat := 0xE00070
abbrev TIM_STEP_LO : Nat := 0xE00074
abbrev TIM_STEP_HI : Nat := 0xE00078
abbrev TIM_CMD : Nat := 0xE0007C
abbrev TIM_STATUS : Nat := 0xE00080
abbrev TIM_SLEW : Nat := 0xE00084
abbrev TIM_OFFSET_LARGE : Nat := 0xE00088
abbrev TIM_AGREE : Nat := 0xE0008C
abbrev TIM_LOCK_THRESH : Nat := 0xE00090
abbrev TIM_SERVO : Nat := 0xE00094
abbrev TIM_HOST_TIMEOUT : Nat := 0xE00098
abbrev TIM_PPS_OUT_CTRL : Nat := 0xE0009C
abbrev TIM_PPS_OUT_OFFSET : Nat := 0xE000A0
abbrev TIM_PPS_IN_CTRL : Nat := 0xE000A4
abbrev TIM_PPS_IN_SEC_LO : Nat := 0xE000A8
abbrev TIM_PPS_IN_NS : Nat := 0xE000AC
abbrev TIM_STEPS : Nat := 0xE000B0
abbrev TD_CTRL (n : Nat) : Nat := 0xE01040 + 0x1000 * n
abbrev TD_INTERVALS (n : Nat) : Nat := 0xE01044 + 0x1000 * n
abbrev TD_STATE (n : Nat) : Nat := 0xE01048 + 0x1000 * n
abbrev TD_GM_ID_LO (n : Nat) : Nat := 0xE0104C + 0x1000 * n
abbrev TD_GM_ID_HI (n : Nat) : Nat := 0xE01050 + 0x1000 * n
abbrev TD_GM_QUALITY (n : Nat) : Nat := 0xE01054 + 0x1000 * n
abbrev TD_OFFSET_LO (n : Nat) : Nat := 0xE01058 + 0x1000 * n
abbrev TD_OFFSET_HI (n : Nat) : Nat := 0xE0105C + 0x1000 * n
abbrev TD_MPD (n : Nat) : Nat := 0xE01060 + 0x1000 * n
abbrev TD_PDELAY (n : Nat) : Nat := 0xE01064 + 0x1000 * n
abbrev TD_MEAS_NS (n : Nat) : Nat := 0xE01068 + 0x1000 * n
abbrev TD_MEAS_CNT (n : Nat) : Nat := 0xE0106C + 0x1000 * n
abbrev TD_MSG_ERR (n : Nat) : Nat := 0xE01070 + 0x1000 * n
abbrev CLK_REF_CTRL : Nat := 0xF00040
abbrev CLK_REF_TOL : Nat := 0xF00044
abbrev CLK_REF_QUAL : Nat := 0xF00048
abbrev CLK_PHASE_HIT : Nat := 0xF0004C
abbrev CLK_REF_STATUS : Nat := 0xF00050
abbrev CLK_REF_A_PPM : Nat := 0xF00054
abbrev CLK_REF_B_PPM : Nat := 0xF00058
abbrev CLK_CORE_SEL : Nat := 0xF0005C
abbrev PLL_CTRL (n : Nat) : Nat := 0xF01040 + 0x1000 * n
abbrev PLL_OFFSET (n : Nat) : Nat := 0xF01044 + 0x1000 * n
abbrev PLL_REALIGN (n : Nat) : Nat := 0xF01048 + 0x1000 * n
abbrev PLL_DITHER (n : Nat) : Nat := 0xF0104C + 0x1000 * n
abbrev PLL_STATUS (n : Nat) : Nat := 0xF01050 + 0x1000 * n
abbrev PLL_REF_OFFSET (n : Nat) : Nat := 0xF01054 + 0x1000 * n
abbrev PLL_FREQ_PPM (n : Nat) : Nat := 0xF01058 + 0x1000 * n
abbrev PLL_CMD (n : Nat) : Nat := 0xF0105C + 0x1000 * n
abbrev PLL_LOCKS (n : Nat) : Nat := 0xF01060 + 0x1000 * n
abbrev OUT_CTRL (i : Nat) : Nat := 0xF09040 + 0x10 * i
abbrev OUT_DIV (i : Nat) : Nat := 0xF09044 + 0x10 * i
abbrev OUT_FREQ (i : Nat) : Nat := 0xF09048 + 0x10 * i
abbrev OUT_STATUS (i : Nat) : Nat := 0xF0904C + 0x10 * i
abbrev CLK_OUT_SYNC : Nat := 0xF090C0
abbrev FLT_CTRL : Nat := 0x1000040
abbrev FLT_SEC_WINDOW : Nat := 0x1000044
abbrev FLT_PAIR_MASK : Nat := 0x1000048
abbrev FLT_PAIR_CTRL : Nat := 0x100004C
abbrev FLT_READY : Nat := 0x1000050
abbrev FLT_PAIR_STATUS : Nat := 0x1000054
abbrev FLT_STATUS : Nat := 0x1000058
abbrev FLT_SEQ : Nat := 0x100005C
abbrev FLT_INJECT : Nat := 0x1000060
abbrev FLT_FF_VALID : Nat := 0x1000064
abbrev FLT_FF (i : Nat) : Nat := 0x1000070 + 0x4 * i
abbrev FLT_FG (i : Nat) : Nat := 0x1000090 + 0x4 * i
abbrev FLT_PEND (i : Nat) : Nat := 0x1001040 + 0x4 * i
abbrev FLT_LASTING (i : Nat) : Nat := 0x1001080 + 0x4 * i
abbrev FLT_SRC_IDX : Nat := 0x10010C0
abbrev FLT_SRC_INFO : Nat := 0x10010C4
abbrev FLT_SRC_T0 : Nat := 0x10010C8
abbrev FLT_MS : Nat := 0x10010CC
abbrev FLT_LOG_WR : Nat := 0x1002040
abbrev FLT_LOG_RD : Nat := 0x1002044
abbrev FLT_LOG_W (i : Nat) : Nat := 0x1002048 + 0x4 * i
abbrev SVC_STATUS : Nat := 0x1100040
abbrev SVC_SMB_CTRL : Nat := 0x1100044
abbrev SVC_BMC_EVT : Nat := 0x1100048
abbrev SVC_LINK_RETRY : Nat := 0x110004C
abbrev SVC_SEG (i : Nat) : Nat := 0x1101040 + 0x4 * i
abbrev SVC_PANEL_CMD : Nat := 0x1101060
abbrev SVC_PANEL_CTRL : Nat := 0x1101064
abbrev SVC_PANEL_STATUS : Nat := 0x1101068
abbrev SVC_REFRESH : Nat := 0x110106C
abbrev SVC_CRACK_LIMIT : Nat := 0x1101070
abbrev SVC_CRACK_OHMS : Nat := 0x1101074
abbrev SVC_SHOWN (i : Nat) : Nat := 0x1101080 + 0x4 * i
abbrev SVC_STORE_ADDR : Nat := 0x1102040
abbrev SVC_STORE_CMD : Nat := 0x1102044
abbrev SVC_STORE_STATUS : Nat := 0x1102048
abbrev SVC_STORE_DATA (i : Nat) : Nat := 0x1102050 + 0x4 * i
abbrev SVC_NTC_0 : Nat := 0x1103040
abbrev SVC_NTC_1 : Nat := 0x1103044
abbrev SVC_TDIE_COMPUTE : Nat := 0x1103048
abbrev SVC_TDIE_SERVICE : Nat := 0x110304C
abbrev SVC_VREF : Nat := 0x1103050
abbrev SVC_VHOLD : Nat := 0x1103054
abbrev SVC_NTC_PARAM_0 : Nat := 0x1103058
abbrev SVC_NTC_PARAM_1 : Nat := 0x110305C
abbrev SVC_NTC_BIAS : Nat := 0x1103060
abbrev CAL_CTRL : Nat := 0x1200040
abbrev CAL_CMD : Nat := 0x1200044
abbrev CAL_STATUS : Nat := 0x1200048
abbrev CAL_DELTA : Nat := 0x120004C
abbrev CAL_PERIOD : Nat := 0x1200050
abbrev CAL_MEAS_TIMEOUT : Nat := 0x1200054
abbrev CAL_MISS_MAX : Nat := 0x1200058
abbrev CAL_REG_LIMIT : Nat := 0x120005C
abbrev CAL_REG_STEP : Nat := 0x1200060
abbrev CAL_PHOTO_STEP : Nat := 0x1200064
abbrev CAL_VREF_NOMINAL : Nat := 0x1200068
abbrev CAL_RECORD : Nat := 0x120006C
abbrev CAL_RECORD_SEQ : Nat := 0x1200070
abbrev CAL_RUN_CNT : Nat := 0x1200074
abbrev CAL_XTAL_PPM : Nat := 0x1200078
abbrev CAL_WORK_ADDR_LO : Nat := 0x120007C
abbrev CAL_WORK_ADDR_HI : Nat := 0x1200080
abbrev CAL_DOSE_ADDR_LO : Nat := 0x1200084
abbrev CAL_DOSE_ADDR_HI : Nat := 0x1200088
abbrev CAL_WEAR_PERIOD : Nat := 0x120008C
abbrev CAL_DOSE_SAVE : Nat := 0x1200090
abbrev CAL_T_RUN (i : Nat) : Nat := 0x1201040 + 0x4 * i
abbrev CAL_ANCHOR_LO (i : Nat) : Nat := 0x1201060 + 0x8 * i
abbrev CAL_ANCHOR_HI (i : Nat) : Nat := 0x1201064 + 0x8 * i
abbrev CAL_WEAR (i j : Nat) : Nat := 0x1201100 + 0x20 * i + 0x4 * j
abbrev SEC_LIFECYCLE : Nat := 0x1300040
abbrev SEC_SERIAL_LO : Nat := 0x1300044
abbrev SEC_SERIAL_HI : Nat := 0x1300048
abbrev SEC_BOOT_STATUS : Nat := 0x130004C
abbrev SEC_FW_VERSION : Nat := 0x1300050
abbrev SEC_FW_SVN : Nat := 0x1300054
abbrev SEC_FUSE_SVN : Nat := 0x1300058
abbrev SEC_KEY_STATUS : Nat := 0x130005C
abbrev SEC_UPD_ADDR_LO : Nat := 0x1300060
abbrev SEC_UPD_ADDR_HI : Nat := 0x1300064
abbrev SEC_UPD_LEN : Nat := 0x1300068
abbrev SEC_UPD_CMD : Nat := 0x130006C
abbrev SEC_UPD_STATUS : Nat := 0x1300070
abbrev SEC_SVN_COMMIT : Nat := 0x1300074
abbrev SEC_REVOKE : Nat := 0x1300078
abbrev SEC_PROVISION : Nat := 0x130007C
abbrev SEC_FUSE_STATUS : Nat := 0x1300080
abbrev SEC_PROV_DIGEST (i : Nat) : Nat := 0x13000C0 + 0x4 * i
abbrev SEC_ID_PUB (i : Nat) : Nat := 0x1300100 + 0x4 * i
abbrev SEC_ATT_NONCE (i : Nat) : Nat := 0x1301040 + 0x4 * i
abbrev SEC_ATT_CMD : Nat := 0x1301080
abbrev SEC_ATT_STATUS : Nat := 0x1301084
abbrev SEC_ATT_DATA (i : Nat) : Nat := 0x1301100 + 0x4 * i
abbrev SEC_DBG_POLICY : Nat := 0x13012D0
abbrev SEC_DBG_CMD : Nat := 0x13012D4
abbrev SEC_DBG_STATUS : Nat := 0x13012D8
abbrev SEC_DBG_CHAL (i : Nat) : Nat := 0x1301300 + 0x4 * i
abbrev SEC_DBG_RESP (i : Nat) : Nat := 0x1301400 + 0x4 * i
abbrev PWR_CMD : Nat := 0x1400040
abbrev PWR_CTRL : Nat := 0x1400044
abbrev PWR_STATUS : Nat := 0x1400048
abbrev PWR_RESET : Nat := 0x140004C
abbrev PWR_RESET_CNT : Nat := 0x1400050
abbrev PWR_STBY_TIMEOUT : Nat := 0x1400054
abbrev PWR_RAIL : Nat := 0x1400058
abbrev PWR_IDCODE : Nat := 0x140005C
abbrev PWR_DBG : Nat := 0x1400060
abbrev PWR_GATE_SLICE : Nat := 0x1401040
abbrev PWR_GATE_DCP : Nat := 0x1401044
abbrev PWR_GATE_MISC : Nat := 0x1401048
abbrev PWR_GATE_STATUS : Nat := 0x140104C
abbrev MGT_POSTBOX_LO : Nat := 0x1500040
abbrev MGT_POSTBOX_HI : Nat := 0x1500044
abbrev MGT_PAIR : Nat := 0x1500048
abbrev MGT_PAIR_CMD : Nat := 0x150004C
abbrev MGT_DAILY : Nat := 0x1500050
abbrev MGT_PB_VIOL : Nat := 0x1500054
abbrev MGT_RING (i : Nat) : Nat := 0x1501040 + 0x4 * i
abbrev MGT_BMC_MSG (i : Nat) : Nat := 0x1501080 + 0x4 * i
abbrev DM_CTRL : Nat := 0x5000000
abbrev DM_SYS_ADDR_LO : Nat := 0x5000010
abbrev DM_SYS_ADDR_HI : Nat := 0x5000014
abbrev DM_SYS_DATA : Nat := 0x5000018
abbrev DM_SYS_STATUS : Nat := 0x500001C
abbrev DM_CORE_CMD (c : Nat) : Nat := 0x5000100 + 0x100 * c
abbrev DM_CORE_STATUS (c : Nat) : Nat := 0x5000104 + 0x100 * c
abbrev DM_CORE_PC (c : Nat) : Nat := 0x5000108 + 0x100 * c
abbrev DM_CORE_REG_SEL (c : Nat) : Nat := 0x500010C + 0x100 * c
abbrev DM_CORE_REG_DATA (c : Nat) : Nat := 0x5000110 + 0x100 * c
abbrev DM_BP (c i : Nat) : Nat := 0x5000120 + 0x100 * c + 0x4 * i
abbrev DM_WP_ADDR (c i : Nat) : Nat := 0x5000140 + 0x100 * c + 0x8 * i
abbrev DM_WP_CTRL (c i : Nat) : Nat := 0x5000144 + 0x100 * c + 0x8 * i
abbrev NET_LATE_TOL : Nat := 0xD00040
abbrev DCP_ACTIVE : Nat := 0x900040

/-- EVT_SUM_w (R44). -/
abbrev EVT_SUM (w : Nat) : Nat := 0x100040 + 4 * w
/-- The register that holds the route entry of source `src` for target `t` (R42). -/
abbrev EVT_ROUTE (t src : Nat) : Nat := 0x100000 + 0x1000 * (2 * t + 1 + src / 1024) + 0x40 + 2 * (src % 1024) / 4 * 4
/-- Word `w` of MSI-X vector `v` of port `p` (R43). -/
abbrev MSIX (p v w : Nat) : Nat := 0x10000 + 0x1000 * p + 16 * v + 4 * w
/-- PBA word `w` of port `p` (R43). -/
abbrev PBA (p w : Nat) : Nat := 0x14000 + 0x1000 * p + 4 * w

end Sys2Proof.Machine.Reg
end

