-- ==== Sys2Proof/Machine/RegTable.lean ====
section
/-! DEFINITION. The register tables of the chapters as rows: offset, stride and count of an entry, access code, reset value,
writable bits and limits (spec/00_scope.md R6, R8, R452; spec/02_register_pages_and_hosts.md R24; the register tables of spec/03 to spec/19). -/
namespace Sys2Proof.Machine

/-- Access codes of R8. -/
inductive Access where
  | ro | rw | wo | w1c | w1s | rc | rws | rwk
  deriving DecidableEq, Repr

/-- How R452 limits a numeric field `[hi:lo]`: to a range, to one substitute outside a range, a signed word or field to ± a bound, to
less than another field `[hi':lo']`, or PLK_LANE_EQ's MAIN to what PRE and POST leave of 63 (R179). -/
inductive FieldLim where
  | clamp (hi lo min max : Nat)
  | other (hi lo min max dflt : Nat)
  | signed (bound : Nat)
  | signedFld (hi lo bound : Nat)
  | below (hi lo hi' lo' : Nat)
  | taps
  deriving DecidableEq, Repr

/-- One row of a register table. -/
structure RegRow where
  off : Nat
  stride : Nat
  count : Nat
  acc : Access
  reset : Nat
  mask : Nat
  lims : List FieldLim
  /-- Offsets, from this low word, of the words its read latches (R5, R130, R291); not empty for the low word of a pair. -/
  lat : List Nat
  deriving DecidableEq, Repr

/-- Rows of the `header` pages. -/
def rowsHeader : List RegRow :=
  [ ⟨0x0, 0x0, 1, .ro, 0x0, 0x0, [], []⟩
  , ⟨0x4, 0x0, 1, .ro, 0x0, 0x0, [], []⟩
  , ⟨0x8, 0x0, 1, .rwk, 0x20, 0xFFFFFFFF, [], []⟩
  , ⟨0xC, 0x0, 1, .rw, 0x0, 0xFFFFFFFF, [], []⟩
  , ⟨0x10, 0x0, 1, .ro, 0x0, 0x0, [], []⟩
  , ⟨0x14, 0x0, 1, .ro, 0x0, 0x0, [], []⟩
  , ⟨0x18, 0x0, 1, .rw, 0x0, 0xFFFFFFFF, [], []⟩
  , ⟨0x1C, 0x0, 1, .w1c, 0x0, 0xFFFFFFFF, [], []⟩
  , ⟨0x20, 0x0, 1, .wo, 0x0, 0xFFFFFFFF, [], []⟩
  , ⟨0x24, 0x0, 1, .rc, 0x0, 0x0, [], []⟩
  , ⟨0x28, 0x0, 1, .rw, 0x3C, 0xFFFFFFFF, [.clamp 15 0 1 3600], []⟩
  , ⟨0x2C, 0x0, 1, .rw, 0x8, 0xFFFFFFFF, [.clamp 7 0 1 255], []⟩
  , ⟨0x30, 0x0, 1, .rw, 0x0, 0xFFFFFFFF, [], []⟩
  , ⟨0x34, 0x0, 1, .ro, 0x0, 0x0, [], []⟩
  , ⟨0x38, 0x0, 1, .rw, 0x64, 0xFFFFFFFF, [.clamp 15 0 1 10000], []⟩ ]

/-- Rows of the `csSlot` pages. -/
def rowsCsSlot : List RegRow :=
  [ ⟨0x40, 0x0, 1, .wo, 0x0, 0xFFFFFFFF, [], []⟩
  , ⟨0x44, 0x0, 1, .ro, 0x0, 0x0, [], []⟩
  , ⟨0x48, 0x0, 1, .rw, 0x0, 0xF, [], []⟩
  , ⟨0x4C, 0x0, 1, .rw, 0x0, 0x3F, [], []⟩
  , ⟨0x50, 0x0, 1, .ro, 0x0, 0x0, [], []⟩
  , ⟨0x54, 0x0, 1, .ro, 0x0, 0x0, [], []⟩
  , ⟨0x80, 0x8, 8, .rw, 0x0, 0xFFFFFFFF, [], []⟩
  , ⟨0x84, 0x8, 8, .rw, 0x0, 0xFFFFFFFF, [], []⟩
  , ⟨0x100, 0x4, 16, .ro, 0x0, 0x0, [], []⟩
  , ⟨0x140, 0x4, 16, .wo, 0x0, 0xFFFFFFFF, [], []⟩ ]

/-- Rows of the `pigeonhole` pages. -/
def rowsPigeonhole : List RegRow :=
  [ ⟨0x40, 0x10, 64, .rwk, 0x0, 0x3FFF, [], []⟩
  , ⟨0x44, 0x10, 64, .rwk, 0x0, 0x3FFF, [], []⟩
  , ⟨0x48, 0x10, 64, .rwk, 0x0, 0x80000F0F, [], []⟩
  , ⟨0x4C, 0x10, 64, .ro, 0x0, 0x0, [], []⟩ ]

/-- Rows of the `hifCommon` pages. -/
def rowsHifCommon : List RegRow :=
  [ ⟨0x40, 0x0, 1, .w1s, 0x0, 0x1, [], []⟩
  , ⟨0x44, 0x0, 1, .rwk, 0x7D0, 0xFFFF, [.clamp 15 0 100 60000], []⟩
  , ⟨0x48, 0x0, 1, .ro, 0x0, 0x0, [], []⟩
  , ⟨0x4C, 0x0, 1, .rc, 0x0, 0x0, [], []⟩
  , ⟨0x50, 0x0, 1, .ro, 0x0, 0x0, [], []⟩
  , ⟨0x54, 0x0, 1, .rc, 0x0, 0x0, [], []⟩
  , ⟨0x58, 0x0, 1, .ro, 0x0, 0x0, [], [4]⟩
  , ⟨0x5C, 0x0, 1, .ro, 0x0, 0x0, [], []⟩ ]

/-- Rows of the `hifPort` pages. -/
def rowsHifPort : List RegRow :=
  [ ⟨0x40, 0x0, 1, .ro, 0x0, 0x0, [], []⟩
  , ⟨0x44, 0x0, 1, .ro, 0x0, 0x0, [], []⟩
  , ⟨0x48, 0x0, 1, .rws, 0x0, 0xFFFFFFFF, [], []⟩
  , ⟨0x4C, 0x0, 1, .rc, 0x0, 0x0, [], []⟩ ]

/-- Rows of the `geoCommon` pages. -/
def rowsGeoCommon : List RegRow :=
  [ ⟨0x40, 0x0, 1, .rw, 0x0, 0x3, [], []⟩
  , ⟨0x44, 0x0, 1, .wo, 0x0, 0xFFFFFFFF, [], []⟩
  , ⟨0x48, 0x0, 1, .rw, 0x0, 0xFFFFFFC0, [], [4]⟩
  , ⟨0x4C, 0x0, 1, .rw, 0x0, 0xFF, [], []⟩
  , ⟨0x50, 0x0, 1, .rw, 0x0, 0xFFFFFFFF, [], []⟩
  , ⟨0x54, 0x0, 1, .ro, 0x0, 0x0, [], []⟩
  , ⟨0x58, 0x0, 1, .rw, 0x0, 0xFFFF0003, [], []⟩
  , ⟨0x5C, 0x0, 1, .ro, 0x0, 0x0, [], []⟩
  , ⟨0x60, 0x0, 1, .ro, 0x0, 0x0, [], [4]⟩
  , ⟨0x64, 0x0, 1, .ro, 0x0, 0x0, [], []⟩
  , ⟨0x68, 0x0, 1, .ro, 0x0, 0x0, [], [4]⟩
  , ⟨0x6C, 0x0, 1, .ro, 0x0, 0x0, [], []⟩
  , ⟨0x70, 0x0, 1, .ro, 0x0, 0x0, [], []⟩
  , ⟨0x74, 0x0, 1, .rw, 0x1, 0x1, [], []⟩
  , ⟨0x78, 0x0, 1, .rw, 0x10, 0xFF, [], []⟩
  , ⟨0x7C, 0x0, 1, .rw, 0x3E8, 0xFFFF, [.clamp 15 0 10 60000], []⟩
  , ⟨0x80, 0x0, 1, .ro, 0x0, 0x0, [], []⟩
  , ⟨0x84, 0x0, 1, .ro, 0x0, 0x0, [], [4]⟩
  , ⟨0x88, 0x0, 1, .ro, 0x0, 0x0, [], []⟩
  , ⟨0x8C, 0x0, 1, .ro, 0x0, 0x0, [], []⟩ ]

/-- Rows of the `geoTile` pages. -/
def rowsGeoTile : List RegRow :=
  [ ⟨0x40, 0x0, 1, .rw, 0x0, 0x3, [], []⟩
  , ⟨0x44, 0x0, 1, .rw, 0x0, 0xFFFF, [], []⟩
  , ⟨0x48, 0x0, 1, .ro, 0x0, 0x0, [], []⟩
  , ⟨0x4C, 0x0, 1, .ro, 0x0, 0x0, [], []⟩
  , ⟨0x50, 0x0, 1, .ro, 0x7800000, 0x0, [], []⟩
  , ⟨0x54, 0x0, 1, .ro, 0x3800000, 0x0, [], []⟩
  , ⟨0x58, 0x0, 1, .ro, 0x10000000, 0x0, [], []⟩
  , ⟨0x5C, 0x0, 1, .ro, 0x8000000, 0x0, [], []⟩
  , ⟨0x60, 0x0, 1, .ro, 0x7800000, 0x0, [], []⟩
  , ⟨0x64, 0x0, 1, .ro, 0x3800000, 0x0, [], []⟩
  , ⟨0x68, 0x0, 1, .ro, 0x10000000, 0x0, [], []⟩
  , ⟨0x6C, 0x0, 1, .ro, 0x8000000, 0x0, [], []⟩
  , ⟨0x70, 0x0, 1, .ro, 0x0, 0x0, [], []⟩
  , ⟨0x74, 0x0, 1, .ro, 0x0, 0x0, [], []⟩
  , ⟨0x78, 0x0, 1, .ro, 0x1000000, 0x0, [], []⟩
  , ⟨0x7C, 0x0, 1, .ro, 0x1000000, 0x0, [], []⟩
  , ⟨0x80, 0x0, 1, .ro, 0x0, 0x0, [], []⟩
  , ⟨0x84, 0x0, 1, .ro, 0x0, 0x0, [], []⟩
  , ⟨0x88, 0x0, 1, .rc, 0x0, 0x0, [], []⟩
  , ⟨0x8C, 0x0, 1, .wo, 0x0, 0xFFFFFFFF, [], []⟩
  , ⟨0x90, 0x0, 1, .ro, 0x0, 0x0, [], []⟩
  , ⟨0x94, 0x0, 1, .ro, 0x0, 0x0, [], []⟩ ]

/-- Rows of the `slate` pages. -/
def rowsSlate : List RegRow :=
  [ ⟨0x40, 0x0, 1, .rw, 0x0, 0xFFFFFFC0, [], [4]⟩
  , ⟨0xC0, 0x0, 1, .ro, 0x0, 0x0, [], [4]⟩
  , ⟨0x44, 0x0, 1, .rw, 0x0, 0xFF, [], []⟩
  , ⟨0xC4, 0x0, 1, .ro, 0x0, 0x0, [], []⟩
  , ⟨0x48, 0x0, 1, .rw, 0x0, 0xFFFC0, [], []⟩
  , ⟨0xC8, 0x0, 1, .ro, 0x0, 0x0, [], []⟩
  , ⟨0x4C, 0x0, 1, .rw, 0x0, 0x70F13333, [], []⟩
  , ⟨0xCC, 0x0, 1, .ro, 0x0, 0x0, [], []⟩
  , ⟨0x50, 0x0, 1, .rw, 0x0, 0xFFF, [], []⟩
  , ⟨0xD0, 0x0, 1, .ro, 0x0, 0x0, [], []⟩
  , ⟨0x54, 0x0, 1, .rw, 0xFFFF, 0xFFFF, [], []⟩
  , ⟨0xD4, 0x0, 1, .ro, 0xFFFF, 0x0, [], []⟩
  , ⟨0x58, 0x0, 1, .rw, 0x0, 0xFFFFFFFF, [], []⟩
  , ⟨0xD8, 0x0, 1, .ro, 0x0, 0x0, [], []⟩
  , ⟨0x5C, 0x0, 1, .rw, 0x0, 0x7FFF7FFF, [], []⟩
  , ⟨0xDC, 0x0, 1, .ro, 0x0, 0x0, [], []⟩
  , ⟨0x60, 0x0, 1, .rw, 0x0, 0x3FFF3FFF, [], []⟩
  , ⟨0xE0, 0x0, 1, .ro, 0x0, 0x0, [], []⟩
  , ⟨0x64, 0x0, 1, .rw, 0x0, 0x331, [], []⟩
  , ⟨0xE4, 0x0, 1, .ro, 0x0, 0x0, [], []⟩
  , ⟨0x68, 0x0, 1, .rw, 0x0, 0x800000FF, [], []⟩
  , ⟨0xE8, 0x0, 1, .ro, 0x0, 0x0, [], []⟩
  , ⟨0x6C, 0x0, 1, .rw, 0x0, 0xFFFFFFFF, [], []⟩
  , ⟨0xEC, 0x0, 1, .ro, 0x0, 0x0, [], []⟩ ]

/-- Rows of the `lyrCommon` pages. -/
def rowsLyrCommon : List RegRow :=
  [ ⟨0x40, 0x0, 1, .rwk, 0x2222, 0xFFFF, [.clamp 3 0 0 8, .clamp 7 4 0 8, .clamp 11 8 0 8, .clamp 15 12 0 8], []⟩
  , ⟨0x44, 0x0, 1, .ro, 0x0, 0x0, [], []⟩
  , ⟨0x48, 0x0, 1, .ro, 0x0, 0x0, [], []⟩
  , ⟨0x4C, 0x0, 1, .ro, 0x0, 0x0, [], [4]⟩
  , ⟨0x50, 0x0, 1, .ro, 0x0, 0x0, [], []⟩ ]

/-- Rows of the `lyrPage` pages. -/
def rowsLyrPage : List RegRow :=
  [ ⟨0x100, 0x0, 1, .ro, 0xF0, 0x0, [], []⟩
  , ⟨0x104, 0x0, 1, .ro, 0x0, 0x0, [], []⟩
  , ⟨0x108, 0x0, 1, .ro, 0x0, 0x0, [], []⟩
  , ⟨0x10C, 0x0, 1, .ro, 0x0, 0x0, [], []⟩
  , ⟨0x110, 0x0, 1, .ro, 0x0, 0x0, [], []⟩
  , ⟨0x114, 0x0, 1, .rw, 0x3, 0xFF, [], []⟩ ]

/-- Rows of the `lyrInd` pages. -/
def rowsLyrInd : List RegRow :=
  [ ⟨0x200, 0x0, 1, .rw, 0x0, 0xFFFFFFFF, [], [4]⟩
  , ⟨0x204, 0x0, 1, .rw, 0x0, 0x7F, [], []⟩
  , ⟨0x208, 0x0, 1, .rw, 0x0, 0xFFF0FFF, [], []⟩
  , ⟨0x20C, 0x0, 1, .rw, 0x1010, 0xFFFF, [.clamp 7 0 1 64], []⟩
  , ⟨0x210, 0x0, 1, .rw, 0xFF0000FF, 0xFFFFFFFF, [], []⟩
  , ⟨0x214, 0x0, 1, .ro, 0x0, 0x0, [], [4]⟩
  , ⟨0x218, 0x0, 1, .ro, 0x0, 0x0, [], []⟩ ]

/-- Rows of the `synCommon` pages. -/
def rowsSynCommon : List RegRow :=
  [ ⟨0x40, 0x0, 1, .ro, 0x0, 0x0, [], []⟩
  , ⟨0x44, 0x0, 1, .ro, 0x0, 0x0, [], []⟩
  , ⟨0x48, 0x0, 1, .rw, 0x0, 0xF, [], []⟩
  , ⟨0x4C, 0x0, 1, .ro, 0x0, 0x0, [], []⟩
  , ⟨0x50, 0x0, 1, .rw, 0x3E8, 0xFFFF, [], []⟩
  , ⟨0x54, 0x0, 1, .ro, 0x0, 0x0, [], []⟩
  , ⟨0x58, 0x0, 1, .rc, 0xFFFF, 0x0, [], []⟩
  , ⟨0x5C, 0x0, 1, .ro, 0x0, 0x0, [], []⟩
  , ⟨0x60, 0x0, 1, .ro, 0x0, 0x0, [], [4]⟩
  , ⟨0x64, 0x0, 1, .ro, 0x0, 0x0, [], []⟩
  , ⟨0x68, 0x0, 1, .ro, 0x0, 0x0, [], [4]⟩
  , ⟨0x6C, 0x0, 1, .ro, 0x0, 0x0, [], []⟩
  , ⟨0x70, 0x0, 1, .ro, 0x0, 0x0, [], []⟩
  , ⟨0x74, 0x0, 1, .ro, 0x0, 0x0, [], []⟩
  , ⟨0x80, 0x20, 4, .rw, 0x0, 0xFFFFFFFF, [.signedFld 15 0 31744, .signedFld 31 16 14336], []⟩
  , ⟨0x84, 0x20, 4, .rw, 0x0, 0xFFFFFFC0, [], [4]⟩
  , ⟨0x88, 0x20, 4, .rw, 0x0, 0xFF, [], []⟩
  , ⟨0x8C, 0x20, 4, .rw, 0x0, 0xFFFFFFC0, [], [4]⟩
  , ⟨0x90, 0x20, 4, .rw, 0x0, 0xFF, [], []⟩
  , ⟨0x94, 0x20, 4, .rw, 0x3C00, 0xFFFC0, [], []⟩
  , ⟨0x98, 0x20, 4, .rw, 0x5, 0x7, [], []⟩
  , ⟨0x9C, 0x20, 4, .ro, 0x0, 0x0, [], []⟩ ]

/-- Rows of the `slice` pages. -/
def rowsSlice : List RegRow :=
  [ ⟨0x40, 0x0, 1, .ro, 0x0, 0x0, [], []⟩
  , ⟨0x44, 0x0, 1, .rc, 0x0, 0x0, [], []⟩
  , ⟨0x48, 0x0, 1, .rc, 0x0, 0x0, [], []⟩
  , ⟨0x4C, 0x0, 1, .rc, 0x0, 0x0, [], []⟩
  , ⟨0x50, 0x0, 1, .rc, 0x0, 0x0, [], []⟩
  , ⟨0x54, 0x0, 1, .rc, 0x0, 0x0, [], []⟩
  , ⟨0x58, 0x0, 1, .ro, 0x0, 0x0, [], []⟩
  , ⟨0x5C, 0x0, 1, .rws, 0x0, 0xFFFFFFFF, [], []⟩ ]

/-- Rows of the `cmtCommon` pages. -/
def rowsCmtCommon : List RegRow :=
  [ ⟨0x40, 0x0, 1, .rw, 0x9, 0xF, [], []⟩
  , ⟨0x44, 0x0, 1, .rw, 0x0, 0x103, [], []⟩
  , ⟨0x48, 0x0, 1, .rw, 0x1F4, 0x1FFF, [.clamp 12 0 200 4000], []⟩
  , ⟨0x4C, 0x0, 1, .rw, 0x64, 0xFF, [.clamp 7 0 1 200], []⟩
  , ⟨0x50, 0x0, 1, .ro, 0x0, 0x0, [], [4]⟩
  , ⟨0x54, 0x0, 1, .ro, 0x0, 0x0, [], []⟩
  , ⟨0x58, 0x0, 1, .ro, 0x0, 0x0, [], [4, 8]⟩
  , ⟨0x5C, 0x0, 1, .ro, 0x0, 0x0, [], []⟩
  , ⟨0x60, 0x0, 1, .ro, 0x0, 0x0, [], []⟩
  , ⟨0x64, 0x0, 1, .ro, 0x0, 0x0, [], []⟩
  , ⟨0x68, 0x0, 1, .ro, 0x0, 0x0, [], []⟩
  , ⟨0x6C, 0x0, 1, .ro, 0x0, 0x0, [], [4]⟩
  , ⟨0x70, 0x0, 1, .ro, 0x0, 0x0, [], []⟩ ]

/-- Rows of the `fence` pages. -/
def rowsFence : List RegRow :=
  [ ⟨0x40, 0x4, 32, .rw, 0x0, 0xFFFFFFFF, [], []⟩
  , ⟨0xC0, 0x4, 32, .wo, 0x0, 0xFFFFFFFF, [], []⟩
  , ⟨0x140, 0x4, 32, .rw, 0x0, 0xFFFFFFFF, [], []⟩ ]

/-- Rows of the `take` pages. -/
def rowsTake : List RegRow :=
  [ ⟨0x40, 0x20, 6, .w1s, 0x0, 0xFFFFFFFF, [], []⟩
  , ⟨0x44, 0x20, 6, .wo, 0x0, 0xFFFFFFFF, [], []⟩
  , ⟨0x48, 0x20, 6, .rw, 0x0, 0x8000FFFF, [], []⟩
  , ⟨0x4C, 0x20, 6, .rw, 0x0, 0xFFFFFFFF, [], []⟩
  , ⟨0x50, 0x20, 6, .rw, 0x0, 0xFF, [], []⟩
  , ⟨0x54, 0x20, 4, .rw, 0x0, 0x3, [], []⟩
  , ⟨0x58, 0x20, 6, .ro, 0x0, 0x0, [], []⟩ ]

/-- Rows of the `cue` pages. -/
def rowsCue : List RegRow :=
  [ ⟨0x40, 0x8, 4, .rw, 0x0, 0xFFF0003, [], []⟩
  , ⟨0x44, 0x8, 4, .rw, 0x0, 0xFFFF, [], []⟩
  , ⟨0x60, 0x4, 4, .ro, 0x0, 0x0, [], []⟩ ]

/-- Rows of the `sync` pages. -/
def rowsSync : List RegRow :=
  [ ⟨0x40, 0x0, 1, .rw, 0xA00, 0xFF01, [.clamp 15 8 1 255], []⟩
  , ⟨0x44, 0x0, 1, .rw, 0x0, 0xFFFFFFFF, [.signed 1000000], []⟩
  , ⟨0x48, 0x0, 1, .rw, 0x300, 0xF02, [.clamp 11 8 1 15], []⟩
  , ⟨0x4C, 0x0, 1, .ro, 0x0, 0x0, [], []⟩
  , ⟨0x50, 0x0, 1, .ro, 0x0, 0x0, [], []⟩ ]

/-- Rows of the `tonCommon` pages. -/
def rowsTonCommon : List RegRow :=
  [ ⟨0x40, 0x0, 1, .rw, 0x207AE, 0x7FFFFF, [], []⟩
  , ⟨0x44, 0x0, 1, .rw, 0xA0000, 0x7FFFFF, [], []⟩
  , ⟨0x48, 0x0, 1, .wo, 0x0, 0xFFFFFFFF, [], []⟩
  , ⟨0x4C, 0x0, 1, .rw, 0x0, 0xFFFFFFC0, [], [4]⟩
  , ⟨0x50, 0x0, 1, .rw, 0x0, 0xFF, [], []⟩
  , ⟨0x54, 0x0, 1, .rw, 0x0, 0xFFFFFFFF, [], []⟩
  , ⟨0x58, 0x0, 1, .ro, 0x0, 0x0, [], []⟩
  , ⟨0x5C, 0x0, 1, .rw, 0x0, 0xFFFF0003, [], []⟩
  , ⟨0x60, 0x0, 1, .ro, 0x0, 0x0, [], []⟩
  , ⟨0x64, 0x0, 1, .ro, 0x0, 0x0, [], [4]⟩
  , ⟨0x68, 0x0, 1, .ro, 0x0, 0x0, [], []⟩
  , ⟨0x6C, 0x0, 1, .ro, 0x0, 0x0, [], [4]⟩
  , ⟨0x70, 0x0, 1, .ro, 0x0, 0x0, [], []⟩
  , ⟨0x74, 0x0, 1, .ro, 0x0, 0x0, [], []⟩
  , ⟨0x78, 0x0, 1, .rw, 0x1, 0x1, [], []⟩
  , ⟨0x7C, 0x0, 1, .ro, 0x0, 0x0, [], [4]⟩
  , ⟨0x80, 0x0, 1, .ro, 0x0, 0x0, [], []⟩
  , ⟨0x84, 0x0, 1, .wo, 0x0, 0xFFFFFFFF, [], []⟩
  , ⟨0x88, 0x0, 1, .ro, 0x0, 0x0, [], []⟩
  , ⟨0x8C, 0x0, 1, .ro, 0x0, 0x0, [], []⟩
  , ⟨0x90, 0x8, 4, .rw, 0x22, 0x133, [], []⟩
  , ⟨0x94, 0x8, 4, .rw, 0x10000, 0x3FFFF, [], []⟩ ]

/-- Rows of the `tonTile` pages. -/
def rowsTonTile : List RegRow :=
  [ ⟨0x40, 0x0, 1, .rw, 0x4000, 0x1FFFF, [], []⟩
  , ⟨0x44, 0x0, 1, .rw, 0x0, 0x1FFFF, [], []⟩
  , ⟨0x48, 0x0, 1, .rw, 0x0, 0x1FFFF, [], []⟩
  , ⟨0x4C, 0x0, 1, .rw, 0x0, 0x1FFFF, [], []⟩
  , ⟨0x50, 0x0, 1, .rw, 0x4000, 0x1FFFF, [], []⟩
  , ⟨0x54, 0x0, 1, .rw, 0x0, 0x1FFFF, [], []⟩
  , ⟨0x58, 0x0, 1, .rw, 0x0, 0x1FFFF, [], []⟩
  , ⟨0x5C, 0x0, 1, .rw, 0x0, 0x1FFFF, [], []⟩
  , ⟨0x60, 0x0, 1, .rw, 0x4000, 0x1FFFF, [], []⟩
  , ⟨0x64, 0x0, 1, .rw, 0x200, 0x303, [], []⟩
  , ⟨0x68, 0x0, 1, .rc, 0x0, 0x0, [], []⟩
  , ⟨0x6C, 0x0, 1, .rc, 0x0, 0x0, [], []⟩ ]

/-- Rows of the `plkCommon` pages. -/
def rowsPlkCommon : List RegRow :=
  [ ⟨0x40, 0x0, 1, .ro, 0x0, 0x0, [], []⟩
  , ⟨0x44, 0x0, 1, .rw, 0x2, 0xF, [.clamp 3 0 1 15], []⟩
  , ⟨0x48, 0x0, 1, .rw, 0xA, 0xFFFF, [.clamp 15 0 1 3600], []⟩
  , ⟨0x4C, 0x0, 1, .rw, 0x10, 0xFFFF, [.clamp 15 0 1 65535], []⟩
  , ⟨0x50, 0x0, 1, .ro, 0x0, 0x0, [], [4]⟩
  , ⟨0x54, 0x0, 1, .ro, 0x0, 0x0, [], []⟩ ]

/-- Rows of the `plkGroup` pages. -/
def rowsPlkGroup : List RegRow :=
  [ ⟨0x40, 0x0, 1, .wo, 0x0, 0xFFFFFFFF, [], []⟩
  , ⟨0x44, 0x0, 1, .rw, 0x1, 0x3, [], []⟩
  , ⟨0x48, 0x0, 1, .ro, 0x0, 0x0, [], []⟩
  , ⟨0x4C, 0x0, 1, .ro, 0x0, 0x0, [], []⟩
  , ⟨0x50, 0x0, 1, .rw, 0x76543210, 0xFFFFFFFF, [], []⟩
  , ⟨0x54, 0x0, 1, .rw, 0xFEDCBA98, 0xFFFFFFFF, [], []⟩
  , ⟨0x58, 0x0, 1, .ro, 0x0, 0x0, [], []⟩
  , ⟨0x5C, 0x0, 1, .ro, 0x0, 0x0, [], []⟩
  , ⟨0x60, 0x0, 1, .ro, 0x0, 0x0, [], []⟩
  , ⟨0x64, 0x0, 1, .rc, 0x0, 0x0, [], []⟩
  , ⟨0x68, 0x0, 1, .rc, 0x0, 0x0, [], []⟩
  , ⟨0x6C, 0x0, 1, .ro, 0x0, 0x0, [], []⟩
  , ⟨0x70, 0x0, 1, .ro, 0x0, 0x0, [], []⟩
  , ⟨0x74, 0x0, 1, .ro, 0x0, 0x0, [], [4]⟩
  , ⟨0x78, 0x0, 1, .ro, 0x0, 0x0, [], []⟩
  , ⟨0x7C, 0x0, 1, .rw, 0x0, 0xFFFFFF00, [], [4]⟩
  , ⟨0x80, 0x0, 1, .rw, 0x0, 0xFFFFFF, [], []⟩ ]

/-- Rows of the `plkLane` pages. -/
def rowsPlkLane : List RegRow :=
  [ ⟨0x40, 0x0, 1, .rw, 0x0, 0x331, [], []⟩
  , ⟨0x44, 0x0, 1, .ro, 0x0, 0x0, [], []⟩
  , ⟨0x48, 0x0, 1, .rw, 0x30000000, 0x3F1F0FFF, [.taps], []⟩
  , ⟨0x4C, 0x0, 1, .wo, 0x0, 0xFFFFFFFF, [], []⟩
  , ⟨0x50, 0x0, 1, .rc, 0x0, 0x0, [], []⟩
  , ⟨0x54, 0x0, 1, .rc, 0x0, 0x0, [], []⟩
  , ⟨0x58, 0x0, 1, .rws, 0x0, 0xFFFFFFFF, [], []⟩ ]

/-- Rows of the `ingCommon` pages. -/
def rowsIngCommon : List RegRow :=
  [ ⟨0x40, 0x0, 1, .ro, 0x0, 0x0, [], []⟩
  , ⟨0x44, 0x0, 1, .ro, 0x0, 0x0, [], []⟩
  , ⟨0x48, 0x0, 1, .rw, 0x64, 0xFFFF, [.clamp 15 0 10 10000], []⟩
  , ⟨0x4C, 0x0, 1, .rw, 0x32, 0xFFFF, [.clamp 15 0 1 10000], []⟩
  , ⟨0x50, 0x0, 1, .ro, 0x0, 0x0, [], []⟩ ]

/-- Rows of the `ingRx` pages. -/
def rowsIngRx : List RegRow :=
  [ ⟨0x40, 0x0, 1, .rw, 0x3BC02, 0x3FFFF, [], []⟩
  , ⟨0x44, 0x0, 1, .rw, 0x0, 0x80000FFF, [], []⟩
  , ⟨0x48, 0x0, 1, .rwk, 0x0, 0xFFFFFFC0, [], [4]⟩
  , ⟨0x4C, 0x0, 1, .rwk, 0x0, 0xFF, [], []⟩
  , ⟨0x50, 0x0, 1, .rwk, 0x0, 0x7FF, [.clamp 10 0 0 1024], []⟩
  , ⟨0x54, 0x0, 1, .rc, 0x0, 0x0, [], []⟩
  , ⟨0x58, 0x0, 1, .rc, 0x0, 0x0, [], []⟩
  , ⟨0x5C, 0x0, 1, .rc, 0x0, 0x0, [], []⟩
  , ⟨0x60, 0x0, 1, .rc, 0x0, 0x0, [], []⟩
  , ⟨0x64, 0x0, 1, .ro, 0x0, 0x0, [], [4]⟩
  , ⟨0x68, 0x0, 1, .ro, 0x0, 0x0, [], []⟩
  , ⟨0x6C, 0x0, 1, .ro, 0x0, 0x0, [], []⟩
  , ⟨0x70, 0x0, 1, .ro, 0x0, 0x0, [], []⟩
  , ⟨0x80, 0x8, 16, .rw, 0x0, 0x8700FFFF, [], []⟩
  , ⟨0x84, 0x8, 16, .rw, 0x1, 0xFFFFFFFF, [], []⟩ ]

/-- Rows of the `tray` pages. -/
def rowsTray : List RegRow :=
  [ ⟨0x40, 0x0, 1, .rw, 0x0, 0xFFFFFFC0, [], [4]⟩
  , ⟨0x44, 0x0, 1, .rw, 0x0, 0xFF, [], []⟩
  , ⟨0x48, 0x0, 1, .rw, 0x4, 0x1F, [.clamp 4 0 4 16], []⟩
  , ⟨0x4C, 0x0, 1, .rw, 0x0, 0x1FFFF, [], []⟩
  , ⟨0x50, 0x0, 1, .ro, 0x0, 0x0, [], []⟩
  , ⟨0x54, 0x0, 1, .rw, 0x0, 0xFFFFFFC0, [], [4]⟩
  , ⟨0x58, 0x0, 1, .rw, 0x0, 0xFF, [], []⟩
  , ⟨0x5C, 0x0, 1, .rw, 0x0, 0x1FFFF, [], []⟩
  , ⟨0x60, 0x0, 1, .ro, 0x0, 0x0, [], []⟩
  , ⟨0x64, 0x0, 1, .ro, 0x0, 0x0, [], []⟩
  , ⟨0x68, 0x0, 1, .rc, 0x0, 0x0, [], []⟩
  , ⟨0x6C, 0x0, 1, .rc, 0x0, 0x0, [], []⟩ ]

/-- Rows of the `dcpEngine` pages. -/
def rowsDcpEngine : List RegRow :=
  [ ⟨0x40, 0x0, 1, .ro, 0x0, 0x0, [], []⟩
  , ⟨0x44, 0x0, 1, .rc, 0x0, 0x0, [], []⟩
  , ⟨0x48, 0x0, 1, .rc, 0x0, 0x0, [], []⟩
  , ⟨0x4C, 0x0, 1, .rc, 0x0, 0x0, [], []⟩
  , ⟨0x50, 0x0, 1, .rc, 0x0, 0x0, [], []⟩
  , ⟨0x54, 0x0, 1, .ro, 0x0, 0x0, [], []⟩
  , ⟨0x58, 0x0, 1, .rws, 0x0, 0xFFFFFFFF, [], []⟩ ]

/-- Rows of the `cmpCommon` pages. -/
def rowsCmpCommon : List RegRow :=
  [ ⟨0x40, 0x0, 1, .rw, 0x600, 0xF03, [.clamp 11 8 4 9], []⟩
  , ⟨0x44, 0x0, 1, .wo, 0x0, 0xFFFFFFFF, [], []⟩
  , ⟨0x48, 0x0, 1, .ro, 0x0, 0x0, [], []⟩
  , ⟨0x4C, 0x0, 1, .ro, 0x0, 0x0, [], []⟩
  , ⟨0x50, 0x4, 8, .ro, 0x0, 0x0, [], []⟩ ]

/-- Rows of the `cmpEngine` pages. -/
def rowsCmpEngine : List RegRow :=
  [ ⟨0x40, 0x0, 1, .wo, 0x0, 0xFFFFFFFF, [], []⟩
  , ⟨0x44, 0x0, 1, .rw, 0x6, 0xFF013F, [], []⟩
  , ⟨0x48, 0x0, 1, .rw, 0x0, 0xFFFFFFFF, [], [4]⟩
  , ⟨0x4C, 0x0, 1, .rw, 0x0, 0xFF, [], []⟩
  , ⟨0x50, 0x0, 1, .rw, 0x0, 0x1FFFFFF, [], []⟩
  , ⟨0x54, 0x0, 1, .rw, 0x0, 0xFFFFFFFF, [], [4]⟩
  , ⟨0x58, 0x0, 1, .rw, 0x0, 0xFF, [], []⟩
  , ⟨0x5C, 0x0, 1, .rw, 0x0, 0xFFFFFFFF, [], []⟩
  , ⟨0x60, 0x0, 1, .rw, 0x0, 0xFFFFFFE0, [], [4]⟩
  , ⟨0x64, 0x0, 1, .rw, 0x0, 0xFF, [], []⟩
  , ⟨0x68, 0x0, 1, .rw, 0x0, 0xFFFFFFFF, [], []⟩
  , ⟨0x6C, 0x0, 1, .rw, 0x1, 0xFFFFFFFF, [], []⟩
  , ⟨0x70, 0x0, 1, .rw, 0x0, 0xFFFFFFFF, [], []⟩
  , ⟨0x74, 0x0, 1, .rw, 0x0, 0xFF1FFFFF, [], []⟩
  , ⟨0x78, 0x0, 1, .rw, 0x0, 0xFFFFFFFF, [], [4]⟩
  , ⟨0x7C, 0x0, 1, .rw, 0x0, 0xFFFF, [], []⟩
  , ⟨0x80, 0x0, 1, .ro, 0x0, 0x0, [], []⟩
  , ⟨0x84, 0x0, 1, .ro, 0x0, 0x0, [], []⟩
  , ⟨0x88, 0x0, 1, .ro, 0x0, 0x0, [], []⟩
  , ⟨0x8C, 0x0, 1, .ro, 0x0, 0x0, [], []⟩
  , ⟨0x90, 0x0, 1, .rws, 0x0, 0xFFFFFFFF, [], []⟩ ]

/-- Rows of the `blkCommon` pages. -/
def rowsBlkCommon : List RegRow :=
  [ ⟨0x40, 0x0, 1, .rw, 0x0, 0x3, [], []⟩
  , ⟨0x44, 0x0, 1, .ro, 0x0, 0x0, [], []⟩
  , ⟨0x48, 0x0, 1, .rc, 0x0, 0x0, [], []⟩ ]

/-- Rows of the `blkQueue` pages. -/
def rowsBlkQueue : List RegRow :=
  [ ⟨0x40, 0x0, 1, .rw, 0x0, 0xFFFFFFC0, [], [4]⟩
  , ⟨0x44, 0x0, 1, .rw, 0x0, 0xFF, [], []⟩
  , ⟨0x48, 0x0, 1, .rw, 0x4, 0xF, [.clamp 3 0 4 12], []⟩
  , ⟨0x4C, 0x0, 1, .rw, 0x0, 0xFFFF, [], []⟩
  , ⟨0x50, 0x0, 1, .ro, 0x0, 0x0, [], []⟩
  , ⟨0x54, 0x0, 1, .rw, 0x0, 0xFFFFFFC0, [], [4]⟩
  , ⟨0x58, 0x0, 1, .rw, 0x0, 0xFF, [], []⟩
  , ⟨0x5C, 0x0, 1, .rw, 0x0, 0xFFFF, [], []⟩
  , ⟨0x60, 0x0, 1, .ro, 0x0, 0x0, [], []⟩
  , ⟨0x64, 0x0, 1, .rw, 0x0, 0xFFFF, [], []⟩
  , ⟨0x68, 0x0, 1, .rw, 0x0, 0xFFFFFFC0, [], [4]⟩
  , ⟨0x6C, 0x0, 1, .rw, 0x0, 0xFF, [], []⟩
  , ⟨0x70, 0x0, 1, .rw, 0x0, 0xFFFFFFFF, [], []⟩
  , ⟨0x74, 0x0, 1, .ro, 0x0, 0x0, [], []⟩
  , ⟨0x78, 0x0, 1, .rc, 0x0, 0x0, [], []⟩
  , ⟨0x7C, 0x0, 1, .rc, 0x0, 0x0, [], []⟩ ]

/-- Rows of the `dmcCommon` pages. -/
def rowsDmcCommon : List RegRow :=
  [ ⟨0x40, 0x0, 1, .rw, 0x0, 0x3, [], []⟩
  , ⟨0x44, 0x0, 1, .rw, 0x40, 0xFF, [], []⟩
  , ⟨0x48, 0x0, 1, .rw, 0x800, 0xFFFF, [.clamp 15 0 64 65535], []⟩
  , ⟨0x4C, 0x0, 1, .rw, 0x400, 0x8000FFFF, [.clamp 15 0 64 65535], []⟩
  , ⟨0x50, 0x0, 1, .rw, 0x20, 0xFFFF, [.clamp 15 0 1 1000], []⟩
  , ⟨0x54, 0x0, 1, .rw, 0x18, 0xFFFF, [.clamp 15 0 1 720], []⟩
  , ⟨0x58, 0x0, 1, .rw, 0x4, 0xF, [.clamp 3 0 1 15], []⟩
  , ⟨0x5C, 0x0, 1, .rw, 0xFA, 0xFFFF, [.clamp 15 0 10 10000], []⟩
  , ⟨0x60, 0x0, 1, .rw, 0x1540, 0xFFFF, [], []⟩
  , ⟨0x64, 0x0, 1, .rw, 0x64, 0xFFFF, [.clamp 15 0 10 10000], []⟩
  , ⟨0x68, 0x0, 1, .rw, 0x3010, 0xFFFF, [.clamp 15 8 1 64, .below 7 0 15 8], []⟩
  , ⟨0x70, 0x8, 4, .rwk, 0x0, 0x803F3FFF, [], []⟩
  , ⟨0x74, 0x8, 4, .rwk, 0x0, 0x7FFF, [], []⟩
  , ⟨0x90, 0x0, 1, .ro, 0x0, 0x0, [], []⟩
  , ⟨0x94, 0x0, 1, .rc, 0x0, 0x0, [], []⟩
  , ⟨0x98, 0x0, 1, .ro, 0x0, 0x0, [], []⟩ ]

/-- Rows of the `dmcChannel` pages. -/
def rowsDmcChannel : List RegRow :=
  [ ⟨0x40, 0x0, 1, .ro, 0x0, 0x0, [], []⟩
  , ⟨0x44, 0x0, 1, .wo, 0x0, 0xFFFFFFFF, [], []⟩
  , ⟨0x48, 0x0, 1, .rw, 0x0, 0xFFFFF000, [], [4]⟩
  , ⟨0x4C, 0x0, 1, .rw, 0x0, 0x1F, [], []⟩
  , ⟨0x50, 0x0, 1, .ro, 0x0, 0x0, [], []⟩
  , ⟨0x54, 0x0, 1, .ro, 0x0, 0x0, [], []⟩
  , ⟨0x58, 0x0, 1, .ro, 0x0, 0x0, [], []⟩
  , ⟨0x5C, 0x0, 1, .rc, 0x0, 0x0, [], []⟩
  , ⟨0x60, 0x0, 1, .rc, 0x0, 0x0, [], []⟩
  , ⟨0x64, 0x0, 1, .ro, 0x0, 0x0, [], [4]⟩
  , ⟨0x68, 0x0, 1, .ro, 0x0, 0x0, [], []⟩
  , ⟨0x6C, 0x0, 1, .ro, 0x0, 0x0, [], []⟩
  , ⟨0x70, 0x0, 1, .rw, 0x0, 0xFF, [], []⟩
  , ⟨0x74, 0x0, 1, .ro, 0x0, 0x0, [], []⟩
  , ⟨0x78, 0x0, 1, .rc, 0x0, 0x0, [], []⟩
  , ⟨0x7C, 0x0, 1, .rc, 0x0, 0x0, [], []⟩
  , ⟨0x80, 0x0, 1, .rc, 0x0, 0x0, [], []⟩
  , ⟨0x84, 0x0, 1, .rc, 0x0, 0x0, [], []⟩
  , ⟨0x88, 0x0, 1, .ro, 0x0, 0x0, [], []⟩
  , ⟨0x8C, 0x0, 1, .rws, 0x0, 0xFFFFFFFF, [], []⟩ ]

/-- Rows of the `netCommon` pages. -/
def rowsNetCommon : List RegRow :=
  [ ⟨0x80, 0x40, 4, .rw, 0x600000, 0x7F0331, [.other 22 16 96 127 96], []⟩
  , ⟨0x84, 0x40, 4, .rw, 0x0, 0xEFFF, [], []⟩
  , ⟨0x88, 0x40, 4, .rw, 0x0, 0xFFFFFFFF, [], [4]⟩
  , ⟨0x8C, 0x40, 4, .rw, 0x0, 0xFFFF, [], []⟩
  , ⟨0x90, 0x4, 4, .rw, 0x0, 0xFFFFFFFF, [], []⟩
  , ⟨0xD0, 0x4, 4, .rw, 0x0, 0xFFFFFFFF, [], []⟩
  , ⟨0x110, 0x4, 4, .rw, 0x0, 0xFFFFFFFF, [], []⟩
  , ⟨0x150, 0x4, 4, .rw, 0x0, 0xFFFFFFFF, [], []⟩
  , ⟨0xA0, 0x40, 4, .rw, 0x0, 0xFFFFFFFF, [], []⟩
  , ⟨0xA4, 0x40, 4, .rw, 0x0, 0xFFFFFFFF, [], []⟩
  , ⟨0xA8, 0x40, 4, .rw, 0x4022, 0xFF3F, [], []⟩
  , ⟨0xAC, 0x40, 4, .rw, 0x0, 0xFFFFFF, [], []⟩
  , ⟨0xB0, 0x40, 4, .ro, 0x0, 0x0, [], []⟩
  , ⟨0xB4, 0x40, 4, .rc, 0x0, 0x0, [], []⟩
  , ⟨0xB8, 0x40, 4, .rc, 0x0, 0x0, [], []⟩
  , ⟨0xBC, 0x40, 4, .rc, 0x0, 0x0, [], []⟩
  , ⟨0x40, 0x0, 1, .rw, 0x3E8, 0xFFFF, [], []⟩ ]

/-- Rows of the `netPort` pages. -/
def rowsNetPort : List RegRow :=
  [ ⟨0x40, 0x0, 1, .rw, 0x0, 0x1013, [], []⟩
  , ⟨0x44, 0x0, 1, .ro, 0x0, 0x0, [], []⟩
  , ⟨0x48, 0x0, 1, .rw, 0x0, 0xFFFFFFFF, [], [4]⟩
  , ⟨0x4C, 0x0, 1, .rw, 0x0, 0xFFFF, [], []⟩
  , ⟨0x50, 0x0, 1, .rw, 0x0, 0xFFFFFFFF, [], []⟩
  , ⟨0x54, 0x4, 4, .rw, 0x0, 0xFFFFFFFF, [], []⟩
  , ⟨0x64, 0x0, 1, .rw, 0x0, 0xFFFFFFFF, [], [4]⟩
  , ⟨0x68, 0x0, 1, .rw, 0x0, 0xFFFFFFFF, [], []⟩
  , ⟨0x6C, 0x0, 1, .rw, 0x0, 0xFFFFFF, [], []⟩
  , ⟨0x70, 0x0, 1, .rw, 0x0, 0xFFFFFF, [], []⟩
  , ⟨0x74, 0x0, 1, .rw, 0x0, 0xFFFFFFC0, [], [4]⟩
  , ⟨0x78, 0x0, 1, .rw, 0x0, 0xFF, [], []⟩
  , ⟨0x7C, 0x0, 1, .rw, 0x4, 0xF, [.clamp 3 0 4 12], []⟩
  , ⟨0x80, 0x0, 1, .rw, 0x0, 0xFFFF, [], []⟩
  , ⟨0x84, 0x0, 1, .ro, 0x0, 0x0, [], []⟩
  , ⟨0x88, 0x0, 1, .rw, 0x0, 0xFFFFFFC0, [], [4]⟩
  , ⟨0x8C, 0x0, 1, .rw, 0x0, 0xFF, [], []⟩
  , ⟨0x90, 0x0, 1, .rw, 0x0, 0xFFFF, [], []⟩
  , ⟨0x94, 0x0, 1, .ro, 0x0, 0x0, [], []⟩
  , ⟨0x98, 0x0, 1, .rw, 0x0, 0x7, [], []⟩
  , ⟨0x9C, 0x0, 1, .ro, 0x0, 0x0, [], []⟩
  , ⟨0xA0, 0x0, 1, .rc, 0x0, 0x0, [], []⟩
  , ⟨0xA4, 0x0, 1, .rc, 0x0, 0x0, [], []⟩
  , ⟨0xA8, 0x0, 1, .rc, 0x0, 0x0, [], []⟩
  , ⟨0xAC, 0x0, 1, .rc, 0x0, 0x0, [], []⟩
  , ⟨0xB0, 0x0, 1, .rc, 0x0, 0x0, [], []⟩
  , ⟨0xB4, 0x0, 1, .rc, 0x0, 0x0, [], []⟩
  , ⟨0xB8, 0x0, 1, .rc, 0x0, 0x0, [], []⟩
  , ⟨0xBC, 0x0, 1, .rc, 0x0, 0x0, [], []⟩
  , ⟨0xC0, 0x0, 1, .rws, 0x0, 0xFFFFFFFF, [], []⟩
  , ⟨0xC4, 0x0, 1, .ro, 0x0, 0x0, [], []⟩
  , ⟨0xC8, 0x0, 1, .rws, 0x0, 0xFFFFFFFF, [], []⟩ ]

/-- Rows of the `timCommon` pages. -/
def rowsTimCommon : List RegRow :=
  [ ⟨0x40, 0x0, 1, .rw, 0x100, 0x3133, [], []⟩
  , ⟨0x44, 0x0, 1, .ro, 0x0, 0x0, [], [4, 8, 12]⟩
  , ⟨0x48, 0x0, 1, .ro, 0x0, 0x0, [], []⟩
  , ⟨0x4C, 0x0, 1, .ro, 0x0, 0x0, [], []⟩
  , ⟨0x50, 0x0, 1, .ro, 0x0, 0x0, [], []⟩
  , ⟨0x54, 0x0, 1, .ro, 0x0, 0x0, [], [4]⟩
  , ⟨0x58, 0x0, 1, .ro, 0x0, 0x0, [], []⟩
  , ⟨0x5C, 0x0, 1, .rw, 0x0, 0xFFFFFFFF, [], [4]⟩
  , ⟨0x60, 0x0, 1, .rw, 0x8000, 0xFFFF, [], []⟩
  , ⟨0x64, 0x0, 1, .rw, 0x2000000, 0xFFFFFFFF, [], []⟩
  , ⟨0x68, 0x0, 1, .rw, 0x0, 0xFFFFFFFF, [], [4]⟩
  , ⟨0x6C, 0x0, 1, .rw, 0x0, 0xFFFF, [], []⟩
  , ⟨0x70, 0x0, 1, .rw, 0x0, 0x3FFFFFFF, [], []⟩
  , ⟨0x74, 0x0, 1, .rw, 0x0, 0xFFFFFFFF, [], [4]⟩
  , ⟨0x78, 0x0, 1, .rw, 0x0, 0xFFFFFFFF, [], []⟩
  , ⟨0x7C, 0x0, 1, .wo, 0x0, 0xFFFFFFFF, [], []⟩
  , ⟨0x80, 0x0, 1, .ro, 0x0, 0x0, [], []⟩
  , ⟨0x84, 0x0, 1, .rw, 0x64, 0xFF, [.clamp 7 0 1 100], []⟩
  , ⟨0x88, 0x0, 1, .rw, 0x3E8, 0xFFFFF, [.clamp 19 0 1 1000000], []⟩
  , ⟨0x8C, 0x0, 1, .rw, 0x3E8, 0xFFFFF, [.clamp 19 0 1 1000000], []⟩
  , ⟨0x90, 0x0, 1, .rw, 0x64, 0xFFFF, [.clamp 15 0 1 65535], []⟩
  , ⟨0x94, 0x0, 1, .rw, 0x703, 0x1F1F, [], []⟩
  , ⟨0x98, 0x0, 1, .rw, 0x3E8, 0xFFFF, [.clamp 15 0 10 60000], []⟩
  , ⟨0x9C, 0x0, 1, .rw, 0x6400, 0xFF01, [.clamp 15 8 1 255], []⟩
  , ⟨0xA0, 0x0, 1, .rw, 0x0, 0xFFFFFFFF, [.signed 500000000], []⟩
  , ⟨0xA4, 0x0, 1, .rw, 0x0, 0x3, [], []⟩
  , ⟨0xA8, 0x0, 1, .ro, 0x0, 0x0, [], [4]⟩
  , ⟨0xAC, 0x0, 1, .ro, 0x0, 0x0, [], []⟩
  , ⟨0xB0, 0x0, 1, .rc, 0x0, 0x0, [], []⟩ ]

/-- Rows of the `timDomain` pages. -/
def rowsTimDomain : List RegRow :=
  [ ⟨0x40, 0x0, 1, .rw, 0x7F, 0x333FF, [], []⟩
  , ⟨0x44, 0x0, 1, .rw, 0xFEFDFD03, 0xFFFFFFFF, [], []⟩
  , ⟨0x48, 0x0, 1, .ro, 0x0, 0x0, [], []⟩
  , ⟨0x4C, 0x0, 1, .ro, 0x0, 0x0, [], [4]⟩
  , ⟨0x50, 0x0, 1, .ro, 0x0, 0x0, [], []⟩
  , ⟨0x54, 0x0, 1, .ro, 0x0, 0x0, [], []⟩
  , ⟨0x58, 0x0, 1, .ro, 0x0, 0x0, [], [4]⟩
  , ⟨0x5C, 0x0, 1, .ro, 0x0, 0x0, [], []⟩
  , ⟨0x60, 0x0, 1, .ro, 0x0, 0x0, [], []⟩
  , ⟨0x64, 0x0, 1, .ro, 0x0, 0x0, [], []⟩
  , ⟨0x68, 0x0, 1, .ro, 0x0, 0x0, [], []⟩
  , ⟨0x6C, 0x0, 1, .ro, 0x0, 0x0, [], []⟩
  , ⟨0x70, 0x0, 1, .rc, 0x0, 0x0, [], []⟩ ]

/-- Rows of the `clkCommon` pages. -/
def rowsClkCommon : List RegRow :=
  [ ⟨0x40, 0x0, 1, .rw, 0x0, 0x303, [], []⟩
  , ⟨0x44, 0x0, 1, .rw, 0x64, 0xFFF, [.clamp 11 0 10 2000], []⟩
  , ⟨0x48, 0x0, 1, .rw, 0x3E8, 0xFFFF, [.clamp 15 0 10 60000], []⟩
  , ⟨0x4C, 0x0, 1, .rw, 0x32, 0x3FFF, [.clamp 13 0 5 10000], []⟩
  , ⟨0x50, 0x0, 1, .ro, 0x0, 0x0, [], []⟩
  , ⟨0x54, 0x0, 1, .ro, 0x0, 0x0, [], []⟩
  , ⟨0x58, 0x0, 1, .ro, 0x0, 0x0, [], []⟩
  , ⟨0x5C, 0x0, 1, .rw, 0x0, 0x1, [], []⟩ ]

/-- Rows of the `pll` pages. -/
def rowsPll : List RegRow :=
  [ ⟨0x40, 0x0, 1, .rw, 0x0, 0x717, [], []⟩
  , ⟨0x44, 0x0, 1, .rw, 0x0, 0xFFFFF, [], []⟩
  , ⟨0x48, 0x0, 1, .rw, 0xA, 0x7F, [.clamp 6 0 1 100], []⟩
  , ⟨0x4C, 0x0, 1, .rw, 0x80000001, 0xFFFFFFFF, [.clamp 30 0 1 2147483647], []⟩
  , ⟨0x50, 0x0, 1, .ro, 0x0, 0x0, [], []⟩
  , ⟨0x54, 0x0, 1, .ro, 0x0, 0x0, [], []⟩
  , ⟨0x58, 0x0, 1, .ro, 0x0, 0x0, [], []⟩
  , ⟨0x5C, 0x0, 1, .wo, 0x0, 0xFFFFFFFF, [], []⟩
  , ⟨0x60, 0x0, 1, .rws, 0x0, 0xFFFFFFFF, [], []⟩ ]

/-- Rows of the `clkOut` pages. -/
def rowsClkOut : List RegRow :=
  [ ⟨0x40, 0x10, 8, .rw, 0x0, 0x3F3, [], []⟩
  , ⟨0x44, 0x10, 8, .rw, 0x2, 0x1FFFF, [.clamp 16 0 2 65536], []⟩
  , ⟨0x48, 0x10, 8, .rw, 0x0, 0xFFFFFFFF, [], []⟩
  , ⟨0x4C, 0x10, 8, .ro, 0x0, 0x0, [], []⟩
  , ⟨0xC0, 0x0, 1, .rw, 0x0, 0xFF03, [], []⟩ ]

/-- Rows of the `fltCommon` pages. -/
def rowsFltCommon : List RegRow :=
  [ ⟨0x40, 0x0, 1, .rw, 0x2, 0x3, [], []⟩
  , ⟨0x44, 0x0, 1, .rw, 0x7D0, 0x1FFFF, [.clamp 16 0 100 100000], []⟩
  , ⟨0x48, 0x0, 1, .rwk, 0x0, 0x3FFFFF, [], []⟩
  , ⟨0x4C, 0x0, 1, .rwk, 0x0, 0x1, [], []⟩
  , ⟨0x50, 0x0, 1, .w1s, 0x0, 0x1, [], []⟩
  , ⟨0x54, 0x0, 1, .ro, 0x11, 0x0, [], []⟩
  , ⟨0x58, 0x0, 1, .ro, 0x0, 0x0, [], []⟩
  , ⟨0x5C, 0x0, 1, .ro, 0x0, 0x0, [], []⟩
  , ⟨0x60, 0x0, 1, .wo, 0x0, 0xFFFFFFFF, [], []⟩
  , ⟨0x64, 0x0, 1, .w1c, 0x0, 0x1, [], []⟩
  , ⟨0x70, 0x4, 8, .ro, 0x0, 0x0, [], []⟩
  , ⟨0x90, 0x4, 8, .ro, 0x0, 0x0, [], []⟩ ]

/-- Rows of the `fltPend` pages. -/
def rowsFltPend : List RegRow :=
  [ ⟨0x40, 0x4, 16, .w1c, 0x0, 0xFFFFFFFF, [], []⟩
  , ⟨0x80, 0x4, 16, .ro, 0x0, 0x0, [], []⟩
  , ⟨0xC0, 0x0, 1, .rw, 0x0, 0x1FF, [], []⟩
  , ⟨0xC4, 0x0, 1, .ro, 0x0, 0x0, [], []⟩
  , ⟨0xC8, 0x0, 1, .ro, 0x0, 0x0, [], []⟩
  , ⟨0xCC, 0x0, 1, .ro, 0x0, 0x0, [], []⟩ ]

/-- Rows of the `fltLog` pages. -/
def rowsFltLog : List RegRow :=
  [ ⟨0x40, 0x0, 1, .ro, 0x0, 0x0, [], []⟩
  , ⟨0x44, 0x0, 1, .rw, 0x0, 0xFFFFFFFF, [], []⟩
  , ⟨0x48, 0x4, 8, .ro, 0xFFFFFFFF, 0x0, [], []⟩ ]

/-- Rows of the `svcCommon` pages. -/
def rowsSvcCommon : List RegRow :=
  [ ⟨0x40, 0x0, 1, .ro, 0x0, 0x0, [], []⟩
  , ⟨0x44, 0x0, 1, .rw, 0x100, 0x101, [], []⟩
  , ⟨0x48, 0x0, 1, .ro, 0x0, 0x0, [], []⟩
  , ⟨0x4C, 0x0, 1, .rc, 0x0, 0x0, [], []⟩ ]

/-- Rows of the `svcPanel` pages. -/
def rowsSvcPanel : List RegRow :=
  [ ⟨0x40, 0x4, 7, .rw, 0x0, 0xFFFFFFFF, [], []⟩
  , ⟨0x5C, 0x0, 1, .rw, 0x0, 0xFFFF, [], []⟩
  , ⟨0x60, 0x0, 1, .wo, 0x0, 0xFFFFFFFF, [], []⟩
  , ⟨0x64, 0x0, 1, .rw, 0x6, 0x3F07800E, [.clamp 18 16 0 5, .clamp 29 24 0 39], []⟩
  , ⟨0x68, 0x0, 1, .ro, 0x0, 0x0, [], []⟩
  , ⟨0x6C, 0x0, 1, .rw, 0x258, 0xFFFF, [], []⟩
  , ⟨0x70, 0x0, 1, .rw, 0x3E8, 0xFFFF, [], []⟩
  , ⟨0x74, 0x0, 1, .ro, 0x0, 0x0, [], []⟩
  , ⟨0x80, 0x4, 8, .ro, 0x0, 0x0, [], []⟩ ]

/-- Rows of the `svcStore` pages. -/
def rowsSvcStore : List RegRow :=
  [ ⟨0x40, 0x0, 1, .rw, 0x0, 0xFF0, [], []⟩
  , ⟨0x44, 0x0, 1, .wo, 0x0, 0xFFFFFFFF, [], []⟩
  , ⟨0x48, 0x0, 1, .ro, 0x0, 0x0, [], []⟩
  , ⟨0x50, 0x4, 4, .rw, 0x0, 0xFFFFFFFF, [], []⟩ ]

/-- Rows of the `svcSensor` pages. -/
def rowsSvcSensor : List RegRow :=
  [ ⟨0x40, 0x0, 1, .ro, 0x0, 0x0, [], []⟩
  , ⟨0x44, 0x0, 1, .ro, 0x0, 0x0, [], []⟩
  , ⟨0x48, 0x0, 1, .ro, 0x0, 0x0, [], []⟩
  , ⟨0x4C, 0x0, 1, .ro, 0x0, 0x0, [], []⟩
  , ⟨0x50, 0x0, 1, .ro, 0x0, 0x0, [], []⟩
  , ⟨0x54, 0x0, 1, .ro, 0x0, 0x0, [], []⟩
  , ⟨0x58, 0x0, 1, .rw, 0xD6B03E8, 0xFFFFFFFF, [], []⟩
  , ⟨0x5C, 0x0, 1, .rw, 0xD6B03E8, 0xFFFFFFFF, [], []⟩
  , ⟨0x60, 0x0, 1, .rw, 0x3E8, 0xFFFF, [], []⟩ ]

/-- Rows of the `calCommon` pages. -/
def rowsCalCommon : List RegRow :=
  [ ⟨0x40, 0x0, 1, .rw, 0x6, 0x7, [], []⟩
  , ⟨0x44, 0x0, 1, .wo, 0x0, 0xFFFFFFFF, [], []⟩
  , ⟨0x48, 0x0, 1, .ro, 0x0, 0x0, [], []⟩
  , ⟨0x4C, 0x0, 1, .rw, 0xC0, 0x3FF, [.clamp 9 0 1 1023], []⟩
  , ⟨0x50, 0x0, 1, .rw, 0x0, 0xFFFF, [], []⟩
  , ⟨0x54, 0x0, 1, .rw, 0x32, 0xFF, [.clamp 7 0 10 255], []⟩
  , ⟨0x58, 0x0, 1, .rw, 0x8, 0xFF, [], []⟩
  , ⟨0x5C, 0x0, 1, .rw, 0x2000, 0x3FFF, [], []⟩
  , ⟨0x60, 0x0, 1, .rw, 0x800, 0x7FFF, [], []⟩
  , ⟨0x64, 0x0, 1, .rw, 0xCCD, 0xFFFF, [], []⟩
  , ⟨0x68, 0x0, 1, .rw, 0x1312D0, 0x1FFFFF, [], []⟩
  , ⟨0x6C, 0x0, 1, .ro, 0xFF00, 0x0, [], []⟩
  , ⟨0x70, 0x0, 1, .ro, 0x0, 0x0, [], []⟩
  , ⟨0x74, 0x0, 1, .ro, 0x0, 0x0, [], []⟩
  , ⟨0x78, 0x0, 1, .ro, 0x0, 0x0, [], []⟩
  , ⟨0x7C, 0x0, 1, .rwk, 0x0, 0xFFFFFFC0, [], [4]⟩
  , ⟨0x80, 0x0, 1, .rwk, 0x0, 0xFF, [], []⟩
  , ⟨0x84, 0x0, 1, .rwk, 0x0, 0xFFFFFFC0, [], [4]⟩
  , ⟨0x88, 0x0, 1, .rwk, 0x0, 0xFF, [], []⟩
  , ⟨0x8C, 0x0, 1, .rw, 0x3C, 0xFFFF, [.clamp 15 0 1 3600], []⟩
  , ⟨0x90, 0x0, 1, .rw, 0x3C, 0xFFFF, [.clamp 15 0 1 1440], []⟩ ]

/-- Rows of the `calPage` pages. -/
def rowsCalPage : List RegRow :=
  [ ⟨0x40, 0x4, 6, .ro, 0x0, 0x0, [], []⟩
  , ⟨0x60, 0x8, 6, .rw, 0x80008000, 0xFFFFFFFF, [.other 31 16 1 65535 32768, .other 15 0 1 65535 32768], []⟩
  , ⟨0x64, 0x8, 6, .rw, 0x8000, 0xFFFF, [.other 15 0 1 65535 32768], []⟩
  , ⟨0x100, 0x4, 8, .rw, 0x80008000, 0xFFFFFFFF, [], []⟩
  , ⟨0x120, 0x4, 8, .rw, 0x80008000, 0xFFFFFFFF, [], []⟩
  , ⟨0x140, 0x4, 8, .rw, 0x80008000, 0xFFFFFFFF, [], []⟩ ]

/-- Rows of the `secCommon` pages. -/
def rowsSecCommon : List RegRow :=
  [ ⟨0x40, 0x0, 1, .ro, 0x0, 0x0, [], []⟩
  , ⟨0x44, 0x0, 1, .ro, 0x0, 0x0, [], [4]⟩
  , ⟨0x48, 0x0, 1, .ro, 0x0, 0x0, [], []⟩
  , ⟨0x4C, 0x0, 1, .ro, 0x0, 0x0, [], []⟩
  , ⟨0x50, 0x0, 1, .ro, 0x0, 0x0, [], []⟩
  , ⟨0x54, 0x0, 1, .ro, 0x0, 0x0, [], []⟩
  , ⟨0x58, 0x0, 1, .ro, 0x0, 0x0, [], []⟩
  , ⟨0x5C, 0x0, 1, .ro, 0x0, 0x0, [], []⟩
  , ⟨0x60, 0x0, 1, .rwk, 0x0, 0xFFFFFFC0, [], [4]⟩
  , ⟨0x64, 0x0, 1, .rwk, 0x0, 0xFF, [], []⟩
  , ⟨0x68, 0x0, 1, .rwk, 0x0, 0xFFFFFFFF, [], []⟩
  , ⟨0x6C, 0x0, 1, .rwk, 0x0, 0xF, [], []⟩
  , ⟨0x70, 0x0, 1, .rws, 0x0, 0x70F, [], []⟩
  , ⟨0x74, 0x0, 1, .rwk, 0x0, 0x7F, [], []⟩
  , ⟨0x78, 0x0, 1, .rwk, 0x0, 0x3F, [], []⟩
  , ⟨0x7C, 0x0, 1, .rwk, 0x0, 0xF, [], []⟩
  , ⟨0x80, 0x0, 1, .ro, 0x0, 0x0, [], []⟩
  , ⟨0xC0, 0x4, 16, .rwk, 0x0, 0xFFFFFFFF, [], []⟩
  , ⟨0x100, 0x4, 34, .ro, 0x0, 0x0, [], []⟩ ]

/-- Rows of the `secPage1` pages. -/
def rowsSecPage1 : List RegRow :=
  [ ⟨0x40, 0x4, 16, .rw, 0x0, 0xFFFFFFFF, [], []⟩
  , ⟨0x80, 0x0, 1, .wo, 0x0, 0xFFFFFFFF, [], []⟩
  , ⟨0x84, 0x0, 1, .ro, 0x0, 0x0, [], []⟩
  , ⟨0x100, 0x4, 115, .ro, 0x0, 0x0, [], []⟩
  , ⟨0x2D0, 0x0, 1, .rwk, 0x2, 0x3, [], []⟩
  , ⟨0x2D4, 0x0, 1, .wo, 0x0, 0xFFFFFFFF, [], []⟩
  , ⟨0x2D8, 0x0, 1, .ro, 0x0, 0x0, [], []⟩
  , ⟨0x300, 0x4, 16, .ro, 0x0, 0x0, [], []⟩
  , ⟨0x400, 0x4, 87, .wo, 0x0, 0xFFFFFFFF, [], []⟩ ]

/-- Rows of the `pwrCommon` pages. -/
def rowsPwrCommon : List RegRow :=
  [ ⟨0x40, 0x0, 1, .wo, 0x0, 0xFFFFFFFF, [], []⟩
  , ⟨0x44, 0x0, 1, .rw, 0x6400, 0xFF01, [.clamp 15 8 1 255], []⟩
  , ⟨0x48, 0x0, 1, .ro, 0x1, 0x0, [], []⟩
  , ⟨0x4C, 0x0, 1, .rwk, 0x0, 0x1, [], []⟩
  , ⟨0x50, 0x0, 1, .rws, 0x0, 0xFFFFFFFF, [], []⟩
  , ⟨0x54, 0x0, 1, .rw, 0x7D0, 0xFFFF, [.clamp 15 0 100 60000], []⟩
  , ⟨0x58, 0x0, 1, .ro, 0x0, 0x0, [], []⟩
  , ⟨0x5C, 0x0, 1, .ro, 0x0, 0x0, [], []⟩
  , ⟨0x60, 0x0, 1, .ro, 0x0, 0x0, [], []⟩ ]

/-- Rows of the `pwrGate` pages. -/
def rowsPwrGate : List RegRow :=
  [ ⟨0x40, 0x0, 1, .rw, 0x0, 0xFFFFFFFF, [], []⟩
  , ⟨0x44, 0x0, 1, .rw, 0x0, 0xFFFFFFFF, [], []⟩
  , ⟨0x48, 0x0, 1, .rw, 0x0, 0xFFFFFFFF, [], []⟩
  , ⟨0x4C, 0x0, 1, .ro, 0x0, 0x0, [], []⟩ ]

/-- Rows of the `mgtCommon` pages. -/
def rowsMgtCommon : List RegRow :=
  [ ⟨0x40, 0x0, 1, .rwk, 0x0, 0xFFF00000, [], [4]⟩
  , ⟨0x44, 0x0, 1, .rwk, 0x0, 0xFF, [], []⟩
  , ⟨0x48, 0x0, 1, .ro, 0x110, 0x0, [], []⟩
  , ⟨0x4C, 0x0, 1, .wo, 0x0, 0xFFFFFFFF, [], []⟩
  , ⟨0x50, 0x0, 1, .ro, 0x0, 0x0, [], []⟩
  , ⟨0x54, 0x0, 1, .rc, 0x0, 0x0, [], []⟩ ]

/-- Rows of the `mgtPage1` pages. -/
def rowsMgtPage1 : List RegRow :=
  [ ⟨0x40, 0x4, 5, .wo, 0x0, 0xFFFFFFFF, [], []⟩
  , ⟨0x80, 0x4, 16, .rw, 0x0, 0xFFFFFFFF, [], []⟩ ]

/-- Rows of the `dcpCommon` pages. -/
def rowsDcpCommon : List RegRow :=
  [ ⟨0x40, 0x0, 1, .ro, 0x0, 0x0, [], []⟩ ]

end Sys2Proof.Machine
end

