-- ==== Sys2Proof/Machine/Operands.lean ====
section
/-! DEFINITION. How the operands of a command are read: party codes, pages and their sources, register rows, and the value
that a write of a register stores. -/
namespace Sys2Proof.Machine

/-- The party codes of R31. -/
def partyCode : Party → Nat
  | .h0 => 0 | .h1 => 1 | .h2 => 2 | .h3 => 3 | .bmc => 4 | .mgt => 5 | .dbg => 6

/-- The party of a code; codes above 6 do not occur. -/
def partyOf : Nat → Party
  | 0 => .h0 | 1 => .h1 | 2 => .h2 | 3 => .h3 | 4 => .bmc | 5 => .mgt | _ => .dbg

/-- The host port of a party, where it is one. -/
def partyPort : Party → Option Nat
  | .h0 => some 0 | .h1 => some 1 | .h2 => some 2 | .h3 => some 3 | _ => none

/-- A run of sources: the first, how many each page has, how many pages, and the first page (block and page). -/
structure SrcRange where
  first : Nat
  per : Nat
  pages : Nat
  block : Nat
  page : Nat
  deriving DecidableEq, Repr

/-- Event sources by page (the event table of R41 and the chapters' event tables; reserved sources of a page's range are
counted as R453 does, at most 32 to a page; log 5). -/
def evtRanges : List SrcRange :=
  [ ⟨0, 32, 1, 0, 0⟩, ⟨32, 16, 1, 1, 0⟩, ⟨48, 16, 1, 2, 0⟩, ⟨64, 32, 8, 2, 1⟩, ⟨320, 32, 1, 2, 9⟩
  , ⟨352, 8, 1, 3, 0⟩, ⟨360, 4, 6, 3, 1⟩, ⟨384, 4, 40, 4, 1⟩, ⟨544, 4, 26, 5, 1⟩, ⟨648, 32, 1, 5, 0⟩
  , ⟨704, 8, 1, 6, 0⟩, ⟨712, 4, 6, 6, 1⟩, ⟨736, 8, 6, 7, 1⟩, ⟨784, 2, 96, 7, 8⟩, ⟨976, 16, 1, 7, 0⟩
  , ⟨992, 16, 4, 8, 1⟩, ⟨1056, 16, 4, 8, 5⟩, ⟨1120, 32, 1, 8, 0⟩, ⟨1248, 4, 24, 9, 1⟩, ⟨1344, 4, 4, 10, 1⟩
  , ⟨1360, 16, 1, 10, 0⟩, ⟨1376, 8, 4, 11, 1⟩, ⟨1408, 32, 1, 11, 0⟩, ⟨1440, 32, 6, 12, 1⟩, ⟨1632, 32, 4, 13, 1⟩
  , ⟨1760, 16, 1, 14, 0⟩, ⟨1776, 8, 2, 14, 1⟩, ⟨1824, 2, 8, 15, 1⟩, ⟨1840, 16, 1, 15, 0⟩, ⟨1856, 32, 1, 16, 0⟩
  , ⟨1888, 16, 1, 17, 0⟩, ⟨1904, 16, 1, 18, 0⟩, ⟨1920, 16, 1, 19, 0⟩, ⟨1936, 16, 1, 20, 0⟩, ⟨1952, 32, 1, 21, 1⟩ ]

/-- Fault sources by page (R332 and the chapters' fault tables; reserved sources counted, at most 15 to a page; log 5). -/
def fltRanges : List SrcRange :=
  [ ⟨0, 15, 1, 0, 0⟩, ⟨16, 4, 1, 1, 0⟩, ⟨20, 12, 1, 2, 0⟩, ⟨32, 8, 1, 3, 0⟩, ⟨40, 15, 1, 4, 0⟩, ⟨80, 2, 26, 5, 1⟩
  , ⟨132, 8, 1, 5, 0⟩, ⟨140, 8, 1, 6, 0⟩, ⟨148, 1, 96, 7, 8⟩, ⟨244, 2, 6, 7, 1⟩, ⟨256, 4, 1, 7, 0⟩
  , ⟨260, 2, 1, 8, 0⟩, ⟨262, 1, 4, 8, 5⟩, ⟨292, 2, 24, 9, 1⟩, ⟨340, 2, 4, 10, 1⟩, ⟨348, 8, 1, 10, 0⟩
  , ⟨356, 4, 1, 11, 0⟩, ⟨360, 1, 4, 11, 1⟩, ⟨364, 8, 6, 12, 1⟩, ⟨412, 8, 4, 13, 1⟩, ⟨444, 15, 1, 14, 0⟩
  , ⟨460, 15, 1, 15, 0⟩, ⟨476, 4, 1, 16, 0⟩, ⟨480, 8, 1, 17, 0⟩, ⟨488, 4, 1, 18, 0⟩, ⟨492, 8, 1, 19, 0⟩
  , ⟨500, 4, 1, 20, 0⟩, ⟨504, 8, 1, 21, 0⟩ ]

/-- The page base and bit of a source. -/
def srcLoc (l : List SrcRange) (src : Nat) : Option (Nat × Nat) :=
  match l with
  | [] => none
  | r :: t =>
    if r.first ≤ src ∧ src < r.first + r.per * r.pages then
      some (Reg.page r.block (r.page + (src - r.first) / r.per), (src - r.first) % r.per)
    else srcLoc t src

/-- First source and count of a page. -/
def pageSrc (l : List SrcRange) (b p : Nat) : Nat × Nat :=
  match l with
  | [] => (0, 0)
  | r :: t => if r.block = b ∧ r.page ≤ p ∧ p < r.page + r.pages then (r.first + r.per * (p - r.page), r.per) else pageSrc t b p

/-- The highest present page of a block, R22 (HIF and PLK have gaps, see `pagePresent`). -/
def lastPage : Nat → Nat
  | 0 => 23 | 1 => 12 | 2 => 11 | 3 => 6 | 4 => 40 | 5 => 26 | 6 => 6 | 7 => 103 | 8 => 8 | 9 => 24 | 10 => 4 | 11 => 4
  | 12 => 6 | 13 => 4 | 14 => 2 | 15 => 9 | 16 => 2 | 17 => 3 | 18 => 1 | 19 => 1 | 20 => 1 | 21 => 1 | _ => 0

/-- Host ports that the strap value creates (R20). -/
def strapPorts (strap : Nat) : Nat := if strap = 1 then 2 else if strap = 2 then 4 else 1

/-- Page `p` of block `b` is present when the strap creates `ports` ports (R22, R23). -/
def pagePresent (ports b p : Nat) : Bool :=
  decide (b < 22) && decide (p ≤ lastPage b) &&
  (match b with
   | 0 => if 1 ≤ p ∧ p ≤ 4 then decide (p - 1 < ports) else decide (p < 12 ∨ 16 ≤ p)
   | 7 => decide (p ≠ 7)
   | 8 => if 5 ≤ p then decide (p - 5 < ports) else true
   | 11 => if 1 ≤ p then decide (p - 1 < ports) else true
   | _ => true)

/-- MSI-X table and PBA pages have no header (R24). -/
def hasHeader (b p : Nat) : Bool := !(b == 0 && decide (16 ≤ p))

/-- PAGE_CAPS.HAS_SHADOW: the GEO common page (R60), layer pages (R67), TON pages (R153). -/
def hasShadow (b p : Nat) : Bool :=
  match b with
  | 3 => p == 0
  | 4 => decide (1 ≤ p)
  | 6 => true
  | _ => false

/-- PAGE_CAPS.DRAINABLE: pages whose chapter gives the function work in flight and a drain (DEDUCED, log 5). -/
def drainable (b p : Nat) : Bool :=
  match b with
  | 2 => p == 0 | 3 => p == 0 | 5 => true | 6 => p == 0 | 7 => decide (1 ≤ p ∧ p ≤ 6) | 8 => decide (1 ≤ p) | 9 => decide (1 ≤ p)
  | 10 => decide (1 ≤ p) | 11 => true | 12 => true | 13 => decide (1 ≤ p) | 17 => p == 1 | 18 => p == 0
  | _ => false

/-- The fixed PAGE_OWNER of a page, where it has one (R32, R42, R132, R413, R431). -/
def fixedOwner (b p : Nat) : Option Nat :=
  match b with
  | 0 => if 6 ≤ p ∧ p ≤ 11 then some 0x3F else none
  | 1 => if p = 0 then none else some (nth 0x20 [1, 2, 4, 8, 0x20, 0x20] ((p - 1) / 2))
  | 2 => if p = 9 then some 0x3F else none
  | 19 => if p = 1 then some 0x3F else none
  | 21 => if p = 1 then some 0x3F else none
  | _ => none

/-- PAGE_ID.INSTANCE: the unit's number, 0xFF on a common page, the page number where the page is no unit's (R24; log 5). -/
def instanceOf (b p : Nat) : Nat :=
  if p = 0 then 0xFF else
  match b with
  | 0 => if p ≤ 4 then p - 1 else if 6 ≤ p ∧ p ≤ 11 then p - 6 else p
  | 1 => (p - 1) / 2
  | 2 => p
  | 7 => if p ≤ 6 then p - 1 else p - 8
  | 8 => if p ≤ 4 then p - 1 else p - 5
  | 15 => if p ≤ 8 then p - 1 else p
  | 16 => p | 17 => p | 18 => p | 19 => p | 20 => p | 21 => p
  | _ => p - 1

/-- PAGE_CAPS as R24 lays it out. -/
def pageCaps (b p : Nat) : Word :=
  let e := pageSrc evtRanges b p
  let f := pageSrc fltRanges b p
  wd (e.1 * 2 ^ 21 + e.2 * 2 ^ 15 + f.1 * 2 ^ 6 + f.2 * 2 ^ 2 + b2n (hasShadow b p) * 2 + b2n (drainable b p))

/-- EVT_SUM_w of the EVT common page (R44). -/
def rowsEvtSum : List RegRow := [⟨0x40, 4, 64, .ro, 0, 0, [], []⟩]

/-- Route entries (R42): bits [14:8] of each half are reserved. -/
def rowsRoute : List RegRow := [⟨0x40, 4, 512, .rw, 0, 0x80FF80FF, [], []⟩]

/-- MSI-X table of 256 vectors (PRESUMED PCI Express layout, log 4): address low, address high, data, vector control. -/
def rowsMsix : List RegRow :=
  [ ⟨0x0, 16, 256, .rw, 0, 0xFFFFFFFC, [], []⟩, ⟨0x4, 16, 256, .rw, 0, 0xFFFFFFFF, [], []⟩
  , ⟨0x8, 16, 256, .rw, 0, 0xFFFFFFFF, [], []⟩, ⟨0xC, 16, 256, .rw, 1, 0x1, [], []⟩ ]

/-- Pending bits of 256 vectors, read only (PRESUMED PCI Express layout, log 4). -/
def rowsPba : List RegRow := [⟨0x0, 4, 8, .ro, 0, 0, [], []⟩]

/-- The rows beyond the header of page `p` of block `b`. -/
def rowsOf (b p : Nat) : List RegRow :=
  match b with
  | 0 => if p = 0 then rowsHifCommon else if p ≤ 4 then rowsHifPort else if p = 5 then rowsPigeonhole
         else if p ≤ 11 then rowsCsSlot else if p ≤ 19 then rowsMsix else rowsPba
  | 1 => if p = 0 then rowsEvtSum else rowsRoute
  | 2 => if p = 0 then rowsCmtCommon else if p ≤ 8 then rowsFence else if p = 9 then rowsTake else if p = 10 then rowsCue else rowsSync
  | 3 => if p = 0 then rowsGeoCommon else rowsGeoTile
  | 4 => if p = 0 then rowsLyrCommon else if p = 40 then rowsSlate ++ rowsLyrPage ++ rowsLyrInd else rowsSlate ++ rowsLyrPage
  | 5 => if p = 0 then rowsSynCommon else rowsSlice
  | 6 => if p = 0 then rowsTonCommon else rowsTonTile
  | 7 => if p = 0 then rowsPlkCommon else if p ≤ 6 then rowsPlkGroup else rowsPlkLane
  | 8 => if p = 0 then rowsIngCommon else if p ≤ 4 then rowsIngRx else rowsTray
  | 9 => if p = 0 then rowsDcpCommon else rowsDcpEngine
  | 10 => if p = 0 then rowsCmpCommon else rowsCmpEngine
  | 11 => if p = 0 then rowsBlkCommon else rowsBlkQueue
  | 12 => if p = 0 then rowsDmcCommon else rowsDmcChannel
  | 13 => if p = 0 then rowsNetCommon else rowsNetPort
  | 14 => if p = 0 then rowsTimCommon else rowsTimDomain
  | 15 => if p = 0 then rowsClkCommon else if p ≤ 8 then rowsPll else rowsClkOut
  | 16 => if p = 0 then rowsFltCommon else if p = 1 then rowsFltPend else rowsFltLog
  | 17 => if p = 0 then rowsSvcCommon else if p = 1 then rowsSvcPanel else if p = 2 then rowsSvcStore else rowsSvcSensor
  | 18 => if p = 0 then rowsCalCommon else rowsCalPage
  | 19 => if p = 0 then rowsSecCommon else rowsSecPage1
  | 20 => if p = 0 then rowsPwrCommon else rowsPwrGate
  | 21 => if p = 0 then rowsMgtCommon else rowsMgtPage1
  | _ => []

/-- The row that covers an offset of a page. -/
def findRow (off : Nat) : List RegRow → Option RegRow
  | [] => none
  | r :: t =>
    if r.off ≤ off ∧ (if r.stride = 0 then off = r.off else (off - r.off) % r.stride = 0 ∧ (off - r.off) / r.stride < r.count)
    then some r else findRow off t

/-- The register row at a BAR0 offset, whatever the strap; none where no table defines the offset (R23). SHADOW_CTRL is
reserved on pages without shadows (R24). -/
def regRow (a : Nat) : Option RegRow :=
  let b := a / 0x100000
  let p := a / 0x1000 % 256
  let off := a % 0x1000
  if b < 22 ∧ p ≤ lastPage b then
    if hasHeader b p ∧ off < 0x40 then
      if off = 0x30 ∧ !hasShadow b p then none
      else findRow off rowsHeader
    else findRow off (rowsOf b p)
  else none

/-- The register is a PAGE_OWNER whose value the spec fixes (R32, R42, R132, R413, R431): RWK like every PAGE_OWNER, but nothing changes it. -/
def ownerFixed (a : Nat) : Bool := decide (a % 0x1000 = 8) && (fixedOwner (a / 0x100000) (a / 0x1000 % 256)).isSome

/-- Writable bits of a header register, by page: event bits above EVT_COUNT are reserved (R25), SHADOWED of a layer page stays 1 (R67), and so
on. -/
def headerMask (b p off : Nat) : Nat :=
  let ev := 2 ^ (pageSrc evtRanges b p).2 - 1
  match off with
  | 0x8 => 0x3F | 0xC => 0x1F | 0x18 => ev | 0x1C => ev | 0x20 => ev | 0x28 => 0xFFFF | 0x2C => 0xFF
  | 0x30 => if b = 4 then 0x1F00 else 0x1F01
  | 0x38 => 0xFFFF
  | _ => 0

/-- Writable bits of the register at a BAR0 offset (R6). -/
def writeMask (a : Nat) (r : RegRow) : Nat :=
  let b := a / 0x100000
  let p := a / 0x1000 % 256
  if hasHeader b p ∧ a % 0x1000 < 0x40 then headerMask b p (a % 0x1000) else r.mask

/-- Registers whose reset value differs by instance, or whose page is in service after reset: PLL_CTRL (R328); the core PLLs and the time
PLL, which run FREERUN (R326); the panel page, which is enabled (R376); PWR_IDCODE, whose revision and JEP106 code are fuses (R426, log 2). -/
def specialReset : List (Nat × Nat) :=
  [ (Reg.PLL_CTRL 0, 0x410), (Reg.PLL_CTRL 1, 0x410), (Reg.PLL_CTRL 2, 0x400), (Reg.PLL_CTRL 3, 0x410), (Reg.PLL_CTRL 4, 0x410)
  , (Reg.PLL_CTRL 5, 0x410), (Reg.PLL_CTRL 6, 0x410), (Reg.PLL_CTRL 7, 0x200)
  , (Reg.PAGE_CTRL (Reg.page 15 1), 1), (Reg.PAGE_CTRL (Reg.page 15 2), 1), (Reg.PAGE_CTRL (Reg.page 15 8), 1)
  , (Reg.PAGE_STATUS (Reg.page 15 1), 2), (Reg.PAGE_STATUS (Reg.page 15 2), 2), (Reg.PAGE_STATUS (Reg.page 15 8), 2)
  , (Reg.PLL_STATUS 0, 0x32), (Reg.PLL_STATUS 1, 0x32), (Reg.PLL_STATUS 7, 0x32)
  , (Reg.PAGE_CTRL (Reg.page 17 1), 1), (Reg.PAGE_STATUS (Reg.page 17 1), 1), (Reg.PWR_IDCODE, 0x128001) ]

/-- The reset value of the register at a BAR0 offset, as its table gives it (R24 and the chapters). -/
def resetWord (a : Nat) : Word :=
  match specialReset.find? (fun e => e.1 == a) with
  | some e => wd e.2
  | none =>
  let b := a / 0x100000
  let p := a / 0x1000 % 256
  let off := a % 0x1000
  if b < 22 ∧ p ≤ lastPage b then
    if hasHeader b p ∧ off < 0x40 then
      if off = 0 then wd ((b + 1) * 2 ^ 16 + instanceOf b p * 2 ^ 8 + 1)
      else if off = 4 then pageCaps b p
      else if off = 8 then wd ((fixedOwner b p).getD 0x20)
      else if off = 0x30 then wd (b2n (hasShadow b p))
      else match findRow off rowsHeader with | some r => wd r.reset | none => 0
    else match findRow off (rowsOf b p) with | some r => wd r.reset | none => 0
  else 0

/-- R452: one field limited. -/
def applyLim (w : Word) : FieldLim → Word
  | .clamp hi lo mn mx => setFld w hi lo (clampN mn mx (fld w hi lo))
  | .other hi lo mn mx d => if mn ≤ fld w hi lo ∧ fld w hi lo ≤ mx then w else setFld w hi lo d
  | .below hi lo hi' lo' => setFld w hi lo (min (fld w hi lo) (fld w hi' lo' - 1))
  | .signed bound => wd (unsgn 32 (clampI (-(bound : Int)) bound (sgn 32 w.toNat)))
  | .signedFld hi lo bound => let n := hi + 1 - lo; setFld w hi lo (unsgn n (clampI (-(bound : Int)) bound (sgn n (fld w hi lo))))
  | .taps => if 63 < fld w 11 8 + fld w 29 24 + fld w 20 16 then setFld w 29 24 (63 - fld w 11 8 - fld w 20 16) else w

/-- What a write of `v` stores in a register that holds `old`: reserved bits ignored (R6), numbers limited (R452), W1C and W1S
applied to what is there (R8). -/
def storedWord (a : Nat) (r : RegRow) (old v : Word) : Word :=
  let m := wd (writeMask a r)
  match r.acc with
  | .w1c => old &&& ~~~(v &&& m)
  | .w1s => old ||| (v &&& m)
  | .rw => r.lims.foldl applyLim ((old &&& ~~~m) ||| (v &&& m))
  | .rws => r.lims.foldl applyLim ((old &&& ~~~m) ||| (v &&& m))
  | .rwk => r.lims.foldl applyLim ((old &&& ~~~m) ||| (v &&& m))
  | .ro => old
  | .wo => old
  | .rc => old

end Sys2Proof.Machine
end

