-- ==== Sys2Proof/Machine/Sparse.lean ====
section
/-! DEFINITION. Sparse maps from a number to plain data: a list of pairs with strictly rising keys that lists no entry equal
to what an unlisted key reads as. Device memory (spec/12_ddr5_memory.md R252), the register file and the large on-chip
tables are held so. -/
namespace Sys2Proof.Machine.Sparse

variable {α : Type}

/-- What key `k` reads as: its entry, or the default. -/
def get (d : Nat → α) : List (Nat × α) → Nat → α
  | [], k => d k
  | (j, v) :: t, k => if j = k then v else get d t k

/-- A pair put in its place by key. -/
def insert (k : Nat) (v : α) : List (Nat × α) → List (Nat × α)
  | [] => [(k, v)]
  | (j, w) :: t => if k < j then (k, v) :: (j, w) :: t else (j, w) :: insert k v t

/-- The map without key `k`. -/
def erase (k : Nat) : List (Nat × α) → List (Nat × α)
  | [] => []
  | (j, w) :: t => if j = k then erase k t else (j, w) :: erase k t

/-- The map in which `k` reads as `v`; an entry equal to the default is not listed. -/
def set [DecidableEq α] (d : Nat → α) (m : List (Nat × α)) (k : Nat) (v : α) : List (Nat × α) :=
  if v = d k then erase k m else insert k v (erase k m)

/-- The canonical form: keys strictly rising from `lo` on, no entry equal to the default. -/
def wfFrom [DecidableEq α] (d : Nat → α) : Nat → List (Nat × α) → Bool
  | _, [] => true
  | lo, (j, v) :: t => decide (lo ≤ j) && decide (v ≠ d j) && wfFrom d (j + 1) t

/-- The canonical form. -/
def wf [DecidableEq α] (d : Nat → α) (m : List (Nat × α)) : Bool := wfFrom d 0 m

/-- The map without the keys that `p` names. -/
def dropKeys (p : Nat → Bool) (m : List (Nat × α)) : List (Nat × α) := m.filter fun e => !p e.1

end Sys2Proof.Machine.Sparse
end

