-- ==== Sys2Proof/Machine/State.lean ====
section
/-! DEFINITION. The state of the block as plain data, and the state right after reset. Registers of the BAR0 map live in one
sparse register file, keyed by byte offset; what the spec gives the machine beyond its registers has a field of its own. -/
namespace Sys2Proof.Machine

/-- Why a step can stop with a fault. -/
inductive Fault where
  /-- Raised by no command: the spec gives every command an effect. Safe. -/
  | noFault
  deriving DecidableEq, Repr

/-- Why a step can be refused. -/
inductive Refusal where
  /-- Raised by `exec` for a command that has no meaning yet. Safe: the model stops where the device goes on. -/
  | notModelled (mnemonic : String)
  deriving DecidableEq, Repr


/-- What the last command that reads returned. -/
inductive Reply where
  | none | word (w : Word) | bytes (l : List Byte) | unsupportedRequest | completerAbort | noAnswer
  deriving DecidableEq, Repr

/-! ### Host interface and event router (spec/02_register_pages_and_hosts.md) -/

/-- HIF and EVT state that is not a register. -/
structure Hif where
  /-- High words latched by a low-word read (R5); key party × 2^26 + offset of the high word. -/
  latch : List (Nat × Option Word)
  /-- Low words held by a low-word write (R5); key party × 2^26 + offset of the low word. -/
  hold : List (Nat × Option Word)
  /-- Staged countersign digest words (R33); key (slot × 8 + party) × 16 + word. -/
  csSign : List (Nat × Option Word)
  /-- Sources recorded while the router's self-test runs (R454), ascending. -/
  routerHeld : List Nat
  /-- Channels recorded for a SUSPENDED pigeonhole (R40, R272): pigeonhole to channel mask. -/
  phChannels : List (Nat × Nat)
  /-- The STATE a page held before its self-test (R455); key page number. -/
  testPrev : List (Nat × Nat)
  /-- Pages whose drain has become, or is, a discard (R26); key page number. -/
  discard : List (Nat × Bool)
  /-- The MSI-X vectors that have sent a message in the present fabric cycle (R43). -/
  cycleVecs : List (Nat × Nat)
  /-- MSI-X Enable and Function Mask of each port's capability (R43). -/
  msix : List (Bool × Bool)
  deriving DecidableEq, Repr

/-! ### Fault collector (spec/15_faults_and_fencing.md) -/

/-- An open secondary window (R345): its sequence number, the units it covers, whether it has absorbed a fault. -/
structure Window where
  seq : Nat
  cover : List FUnit
  hit : Bool
  deriving DecidableEq, Repr

/-- What the collector keeps per source beside its pending and lasting bits (R334, R340, R348). -/
structure FltSrc where
  /-- Class of the latest record (R348). -/
  cls : Nat
  /-- The latest record is a lasting raise with ACTION NO_UNIT (R348). -/
  noUnit : Bool
  /-- The pending bit was set by a PRIMARY or SAME_CYCLE record of class FENCE (R351). -/
  pairCause : Bool
  /-- Window count and start (R340). -/
  n : Nat
  t0 : Nat
  raises : Nat
  deriving DecidableEq, Repr

/-- The collector's state that is not a register. -/
structure Flt where
  src : List (Nat × FltSrc)
  /-- Open windows, oldest first (R346). -/
  windows : List Window
  /-- The log (R338): slot to record number and words. -/
  log : List (Nat × (Nat × List Word))
  /-- Sub-arrays that have raised source 133 since its bit was last cleared (R342). -/
  subarrays : List Nat
  /-- A switch of the GEO or TON banks has been made since source 33 or 141 was last raised (R342). -/
  geoSwitched : Bool
  tonSwitched : Bool
  deriving DecidableEq, Repr

/-! ### Memory controller (spec/12_ddr5_memory.md) -/

/-- One retirement table entry (R269). -/
structure RetEntry where
  page : Nat
  poisoned : Bool
  deriving DecidableEq, Repr

/-- One rank's refresh and power state (R259 to R265). -/
structure Rank where
  debt : Nat
  cls : Nat
  /-- Refreshes left of a priority batch (R261). -/
  batch : Nat
  powerDown : Bool
  selfRefresh : Bool
  /-- Command slots until tRFC of the latest refresh has passed (R261). -/
  rest : Nat
  /-- Out of self-refresh and not read yet: its mode register is read before any other command (R260). -/
  mustRead : Bool
  /-- The oscillator count of training stage 6, and the drift from it whose step shifts the write DQ delays (R250). -/
  base : Nat
  shift : Int
  deriving DecidableEq, Repr

/-- A rank as it stands after initialisation. -/
def Rank.fresh : Rank := ⟨0, 0, 0, false, false, 0, false, 0, 0⟩

/-- A request waiting in a subchannel's tracker (R255 to R257), oldest first in its list. -/
structure Queued where
  rq : MemReq
  la : Nat
  age : Nat
  /-- Its place in the order in which the subchannel took its requests (R257). -/
  seq : Nat
  deriving DecidableEq, Repr

/-- One subchannel's tracker: requests waiting, the line addresses whose write waits, the classes of the last
256 transfers, the open row plus one by bank, and whether a write batch is under way. -/
structure SubChan where
  queue : List Queued
  issued : List Queued
  history : List MemClass
  rows : List (Nat × Nat)
  writing : Bool
  /-- The place of the next request taken. -/
  next : Nat
  deriving DecidableEq, Repr

/-- One channel's state that is not a register. -/
structure DmcChan where
  dimms : List Dimm
  retired : List RetEntry
  /-- Corrected errors per page since power-on (R269). -/
  corr : List (Nat × Nat)
  /-- Pages queued for retirement (R269). -/
  copies : List Nat
  /-- Ranks held in self-refresh across the latest warm reset (R249). -/
  held : Bool
  /-- Self-refresh is entered once the requests in flight are complete (R417). -/
  srDue : Bool
  training : Bool
  keep : Bool
  ranks : List Rank
  subA : SubChan
  subB : SubChan
  /-- Requests that a full tracker or write buffer holds back, in order: in the 64-deep crossing and, beyond it, at their senders (R14). -/
  inbox : List Queued
  /-- Lines that read uncorrectable (R267, R269), by line number of the device's cells. -/
  bad : List (Nat × Bool)
  /-- Lines scrubbed in the present pass; the pass is complete; it has been reported behind (R268). -/
  scrubPos : Nat
  passDone : Bool
  behind : Bool
  replays : Nat
  /-- Bytes read and written since the last whole 64 KiB that the byte counters count (R276). -/
  rdRem : Nat
  wrRem : Nat
  /-- Controller cycles in power-down below 1,024 (R276). -/
  pdRem : Nat
  /-- Retired pages saved in the boot flash (R270, R418). -/
  saved : List Nat
  deriving DecidableEq, Repr

/-- One set of the interleave map in force (R251, R252). -/
structure ISet where
  valid : Bool
  chmask : Nat
  base : Nat
  units : Nat
  off : List Nat
  online : Bool
  deriving DecidableEq, Repr

/-- The memory controller's state that is not a register. -/
structure Dmc where
  chans : List DmcChan
  /-- The map latched at the common page's ENABLE, empty while the page is disabled (R251, R274). -/
  map : List ISet
  deriving DecidableEq, Repr

/-- An empty subchannel. -/
def SubChan.reset : SubChan := ⟨[], [], [], [], false, 0⟩

/-- A channel after power-on reset. -/
def DmcChan.reset : DmcChan :=
  ⟨[], [], [], [], false, false, false, false, List.replicate 4 Rank.fresh, SubChan.reset, SubChan.reset, [], [], 0, false, false, 0, 0, 0, 0, []⟩

/-! ### Service die (spec/16_service_die_and_status_panel.md) -/

/-- What the panel driver is doing: an update (R363), the rewrite at power-up (R365), the rewrite on joining (R371), a reload
after a failed check (R370), a refresh of one common (R367), the fault pixel's common (R368). -/
inductive PanelKind where
  | update | restore | join | reload | refresh | faultPixel
  deriving DecidableEq, Repr

/-- One run of the panel driver. The head of `todo` is the common in drive, in band `band`. -/
structure PanelRun where
  kind : PanelKind
  image : List Byte
  old : List Byte
  todo : List Nat
  rewriting : Bool
  band : Nat
  /-- The band each common of the run was written in (R362). -/
  bands : List (Nat × Nat)
  deriving DecidableEq, Repr

/-- A retained-store operation of SVC page 2 in progress (R359, R376). -/
structure StoreOp where
  write : Bool
  unit : Nat
  data : List Byte
  deriving DecidableEq, Repr

/-- The service die's state that is not a register. -/
structure Svc where
  /-- The retained store, 4 KiB of bytes (R358); unlisted bytes read zero. -/
  store : List (Nat × Byte)
  /-- Units of the store that read uncorrectable (R359). -/
  storeBad : List Nat
  storeOp : Option StoreOp
  /-- Events routed to the service die, oldest first (R374). -/
  events : List Nat
  /-- SMB_ALERT_N is asserted (R374). -/
  alert : Bool
  /-- The pair has changed, and the service die has not yet answered for it with an empty queue (R374). -/
  pairAlert : Bool
  /-- The shown image in drive memory (R360, R370). -/
  drive : List Byte
  /-- The pixels as they stand on the panel, 30 bytes (R360). -/
  pixels : List Byte
  run : Option PanelRun
  /-- The latest queued image (R363). -/
  queued : Option (List Byte)
  /-- The common the next refresh takes (R367). -/
  refreshNext : Nat
  /-- The power-fail warning has been given since VDD_SVC was applied (R365). -/
  powerFail : Bool
  /-- The service die waits for VHOLD (R365). -/
  waitVhold : Bool
  /-- RESTORED is still to be raised (R365). -/
  owedRestored : Bool
  /-- The fault pair: driven faulted (R350, R351). -/
  pairFaulted : Bool
  /-- The fault pixel's common is due for an update (R368). -/
  pixelDue : Bool
  /-- COMPUTE_LOST holds (R352, R369). -/
  computeLost : Bool
  /-- The collector has still to log COMPUTE_LOST (R352). -/
  owedLost : Bool
  /-- The six commons are due to be rewritten after a failed check (R370). -/
  reloadDue : Bool
  /-- A refresh has fallen due (R367); VHOLD_LOW is still to be raised (R366). -/
  refreshDue : Bool
  owedLow : Bool
  /-- VDD_SVC is in range: the die is powered. -/
  powered : Bool
  /-- Trims (R377): the sensor ADC's gain, unsigned Q1.15, and the oscillator's steps of 0.05 %. -/
  gain : Nat
  oscTrim : Int
  deriving DecidableEq, Repr

/-- A service die just powered, panel and store blank. -/
def Svc.reset : Svc where
  store := []
  storeBad := []
  storeOp := none
  events := []
  alert := false
  pairAlert := false
  drive := List.replicate 32 0
  pixels := List.replicate 30 0
  run := none
  queued := none
  refreshNext := 0
  powerFail := false
  waitVhold := false
  owedRestored := false
  pairFaulted := true
  pixelDue := false
  computeLost := false
  owedLost := false
  reloadDue := false
  refreshDue := false
  owedLow := false
  powered := true
  gain := 0x8000
  oscTrim := 0

/-! ### Power and reset (spec/19_power_reset_debug.md) -/

/-- A transition between power states in progress (R415). -/
inductive PwrMove where
  | none | toHold | toStandby | powerUp (step : Nat) | powerDown (step : Nat)
  deriving DecidableEq, Repr

/-- Power and reset state that is not a register. -/
structure Pwr where
  /-- The power state, 0 to 3 for P0 to P3 (R415). -/
  state : Nat
  move : PwrMove
  /-- PWR_EN and PWR_PG, one bit per rail group (R440). -/
  enables : Nat
  good : Nat
  /-- Gates that are opening, by register of PWR page 1 and bit (R419). -/
  gatesOpening : List (Nat × Nat)
  /-- PAGE_CTRL writes stored for gated units (R419): page base and value. -/
  stored : List (Nat × Word)
  /-- PWR_AUTO_ON as sampled when VDD_SVC was applied (R421, R436). -/
  autoOn : Bool
  deriving DecidableEq, Repr

def Pwr.reset : Pwr := ⟨1, .none, 15, 15, [], [], false⟩

/-! ### Time unit (spec/13_network_and_time.md) -/

/-- The device's clock (R291): seconds, nanoseconds and the fraction of a nanosecond in units of 2^-46. -/
structure Clock where
  sec : Nat
  ns : Nat
  frac : Nat
  deriving DecidableEq, Repr

/-- What a lane sends in one block time (R157, R171): nothing; a control or data block, with its payload before scrambling and the 66 bits on the
line, the first sent in bit 0; or 66 bits of a raw test pattern. -/
inductive LaneWord where
  | silent | block (control : Bool) (payload line : Nat) | pattern (line : Nat)
  deriving DecidableEq, Repr

/-- What the device sends: the model's own record of its outputs. -/
inductive Output where
  | msix (port vec : Nat) (lo hi data : Word)
  | mgtLine (line : Nat)
  /-- What the logical lanes of a group send in one block time (R157, R160). -/
  | plkRow (group : Nat) (words : List LaneWord)
  /-- An Ethernet frame, from the destination address to the FCS, on network port `port`. -/
  | frame (port : Nat) (bytes : List Byte)
  /-- A received PTP frame handed to the firmware's PTP engine with its receive timestamp in units of 2^-16 ns (R280). -/
  | ptpIn (port stamp : Nat) (bytes : List Byte)
  /-- A PTP message of the firmware on a port: its messageType, and whether it is postmarked. -/
  | ptpOut (port kind : Nat) (postmark : Bool)
  /-- The fault collector's heartbeat to the service die (R352). -/
  | heartbeat
  deriving DecidableEq, Repr

/-! ### Table banks and their loads, shared by GEO and TON (spec/03_ray_geometry.md R57 to R62, spec/07 R151) -/

/-- A table load in progress: its image's address and length, the port whose rights it runs under (none for MGT), the image
bytes read so far, whether it is a repair's load (R62). -/
structure TLoad where
  addr : Nat
  len : Nat
  port : Option Nat
  buf : List Byte
  repair : Bool
  deriving DecidableEq, Repr

/-- An automatic repair (R62): none, waiting for its conditions, loading, armed. -/
inductive Repair where
  | none | waiting | loading | armed
  deriving DecidableEq, Repr

/-- One bank of tables (R57, R150): the layout its map is for (0 for TON), the identifier, T_REF (0 for TON), the words by
tile and index in canonical form over the nominal tables, and the words found damaged (R62). -/
structure Bank where
  layout : Nat
  ident : Nat
  tref : Nat
  words : List (Nat × Nat)
  damaged : List Nat
  deriving DecidableEq, Repr

/-- The two banks of a table unit, its load, whether the old bank is still being read (R58), and its repair. -/
structure TabUnit where
  bankA : Bank
  bankB : Bank
  load : Option TLoad
  frozen : Bool
  repair : Repair
  deriving DecidableEq, Repr

/-- Nominal tables (R47, R144 to R146) of a layout. -/
def Bank.nominal (layout : Nat) : Bank := ⟨layout, 0, 0, [], []⟩

def TabUnit.reset : TabUnit := ⟨Bank.nominal 0, Bank.nominal 0, none, false, .none⟩

/-! ### Ray geometry (spec/03_ray_geometry.md) -/

/-- A tile's temperature reading (R50): whether one has arrived, the reading, its age in ms; whether T_EFF has had its first
valid reading (R51). -/
structure GeoTile where
  has : Bool
  val : Nat
  age : Nat
  settled : Bool
  /-- A probe under way: GEO_PROBE as written (R64). -/
  probe : Option Word
  deriving DecidableEq, Repr

/-- GEO state that is not a register. -/
structure Geo where
  tab : TabUnit
  tiles : List GeoTile
  /-- The layout in force (R456). -/
  layout : Nat
  deriving DecidableEq, Repr

def Geo.reset : Geo := ⟨TabUnit.reset, List.replicate 6 ⟨false, 0, 0, false, none⟩, 0⟩

/-! ### Tone mapping (spec/07_tone_and_panel_encoding.md) -/

/-- TON state that is not a register. -/
structure Ton where
  tab : TabUnit
  /-- Values in force of the shadowed registers, by offset, over their reset values (R153). -/
  live : List (Nat × Word)
  /-- Writes that have not applied, by offset: the value, and whether it waits in the shadow (R153). -/
  wait : List (Nat × (Word × Bool))
  /-- Parties whose TON_COMMIT waits for the next latch point. -/
  commits : List Nat
  /-- Wear grids (R152) by tile × 4305 + point × 3 + colour, over 0x8000. -/
  wearA : List (Nat × Nat)
  wearB : List (Nat × Nat)
  /-- The inactive wear bank has been reported complete. -/
  wearReady : Bool
  deriving DecidableEq, Repr

def Ton.reset : Ton := ⟨TabUnit.reset, [], [], [], [], [], false⟩

/-! ### Layers (spec/04_layers_and_slates.md) -/

/-- LYR state that is not a register. -/
structure Lyr where
  /-- ENABLE as the latest latch point applied it, by layer (R84). -/
  on : List Bool
  /-- A refusal of R81, or of R76, has been raised and no shadow has been written since. -/
  refused : List Bool
  noScaler : List Bool
  /-- Layers to be disabled at the next latch point by a port reset with HIDE (R128). -/
  hide : List Nat
  /-- The layer has flipped since it was enabled (R84). -/
  flipped : List Bool
  deriving DecidableEq, Repr

def Lyr.reset : Lyr := ⟨List.replicate 40 false, List.replicate 40 false, List.replicate 40 false, [], List.replicate 40 false⟩

/-! ### Ray synthesis (spec/05_ray_synthesis.md) -/

/-- A row of a Print entry (R220): the lens row, the column of its first cell, the cells. -/
structure PrintRow where
  row : Nat
  first : Int
  cells : List (Option Nat)
  deriving DecidableEq, Repr

/-- A layer that takes part in a frame, as latched (R91): its index and active Slate words 0 to 11, its scaler, steps, and
whether the Print serves it. -/
structure FLayer where
  idx : Nat
  slate : List Nat
  scaler : Option Nat
  stepX : Nat
  stepY : Nat
  /-- Served from the Print (R220), as the front of a merged entry (R221), and the rows the entry holds. -/
  print : Bool
  merged : Bool
  stored : List PrintRow
  deriving DecidableEq, Repr

/-- One row of the Reel (R94): frame, layer, lens row, the column of its first stored cell, and the cells from there on; a cell
that is none, or outside the stored run, is transparent. -/
structure ReelRow where
  frame : Nat
  layer : Nat
  row : Nat
  first : Int
  cells : List (Option Nat)
  deriving DecidableEq, Repr

/-- One row of a fill (R96): the frame, the layer, the lens row, and the number of the walked band whose fill it is. -/
structure FillRow where
  frame : Nat
  layer : Nat
  row : Nat
  band : Nat
  deriving DecidableEq, Repr

/-- A source line held by a scaler (R79), or the line being read: its number, and its pixels, none where the read was denied or
came marked uncorrectable. -/
structure SrcLine where
  row : Nat
  px : List (Option Nat)
  deriving DecidableEq, Repr

/-- A deal (R92): frame and band; a tile region, or a proof view; its first lens column; the runs already sent (R106). -/
structure Deal where
  frame : Nat
  band : Nat
  view : Option Nat
  tile : Nat
  col : Nat
  sent : List Nat
  deriving DecidableEq, Repr

/-- A deal running on a slice: the next ray to hand out, the ray each lane works on, the finished rays of unsent runs. -/
structure Running where
  deal : Deal
  next : Nat
  lanes : List (Option Nat)
  results : List (Nat × (Int × Int × Int))
  /-- Runs whose rays are all finished, in the order they completed (R93). -/
  ready : List Nat
  deriving DecidableEq, Repr

/-- A slice (R89): what it holds, whether it waits to join at the next band boundary (R105), whether it leaves at the next one
(R104), and the parts of its counters below one unit (R109). -/
structure Slice where
  running : Option Running
  queued : Option Deal
  joining : Bool
  leaving : Bool
  rays : Nat
  samples : Nat
  term : Nat
  deriving DecidableEq, Repr

/-- A run on its way to a group (R93, R148): frame, lens cell within the region, emitter values. -/
structure Run where
  frame : Nat
  llx : Nat
  lly : Nat
  vals : List Nat
  deriving DecidableEq, Repr

/-- An item of a group queue (R158): a frame's start, held where the core side reports it so (R161); a run; the place of a run that was
dropped (R176); a frame's end, short where runs are missing. -/
inductive QItem where
  | start (frame : Nat) (held : Bool) | run (r : Run) | lost (frame : Nat) | fin (frame : Nat) (short : Bool)
  deriving DecidableEq, Repr

/-- The registers of one proof view as latched (R103): UV, both buffers, pitch, the port whose rights apply; and the buffer that is written, from
the frame's first write on. -/
structure PView where
  view : Nat
  u : Int
  v : Int
  addr0 : Nat
  addr1 : Nat
  pitch : Nat
  port : Option Nat
  buf : Option Nat
  deriving DecidableEq, Repr

/-- A frame in synthesis (R91), with everything that was latched for it. -/
structure Frame where
  num : Nat
  epoch : Nat
  layout : Nat
  regions : List Nat
  geoBank : Nat
  /-- Effective model of each tile: ox, oy, px, py (R52). -/
  eff : List (List Int)
  tonBank : Nat
  wearBank : Nat
  ton : List (Nat × Word)
  layers : List FLayer
  /-- Stale indicators shown, and their position, geometry and colour as latched (R83, R87). -/
  shown : List Nat
  ind : List Nat
  /-- Proof views rendered, those dropped, those whose writes were denied, finished pixels by view × 2^24 + row × 4096 + column, and
  the bands of each view that have been written. -/
  views : List PView
  pvCut : List Nat
  pvDenied : List Nat
  pvPix : List (Nat × Nat)
  pvDone : List (Nat × Nat)
  /-- The buffer index of lens row 0 in the rings (R94). -/
  ring : Nat
  /-- Bands to walk, how many of them have been filled, and how many started. -/
  bands : List Nat
  filled : Nat
  started : Nat
  /-- Deals not yet dealt, in order. -/
  deals : List Deal
  /-- Runs sent by region, layer-samples, rays terminated early, core cycles that bands waited for fills, in the frame; whether the next
  band waits now, and whether any has waited (R96, R108). -/
  runs : List Nat
  samples : Nat
  terms : Nat
  waits : Nat
  waiting : Bool
  waited : Bool
  /-- Regions that have raised SATURATED, CLIPPED, NEG_CLAMPED in the frame; the row of each cue line whose mode is ROW for the frame (R126,
  R133), and the ROW cues that have fired. -/
  sat : List Nat
  clip : List Nat
  neg : List Nat
  rows : List (Option Nat)
  cues : List Nat
  /-- Sums of 10-bit values by grid cell and colour (R390). -/
  light : List (Nat × Nat)
  /-- The frame has ended (R91), or was stopped while SYN is disabled or tests itself (R106). -/
  ended : Bool
  stopped : Bool
  deriving DecidableEq, Repr

/-- SYN state that is not a register. -/
structure Syn where
  /-- Frames in synthesis, oldest first: at most two. -/
  frames : List Frame
  slices : List Slice
  reel : List ReelRow
  fills : List FillRow
  /-- The source line being read for the first fill row, and the lines its layer's scaler holds. -/
  line : List (Option Nat)
  lines : List SrcLine
  /-- The first row of each layer's band fill from which on its staging was damaged (R88). -/
  spoilt : List FillRow
  /-- Sub-arrays waiting for repair, those remapped, and those that found no spare (R107). -/
  failed : List Nat
  remapped : List Nat
  dead : List Nat
  /-- Fewer than 24 slices have been active and the fault raised (R104). -/
  short : Bool
  /-- The buffer each view writes next (R103). -/
  pvNext : List Nat
  /-- Synthesis stops at the next band boundary (R106). -/
  stopping : Bool
  /-- The emitter queues of the groups (R93, R158). -/
  queues : List (List QItem)
  /-- SYN_SLACK_MIN has been read, and no frame has ended since (R108). -/
  slackRead : Bool
  deriving DecidableEq, Repr

def Slice.reset : Slice := ⟨none, none, false, false, 0, 0, 0⟩

def Syn.reset : Syn := ⟨[], List.replicate 26 Slice.reset, [], [], [], [], [], [], [], [], false, [0, 0, 0, 0], false, List.replicate 6 [], false⟩

/-! ### Frame epochs (spec/06_epochs_flips_takes.md) -/

/-- An epoch (R112): the frame count and the time in units of 2^-16 ns. -/
structure Epoch where
  count : Nat
  time : Nat
  deriving DecidableEq, Repr

/-- CMT state that is not a register. -/
structure Cmt where
  /-- CMT waits for the time unit's lock (R113), or for the first FRAME_SYNC_IN edge (R115). -/
  waitLock : Bool
  waitEdge : Bool
  /-- The next frame to latch; the latched frame whose epoch is to come. -/
  next : Option Epoch
  latched : Option Epoch
  /-- The latest epoch issued. -/
  last : Option Epoch
  /-- OFFSET (R114), in units of 2^-16 ns. -/
  offset : Int
  /-- The lead in force, µs (R117). -/
  lead : Nat
  /-- Cue registers in force: control and offset of each line (R133). -/
  cues : List (Nat × Nat)
  /-- Firings of each cue line since reset (R126), and the lines that have fired for the latest epoch in mode TIME (R127). -/
  cueCount : List Nat
  cueFired : List Nat
  /-- The latest accepted FRAME_SYNC_IN edge, the measured period, accepted edges in a row (R115), in units of 2^-16 ns. -/
  edge : Option Nat
  period : Nat
  good : Nat
  /-- FRAME_SYNC_OUT is high, when it last rose, and the epoch it rose for (R116), in units of 2^-16 ns. -/
  syncOut : Bool
  syncRise : Nat
  syncFor : Option Nat
  /-- Frames that a clock step has added to the count, for the epoch still to be set (R114). -/
  jump : Int
  /-- Fence advances that the R121 condition has seen: watch bits as last evaluated, by counter. -/
  watch : List (Nat × Bool)
  deriving DecidableEq, Repr

def Cmt.reset : Cmt := ⟨false, false, none, none, none, 0, 500, [(0, 0), (0, 0), (0, 0), (0, 0)], [0, 0, 0, 0], [], none, 0, 0, false, 0, none, 0, []⟩

/-! ### The Print (spec/10_compressor_and_print.md) -/

/-- One Print entry (R219 to R222): its STATE, front and last layer, units, pages, DEPTH_GROUP, the union of its members' extents as
first and last column and row, the strips still to be captured, and the rows captured. -/
structure PEntry where
  st : Nat
  front : Nat
  last : Nat
  units : Nat
  pages : Nat
  group : Nat
  box : List Int
  todo : List Nat
  rows : List PrintRow
  deriving DecidableEq, Repr

/-- The Print: its entries; the candidates refused, by DEPTH_GROUP, front layer, reason and members, since the group last changed;
the entries to be freed at the next latch point; EN, MERGE, the GEO tile enables and the layout as of the latest latch point. -/
structure Prt where
  entries : List PEntry
  refused : List (Nat × Nat × Nat × List Nat)
  drop : List Nat
  key : List Nat
  deriving DecidableEq, Repr

def PEntry.free : PEntry := ⟨0, 0, 0, 0, 0, 0, [], [], []⟩

def Prt.reset : Prt := ⟨List.replicate 8 PEntry.free, [], [], []⟩

/-- A strip being captured (R220): the entry, the strip, the first frame it may read, the frame it reads, and the rows read. -/
structure Capture where
  entry : Nat
  strip : Nat
  from_ : Nat
  frame : Option Nat
  rows : List (Nat × PrintRow)
  deriving DecidableEq, Repr

/-- A compression job (R209), as latched at START: its owner's party code, LEVEL, FORMAT, source, output buffers so far, receipt
address, TAG, fence, header bytes 0 to 27; source bytes consumed, payload bytes written and those in the current buffer; whether it
is suspended or to be discarded; and its stream once the engine has begun to make it. -/
structure CJob where
  owner : Nat
  level : Nat
  format : Nat
  src : Nat
  len : Nat
  bufs : List (Nat × Nat)
  rcpt : Nat
  tag : Nat
  fence : Option (Nat × Nat)
  hdr : List Byte
  consumed : Nat
  out : Nat
  cur : Nat
  suspended : Bool
  discard : Bool
  stream : Option (List Byte)
  deriving DecidableEq, Repr

/-- A compressor: its host job, its capture, whether it is to be fenced when its job ends (R217). -/
structure CmpEng where
  job : Option CJob
  capture : Option Capture
  leaving : Bool
  deriving DecidableEq, Repr

/-! ### Panel link (spec/08_colnus_panel_link.md) -/

/-- A lane beyond its registers. -/
structure Lane where
  /-- Fenced by a loss, or by a return that failed (R175); qualified to join at the next FRAME marker; leaving at the next release. -/
  byLoss : Bool
  ready : Bool
  leaving : Bool
  /-- Disabled while fenced, or fenced by a bring-up: only a new BRINGUP brings it back (R175). -/
  failed : Bool
  /-- Clean reports in a row with STATUS 2 or more, and with STATUS 4 (R169, R175); the RX_INPUT of the latest report (R167). -/
  clean : Nat
  good : Nat
  rxIn : Option Nat
  /-- The 58 latest bits out of the scrambler (R157), and the latest bits of the test pattern (R171), the oldest in bit 0. -/
  scr : Nat
  prbs : Nat
  deriving DecidableEq, Repr

/-- A group beyond its registers and its queue. -/
structure Grp where
  /-- The map in force (R156): logical lane to physical index. -/
  map : List Nat
  /-- Logical lanes that take part in the bring-up under way, and whether the stage is done and held by MANUAL (R169). -/
  taking : List Nat
  held : Bool
  /-- The data lanes that the next FRAME marker starts from (R173): those of the last one, or those of a bring-up since. -/
  data : List Nat
  /-- The frame being sent, its HOLD, the runs sent, and a run waiting for its pair (R159, R161). -/
  frame : Option Nat
  hold : Bool
  runs : Nat
  pair : Option Run
  /-- Words of the stream that are ready (R158); the frame's end has been read, and said that runs are missing. -/
  words : List Nat
  fin : Bool
  short : Bool
  /-- RESTRIPE waits for the release; frames since an unacknowledged change of MAP_SEQ; MAP_UNCONFIRMED raised for it (R173, R174). -/
  restripe : Bool
  since : Nat
  changed : Bool
  /-- The stop that DISCARD or DRAIN asks for (R176): markers end. -/
  stopped : Bool
  /-- The next block position of the slot, the slot modulo 128, whether the last reserved position carried a COMMAND copy, ALIGN_CNT (R160, R164). -/
  pos : Nat
  slot : Nat
  lastCmd : Bool
  align : Nat
  /-- Commands to send, with the copies left (R168). -/
  cmds : List (Nat × Nat)
  /-- The back-channel receiver holds block lock; a valid message has come within 100 ms (R166). -/
  lock : Bool
  msg : Bool
  /-- Messages for the host (R167), as 64-bit payloads; deskew and rate stages reported done; the frame of the latest report. -/
  queue : List Nat
  deskew : Bool
  rate : Bool
  repFrame : Nat
  deriving DecidableEq, Repr

/-- PLK state that is not a register. -/
structure Plk where
  groups : List Grp
  lanes : List Lane
  /-- The equalisation table has been applied, or found bad (R170). -/
  eqDone : Bool
  deriving DecidableEq, Repr

def Grp.reset : Grp :=
  ⟨List.range 16, [], false, [], none, false, 0, none, [], false, false, false, 0, false, false, 0, 0, false, 0, [], false, false, [], false, false, 0⟩

def Lane.reset : Lane := ⟨false, false, false, false, 0, 0, none, 0, 0⟩

def Plk.reset : Plk := ⟨List.replicate 6 Grp.reset, List.replicate 96 Lane.reset, false⟩

/-! ### Ingest and decompression (spec/09_ingest_and_decompression.md) -/

/-- Where a job's output goes (R186, R191): the first byte's address, the bytes per row (0 for one contiguous run), the pitch. -/
structure Dst where
  start : Nat
  row : Nat
  pitch : Nat
  deriving DecidableEq, Repr

/-- A decompression job, or an envelope that takes no engine (R191, R194). -/
structure DJob where
  /-- Of receiver `unit`, or of tray `unit`. -/
  net : Bool
  unit : Nat
  /-- The port whose rights apply; none for a stream of MGT. -/
  port : Option Nat
  raw : Bool
  ulen : Nat
  /-- The source: an address, or the ring's base with the position in it and its size (R187). -/
  src : Nat
  len : Nat
  ring : Option (Nat × Nat)
  /-- A PARCEL envelope's header, for its CRC (R191). -/
  hdr : Option (List Byte)
  dst : Dst
  /-- The plane context and tile, and the ring allocation, of a network parcel. -/
  ctx : Nat
  tile : Nat
  alloc : Nat
  /-- An envelope's OP, WAIT, index and TAG, and the fence it advances. -/
  op : Nat
  wait : Bool
  env : Nat
  tag : Nat
  fence : Option (Nat × Nat)
  /-- It stops at its next safe point (R200); it writes no receipt (R202). -/
  discard : Bool
  silent : Bool
  deriving DecidableEq, Repr

/-- A plane context (R186): its own number, its key, the Slate words 0 to 11 as latched, TILES, the stream's OWNER and entry, the
tiles whose parcels are complete, and the tiles decompressed. -/
structure PlaneCtx where
  id : Nat
  rx : Nat
  stream : Nat
  frame : Nat
  layer : Nat
  slate : List Nat
  tiles : Nat
  owner : Nat
  entry : Nat
  got : List Nat
  done : List Nat
  deriving DecidableEq, Repr

/-- A parcel in reassembly (R187): its context, tile and first header, its ring allocation, the segments received. -/
structure Parcel where
  rx : Nat
  ctx : Nat
  tile : Nat
  hdr : List Byte
  base : Nat
  size : Nat
  pos : Nat
  alloc : Nat
  segs : List Nat
  deriving DecidableEq, Repr

/-- An allocation of a staging ring (R187): the receiver, its own number, its length, whether its parcel has ended. -/
structure RingAlloc where
  rx : Nat
  id : Nat
  len : Nat
  freed : Bool
  deriving DecidableEq, Repr

/-- A tray (R189, R193): its bases and size as latched, its checked envelopes, the receipts it holds on chip, and TRAY_TAIL as a drain
found it (R200). -/
structure Tray where
  base : Nat
  size : Nat
  rcpt : Nat
  items : List DJob
  held : List (List Byte)
  limit : Nat
  deriving DecidableEq, Repr

/-- A decompressor (R199): its running job and whether that has read its last input byte, the job taken behind it, the bytes below
64 KiB of its counters. -/
structure Dcp where
  running : Option DJob
  consumed : Bool
  taken : Option DJob
  inRem : Nat
  outRem : Nat
  /-- FENCE_REQ is set and its jobs are to complete first (R201). -/
  leaving : Bool
  deriving DecidableEq, Repr

/-- ING and DCP state that is not a register: the next number to give, contexts, parcels in reassembly, ring allocations in order and
the position each ring has reached, complete parcels by receiver, trays, engines, jobs to dispatch again (R201), and the queue the
round robin visits next. -/
structure Ing where
  nextId : Nat
  ctxs : List PlaneCtx
  parcels : List Parcel
  allocs : List RingAlloc
  ringPos : List Nat
  ready : List (List DJob)
  trays : List Tray
  engines : List Dcp
  again : List DJob
  turn : Nat
  deriving DecidableEq, Repr

def Tray.reset : Tray := ⟨0, 4, 0, [], [], 0⟩

def Dcp.reset : Dcp := ⟨none, false, none, 0, 0, false⟩

def Ing.reset : Ing := ⟨0, [], [], [], [0, 0, 0, 0], [[], [], [], []], List.replicate 4 Tray.reset, List.replicate 24 Dcp.reset, [], 0⟩


/-! ### Block engine (spec/11_block_engine.md) -/

/-- An operation of a queue (R229), fetched and checked: its queue, index and TAG, whether it failed its checks, OP, FORMAT, fence, cue
line where it waits for one, surfaces, fill pattern; whether it has come to the head, and the frame of the cue firing it waited for. -/
structure BOp where
  queue : Nat
  idx : Nat
  tag : Nat
  bad : Bool
  op : Nat
  format : Nat
  fence : Option (Nat × Nat)
  cue : Option Nat
  src : Nat
  dst : Nat
  spitch : Nat
  dpitch : Nat
  width : Nat
  height : Nat
  fill : Nat
  waiting : Bool
  fired : Option Nat
  deriving DecidableEq, Repr

/-- An operation on a mover: whether it first copies to the scratch area (R235), and that area's address and length; the next burst of the present
pass, rows and bytes written, dead time and its length for the present burst (R236), the status it ends with once it has stopped, whether it stops
at the next burst, and whether it ends without a receipt (R242). -/
structure BRun where
  op : BOp
  scratch : Bool
  viaScratch : Bool
  area : Nat × Nat
  burst : Nat
  rows : Nat
  bytes : Nat
  dead : Bool
  gap : Nat
  status : Option Nat
  discard : Bool
  silent : Bool
  deriving DecidableEq, Repr

/-- A queue (R226, R227): bases and size as latched, fetched operations, receipts held on chip, bytes below 64 KiB, and BLK_Q_TAIL as
a drain found it (R240). -/
structure BQueue where
  base : Nat
  size : Nat
  rcpt : Nat
  ops : List BOp
  held : List (List Byte)
  rem : Nat
  limit : Nat
  deriving DecidableEq, Repr

structure Mover where
  run : Option BRun
  leaving : Bool
  deriving DecidableEq, Repr

/-- BLK state that is not a register: queues, movers, operations to be run again with the mover that left each (R241), the queue served last, bytes
below 64 KiB. -/
structure Blk where
  queues : List BQueue
  movers : List Mover
  again : List (BOp × Nat)
  last : Nat
  rem : Nat
  deriving DecidableEq, Repr

def BQueue.reset : BQueue := ⟨0, 4, 0, [], [], 0, 0⟩

def Blk.reset : Blk := ⟨List.replicate 4 BQueue.reset, List.replicate 2 ⟨none, false⟩, [], 3, 0⟩


/-! ### Time and network (spec/13_network_and_time.md) -/

/-- A PTP domain beyond its registers (R294): its port and TD_CTRL as latched at ENABLE, the latest 16 offsets (latest first), how many
in a row lay out of the lock range, whether it has been LOCKED and UNCALIBRATED, whether it has an offset, and how many offsets it has made since it
listens again after a fence or loss of its port (R300). -/
structure PtpDomain where
  port : Nat
  ctrl : Word
  offsets : List Int
  bad : Nat
  everLocked : Bool
  has : Bool
  since : Nat
  deriving DecidableEq, Repr

/-- TIM state that is not a register: RATE (R291), the servo's I (R295), the latest 64 rates (R298), the domains, whether the steering
domain has reached UNCALIBRATED, the PPS_OUT pin and when it last rose. -/
structure Tim where
  rate : Nat
  integ : Int
  rates : List Nat
  domains : List PtpDomain
  reached : Bool
  ppsOut : Bool
  ppsRise : Nat
  deriving DecidableEq, Repr

def PtpDomain.reset : PtpDomain := ⟨0, 0x7F, [], 0, false, false, 0⟩

def Tim.reset : Tim := ⟨2 ^ 47, 0, [], [PtpDomain.reset, PtpDomain.reset], false, false, 0⟩

/-- A transmit descriptor fetched (R284): its index and TAG, whether it failed its checks, its fields. -/
structure TxDesc where
  idx : Nat
  tag : Nat
  bad : Bool
  len : Nat
  launch : Option Nat
  ts : Bool
  postmark : Bool
  lateSend : Bool
  csum : Bool
  addr : Nat
  deriving DecidableEq, Repr

/-- A port beyond its registers: its host queue (R283) as latched, descriptors fetched, receipts held, a host frame being sent with its
status and timestamp; the exception queue (R280) and the firmware's frames to send (queue 2 of R282),
without FCS; MODE and FEC in force. -/
structure NetPort where
  base : Nat
  size : Nat
  rcpt : Nat
  items : List TxDesc
  held : List (List Byte)
  sending : Option (TxDesc × Nat × Nat)
  exc : List (List Byte)
  mgt : List (List Byte)
  mode : Nat
  fec : Bool
  /-- Queue 0 (R282): the firmware's PTP messages that wait, by message type and whether they are postmarked. -/
  ptp : List (Nat × Bool)
  /-- The frame on the wire gives no receipt: its queue has been discarded by a port reset (R301). -/
  silent : Bool
  deriving DecidableEq, Repr

/-- A proof sender (R288) in a slot: the frame j, the image's address, pitch and reader, packets in all, the next packet, its registers as
read at the slot, and the RTP timestamp; and the extended sequence number. -/
structure Sender where
  slot : Option Nat
  addr : Nat
  pitch : Nat
  port : Option Nat
  packets : Nat
  next : Nat
  regs : List Word
  stamp : Nat
  seq : Nat
  deriving DecidableEq, Repr

/-- NET state that is not a register. -/
structure Net where
  ports : List NetPort
  senders : List Sender
  deriving DecidableEq, Repr

def NetPort.reset : NetPort := ⟨0, 4, 0, [], [], none, [], [], 0, false, [], false⟩

def Sender.reset : Sender := ⟨none, 0, 0, none, 0, 0, [], 0, 0⟩

def Net.reset : Net := ⟨List.replicate 4 NetPort.reset, List.replicate 4 Sender.reset⟩

/-! ### Clock synthesis (spec/14_clock_synthesis.md) -/

/-- A PLL beyond its registers: the state behind SLEWING (R313), whether it has been LOCKED, its output and target against nominal, the
held word, in units of 2^-8 ppm, the latest measurements of its reference in LOCKED (latest first), the phase still to be slewed in ps,
whether that is a REALIGN command's and how much of PLL_REF_OFFSET it slews out (R316), and the dither LFSR (R322). -/
structure Pll where
  base : Nat
  everLocked : Bool
  cur : Int
  goal : Int
  word : Int
  hist : List Int
  phase : Int
  command : Bool
  out : Int
  lfsr : Nat
  deriving DecidableEq, Repr

/-- CLK state that is not a register. -/
structure Clk where
  plls : List Pll
  /-- The MEM loops re-lock for a new rate (R311, R318): the controller domain runs on bypass. -/
  memBypass : Bool
  deriving DecidableEq, Repr

def Pll.reset : Pll := ⟨0, false, 0, 0, 0, [], 0, false, 0, 1⟩

def Clk.reset : Clk := ⟨(List.range 8).map fun k => if k ≤ 1 ∨ k = 7 then { Pll.reset with base := 2 } else Pll.reset, false⟩

/-! ### Calibration and wear (spec/17_calibration_and_wear.md) -/

/-- A calibration record in boot flash (R387), field by field: KIND, SEQ, TIME, anchors by region and colour, T_PHOTO and T_REG by region, the
ray map and tables, the dose baseline. -/
structure CalRecord where
  kind : Nat
  seq : Nat
  time : Nat
  anchors : List Nat
  tPhoto : List Nat
  tReg : List Nat
  ray : Bank
  tables : Bank
  base : List (Nat × Nat)
  deriving DecidableEq, Repr

/-- A calibration run (R378 to R385): KIND, its mask, the regions left to measure (the first being measured), measures done there, SEQ of
the outstanding MEASURE and whether it has been resent, failed points there; T_EFF and the effective model of each region frozen at the
start; registration and photometry results by region and point; the dose at each measurement; what it is doing: 0 measuring, 1 measured,
2 applying, 3 storing; whether the load and arm are to be tried again; the new bank. -/
structure CalRun where
  kind : Nat
  mask : List Nat
  left : List Nat
  count : Nat
  seq : Nat
  resent : Bool
  misses : Nat
  frozen : List (Nat × List Int)
  reg : List (Nat × (Int × Int))
  photo : List (Nat × (Nat × Nat))
  base : List (Nat × Nat)
  phase : Nat
  again : Bool
  bank : Option Bank
  /-- The record built when the switch is made (R385 step 4), but for its SEQ. -/
  record : Option CalRecord
  deriving DecidableEq, Repr

/-- CAL state that is not a register: the run; dose baselines by region × 4305 + point × 3 + colour (R390); flash slots A and B (R387);
saved doses (R392); whether doses are counted; the local second of the latest accepted KIND 2 (R381). -/
structure Cal where
  run : Option CalRun
  base : List (Nat × Nat)
  slots : List (Option CalRecord)
  saved : Option (List (Nat × Nat))
  counting : Bool
  lastPhoto : Option Nat
  deriving DecidableEq, Repr

def Cal.reset : Cal := ⟨none, [], [none, none], none, false, none⟩

/-! ### Boot, identity and attestation (spec/18_boot_identity_attestation.md) -/

/-- The fuses (R396): LIFECYCLE is FIELD; digests as little-endian numbers, 0 where a slot is blank; the count of blown SVN bits. -/
structure Fuses where
  field : Bool
  serial : Nat
  root : List Nat
  rootRevoke : Nat
  integrator : Nat
  debug : List Nat
  debugRevoke : Nat
  svn : Nat
  seed : BitVec 528
  deriving DecidableEq, Repr

/-- A burn under way (R398): what is to be blown. -/
inductive Burn where
  | svn (n : Nat) | revoke (root debug : Nat) | integrator (digest : Nat) | debug (k digest : Nat) | field
  deriving DecidableEq, Repr

/-- A running image (R402): its slot and flash, the SHA-512 of its header bytes 0 to 223, and its header's fields. -/
structure BootImage where
  slot : Nat
  flash : Nat
  digest : List Byte
  version : Nat
  svn : Nat
  root : Nat
  deriving DecidableEq, Repr

/-- An update under way (R403): the proposing party's code, whether it is a configuration, where the image is. -/
structure UpdJob where
  party : Nat
  config : Bool
  addr : Nat
  len : Nat
  deriving DecidableEq, Repr

/-- SEC state that is not a register: fuses; the two flashes (R399); the images running; the update, burn and report under way; the
debug response as written (R413). -/
structure Sec where
  fuses : Fuses
  flash : List FlashImage
  fw : Option BootImage
  cfg : Option BootImage
  upd : Option UpdJob
  burn : Option Burn
  att : Option (List Byte)
  resp : List Byte
  halted : Bool
  deriving DecidableEq, Repr

/-- An erased flash. -/
def FlashImage.erased : FlashImage := ⟨[], [], [], [], [], [], []⟩

/-- A device with blank fuses and erased flashes, lifecycle OPEN. -/
def Sec.reset : Sec :=
  ⟨⟨false, 0, [0, 0, 0, 0], 0, 0, [0, 0], 0, 0, 0⟩, [FlashImage.erased, FlashImage.erased], none, none, none, none, none, List.replicate 348 0, false⟩

/-! ### Management pairs and debug (spec/19_power_reset_debug.md) -/

/-- Management state that is not a register (R422, R425): the clock at the latest checkpoint, the doorbells the firmware has received since it,
those it answers again after a take-over, the SEQ of the next daily. -/
structure Mgt where
  ckpt : Option Clock
  since : List Nat
  again : List Nat
  daily : Nat
  deriving DecidableEq, Repr

def Mgt.reset : Mgt := ⟨none, [], [], 0⟩

/-- The test access port and the debug module beyond its registers (R426 to R429): the instruction in force, the boundary cells preloaded,
whether EXTEST drives them; STATUS, address and data of the previous operation; a fabric access under way (some data for a write); what is
known of the core registers of a halted pair, by pair × 256 + register. -/
structure Dbg where
  ir : Nat
  boundary : List Bool
  drive : Bool
  status : Nat
  addr : Word
  data : Word
  sys : Option (Option Word)
  regs : List (Nat × Option Word)
  deriving DecidableEq, Repr

def Dbg.reset : Dbg := ⟨1, [], false, 0, 0, 0, none, []⟩


/-- The whole machine. -/
structure State where
  /-- Commands waiting, first in, first out. -/
  pending : List Instr
  /-- The register file: BAR0 byte offset to word, in canonical form over `resetWord` (R4, R22). -/
  regs : List (Nat × Word)
  /-- Device memory by channel-local address (channel × 2^37 + address), in canonical form over `memDefault` (R252). -/
  mem : List Host.Cell
  /-- How many free values have been taken (the model's own field, log 1). -/
  freeCtr : Nat
  /-- What the last reading command returned (the model's own record of a completion). -/
  reply : Reply
  /-- Host interface and event router. -/
  hif : Hif
  /-- Fault collector. -/
  flt : Flt
  /-- Memory controller. -/
  dmc : Dmc
  /-- Service die. -/
  svc : Svc
  /-- Power and reset. -/
  pwr : Pwr
  /-- The device's clock (R291). -/
  clock : Clock
  /-- What the device has sent, oldest first (the model's own record of its outputs). -/
  sent : List Output
  /-- Ray geometry. -/
  geo : Geo
  /-- Tone mapping and panel encoding. -/
  ton : Ton
  /-- Layers. -/
  lyr : Lyr
  /-- Ray synthesis. -/
  syn : Syn
  /-- Frame epochs, flips and Takes. -/
  cmt : Cmt
  /-- The Print. -/
  prt : Prt
  /-- The panel link. -/
  plk : Plk
  /-- Ingest and decompression. -/
  ing : Ing
  /-- The compressors. -/
  cmp : List CmpEng
  /-- The block engine. -/
  blk : Blk
  /-- The time unit. -/
  tim : Tim
  /-- Network ports. -/
  net : Net
  /-- Clock synthesis. -/
  clk : Clk
  /-- Calibration and wear. -/
  cal : Cal
  /-- Boot, identity and attestation. -/
  sec : Sec
  /-- Management pairs. -/
  mgt : Mgt
  /-- The test access port and the debug module. -/
  dbg : Dbg
  deriving DecidableEq, Repr

/-- The machine right after a power-on reset of both dies, before the boot ROM runs (R420, R349, R357). -/
def State.reset : State where
  pending := []
  regs := [(0x13012D8, 2)]
  mem := []
  freeCtr := 0
  reply := .none
  hif := ⟨[], [], [], [], [], [], [], [], List.replicate 4 (false, false)⟩
  flt := ⟨[], [], [], [], false, false⟩
  dmc := ⟨List.replicate 6 DmcChan.reset, []⟩
  svc := Svc.reset
  pwr := Pwr.reset
  clock := ⟨0, 0, 0⟩
  sent := []
  geo := Geo.reset
  ton := Ton.reset
  lyr := Lyr.reset
  syn := Syn.reset
  cmt := Cmt.reset
  prt := Prt.reset
  plk := Plk.reset
  ing := Ing.reset
  cmp := List.replicate 4 ⟨none, none, false⟩
  blk := Blk.reset
  tim := Tim.reset
  net := Net.reset
  clk := Clk.reset
  cal := Cal.reset
  sec := Sec.reset
  mgt := Mgt.reset
  dbg := Dbg.reset

end Sys2Proof.Machine
end

