-- ==== Sys2Proof/Machine/Ops.lean ====
section
/-! DEFINITION. The named operations over the register file, the free values and the outcome of a command. -/
namespace Sys2Proof.Machine

/-- The register at a BAR0 offset, as the file holds it. -/
def State.rd (s : State) (a : Nat) : Word := Sparse.get resetWord s.regs a

/-- The register file with one word written. -/
def State.wr (s : State) (a : Nat) (v : Word) : State := { s with regs := Sparse.set resetWord s.regs a v }

/-- Field `[hi:lo]` of a register. -/
def State.rf (s : State) (a hi lo : Nat) : Nat := fld (s.rd a) hi lo

/-- Field `[hi:lo]` of a register written by the device. -/
def State.wf (s : State) (a hi lo v : Nat) : State := s.wr a (setFld (s.rd a) hi lo v)

/-- Bit `i` of a register. -/
def State.rb (s : State) (a i : Nat) : Bool := bit (s.rd a) i

/-- Bit `i` of a register written by the device. -/
def State.wb (s : State) (a i : Nat) (b : Bool) : State := s.wr a (setBit (s.rd a) i b)

/-- A register as a number. -/
def State.rn (s : State) (a : Nat) : Nat := (s.rd a).toNat

/-- A register written from a number, modulo 2^32. -/
def State.wn (s : State) (a n : Nat) : State := s.wr a (wd n)

/-- A count in bits `[n-1:0]` of a register advanced by `k`, saturating. -/
def State.cntSat (s : State) (a n k : Nat) : State := s.wf a (n - 1) 0 (satAdd n (s.rf a (n - 1) 0) k)

/-- A 32-bit count advanced by one, wrapping. -/
def State.cntWrap (s : State) (a : Nat) : State := s.wr a (s.rd a + 1)

/-- A 40-bit address held in a LO/HI register pair: bits [31:0] and [39:32]. -/
def State.addr40 (s : State) (lo : Nat) : Nat := s.rn lo + 2 ^ 32 * s.rf (lo + 4) 7 0

/-- A 64-bit number held in a LO/HI register pair. -/
def State.pair64 (s : State) (lo : Nat) : Nat := s.rn lo + 2 ^ 32 * s.rn (lo + 4)

/-- A 64-bit number written to a LO/HI register pair. -/
def State.wr64 (s : State) (lo n : Nat) : State := (s.wn lo n).wn (lo + 4) (n / 2 ^ 32)

/-- A free value of `w` bits (R26 and the other open values; log 1): the value is whatever `Config.freeBits` is at the
counter, and the counter moves on. -/
def State.free (s : State) (w : Nat) : BitVec w × State :=
  (Config.freeBits w s.freeCtr, { s with freeCtr := s.freeCtr + 1 })

/-- `n` free bytes. -/
def State.freeBytes (s : State) : Nat → List Byte × State
  | 0 => ([], s)
  | n + 1 =>
    let r := s.free 8
    let t := State.freeBytes r.2 n
    (r.1 :: t.1, t.2)

/-- The value a reading command returns. -/
def State.answer (s : State) (r : Reply) : State := { s with reply := r }

/-- The end of a command: the fabric cycle is over, so a vector may send again (R43). -/
def State.endCycle (s : State) : State := { s with hif := { s.hif with cycleVecs := [] } }

/-- The outcome of a command that has its effect. -/
def done (s : State) : Host.Outcome State Fault Refusal := .next s.endCycle

/-- A fold over the numbers `0 … n-1`, in order. -/
def State.each (s : State) : Nat → (Nat → State → State) → State
  | 0, _ => s
  | n + 1, f => f n (State.each s n f)

/-- A fold over a list. -/
def State.eachOf {α : Type} (s : State) (l : List α) (f : α → State → State) : State := l.foldl (fun s x => f x s) s

/-- Apply `f` where `c` holds. -/
def State.when (s : State) (c : Bool) (f : State → State) : State := if c then f s else s

/-! ### The common page header (R24) -/

/-- Page `k` of the 256-page windows: its base in BAR0. -/
abbrev pageBase (k : Nat) : Nat := k * 0x1000

/-- Values of PAGE_STATUS.STATE (R24). -/
abbrev stOff : Nat := 0
abbrev stIdle : Nat := 1
abbrev stRun : Nat := 2
abbrev stDraining : Nat := 3
abbrev stFenced : Nat := 4
abbrev stTest : Nat := 5
abbrev stReturning : Nat := 6

/-- PAGE_STATUS.STATE of a page. -/
def State.pgState (s : State) (pg : Nat) : Nat := s.rf (Reg.PAGE_STATUS pg) 2 0

/-- PAGE_STATUS.STATE of a page set, without an event. -/
def State.setPgState (s : State) (pg v : Nat) : State := s.wf (Reg.PAGE_STATUS pg) 2 0 v

/-- PAGE_CTRL.ENABLE of a page. -/
def State.enabled (s : State) (pg : Nat) : Bool := s.rb (Reg.PAGE_CTRL pg) 0

/-- Number of host ports that the strap creates (R20). -/
def State.ports (s : State) : Nat := strapPorts (s.rf Reg.HIF_BIFUR 1 0)

/-- A page that answers (R22, R23). -/
def State.present (s : State) (pg : Nat) : Bool := pagePresent s.ports (pg / 0x100000) (pg / 0x1000 % 256)

/-- STATE IDLE, RUN or OFF: the condition of R342 for a unit with a page. -/
def State.inService (s : State) (pg : Nat) : Bool := decide (s.pgState pg ≤ stRun)

/-- A page's drain is a discard (R26). -/
def State.discarding (s : State) (pg : Nat) : Bool := Sparse.get (fun _ => false) s.hif.discard pg

def State.setDiscard (s : State) (pg : Nat) (b : Bool) : State :=
  { s with hif := { s.hif with discard := Sparse.set (fun _ => false) s.hif.discard pg b } }

/-- SEQ of the page of an offset advanced by one (R30); pages without a header have none. -/
def State.seqInc (s : State) (a : Nat) : State :=
  if hasHeader (a / 0x100000) (a / 0x1000 % 256) then s.cntWrap (Reg.SEQ (a / 0x1000 * 0x1000)) else s

end Sys2Proof.Machine
end

