-- ==== Sys2Proof/Machine/Flags.lean ====
section
/-! DEFINITION. Event flags and their routes (spec/02_register_pages_and_hosts.md R41 to R44, R453, R454), and the STATE flag of a page with its event. -/
namespace Sys2Proof.Machine

/-- Host port `p` is fenced (R342): its HIF port page reads FENCED. -/
def State.portFenced (s : State) (p : Nat) : Bool := s.pgState (Reg.page 0 (1 + p)) == stFenced

/-- The function of port `p` may send messages (R43, R342): MSI-X is enabled and not masked whole, the port masters the bus, and is not fenced. -/
def State.msixReady (s : State) (p : Nat) : Bool :=
  let c := nth (false, false) s.hif.msix p
  c.1 && !c.2 && s.rb (Reg.HIF_PORT_STATUS p) 12 && !s.portFenced p

/-- One setting routed to vector `v` of port `p` (R43, R342): a masked vector, or a vector of a port that may not send, sets its PBA
bit; otherwise one message is sent, and a second setting of the same fabric cycle sends none. -/
def State.toVector (s : State) (p v : Nat) : State :=
  if s.rb (Reg.MSIX p v 3) 0 || !s.msixReady p then s.wb (Reg.PBA p (v / 32)) (v % 32) true
  else if s.hif.cycleVecs.contains (p, v) then s
  else { s with hif := { s.hif with cycleVecs := (p, v) :: s.hif.cycleVecs }, sent := s.sent ++ [.msix p v (s.rd (Reg.MSIX p v 0)) (s.rd (Reg.MSIX p v 1)) (s.rd (Reg.MSIX p v 2))] }

/-- A vector that may send and whose PBA bit is set sends one message (R43). -/
def State.sendPending (s : State) (p v : Nat) : State :=
  if !s.rb (Reg.MSIX p v 3) 0 && s.rb (Reg.PBA p (v / 32)) (v % 32) && s.msixReady p then
    (s.wb (Reg.PBA p (v / 32)) (v % 32) false).toVector p v
  else s

/-- The 16-bit route entry of a source for a target: EN and VECTOR (R42). -/
def State.route (s : State) (t src : Nat) : Bool × Nat :=
  let w := s.rd (Reg.EVT_ROUTE t src)
  if src % 2 = 0 then (bit w 15, fld w 7 0) else (bit w 31, fld w 23 16)

/-- SMB_ALERT_N as its causes stand (R374): an unanswered change of the pair, or a queued event while ALERT_EN is set. -/
def State.alertUpdate (s : State) : State :=
  { s with svc := { s.svc with alert := s.svc.pairAlert || (s.rb Reg.SVC_SMB_CTRL 8 && !s.svc.events.isEmpty) } }

/-- The service die's queue of routed events holds 32 sources; a full queue drops the newest and counts it (R374). -/
def State.toSvc (s : State) (src : Nat) : State :=
  if s.svc.events.length < 32 then
    ({ s with svc := { s.svc with events := s.svc.events ++ [src] } }.wf Reg.SVC_BMC_EVT 5 0 (s.svc.events.length + 1)).alertUpdate
  else s.wf Reg.SVC_BMC_EVT 23 16 (satAdd 8 (s.rf Reg.SVC_BMC_EVT 23 16) 1)

/-- A source sent to one target (R42). -/
def State.toTarget (s : State) (src t : Nat) : State :=
  let r := s.route t src
  if r.1 then
    if t < 4 then (if t < s.ports then s.toVector t r.2 else s)
    else if t = 4 then { s with sent := s.sent ++ [.mgtLine r.2] }
    else s.toSvc src
  else s

/-- EVENT_ROUTE (R42): a setting goes to every target whose entry has EN. -/
def State.routeEvt (s : State) (src : Nat) : State := s.each 6 fun t s => s.toTarget src t

/-- A source put in its place in an ascending list without repeats. -/
def insSorted (x : Nat) : List Nat → List Nat
  | [] => [x]
  | y :: t => if x < y then x :: y :: t else if x = y then y :: t else y :: insSorted x t

/-- The router's self-test is running (R454). -/
def State.routerTest (s : State) : Bool := s.pgState (Reg.page 1 0) == stTest

/-- PEND_SETTING (R41, R454): one rising edge of source `src`. -/
def State.evt (s : State) (src : Nat) : State :=
  match srcLoc evtRanges src with
  | none => s
  | some (pg, i) =>
    if s.rb (Reg.EVT_EN pg) i && !s.rb (Reg.EVT_PEND pg) i then
      let s := s.wb (Reg.EVT_PEND pg) i true
      if s.routerTest then { s with hif := { s.hif with routerHeld := insSorted src s.hif.routerHeld } }
      else s.routeEvt src
    else s

/-- STATE of a page changes; `src` is the event of such a change, where the page's chapter has one. -/
def State.toState (s : State) (pg v : Nat) (src : Option Nat) : State :=
  if s.pgState pg = v then s
  else
    let s := s.setPgState pg v
    match src with
    | some e => s.evt e
    | none => s

/-- IDLE or RUN, by whether there is work in flight (R24). -/
def State.idleRun (s : State) (pg : Nat) (busy : Bool) (src : Option Nat) : State :=
  if s.pgState pg = stIdle ∧ busy then s.toState pg stRun src
  else if s.pgState pg = stRun ∧ !busy then s.toState pg stIdle src
  else s

end Sys2Proof.Machine
end

