-- ==== Sys2Proof/Machine/Faults.lean ====
section
/-! DEFINITION. The fault collector (spec/15_faults_and_fencing.md R331 to R356): classes, units, windows, records, windowed
counts, first-fault records and the pair. The reaction on a unit is a parameter: `Fencing.lean` gives it. -/
namespace Sys2Proof.Machine

/-- Base class of a source: 3 GRAVE, 2 FENCE, 1 CORRECTED, 0 NOTICE; none where its block's table marks it reserved (R331). -/
def baseClass (src : Nat) : Option Nat :=
  if src ≤ 2 then some 0 else if src = 3 then none else if src ≤ 7 then some 2 else if src ≤ 12 then some 1
  else if src = 13 then some 3 else if src = 16 then some 1 else if src = 17 then some 3 else if src ≤ 19 then none
  else if src = 20 then some 1 else if src = 21 then some 3 else if src ≤ 24 then some 0 else if src ≤ 31 then none
  else if src = 32 then some 1 else if src = 33 then some 2 else if src ≤ 36 then some 0 else if src ≤ 39 then none
  else if src = 40 then some 1 else if src ≤ 43 then some 0 else if src ≤ 79 then none
  else if src ≤ 131 then some (1 + src % 2)
  else if src = 132 then some 1 else if src ≤ 134 then some 2 else if src = 135 then some 0 else if src = 136 then some 1
  else if src = 137 then some 3 else if src ≤ 139 then none
  else if src = 140 then some 1 else if src = 141 then some 2 else if src ≤ 144 then some 0 else if src ≤ 147 then none
  else if src ≤ 243 then some 2 else if src ≤ 255 then some (if src % 2 = 0 then 2 else 0)
  else if src = 256 then some 1 else if src ≤ 258 then some 0 else if src = 259 then none
  else if src = 260 then some 1 else if src ≤ 265 then some 0 else if src ≤ 291 then none
  else if src ≤ 339 then some (1 + src % 2) else if src ≤ 347 then some (1 + src % 2) else if src ≤ 351 then some 2
  else if src = 352 then some 1 else if src = 353 then some 0 else if src ≤ 355 then none
  else if src ≤ 359 then some (1 + src % 2) else if src ≤ 363 then some 0
  else if src ≤ 411 then some (nth 0 [1, 0, 2, 0, 0, 0, 2, 1] ((src - 364) % 8))
  else if src ≤ 443 then (if (src - 412) % 8 = 0 then some 1 else if (src - 412) % 8 = 1 then some 2
    else if (src - 412) % 8 ≤ 5 then some 0 else none)
  else if src = 444 then some 1 else if src = 445 then some 3 else if src ≤ 449 then some 0 else if src ≤ 459 then none
  else if src ≤ 461 then some 2 else if src = 462 then some 3 else if src ≤ 468 then some 2 else if src ≤ 470 then some 0
  else if src = 471 then some 3 else if src = 472 then some 0 else if src = 473 then some 1 else if src = 474 then some 3
  else if src = 475 then none else if src = 476 then some 1 else if src = 477 then some 3 else if src = 478 then some 0
  else if src = 479 then some 3 else if src = 480 then some 1 else if src = 481 then some 3 else if src = 482 then some 0
  else if src = 483 then some 2 else if src ≤ 485 then some 0 else if src = 486 then some 2 else if src = 487 then some 1
  else if src ≤ 492 then some 0 else if src = 493 then some 3 else if src ≤ 496 then some 0 else if src = 497 then some 1
  else if src = 498 then some 3 else if src = 499 then none else if src = 500 then some 0 else if src = 501 then some 3
  else if src = 502 then some 0 else if src = 503 then some 1 else if src ≤ 505 then some 2 else if src = 506 then some 3
  else if src = 507 then some 1 else if src = 508 then some 3 else if src = 509 then some 0 else none

/-- A number below `n`, from any number. -/
def finOf (n : Nat) (h : 0 < n) (x : Nat) : Fin n := ⟨x % n, Nat.mod_lt x h⟩

/-- The unit whose detector raises a source, where the source belongs to one (R342, R345). -/
def srcDetector (src : Nat) : Option FUnit :=
  if 4 ≤ src ∧ src ≤ 11 then some (.port (finOf 4 (by decide) (src - 4)))
  else if src = 33 then some .geoBank
  else if 80 ≤ src ∧ src ≤ 131 then some (.slice (finOf 26 (by decide) ((src - 80) / 2)))
  else if src = 134 then some .reelSpares
  else if src = 141 then some .tonBank
  else if 148 ≤ src ∧ src ≤ 243 then some (.lane (finOf 96 (by decide) (src - 148)))
  else if 244 ≤ src ∧ src ≤ 255 then some (.group (finOf 6 (by decide) ((src - 244) / 2)))
  else if 292 ≤ src ∧ src ≤ 339 then some (.dcp (finOf 24 (by decide) ((src - 292) / 2)))
  else if 340 ≤ src ∧ src ≤ 347 then some (.cmp (finOf 4 (by decide) ((src - 340) / 2)))
  else if 348 ≤ src ∧ src ≤ 351 then some (.cmp (finOf 4 (by decide) (src - 348)))
  else if 356 ≤ src ∧ src ≤ 359 then some (.mover (finOf 2 (by decide) ((src - 356) / 2)))
  else if 364 ≤ src ∧ src ≤ 411 then some (.channel (finOf 6 (by decide) ((src - 364) / 8)))
  else if 412 ≤ src ∧ src ≤ 443 then some (.netPort (finOf 4 (by decide) ((src - 412) / 8)))
  else if src = 460 ∨ src = 461 then some (.corePll (finOf 2 (by decide) (src - 460)))
  else if src = 463 then some .plkPll
  else if 464 ≤ src ∧ src ≤ 467 then some (.netPll (finOf 4 (by decide) (src - 464)))
  else if src = 468 then some .timePll
  else if src = 483 ∨ src = 486 then some .panel
  else if src = 504 ∨ src = 505 then some (.mgtPair (finOf 2 (by decide) (src - 504)))
  else none

/-- The sub-array of the Reel that a report names, where it names one. -/
def subArrayOf (r : Report) : Option FUnit := r.origins.find? fun o => match o with | .subarray _ => true | _ => false

/-- The unit a FENCE fault or a lasting raise of a source fences (R342); that of source 133 is the sub-array of its report. -/
def srcUnit (r : Report) : Option FUnit :=
  if r.src = 133 then subArrayOf r
  else if baseClass r.src = some 2 then srcDetector r.src
  else if (4 ≤ r.src ∧ r.src ≤ 11) ∨ (80 ≤ r.src ∧ r.src ≤ 131) ∨ (292 ≤ r.src ∧ r.src ≤ 347) ∨ (356 ≤ r.src ∧ r.src ≤ 359) then srcDetector r.src
  else if 364 ≤ r.src ∧ r.src ≤ 411 ∧ ((r.src - 364) % 8 = 0 ∨ (r.src - 364) % 8 = 7) then srcDetector r.src
  else if 412 ≤ r.src ∧ r.src ≤ 443 ∧ (r.src - 412) % 8 = 0 then srcDetector r.src
  else none

/-- The page of a unit that has one, in the sense of R343 and R337; for a host port, its HIF port page (R342). -/
def unitPage : FUnit → Option Nat
  | .port p => some (Reg.page 0 (1 + p))
  | .slice n => some (Reg.page 5 (1 + n))
  | .lane n => some (Reg.page 7 (8 + n))
  | .group n => some (Reg.page 7 (1 + n))
  | .dcp n => some (Reg.page 9 (1 + n))
  | .cmp n => some (Reg.page 10 (1 + n))
  | .channel n => some (Reg.page 12 (1 + n))
  | .netPort n => some (Reg.page 13 (1 + n))
  | .corePll n => some (Reg.page 15 (1 + n))
  | .plkPll => some (Reg.page 15 3)
  | .netPll n => some (Reg.page 15 (4 + n))
  | .timePll => some (Reg.page 15 8)
  | .panel => some (Reg.page 17 1)
  | _ => none

/-- Work that a unit holds, as an origin of its own (R342, R345): kind 0 slice, 1 decompressor, 2 compressor, 3 mover, 4 channel. -/
def workOfUnit : FUnit → List FUnit
  | .slice n => [.workOf 0 n]
  | .dcp n => [.workOf 1 n]
  | .cmp n => [.workOf 2 n]
  | .mover n => [.workOf 3 n]
  | .channel n => [.workOf 4 n]
  | _ => []

/-- The four units made by `f`, where `c` holds of the index. -/
def four (c : Nat → Bool) (f : Fin 4 → FUnit) : List FUnit :=
  [(0 : Fin 4), 1, 2, 3].filterMap fun i => if c i.val then some (f i) else none

/-- What a window on a unit covers: the unit and its dependants (R342). -/
def State.covered (s : State) (u : FUnit) : List FUnit :=
  u :: workOfUnit u ++
  match u with
  | .port p => [.tray p, .blkQueue p] ++ four (fun i => s.rf (Reg.NET_TXQ_PARTY i) 2 0 == p) .txQueue
      ++ four (fun v => s.rf (Reg.PV_OWNER v) 2 0 == p) .proofView
  | .netPort p => four (fun x => s.rf (Reg.PS_CTRL x) 5 4 == p) .sender ++ [.receiver p]
      ++ (if (nth PtpDomain.reset s.tim.domains 0).port = p then [.ptpDomain 0] else []) ++ (if (nth PtpDomain.reset s.tim.domains 1).port = p then [.ptpDomain 1] else [])
  | .plkPll => [.group 0, .group 1, .group 2, .group 3, .group 4, .group 5]
  | .netPll p => [.netPort p]
  | _ => []

/-- A source with nothing counted. -/
def FltSrc.zero : FltSrc := ⟨0, false, false, 0, 0, 0⟩

def State.fltSrc (s : State) (src : Nat) : FltSrc := Sparse.get (fun _ => FltSrc.zero) s.flt.src src

def State.setFltSrc (s : State) (src : Nat) (v : FltSrc) : State :=
  { s with flt := { s.flt with src := Sparse.set (fun _ => FltSrc.zero) s.flt.src src v } }

def State.fltPending (s : State) (src : Nat) : Bool := s.rb (Reg.FLT_PEND (src / 32)) (src % 32)

def State.fltLasting (s : State) (src : Nat) : Bool := s.rb (Reg.FLT_LASTING (src / 32)) (src % 32)

/-! ### The retained store's fault copies (R339, R344, R358) -/

/-- A byte of the retained store (R358). -/
def State.storeByte (s : State) (i : Nat) : Byte := Sparse.get (fun _ => 0) s.svc.store i

/-- `n` bytes of the retained store. -/
def State.storeRd (s : State) (off n : Nat) : List Byte := (List.range n).map fun i => s.storeByte (off + i)

/-- Bytes written to the retained store: a unit that is written holds good data again (R359). -/
def State.storeWr (s : State) (off : Nat) : List Byte → State
  | [] => s
  | b :: t => State.storeWr { s with svc := { s.svc with
      store := Sparse.set (fun _ => 0) s.svc.store off b, storeBad := s.svc.storeBad.filter fun u => u != off / 16 } } (off + 1) t

/-- An uncorrectable unit: it reads as zero (R359). -/
def State.storeLose (s : State) (u : Nat) : State :=
  { s with svc := { s.svc with store := Sparse.dropKeys (fun a => a / 16 == u) s.svc.store, storeBad := u :: s.svc.storeBad.filter fun x => x != u } }

/-- Flags of byte 0x144: bit 0 FF valid, bit 1 FG valid, bit 2 GRAVE_LATCHED. -/
def State.storeFlag (s : State) (i : Nat) : Bool := (s.storeByte 0x144).getLsbD i

def State.setStoreFlag (s : State) (i : Nat) (b : Bool) : State :=
  let v := s.storeByte 0x144
  s.storeWr 0x144 [if b then v ||| BitVec.ofNat 8 (2 ^ i) else v &&& ~~~(BitVec.ofNat 8 (2 ^ i))]

/-- FLT_SEQ (R333), kept by the service die at 0x140. -/
def State.fltSeq (s : State) : Nat := leNat (s.storeRd 0x140 4)

/-- GRAVE_LATCHED (R344). -/
def State.graveLatched (s : State) : Bool := s.storeFlag 2

/-! ### The pair (R350, R351) -/

/-- A FENCE pending bit set by a PRIMARY or SAME_CYCLE record of a block in FLT_PAIR_MASK (R351). -/
def State.pairFence (s : State) : Bool :=
  s.flt.src.any fun e => e.2.pairCause && s.fltPending e.1 &&
    (match srcLoc fltRanges e.1 with
     | some (pg, _) => s.rb Reg.FLT_PAIR_MASK (pg / 0x100000)
     | none => false)

/-- The pair is to be faulted (R351). -/
def State.pairWant (s : State) : Bool :=
  s.graveLatched || (decide (s.pwr.state ≤ 1) && (s.pairFence || s.rb Reg.FLT_PAIR_CTRL 0 || !s.rb Reg.FLT_READY 0))

/-- PAIR_CHANGE (R351, R368, R374): the pair follows its causes; a change raises PAIR, asserts SMB_ALERT_N, and makes the fault
pixel's common due where FAULT_PIX_EN is set. -/
def State.pairUpdate (s : State) : State :=
  if s.svc.pairFaulted = s.pairWant then s
  else
    let due := s.svc.pixelDue || s.rb Reg.SVC_PANEL_CTRL 15
    ({ s with svc := { s.svc with pairFaulted := s.pairWant, pairAlert := true, pixelDue := due } }).alertUpdate.evt 1863

/-! ### Records (R333 to R339) -/

/-- One fault on its way to a record. -/
structure FRec where
  rep : Report
  cls : Nat
  kind : Nat
  lasting : Bool
  inWindow : Bool
  action : Nat
  seq : Nat
  n : Nat
  deriving DecidableEq, Repr

/-- The record's 8 words (R335, R336). -/
def State.recWords (s : State) (r : FRec) : List Word :=
  let t := s.enabled (Reg.page 14 0)
  let sec := if t then s.clock.sec else 0
  let ns := if t then s.clock.ns else 0
  let pg := match srcLoc fltRanges r.rep.src with | some (pg, _) => pg | none => 0x15FF000
  [ wd (r.cls * 2 ^ 30 + r.kind * 2 ^ 28 + b2n r.lasting * 2 ^ 27 + b2n r.inWindow * 2 ^ 26 + b2n r.rep.injected * 2 ^ 25 + r.action * 2 ^ 20 + r.rep.src)
  , wd r.seq, wd sec, wd ns
  , wd (s.rf Reg.CMT_FRAME_LO 15 0 * 2 ^ 16 + sec / 2 ^ 32 % 2 ^ 16)
  , r.rep.lo, r.rep.hi
  , wd ((pg / 0x100000 + 1) * 2 ^ 24 + instanceOf (pg / 0x100000) (pg / 0x1000 % 256) * 2 ^ 16 + min 255 r.n * 2 ^ 8) ]

/-- The bytes of record words, as the store keeps them. -/
def wordBytes (l : List Word) : List Byte := l.flatMap fun w => leBytes 4 w.toNat

/-- One record written to the log (R338), and captured in FF and FG where R339 says; secondary records are never captured. -/
def State.logRec (s : State) (r : FRec) : State :=
  let ws := s.recWords r
  let k := s.rn Reg.FLT_LOG_WR
  let s := { s with flt := { s.flt with log := Sparse.set (fun _ => (0, [])) s.flt.log (k % 1024) (k, ws) } }
  let s := s.wn Reg.FLT_LOG_WR (k + 1)
  if r.kind = 2 then s
  else
    let s := s.evt (1859 - r.cls)
    let s := if r.cls ≥ s.rf Reg.FLT_CTRL 1 0 && !s.storeFlag 0 then
        ((s.storeWr 0xC0 (wordBytes ws)).setStoreFlag 0 true).evt 1862 else s
    if r.cls = 3 && !s.storeFlag 1 then (s.storeWr 0xE0 (wordBytes ws)).setStoreFlag 1 true else s

/-- One raise counted under R340: the source's count after it, and whether it reaches ERR_THRESH. -/
def State.countRaise (s : State) (src : Nat) : State × Bool :=
  match srcLoc fltRanges src with
  | none => (s, false)
  | some (pg, _) =>
    let f := s.fltSrc src
    let t := s.rn Reg.FLT_MS
    let f := if f.n = 0 || decide (1000 * s.rf (Reg.ERR_WINDOW pg) 15 0 ≤ (t + 2 ^ 32 - f.t0) % 2 ^ 32) then { f with t0 := t, n := 1 }
      else { f with n := min 255 (f.n + 1) }
    (s.setFltSrc src f, decide (s.rf (Reg.ERR_THRESH pg) 7 0 ≤ f.n))

/-- Set the pending bit of a source. -/
def State.setPending (s : State) (src : Nat) (b : Bool) : State := s.wb (Reg.FLT_PEND (src / 32)) (src % 32) b

/-- The window, oldest first, that an origin of the report lies in (R345, R346). -/
def windowFor (ws : List Window) (os : List FUnit) : Option Window := ws.find? fun w => os.any fun o => w.cover.contains o

/-- SECONDARY is raised once per window, when it absorbs its first fault (R345). -/
def State.absorb (s : State) (w : Window) : State :=
  if (s.flt.windows.find? (fun x => x.seq = w.seq && x.cover == w.cover)).any (fun x => x.hit) then s
  else ({ s with flt := { s.flt with windows := s.flt.windows.map fun (x : Window) => if x.seq = w.seq && x.cover == w.cover then { x with hit := true } else x } }).evt 1861

/-- One report judged against the windows open before the cycle (R333, R334, R340, R345): its record, where it makes one. -/
def State.judge (s : State) (open0 : List Window) (r : Report) : State × Option FRec :=
  match baseClass r.src with
  | none => (s, none)
  | some c =>
    let f := s.fltSrc r.src
    let s := s.setFltSrc r.src { f with raises := satAdd 16 f.raises 1 }
    let s := match srcLoc fltRanges r.src with
      | some (pg, _) => s.when (c == 1) (·.cntSat (Reg.ERR_CNT pg) 16 1)
      | none => s
    let s := s.when (r.src == 133) fun s => match srcUnit r with
      | some (.subarray i) => { s with flt := { s.flt with subarrays := insSorted i s.flt.subarrays } }
      | _ => s
    let os := (srcDetector r.src).toList ++ r.origins
    match windowFor open0 os with
    | some w =>
      if c = 3 then (s, some ⟨r, 3, 0, false, true, 0, 0, f.n⟩)
      else if c ≤ 1 && s.fltPending r.src then (s, none)
      else (s.absorb w, some ⟨r, c, 2, false, true, 3, w.seq, f.n⟩)
    | none =>
      if c = 1 then
        if s.fltLasting r.src then (s, none)
        else
          let (s, hit) := s.countRaise r.src
          let n := (s.fltSrc r.src).n
          if hit then (s, some ⟨r, 2, 0, true, false, 0, 0, n⟩)
          else if s.fltPending r.src then (s, none)
          else (s, some ⟨r, 1, 0, false, false, 0, 0, n⟩)
      else if c = 0 && s.fltPending r.src then (s, none)
      else (s, some ⟨r, c, 0, false, false, 0, 0, f.n⟩)

/-- Rank order (R333): class highest first, then source lowest first; equal ranks keep their order. -/
def rankInsert (x : FRec) : List FRec → List FRec
  | [] => [x]
  | y :: t => if y.cls < x.cls || (y.cls = x.cls && x.rep.src < y.rep.src) then x :: y :: t else y :: rankInsert x t

def rankSort (l : List FRec) : List FRec := l.foldl (fun a x => rankInsert x a) []

/-- The next sequence number (R333). -/
def nextSeq (n : Nat) : Nat := if n ≥ 2 ^ 32 - 1 then 1 else n + 1

/-- A window opened for a fenced unit (R345), or WINDOW_FULL (R346); its NOTICE fault is left to the caller. -/
def State.openWindow (s : State) (seq : Nat) (u : FUnit) : State × Bool :=
  if s.flt.windows.length < 16 then
    ({ s with flt := { s.flt with windows := s.flt.windows ++ [⟨seq, s.covered u, false⟩] } }, false)
  else (s.evt 1865, true)

/-- A reaction on a unit, for a lasting raise or not: the state, and whether the unit was fenced now (else it already was). -/
abbrev React := Bool → FUnit → State → State × Bool

/-- The ECC sources of on-chip arrays (R337). -/
def eccSrc (src : Nat) : Bool :=
  [12, 13, 16, 17, 20, 21, 32, 33, 36, 40, 41, 132, 133, 136, 137, 140, 141, 142, 144, 256, 257, 260, 261, 352, 353, 476, 477, 480, 481, 497,
    498, 507, 508].contains src || (decide (80 ≤ src) && decide (src ≤ 131)) || (decide (292 ≤ src) && decide (src ≤ 347)) ||
    (decide (356 ≤ src) && decide (src ≤ 359)) || (decide (412 ≤ src) && decide (src ≤ 443) && decide ((src - 412) % 8 ≤ 1))

/-- DETAIL_LO of a record of class FENCE (R337): PAGE_STATUS, as it stands before a reaction, for a source against a unit with a page that states no
detail of its own. -/
def State.unitDetail (s : State) (r : FRec) : FRec :=
  match (srcUnit r.rep).bind unitPage with
  | some pg => if r.cls = 2 && !eccSrc r.rep.src && r.rep.lo = 0 && r.rep.hi = 0 then { r with rep := { r.rep with lo := s.rd (Reg.PAGE_STATUS pg) } } else r
  | none => r

/-- The reaction of one record of class FENCE, and the marks of one of class GRAVE (R341 to R345). -/
def State.reactRec (s : State) (react : React) (r : FRec) : State × FRec × Bool :=
  if r.kind = 2 then (s, s.unitDetail r, false)
  else if r.cls = 3 then
    let bits := s.storeByte (0x100 + r.rep.src / 8) ||| BitVec.ofNat 8 (2 ^ (r.rep.src % 8))
    ((s.storeWr (0x100 + r.rep.src / 8) [bits]).setStoreFlag 2 true, r, false)
  else if r.cls = 2 then
    let s := s.when r.lasting fun s => (s.wb (Reg.FLT_LASTING (r.rep.src / 32)) (r.rep.src % 32) true).evt 1860
    match srcUnit r.rep with
    | none => (s, { r with action := 4 }, false)
    | some u =>
      let r := s.unitDetail r
      let (s, fenced) := react r.lasting u s
      let r := { r with action := if fenced then 1 else 2 }
      if fenced then
        let (s, full) := s.openWindow r.seq u
        (s, r, full)
      else (s, r, false)
  else (s, r, false)

/-- What the collector keeps of a source's latest record (R348, R351). -/
def State.noteRec (s : State) (r : FRec) : State :=
  let f := s.fltSrc r.rep.src
  let cause := f.pairCause && s.fltPending r.rep.src || (r.cls == 2 && r.kind != 2)
  (s.setFltSrc r.rep.src { f with cls := r.cls, noUnit := r.action == 4 && r.lasting, pairCause := cause }).setPending r.rep.src true

/-- The records of one fabric cycle, in rank order, with their numbers, kinds and reactions (R333). -/
def State.runRecs (s : State) (react : React) (seq : Nat) (first : Bool) : List FRec → State × Bool
  | [] => (s, false)
  | r :: t =>
    let r := if r.kind = 2 then r else { r with seq := seq, kind := if first then 0 else 1 }
    let (s, r, full) := s.reactRec react r
    let s := s.noteRec r
    let s := s.logRec r
    let (s, full') := State.runRecs s react seq (first && r.kind == 2) t
    (s, full || full')

/-- FAULT_ARRIVAL (R333): the reports of one fabric cycle. -/
def State.raiseGroup (s : State) (react : React) (reps : List Report) : State × Bool :=
  let open0 := s.flt.windows
  let (s, recs) := reps.foldl (fun (acc : State × List FRec) r =>
    let (s, x) := acc.1.judge open0 r
    (s, acc.2 ++ x.toList)) (s, [])
  let recs := rankSort recs
  let prim := recs.any fun r => r.kind != 2
  let seq := nextSeq s.fltSeq
  let s := if prim then s.storeWr 0x140 (leBytes 4 seq) else s
  let (s, full) := s.runRecs react seq true recs
  (s, full)

/-- No reaction: for sources of class NOTICE, which take none (R331). -/
def noReact : React := fun _ _ s => (s, false)

/-- DETAIL_LO of a fault raised by the device itself: the array and word numbers of R337 have no list in the spec, so they are a free
value (log 1). -/
def State.detail (s : State) (src : Nat) (lo hi : Word) : Word × State :=
  if eccSrc src && lo == 0 && hi == 0 then s.free 32 else (lo, s)

/-- A NOTICE fault raised by the device itself. -/
def State.notice (s : State) (src : Nat) (lo hi : Word := 0) (origins : List FUnit := []) : State :=
  let d := s.detail src lo hi
  ((d.2.raiseGroup noReact [⟨src, d.1, hi, origins, false⟩]).1).pairUpdate

/-- The reports of one cycle with the reactions of `react`, then FLT_WINDOW_FULL where a window could not be opened (R346). -/
def State.raiseWith (s : State) (react : React) (reps : List Report) : State :=
  let (s, full) := s.raiseGroup react reps
  let s := if full then (s.raiseGroup noReact [⟨478, 0, 0, [], false⟩]).1 else s
  s.pairUpdate

/-! ### Ownership violations (R28) and pigeonhole violations (R39) -/

/-- OWN_VIOL (R28): a dropped write is counted, recorded and reported. -/
def State.ownViol (s : State) (p : Party) (a : Nat) : State :=
  let last := wd (partyCode p * 2 ^ 28 + a % 2 ^ 26)
  let s := s.wn Reg.HIF_OWN_VIOL (satAdd 32 (s.rn Reg.HIF_OWN_VIOL) 1)
  let s := s.wr Reg.HIF_OWN_LAST last
  (s.notice 0 last 0).evt 0

/-- PH_VIOL (R39): a denied access of port `p` is counted, recorded and reported. -/
def State.phViol (s : State) (p addr : Nat) (write : Bool) : State :=
  let lo := wd addr
  let hi := wd (addr / 2 ^ 32 % 256 + p * 2 ^ 16 + b2n write * 2 ^ 20)
  let s := s.wn Reg.HIF_PH_VIOL (satAdd 32 (s.rn Reg.HIF_PH_VIOL) 1)
  let s := (s.wr Reg.HIF_PH_LAST_LO lo).wr Reg.HIF_PH_LAST_HI hi
  (s.notice 1 lo hi).evt 1

end Sys2Proof.Machine
end

