-- ==== Sys2Proof/Machine/Memory.lean ====
section
/-! DEFINITION. Device memory: the interleave map (spec/12_ddr5_memory.md R252, R254), retirement and uncorrectable lines
(R267, R269), and the pigeonhole check of every access made for a host port (spec/02_register_pages_and_hosts.md R37 to R39). -/
namespace Sys2Proof.Machine

/-- What a byte of device memory that nothing has written reads as: stage 8 of training writes every line with zero data
(R248), and no address is mapped before (R251). -/
def memDefault (_ : Nat) : Byte := 0

/-- The canonical form of device memory. -/
abbrev Memory.wf (m : List Host.Cell) : Prop := Sparse.wf memDefault m = true

/-- One byte of device memory, by channel-local key. -/
def State.cell (s : State) (k : Nat) : Byte := Sparse.get memDefault s.mem k

/-- One byte of device memory written. -/
def State.setCell (s : State) (k : Nat) (b : Byte) : State := { s with mem := Sparse.set memDefault s.mem k b }

/-- A channel without state, where a number names none. -/
def State.chan (s : State) (c : Nat) : DmcChan := nth DmcChan.reset s.dmc.chans c

def State.setChan (s : State) (c : Nat) (v : DmcChan) : State := { s with dmc := { s.dmc with chans := upd s.dmc.chans c v } }

/-- Bits set in a mask of six channels. -/
def chCount (mask : Nat) : Nat := ((List.range 6).filter fun c => mask.testBit c).length

/-- The `i`-th lowest channel of a mask. -/
def chPick (mask i : Nat) : Nat := nth 0 ((List.range 6).filter fun c => mask.testBit c) i

/-- Bytes of a 64 MiB unit, pigeonhole and map granule (R37, R251). -/
abbrev unitBytes : Nat := 67108864

/-- Usable local capacity of a channel: installed capacity less 64 MiB (R246), from DMC_CH_STATUS.CAPACITY. -/
def State.chanUsable (s : State) (c : Nat) : Nat := s.rf (Reg.DMC_CH_STATUS c) 7 0 * 2 ^ 30 - unitBytes

/-- The local address after retirement (R252): a retired page reads and writes its spare page. -/
def State.redirect (s : State) (c la : Nat) : Nat :=
  match (s.chan c).retired.findIdx? (fun e => e.page == la / 4096) with
  | some i => s.chanUsable c + i * 4096 + la % 4096
  | none => la

/-- Set `k` holds device address `a` (R252). -/
def ISet.holds (k : ISet) (a : Nat) : Bool := k.valid && decide (k.base * unitBytes ≤ a) && decide (a < (k.base + k.units) * unitBytes)

/-- Channel and channel-local address of `a` in a set, before retirement (R252). -/
def ISet.decode (k : ISet) (a : Nat) : Nat × Nat :=
  let o := a - k.base * unitBytes
  let g := o / 256
  let n := chCount k.chmask
  let ch := chPick k.chmask (g % n)
  (ch, nth 0 k.off ch + g / n * 256 + o % 256)

/-- Where a device address lies: channel and local address; none where it is unmapped (R254). A local address has 37 bits (R276), and its low 8 bits
are those of the device address, for the interleave moves granules of 256 bytes (R252). -/
def State.locate (s : State) (a : Nat) : Option (Nat × Nat) :=
  match s.dmc.map.find? (fun k => k.holds a) with
  | some k =>
    if k.online then
      let d := k.decode a
      some (d.1, s.redirect d.1 d.2 % 2 ^ 37 / 256 * 256 + a % 256)
    else none
  | none => none

/-- The key of a cell: channel and local address. -/
abbrev cellKey (c la : Nat) : Nat := c * 2 ^ 37 + la

/-- A line that reads uncorrectable (R267, R269). -/
def State.badLine (s : State) (c la : Nat) : Bool := Sparse.get (fun _ => false) (s.chan c).bad (la / 64)

def State.setBad (s : State) (c la : Nat) (b : Bool) : State :=
  let ch := s.chan c
  s.setChan c { ch with bad := Sparse.set (fun _ => false) ch.bad (la / 64) b }

/-- The fields of DMC_CH_LAST (R276). -/
def lastWords (la : Nat) (ue : Bool) (dev : Nat) : Word × Word :=
  (wd (la % 2 ^ 32 / 64 * 64), wd (la / 2 ^ 32 % 32 + b2n ue * 2 ^ 16 + dev * 2 ^ 24))

/-! ### What a line holds with the writes that wait for it (R257) -/

/-- Bytes from `a` to the end of its 64-byte line. -/
def lineLeft (a : Nat) : Nat := 64 - a % 64

/-- The byte at local address `la` that a waiting write gives. -/
def Queued.byte (q : Queued) (la : Nat) : Option Byte :=
  match q.rq.write with
  | some w => if q.la ≤ la then (w.take (lineLeft q.la))[la - q.la]? else none
  | none => none

/-- A byte as the waiting writes `l` leave it, the last one on top (R257). -/
def byteOver (l : List Queued) (d : Byte) (la : Nat) : Byte := (l.reverse.findSome? fun q => q.byte la).getD d

/-- A subchannel's tracker: B where bit 6 of a local address is 1 (R253). -/
def State.sub (s : State) (c : Nat) (b : Bool) : SubChan := if b then (s.chan c).subB else (s.chan c).subA

def State.setSub (s : State) (c : Nat) (b : Bool) (v : SubChan) : State :=
  s.setChan c (if b then { s.chan c with subB := v } else { s.chan c with subA := v })

/-- A byte of a channel as a read returns it: the youngest write that waits for it, else what its cell holds (R257). -/
def State.byteAt (s : State) (c la : Nat) : Byte := byteOver (s.sub c (la.testBit 6)).queue (s.cell (cellKey c la)) la

/-- Every request that a channel holds. -/
def DmcChan.requests (c : DmcChan) : List Queued := c.subA.queue ++ c.subA.issued ++ c.subB.queue ++ c.subB.issued ++ c.inbox

/-! ### DRAM fields (R253) and ranks -/

/-- Capacity in GiB and ranks of a channel. -/
def chanGib (l : List Dimm) : Nat := (l.map fun (d : Dimm) => d.gib).sum
def chanRanks (l : List Dimm) : Nat := (l.map fun (d : Dimm) => d.ranks).sum

/-- Bank number and row of a channel-local address, and its rank. Columns and bank groups are those of DDR5 x4 and x8 devices (PRESUMED,
log 38). -/
def dramFields (d : List Dimm) (la : Nat) : Nat × Nat × Nat :=
  let cb := match d with | x :: _ => if x.width = 4 then 6 else 5 | [] => 5
  let rb := Nat.log2 (max 1 (chanRanks d))
  let bg := nfld la 9 8
  let x := la / 2 ^ (10 + cb)
  let ba := x % 4
  let bg2 := x / 4 % 2
  let rank := x / 8 % 2 ^ rb
  let row := x / 8 / 2 ^ rb
  let bank := (bg ^^^ (row % 4)) + 4 * (ba ^^^ (row / 4 % 4)) + 16 * (bg2 ^^^ (row / 16 % 2)) + 32 * rank
  (bank, row, rank)

/-- The rank of a local address. -/
def State.rankOf (s : State) (c la : Nat) : Nat := (dramFields (s.chan c).dimms la).2.2

/-- An access wakes its rank from power-down or self-refresh; after the latter the rank's mode register is read first (R260, R265, R417). -/
def State.rouse (s : State) (c la : Nat) : State :=
  s.setChan c { s.chan c with ranks := updWith (s.chan c).ranks (s.rankOf c la) fun (r : Rank) =>
    { r with powerDown := false, selfRefresh := false, mustRead := r.mustRead || r.selfRefresh } }

/-- A page queued for retirement once (R267, R269). -/
def State.queueRetire (s : State) (c page : Nat) : State :=
  let ch := s.chan c
  if ch.copies.contains page || ch.retired.any (fun e => e.page == page) then s
  else s.setChan c { ch with copies := ch.copies ++ [page] }

/-- An uncorrectable read of channel `c` (R267): counted, recorded, raised, and its page queued. Its line reads uncorrectable until a write of
the whole line replaces it (log 54). -/
def State.ueRead (s : State) (c la dev : Nat) (origins : List FUnit) : State :=
  let w := lastWords la true dev
  let s := s.cntSat (Reg.DMC_CH_UE c) 32 1
  let s := (s.wr (Reg.DMC_CH_LAST_LO c) w.1).wr (Reg.DMC_CH_LAST_HI c) w.2
  let s := (s.evt (1450 + 32 * c)).notice (365 + 8 * c) w.1 w.2 origins
  (s.queueRetire c (la / 4096)).setBad c la true

/-- An access at an unmapped address is counted (R254). -/
def State.unmapped (s : State) : State := s.cntSat Reg.DMC_UNMAPPED 32 1

/-- Bytes counted in units of 64 KiB (R276). -/
def State.countBytes (s : State) (c n : Nat) (write : Bool) : State :=
  let ch := s.chan c
  if write then (s.setChan c { ch with wrRem := (ch.wrRem + n) % 65536 }).cntSat (Reg.DMC_CH_WR_BYTES c) 32 ((ch.wrRem + n) / 65536)
  else (s.setChan c { ch with rdRem := (ch.rdRem + n) % 65536 }).cntSat (Reg.DMC_CH_RD_BYTES c) 32 ((ch.rdRem + n) / 65536)

/-! ### Pigeonholes (R37, R38) -/

/-- Pigeonhole `j` is valid and covers address `a`. -/
def State.phCovers (s : State) (j a : Nat) : Bool :=
  s.rb (Reg.PH_RIGHTS j) 31 && decide (s.rf (Reg.PH_BASE j) 13 0 ≤ a / unitBytes) && decide (a / unitBytes ≤ s.rf (Reg.PH_LIMIT j) 13 0)

/-- The check of R38 for port `p`. -/
def State.phAllows (s : State) (p a : Nat) (write : Bool) : Bool :=
  match (List.range 64).find? (fun j => s.phCovers j a) with
  | none => false
  | some j => !s.rb (Reg.PH_STATUS j) 0 && s.rb (Reg.PH_RIGHTS j) ((if write then 8 else 0) + p)

/-- An access for requester `port` (a host port, or none for unfiltered work of the device) passes. -/
def State.allowed (s : State) (port : Option Nat) (a : Nat) (write : Bool) : Bool :=
  match port with
  | none => true
  | some p => s.phAllows p a write

/-! ### Accesses -/

/-- What a memory read gives: the data, whether any of it was denied, whether any of it came marked uncorrectable. -/
structure MemRes where
  data : List Byte
  denied : Bool
  uncorr : Bool
  deriving DecidableEq, Repr

/-- One burst of at most 64 bytes within a line, read (R38, R39, R254, R267). -/
def State.readBurst (s : State) (port : Option Nat) (a n : Nat) : State × MemRes :=
  if s.allowed port a false then
    match s.locate a with
    | none => (s.unmapped, ⟨List.replicate n 0, false, true⟩)
    | some (c, la) =>
      let d := (List.range n).map fun i => s.byteAt c (la + i)
      let s := (s.rouse c la).countBytes c n false
      if s.badLine c la then (s.ueRead c la 15 [], ⟨d, false, true⟩) else (s, ⟨d, false, false⟩)
  else
    ((match port with | some p => s.phViol p a false | none => s), ⟨List.replicate n 0, true, false⟩)

/-- Bytes written to consecutive cells. -/
def State.setCells (s : State) (k : Nat) : List Byte → State
  | [] => s
  | b :: t => State.setCells (s.setCell k b) (k + 1) t

/-- Bytes of one line written. A whole line replaces an uncorrectable one; one written in part stays so (R267). -/
def State.lineWrite (s : State) (c la : Nat) (d : List Byte) : State :=
  let s := (s.setCells (cellKey c la) d).countBytes c d.length true
  if d.length = 64 then s.setBad c la false else s

/-- The writes that wait for a line are done, in their order: a later write of the line follows (R257). -/
def State.settleLine (s : State) (c la : Nat) : State :=
  let x := s.sub c (la.testBit 6)
  let mine (q : Queued) : Bool := q.rq.write.isSome && q.la / 64 == la / 64
  (s.setSub c (la.testBit 6) { x with queue := x.queue.filter fun q => !mine q }).eachOf (x.queue.filter mine) fun q s =>
    s.lineWrite c q.la ((q.rq.write.getD []).take (lineLeft q.la))

/-- One burst of at most 64 bytes within a line, written; true where it was denied. -/
def State.writeBurst (s : State) (port : Option Nat) (a : Nat) (d : List Byte) : State × Bool :=
  if s.allowed port a true then
    match s.locate a with
    | none => (s.unmapped, false)
    | some (c, la) =>
      (((s.rouse c la).settleLine c la).lineWrite c la d, false)
  else ((match port with | some p => s.phViol p a true | none => s), true)

/-- A read of `n` bytes, burst by burst. -/
def State.readBursts (s : State) (port : Option Nat) : Nat → Nat → Nat → State × MemRes
  | 0, _, _ => (s, ⟨[], false, false⟩)
  | fuel + 1, a, n =>
    if n = 0 then (s, ⟨[], false, false⟩)
    else
      let k := min n (lineLeft a)
      let (s, r) := s.readBurst port a k
      let (s, t) := State.readBursts s port fuel (a + k) (n - k)
      (s, ⟨r.data ++ t.data, r.denied || t.denied, r.uncorr || t.uncorr⟩)

/-- A read of `n` bytes at `a` for a requester. -/
def State.readMem (s : State) (port : Option Nat) (a n : Nat) : State × MemRes := s.readBursts port (n / 64 + 2) a n

/-- A write of bytes, burst by burst; true where any burst was denied. -/
def State.writeBursts (s : State) (port : Option Nat) : Nat → Nat → List Byte → State × Bool
  | 0, _, _ => (s, false)
  | fuel + 1, a, d =>
    if d.isEmpty then (s, false)
    else
      let k := lineLeft a
      let (s, x) := s.writeBurst port a (d.take k)
      let (s, y) := State.writeBursts s port fuel (a + k) (d.drop k)
      (s, x || y)

/-- A write of bytes at `a` for a requester. -/
def State.writeMem (s : State) (port : Option Nat) (a : Nat) (d : List Byte) : State × Bool := s.writeBursts port (d.length / 64 + 2) a d

/-- Bytes of device memory as they stand, without access: what a requester already holds. -/
def State.peek (s : State) (a n : Nat) : List Byte :=
  (List.range n).map fun i => match s.locate (a + i) with | some (c, la) => s.byteAt c la | none => 0

end Sys2Proof.Machine
end

