-- ==== Sys2Proof/Machine/Access.lean ====
section
/-! DEFINITION. Who may write which register (spec/02_register_pages_and_hosts.md R23, R27, R28, R31, R32, R42; the party rules
of other chapters), and the write of a register by a party. -/
namespace Sys2Proof.Machine

/-- HIF_SEAL.SEALED (R31). -/
def State.sealed (s : State) : Bool := s.rb Reg.HIF_SEAL 0

/-- The debug level in force: 0 LOCKED, 1 OBSERVE, 2 FULL (R409). -/
def State.dbgLevel (s : State) : Nat := s.rf Reg.SEC_DBG_STATUS 1 0

/-- The compute die runs (R415): in P0 and P1, until a power-down takes its rails (R442). -/
def State.computeOn (s : State) : Bool :=
  decide (s.pwr.state ≤ 1) && (match s.pwr.move with | .powerDown _ => false | _ => true)

/-- CS_STATUS.STATE of a slot (R31). -/
def State.csState (s : State) (k : Nat) : Nat := s.rf (Reg.CS_STATUS k) 3 0

/-- R32: who may write which register of slot `k`, CS_CMD apart. Every countersign party passes to the read-only registers, where a write has no
effect (R8); DBG passes nowhere. -/
def State.slotRule (s : State) (p : Party) (k off : Nat) : Bool :=
  let own := partyCode p == k
  if off < 0x40 then own || (p == .mgt && !s.sealed)
  else if 0x140 ≤ off ∧ off < 0x180 then !own && decide (partyCode p < 6)
  else if off = 0x48 ∨ off = 0x4C ∨ (0x80 ≤ off ∧ off < 0xC0) then own && !(s.csState k == 1)
  else decide (partyCode p < 6)

/-- The doorbells of party `q` that party `p` may ring, of the bits of `v` (R424): party `q` rings 0 and 1, MGT rings 2 and 3. -/
def ringBits (p : Party) (q v : Nat) : Nat := (if partyCode p = q then v % 4 else 0) + (if p = .mgt then v % 16 / 4 * 4 else 0)

/-- A rule that names the parties allowed to write a register, where there is one (R27, R31, R32, R42, R123, R353, R413, R424,
R431): the answer it gives. -/
def State.partyRule (s : State) (p : Party) (a v : Nat) : Option Bool :=
  let pg := a / 0x1000
  let off := a % 0x1000
  if a = Reg.HIF_SEAL ∨ a = Reg.FLT_READY then some (p == .mgt)
  else if 6 ≤ pg ∧ pg ≤ 11 then some (s.slotRule p (pg - 6) off)
  else if 16 ≤ pg ∧ pg ≤ 23 then some (partyPort p == some ((pg - 16) % 4))
  else if 0x101 ≤ pg ∧ pg ≤ 0x10C ∧ 0x40 ≤ off then some (partyCode p == nth 5 [0, 1, 2, 3, 5, 5] ((pg - 0x101) / 2))
  else if pg = 0x209 ∧ 0x40 ≤ off ∧ off < 0x100 then some (partyCode p == (off - 0x40) / 0x20 || (p == .dbg && s.dbgLevel == 2))
  else if pg = 0x1301 ∧ off = 0x2D4 then some (p == .dbg)
  else if pg = 0x1301 ∧ p = .dbg ∧ 0x400 ≤ off then some true
  else if pg = 0x1501 ∧ 0x40 ≤ off ∧ off < 0x54 then
    some (if v % 16 = 0 then partyCode p == (off - 0x40) / 4 || p == .mgt else ringBits p ((off - 0x40) / 4) v != 0)
  else if pg = 0x1501 ∧ 0x80 ≤ off ∧ off < 0xC0 then some (if off < 0xA0 then p == .bmc else p == .mgt)
  else none

/-- R28: the party owns the page, or is exempt. -/
def State.owns (s : State) (p : Party) (a : Nat) : Bool :=
  match p with
  | .dbg => s.dbgLevel == 2
  | _ => s.rb (Reg.PAGE_OWNER (a / 0x1000 * 0x1000)) (partyCode p) || (p == .mgt && !s.sealed)

/-- What becomes of a write. -/
inductive WriteFate where
  | ignored | dropped | applied (r : RegRow)
  deriving DecidableEq, Repr

/-- A host port that is fenced, or that the strap does not create, reaches nothing (R20, R342); nobody does while the compute
die is off (R373, R415). -/
def State.reaches (s : State) (p : Party) : Bool :=
  s.computeOn && (match partyPort p with | some k => decide (k < s.ports) && !s.portFenced k | none => true)

/-- The fate of a write of `v` at offset `a` by `p` (R7, R23, R27, R28, R31, R32). A write of a register that only reads clear (RC) has no effect
and does not count in SEQ, and neither does MGT's write of a fixed PAGE_OWNER before sealing: the spec does not say so (log 12). -/
def State.writeFate (s : State) (p : Party) (a : Nat) (v : Word) : WriteFate :=
  if !s.reaches p || !s.present a then .ignored
  else
    match regRow a with
    | none => .ignored
    | some r =>
      if r.acc = .rwk then (if p ≠ .mgt ∨ s.sealed then .dropped else if ownerFixed a then .ignored else .applied r)
      else if (s.partyRule p a v.toNat).getD (s.owns p a) then (if r.acc = .ro ∨ r.acc = .rc then .ignored else .applied r)
      else .dropped

/-- The key of a pair latch or hold: party and offset (R5). -/
def pairKey (p : Party) (a : Nat) : Nat := partyCode p * 2 ^ 26 + a

def State.held (s : State) (p : Party) (a : Nat) : Option Word := Sparse.get (fun _ => none) s.hif.hold (pairKey p a)

def State.setHeld (s : State) (p : Party) (a : Nat) (v : Option Word) : State :=
  { s with hif := { s.hif with hold := Sparse.set (fun _ => none) s.hif.hold (pairKey p a) v } }

def State.latched (s : State) (p : Party) (a : Nat) : Option Word := Sparse.get (fun _ => none) s.hif.latch (pairKey p a)

def State.setLatched (s : State) (p : Party) (a : Nat) (v : Option Word) : State :=
  { s with hif := { s.hif with latch := Sparse.set (fun _ => none) s.hif.latch (pairKey p a) v } }

/-- The word at `a` is the low word of a pair that is written as one (R5). -/
def isPairLow (r : RegRow) : Bool := !r.lat.isEmpty

/-- The word at `a` is the high word of such a pair. -/
def isPairHigh (a : Nat) : Bool := match regRow (a - 4) with | some r => r.lat.head? == some 4 | none => false

/-- Store a write in its register (R6, R8, R452). -/
def State.store (s : State) (a : Nat) (r : RegRow) (v : Word) : State := s.wr a (storedWord a r (s.rd a) v)

/-- A write by a party: what the checks say; where it applies, SEQ advances (R30) and `eff` acts. -/
def State.writeBy (s : State) (p : Party) (a : Nat) (v : Word) (eff : RegRow → State → State) : State :=
  match s.writeFate p a v with
  | .ignored => s
  | .dropped => s.ownViol p a
  | .applied r => eff r (s.seqInc a)

/-- A write by a party of a register of its own row of the table: stored, then its effect. -/
def State.regWrite (s : State) (p : Party) (a : Nat) (v : Word) (eff : State → State) : State :=
  s.writeBy p a v fun r s => eff (s.store a r v)

/-- A write of any register by a party with the pairs of R5: the low word of a pair is held; the high word applies the pair with
the held low word, or the present one. `eff a v` is what a register's write does beyond storing. -/
def State.writeReg (s : State) (p : Party) (a : Nat) (v : Word) (eff : Nat → Word → State → State) : State :=
  s.writeBy p a v fun r s =>
    if isPairLow r then s.setHeld p a (some v)
    else if isPairHigh a then
      let lo := a - 4
      let w := (s.held p lo).getD (s.rd lo)
      let s := match regRow lo with
        | some rl => eff lo w ((s.setHeld p lo none).store lo rl w)
        | none => s
      eff a v (s.store a r v)
    else eff a v (s.store a r v)

end Sys2Proof.Machine
end

