-- ==== Sys2Proof/Machine/Fixed.lean ====
section
/-! DEFINITION. Fixed-point logarithm and exponential with 96 fraction bits, for the tables that R138 and R149 of
spec/07_tone_and_panel_encoding.md compute from formulas with real powers. -/
namespace Sys2Proof.Machine.Fixed

/-- One, with 96 fraction bits. -/
abbrev one : Int := 2 ^ 96

def ofRat (n d : Int) : Int := n * one / d
def mul (a b : Int) : Int := a * b / one
def div (a b : Int) : Int := a * one / b

/-- `z + z^3/3 + z^5/5 + …`, from the term `p = z^(2j+1)` on. -/
def atanhSum (z2 : Int) : Nat → Int → Int → Int
  | 0, _, _ => 0
  | k + 1, d, p => p / d + atanhSum z2 k (d + 2) (mul p z2)

/-- `ln ((1+z)/(1-z))` for `|z| ≤ 1/3`. -/
def ln1 (z : Int) : Int := 2 * atanhSum (mul z z) 40 1 z

def ln2 : Int := ln1 (ofRat 1 3)

/-- The natural logarithm of a positive number. -/
def ln (x : Int) : Int :=
  let e := (Nat.log2 x.toNat : Int) - 96
  let m := if e < 0 then x * 2 ^ (-e).toNat else x / 2 ^ e.toNat
  e * ln2 + ln1 (div (m - one) (m + one))

/-- `1 + r/1 (1 + r/2 (1 + …))`, from term `j` on. -/
def expSum (r : Int) : Nat → Int → Int
  | 0, _ => one
  | k + 1, j => one + mul r (expSum r k (j + 1)) / j

def exp (y : Int) : Int :=
  let k := y / ln2
  let e := expSum (y - k * ln2) 40 1
  if k < 0 then e / 2 ^ (-k).toNat else e * 2 ^ k.toNat

/-- `x ^ (a / b)` for `x ≥ 0`. -/
def pow (x : Int) (a b : Int) : Int := if x ≤ 0 then 0 else exp (ln x * a / b)

/-- The nearest integer to `x · k`, halves up. -/
def round (x k : Int) : Int := (2 * x * k + one) / (2 * one)

/-- The sRGB decode of R138. -/
def srgb (e : Int) : Int := if e ≤ ofRat 4045 100000 then e * 100 / 1292 else pow ((e + ofRat 55 1000) * 1000 / 1055) 12 5

/-- Its inverse, for the proof path (R149). -/
def srgbInv (x : Int) : Int := if x ≤ srgb (ofRat 4045 100000) then x * 1292 / 100 else pow x 5 12 * 1055 / 1000 - ofRat 55 1000

/-- The EOTF of SMPTE ST 2084 in cd/m² divided by 10,000. -/
def pq (e : Int) : Int :=
  let n := pow e 32 2523
  let num := n - ofRat 3424 4096
  if num ≤ 0 then 0 else pow (div num (ofRat 2413 128 - mul (ofRat 2392 128) n)) 8192 1305

/-- The inverse EOTF of SMPTE ST 2084. -/
def pqInv (y : Int) : Int :=
  let n := pow y 1305 8192
  pow (div (ofRat 3424 4096 + mul (ofRat 2413 128) n) (one + mul (ofRat 2392 128) n)) 2523 32

/-- Constants a, b, c of the HLG OETF (ITU-R BT.2100). -/
def hlgA : Int := ofRat 17883277 100000000
def hlgB : Int := one - 4 * hlgA
def hlgC : Int := one / 2 - mul hlgA (ln (4 * hlgA))

/-- `E^1.2`, E the inverse OETF of BT.2100 (R138). -/
def hlg (e : Int) : Int :=
  let x := if 2 * e ≤ one then mul e e / 3 else (exp (div (e - hlgC) hlgA) + hlgB) / 12
  pow x 6 5

/-- The OETF of BT.2100 of `x^(1/1.2)` (R149). -/
def hlgInv (x : Int) : Int :=
  let e := pow x 5 6
  if 12 * e ≤ one then pow (3 * e) 1 2 else mul hlgA (ln (12 * e - hlgB)) + hlgC

end Sys2Proof.Machine.Fixed
end

