-- ==== Sys2Proof/Machine/Crc.lean ====
section
/-! DEFINITION. The cyclic redundancy checks the chapters use: CRC-32C (Castagnoli) and the Ethernet CRC-32, both reflected with
initial value and final XOR of all ones; CRC-16 with polynomial 0x1021 and initial value 0xFFFF (spec/08_colnus_panel_link.md
R158); CRC-8 with polynomial x^8 + x^2 + x + 1 and initial value 0 (R157). -/
namespace Sys2Proof.Machine

/-- `k` steps of a reflected CRC register. -/
def crcShiftR (poly : BitVec 32) : Nat → BitVec 32 → BitVec 32
  | 0, c => c
  | k + 1, c => crcShiftR poly k (if c.getLsbD 0 then (c >>> 1) ^^^ poly else c >>> 1)

/-- A reflected CRC register advanced over bytes. -/
def crcRunR (poly : BitVec 32) (c : BitVec 32) (l : List Byte) : BitVec 32 :=
  l.foldl (fun c b => crcShiftR poly 8 (c ^^^ b.setWidth 32)) c

/-- CRC-32C of bytes. -/
def crc32c (l : List Byte) : Nat := (crcRunR 0x82F63B78 0xFFFFFFFF l ^^^ 0xFFFFFFFF).toNat

/-- The Ethernet CRC-32 of bytes. -/
def crc32 (l : List Byte) : Nat := (crcRunR 0xEDB88320 0xFFFFFFFF l ^^^ 0xFFFFFFFF).toNat

/-- `k` steps of a CRC register of `w` bits, most significant bit first. -/
def crcShiftL (w : Nat) (poly : BitVec w) : Nat → BitVec w → BitVec w
  | 0, c => c
  | k + 1, c => crcShiftL w poly k (if c.getMsbD 0 then (c <<< 1) ^^^ poly else c <<< 1)

/-- CRC-16 of bytes (R158). -/
def crc16 (l : List Byte) : Nat :=
  (l.foldl (fun (c : BitVec 16) (b : BitVec 8) => crcShiftL 16 0x1021 8 (c ^^^ ((b : BitVec 8).setWidth 16 <<< 8))) (0xFFFF : BitVec 16)).toNat

/-- CRC-8 of bytes (R157). -/
def crc8 (l : List Byte) : Nat := (l.foldl (fun (c : BitVec 8) (b : BitVec 8) => crcShiftL 8 0x07 8 (c ^^^ b)) (0 : BitVec 8)).toNat

end Sys2Proof.Machine
end

