-- ==== Sys2Proof/Machine/Tables.lean ====
section
/-! DEFINITION. The table banks of GEO and TON: image checks, loads, arming, switches and repairs. R57 to R62 of
spec/03_ray_geometry.md state them for GEO; R151 of spec/07_tone_and_panel_encoding.md applies them to TON. -/
namespace Sys2Proof.Machine

/-- The two table units. -/
inductive TabKind where
  | geo | ton
  deriving DecidableEq, Repr

namespace TabKind

/-- Registers of the unit (R63, R154). -/
def status : TabKind → Nat | .geo => Reg.GEO_LOAD_STATUS | .ton => Reg.TON_LOAD_STATUS
def cmd : TabKind → Nat | .geo => Reg.GEO_CMD | .ton => Reg.TON_CMD
def loadAddr : TabKind → Nat | .geo => Reg.GEO_LOAD_ADDR_LO | .ton => Reg.TON_LOAD_ADDR_LO
def loadLen : TabKind → Nat | .geo => Reg.GEO_LOAD_LEN | .ton => Reg.TON_LOAD_LEN
def arm : TabKind → Nat | .geo => Reg.GEO_ARM | .ton => Reg.TON_ARM
def bankReg : TabKind → Nat | .geo => Reg.GEO_BANK | .ton => Reg.TON_BANK
def ident : TabKind → Nat | .geo => Reg.GEO_MAP_ID_LO | .ton => Reg.TON_TABLE_ID_LO
def next : TabKind → Nat | .geo => Reg.GEO_MAP_ID_NEXT_LO | .ton => Reg.TON_TABLE_ID_NEXT_LO
def count : TabKind → Nat | .geo => Reg.GEO_SWITCH_CNT | .ton => Reg.TON_SWITCH_CNT
def repair : TabKind → Nat | .geo => Reg.GEO_REPAIR | .ton => Reg.TON_REPAIR
def lastAddr : TabKind → Nat | .geo => Reg.GEO_LAST_ADDR_LO | .ton => Reg.TON_LAST_ADDR_LO
def lastLen : TabKind → Nat | .geo => Reg.GEO_LAST_LEN | .ton => Reg.TON_LAST_LEN
/-- The common page. -/
def page : TabKind → Nat | .geo => Reg.page 3 0 | .ton => Reg.page 6 0
/-- First event source: LOAD_DONE, LOAD_FAILED, SWITCHED, SWITCH_MISSED, REPAIRED, REPAIR_FAILED in order (R65, R155). -/
def evt : TabKind → Nat | .geo => 352 | .ton => 704
/-- Fault sources of an active word, a failed repair, an inactive word (R65, R155). -/
def fltActive : TabKind → Nat | .geo => 33 | .ton => 141
def fltRepair : TabKind → Nat | .geo => 35 | .ton => 143
def fltInactive : TabKind → Nat | .geo => 36 | .ton => 142
/-- MAGIC, and bytes of one tile section (R55, R56, R150). -/
def magic : TabKind → Nat | .geo => 0x4D525847 | .ton => 0x4C42544E
def section_ : TabKind → Nat | .geo => 6336 | .ton => 16896
/-- Words a tile has in the bank's numbering: 32-bit words for GEO, 16-bit words for TON. -/
def tileWords : TabKind → Nat | .geo => 1584 | .ton => 8448

end TabKind

/-! ### Banks -/

/-- The nominal value of word `i` of a tile's ray map (R47): 0 to 9 the parameters of R56 in order, 16 to 143 the profile, 144 to
1578 the grid. -/
def geoNominal (lay i : Nat) : Nat :=
  if i = 0 then (if lay = 2 then 0x03800000 else 0x07800000)
  else if i = 1 then 0x03800000
  else if i = 2 then (if lay = 2 then 0x08000000 else 0x10000000)
  else if i = 3 then 0x08000000
  else if i = 6 ∨ i = 7 then 0x01000000
  else 0

/-- X_k of R144. -/
def tonX (k : Nat) : Nat := if k < 32 then k else (32 + k % 32) * 2 ^ (k / 32 - 1)

/-- The nominal value of half-word `i` of a tile's tone tables, by its place in the section of R150. -/
def tonNominal (i : Nat) : Nat :=
  if i < 609 then min 65535 ((2 * tonX i + 10) / 20)
  else if i < 640 then 0
  else if i < 3715 then min 65535 (64 * ((i - 640) % 1025))
  else if i < 3744 then 0
  else if i < 8049 then 0x8000
  else if i < 8064 then 0
  else 0x8000

/-- The nominal word of a unit. -/
def tabNominal (k : TabKind) (lay i : Nat) : Nat := match k with | .geo => geoNominal lay i | .ton => tonNominal i

/-- The key of word `i` of tile `t`. -/
def tabKey (k : TabKind) (t i : Nat) : Nat := t * k.tileWords + i

/-- A word of a bank as it is read: a damaged word reads as its substitute (R62, R151). -/
def Bank.word (k : TabKind) (b : Bank) (t i : Nat) : Nat :=
  if b.damaged.contains (tabKey k t i) then tabNominal k b.layout i
  else Sparse.get (fun j => tabNominal k b.layout (j % k.tileWords)) b.words (tabKey k t i)

/-- The key of T_REF among a bank's damaged words (R62). -/
abbrev trefKey : Nat := 6 * TabKind.tileWords .geo

/-- T_REF of a bank as it is read: its nominal value where it is damaged (R47, R62). -/
def Bank.trefWord (b : Bank) : Nat := if b.damaged.contains trefKey then 0 else b.tref

def Bank.setWord (k : TabKind) (b : Bank) (t i v : Nat) : Bank :=
  { b with words := Sparse.set (fun j => tabNominal k b.layout (j % k.tileWords)) b.words (tabKey k t i) v }

/-- The words of one section of an image put into a bank (R56, R150). -/
def Bank.putSection (k : TabKind) (b : Bank) (t : Nat) (sec : List Byte) : Bank :=
  match k with
  | .geo => (List.range 1579).foldl (fun b i =>
      if i < 10 then b.setWord .geo t i (leAt sec (4 * i) 4)
      else if i < 16 then b
      else if i < 144 then b.setWord .geo t i (leAt sec (64 + 4 * (i - 16)) 4)
      else b.setWord .geo t i (leAt sec (576 + 4 * (i - 144)) 4)) b
  | .ton => (List.range 8448).foldl (fun b i => b.setWord .ton t i (leAt sec (2 * i) 2)) b

def State.tab (s : State) (k : TabKind) : TabUnit := match k with | .geo => s.geo.tab | .ton => s.ton.tab

def State.setTab (s : State) (k : TabKind) (v : TabUnit) : State :=
  match k with
  | .geo => { s with geo := { s.geo with tab := v } }
  | .ton => { s with ton := { s.ton with tab := v } }

/-- The active bank's number: 0 for A, 1 for B. -/
def State.tabActive (s : State) (k : TabKind) : Nat := s.rf k.bankReg 0 0

def TabUnit.bank (u : TabUnit) (i : Nat) : Bank := if i = 0 then u.bankA else u.bankB

def State.bank (s : State) (k : TabKind) (i : Nat) : Bank := (s.tab k).bank i

def State.setBank (s : State) (k : TabKind) (i : Nat) (b : Bank) : State :=
  let u := s.tab k
  s.setTab k (if i = 0 then { u with bankA := b } else { u with bankB := b })

/-! ### Load status (R57, R63) -/

abbrev tabIdle : Nat := 0
abbrev tabLoading : Nat := 1
abbrev tabReady : Nat := 2
abbrev tabFailed : Nat := 3
abbrev tabCancelled : Nat := 4

def State.tabState (s : State) (k : TabKind) : Nat := s.rf k.status 2 0
def State.tabArmed (s : State) (k : TabKind) : Bool := s.rb k.status 31
def State.setTabState (s : State) (k : TabKind) (v : Nat) : State := s.wf k.status 2 0 v
def State.setRepair (s : State) (k : TabKind) (r : Repair) : State := s.setTab k { s.tab k with repair := r }
def State.setLoad (s : State) (k : TabKind) (l : Option TLoad) : State := (s.setTab k { s.tab k with load := l }).idleRun k.page l.isSome none

/-- An automatic repair fails (R62). -/
def State.repairFail (s : State) (k : TabKind) : State := ((s.setRepair k .none).evt (k.evt + 5)).notice k.fltRepair

/-- ARMED is cleared before the switch; an armed repair then fails (R62). -/
def State.tabUnarm (s : State) (k : TabKind) : State :=
  let s := s.wb k.status 31 false
  if (s.tab k).repair = .armed then s.repairFail k else s

/-- SWITCH_MISSED (R59). -/
def State.tabMissed (s : State) (k : TabKind) : State := (s.tabUnarm k).evt (k.evt + 3)

/-- The load ends FAILED with a check (R57, R59); a repair's load fails the repair (R62). -/
def State.tabFail (s : State) (k : TabKind) (err : Nat) : State :=
  let rep := (s.tab k).repair
  let s := (((s.setLoad k none).setTabState k tabFailed).wf k.status 15 8 err).evt (k.evt + 1)
  let s := s.when (s.tabArmed k) (·.tabMissed k)
  if rep = .loading then s.repairFail k else s

/-- The load ends CANCELLED (R60, R61). -/
def State.tabCancel (s : State) (k : TabKind) : State :=
  let rep := (s.tab k).repair
  let s := (s.setLoad k none).setTabState k tabCancelled
  if rep = .loading then s.repairFail k else s

/-! ### Image checks (R55 to R57, R150) -/

/-- Header checks, in the order of R57; 0 where all pass. -/
def tabHeaderError (k : TabKind) (h : List Byte) (len layout : Nat) : Nat :=
  let tiles := leAt h 6 1
  let n := ((List.range 6).filter fun t => tiles.testBit t).length
  if leAt h 0 4 ≠ k.magic then 1
  else if leAt h 4 2 ≠ 1 then 2
  else if leAt h 8 4 ≠ len ∨ len ≠ 64 + k.section_ * n then 3
  else if k = .geo ∧ leAt h 7 1 ≠ layout then 4
  else if tiles ≥ 64 ∨ (k = .ton ∧ (leAt h 7 1 ≠ 0 ∨ leAt h 24 2 ≠ 0)) ∨ (h.drop 26).any (fun b => b ≠ 0) then 5
  else 0

/-- Reserved bytes of a section that lie in its block at offset `o` hold something. -/
def reservedIn (lo hi o : Nat) (d : List Byte) : Bool :=
  (List.range d.length).any fun i => decide (lo ≤ o + i ∧ o + i < hi) && nth 0 d i != 0

/-- Reserved bytes and bits of the 64-byte block at offset `o` of a section (R56, R150). -/
def tabBlockReserved (k : TabKind) (o : Nat) (d : List Byte) : Bool :=
  match k with
  | .geo =>
    reservedIn 40 64 o d || reservedIn 6316 6336 o d ||
      (o == 0 && ([16, 20].any (fun i => leAt d i 4 ≠ unsgn 32 (sgn 26 (leAt d i 4))) || [24, 28].any (fun i => decide (2 ^ 25 ≤ leAt d i 4))))
  | .ton => reservedIn 1218 1280 o d || reservedIn 7430 7488 o d || reservedIn 16098 16128 o d

/-- A bank with the same words, for a map of another layout: the words whose nominal values differ by layout are listed anew (R47). -/
def Bank.atLayout (b : Bank) (lay : Nat) : Bank :=
  (List.range 6).foldl (fun (n : Bank) t => [0, 2].foldl (fun (n : Bank) i =>
    n.setWord .geo t i (Sparse.get (fun j => geoNominal b.layout (j % TabKind.tileWords .geo)) b.words (tabKey .geo t i))) n) { b with layout := lay }

/-- The bank that a checked image makes of the active one (R57 step 2, R56). -/
def tabBankOf (k : TabKind) (act : Bank) (img : List Byte) : Bank :=
  let tiles := leAt img 6 1
  let b : Bank := { act with ident := leAt img 16 8, tref := (if k = .geo then leAt img 24 2 else 0), damaged := act.damaged.filter fun d => d ≠ trefKey ∨ k = .ton }
  (List.range 6).foldl (fun (b : Bank) t =>
    if tiles.testBit t then
      let j := ((List.range t).filter fun x => tiles.testBit x).length
      let b := { b with damaged := b.damaged.filter fun d => d / k.tileWords ≠ t }
      b.putSection k t ((img.drop (64 + k.section_ * j)).take k.section_)
    else b) b

/-! ### Loads (R57, R58) -/

/-- The active bank, whose tables a load copies (R57 step 2), as a bank of the layout in force. -/
def State.tabBase (s : State) (k : TabKind) : Bank :=
  let b := s.bank k (s.tabActive k)
  if k = .geo then b.atLayout s.geo.layout else b

/-- A load's bank is complete: READY; a repair's load goes on to arm, or fails the repair (R57, R62). -/
def State.tabComplete (s : State) (k : TabKind) (ld : TLoad) : State :=
  let nb := tabBankOf k (s.tabBase k) ld.buf
  let s := ((s.setBank k (1 - s.tabActive k) nb).setLoad k none).setTabState k tabReady
  let s := (s.wr64 k.next nb.ident).evt k.evt
  let party := s.rf k.status 30 28
  let s := ((s.wn k.lastAddr ld.addr).wn (k.lastAddr + 4) (ld.addr / 2 ^ 32 % 256 + party * 2 ^ 16)).wn k.lastLen ld.len
  if ld.repair then
    if nb.ident = s.pair64 k.ident then ((s.setRepair k .armed).wb k.status 31 true).wf k.status 26 24 party
    else s.repairFail k
  else s

/-- A load starts (R57 step 1). Its reads have the rights of a host port; R57 names only host ports and MGT, and a load by BMC or DBG is not
filtered either (log 25). -/
def State.tabStart (s : State) (k : TabKind) (addr len party : Nat) (rep : Bool) : State :=
  let port := if party < 4 then some party else none
  (((s.setLoad k (some ⟨addr, len, port, [], rep⟩)).setTabState k tabLoading).wf k.status 15 8 0).wf k.status 30 28 party

/-- All reads of the image have landed. -/
def TLoad.allRead (ld : TLoad) : Bool := decide (64 ≤ ld.buf.length) && decide (ld.len ≤ ld.buf.length)

/-- The next 64-byte read of the image lands and is checked (R57); nothing is written into the bank before E_N (R58). -/
def State.tabRead (s : State) (k : TabKind) : State :=
  match (s.tab k).load with
  | none => s
  | some ld =>
    if s.pgState k.page = stDraining ∧ s.discarding k.page then s.tabCancel k
    else if ld.allRead then (if (s.tab k).frozen then s else s.tabComplete k ld)
    else
      let off := ld.buf.length
      let (s, r) := s.readMem ld.port (ld.addr + off) 64
      if r.denied then s.tabFail k 7
      else if r.uncorr then s.tabFail k 8
      else
        let ld := { ld with buf := ld.buf ++ r.data }
        let s := s.setLoad k (some ld)
        let e := if off = 0 then tabHeaderError k r.data ld.len s.geo.layout
          else if tabBlockReserved k ((off - 64) % k.section_) r.data then 5 else 0
        if e ≠ 0 then s.tabFail k e
        else if !ld.allRead then s
        else if crc32c (ld.buf.drop 16) ≠ leAt ld.buf 12 4 then s.tabFail k 6
        else if (s.tab k).frozen then s
        else s.tabComplete k ld

/-! ### Commands and switches (R58 to R61) -/

/-- A write of GEO_CMD or TON_CMD (R60). A code that is no command is ignored (R63), also while ENABLE is 0, where R60 refuses every write
(log 25). -/
def State.tabCmd (s : State) (k : TabKind) (p : Party) (v : Word) : State :=
  let c := fld v 3 0
  if c = 0 ∨ 3 < c then s
  else
    let st := s.tabState k
    let armed := s.tabArmed k
    let ok := s.enabled k.page &&
      (if c = 1 then st != tabLoading && !armed else if c = 2 then (st == tabLoading || st == tabReady) && !armed else armed)
    let s := s.wb k.status 16 (!ok)
    if !ok then s
    else if c = 1 then s.tabStart k (s.addr40 k.loadAddr) (s.rn k.loadLen) (partyCode p) false
    else if c = 2 then (s.wb k.status 31 true).wf k.status 26 24 (partyCode p)
    else s.tabUnarm k

/-- The switch of R58. -/
def State.tabSwitch (s : State) (k : TabKind) : State :=
  let rep := (s.tab k).repair
  let s := (s.wn k.bankReg (1 - s.tabActive k)).wr64 k.ident (s.pair64 k.next)
  let s := ((s.setTabState k tabIdle).wb k.status 31 false).cntWrap k.count |>.evt (k.evt + 2)
  let s := s.setTab k { s.tab k with frozen := true, repair := .none }
  let s := match k with
    | .geo => { s with flt := { s.flt with geoSwitched := true } }
    | .ton => { s with flt := { s.flt with tonSwitched := true } }
  if rep = .armed then s.evt (k.evt + 4) else s

/-- The armed switch at the latch point of frame `frame` (R59); `takes g` says that a Take of group `g` by an owner of the common
page applies. -/
def State.tabLatch (s : State) (k : TabKind) (frame : Nat) (takes : Nat → Bool) : State :=
  if !s.tabArmed k then s
  else
    let mode := if (s.tab k).repair = .armed then 0 else s.rf k.arm 1 0
    let ready := s.tabState k == tabReady
    if mode = 0 ∨ mode = 3 then (if ready then s.tabSwitch k else s)
    else
      let now := if mode = 1 then frame % 65536 == s.rf k.arm 31 16 else takes (s.rf (Reg.SHADOW_CTRL k.page) 12 8)
      if !now then s
      else if ready then s.tabSwitch k
      else s.tabMissed k

/-- At E_N the old bank is free: a load held back goes on (R58). -/
def State.tabEpoch (s : State) (k : TabKind) : State :=
  let s := s.setTab k { s.tab k with frozen := false }
  match (s.tab k).load with
  | some ld => if ld.allRead then s.tabComplete k ld else s
  | none => s

/-- A port reset of party code `p` (R61). -/
def State.tabPortReset (s : State) (k : TabKind) (p : Nat) : State :=
  let s := s.when (s.tabState k == tabLoading && s.rf k.status 30 28 == p) (·.tabCancel k)
  s.when (s.tabArmed k && s.rf k.status 26 24 == p) (·.tabMissed k)

/-! ### Uncorrectable errors and repair (R62, R151) -/

/-- The repair starts once its conditions hold. -/
def State.repairStart (s : State) (k : TabKind) : State :=
  let st := s.tabState k
  if (s.tab k).repair ≠ .waiting ∨ !s.enabled k.page ∨ s.tabArmed k ∨ !(st == tabIdle || st == tabFailed || st == tabCancelled) then s
  else if s.pair64 k.ident = 0 then
    if (s.tab k).frozen then s
    else
      let s := s.setBank k (1 - s.tabActive k) (Bank.nominal (if k = .geo then s.geo.layout else 0))
      let s := (((s.wr64 k.next 0).setTabState k tabReady).wf k.status 15 8 0).evt k.evt
      (s.setRepair k .armed).wb k.status 31 true
  else (s.setRepair k .loading).tabStart k (s.addr40 k.lastAddr) (s.rn k.lastLen) (s.rf (k.lastAddr + 4) 18 16) true

/-- An uncorrectable error in the inactive bank: only while READY (R62). -/
def State.tabInactive (s : State) (k : TabKind) : State :=
  if s.tabState k = tabReady then
    let s := ((s.setTabState k tabFailed).wf k.status 15 8 9).evt (k.evt + 1)
    (s.when (s.tabArmed k) (·.tabMissed k)).notice k.fltInactive
  else s

/-- A word of the active bank is found damaged: the substitute is used from now on, and a repair may wait (R62). -/
def State.tabDamage (s : State) (k : TabKind) (t i : Nat) : State :=
  let b := s.bank k (s.tabActive k)
  let s := s.setBank k (s.tabActive k) { b with damaged := insSorted (if k = .geo ∧ i = 1579 then trefKey else tabKey k t i) b.damaged }
  if s.rb k.repair 0 ∧ (s.tab k).repair = .none then s.setRepair k .waiting else s

end Sys2Proof.Machine
end

