-- ==== Sys2Proof/Machine/Geo.lean ====
section
/-! DEFINITION. Ray geometry (spec/03_ray_geometry.md): the ray map and its banks, the ray of an emitter, loads, switches,
repairs, temperatures and probes. -/
namespace Sys2Proof.Machine

/-! ### Layouts (R45) -/

abbrev geoNu (lay : Nat) : Nat := if lay = 2 then 8 else 16
abbrev geoNv : Nat := 8
/-- Region width and height in emitters. -/
abbrev geoW (lay : Nat) : Nat := 1280 * geoNu lay
abbrev geoLensH (lay : Nat) : Nat := if lay = 1 then 540 else 1080
abbrev geoH (lay : Nat) : Nat := 8 * geoLensH lay

/-! ### The ray of an emitter (R52, R53) -/

/-- `(x + 2^(n-1)) >> n`. -/
def rnd (x : Int) (n : Nat) : Int := (x + 2 ^ (n - 1)) / 2 ^ n

/-- The effective origin and pitch of a tile (R52). -/
structure GeoEff where
  ox : Int
  oy : Int
  px : Int
  py : Int
  deriving DecidableEq, Repr

/-- R52. -/
def geoEffective (b : Bank) (t teff : Nat) : GeoEff :=
  let dt := sgn 16 teff - sgn 16 b.trefWord
  let p (v tc : Nat) : Int := clampI 0 0xFFFFFFFF ((v : Int) + rnd ((v : Int) * sgn 16 tc * dt) 30)
  let o (v tc : Nat) : Int := clampI (-0x80000000) 0x7FFFFFFF (sgn 32 v + 4 * (sgn 16 tc * dt))
  let tcp := b.word .geo t 8
  let tco := b.word .geo t 9
  ⟨o (b.word .geo t 0) tco, o (b.word .geo t 1) (tco / 65536), p (b.word .geo t 2) tcp, p (b.word .geo t 3) (tcp / 65536)⟩

/-- What GEO delivers for one emitter: the lens cell, the view offset, and whether each part saturated. -/
structure GeoRay where
  lx : Nat
  ly : Nat
  u : Int
  v : Int
  satU : Bool
  satV : Bool
  deriving DecidableEq, Repr

/-- R53, for emitter `(xe, ye)` of region `t`. -/
def geoRay (b : Bank) (e : GeoEff) (lay t xe ye : Nat) : GeoRay :=
  let nu := geoNu lay
  let llx := xe / nu
  let iu := xe % nu
  let lly := ye / geoNv
  let iv := ye % geoNv
  let gi := llx / 32
  let fx := llx % 32
  let gj := lly / 32
  let fy := lly % 32
  let pt (i j : Nat) : Nat := b.word .geo t (144 + 41 * j + i)
  let mix (f : Nat → Int) : Int :=
    ((32 - fx) * (32 - fy) : Nat) * f (pt gi gj) + (fx * (32 - fy) : Nat) * f (pt (gi + 1) gj)
      + ((32 - fx) * fy : Nat) * f (pt gi (gj + 1)) + (fx * fy : Nat) * f (pt (gi + 1) (gj + 1))
  let gdx := mix fun w => sgn 16 w
  let gdy := mix fun w => sgn 16 (w / 65536)
  let cx := e.ox + (llx : Int) * e.px + (lly : Int) * sgn 32 (b.word .geo t 5) + 4 * gdx
  let cy := e.oy + (lly : Int) * e.py + (llx : Int) * sgn 32 (b.word .geo t 4) + 4 * gdy
  let dx := clampI (-0x800000) 0x7FFFFF (rnd ((xe : Int) * 2 ^ 24 - cx) 8)
  let dy := clampI (-0x800000) 0x7FFFFF (rnd ((ye : Int) * 2 ^ 24 - cy) 8)
  let prof := b.word .geo t (16 + 16 * iv + iu)
  let u := rnd (dx * (b.word .geo t 6 : Int)) 28 + sgn 16 prof
  let v := rnd (dy * (b.word .geo t 7 : Int)) 28 + sgn 16 (prof / 65536)
  ⟨llx + 1280 * (t % 3), lly + geoLensH lay * (t / 3), clampI (-31744) 31744 u, clampI (-14336) 14336 v,
    decide (u < -31744 ∨ 31744 < u), decide (v < -14336 ∨ 14336 < v)⟩

/-! ### Temperature (R50, R51) -/

def GeoTile.zero : GeoTile := ⟨false, 0, 0, false, none⟩

def State.geoTile (s : State) (t : Nat) : GeoTile := nth GeoTile.zero s.geo.tiles t

def State.setGeoTile (s : State) (t : Nat) (v : GeoTile) : State := { s with geo := { s.geo with tiles := upd s.geo.tiles t v } }

/-- The reading of a tile as its source gives it: whether there is one, its value and its age (R50). -/
def State.geoReading (s : State) (t : Nat) : Bool × Nat × Nat :=
  let src := s.rf (Reg.GEO_T_SRC t) 1 0
  if src = 1 ∨ src = 2 then
    let w := s.rd (if src = 1 then Reg.SVC_NTC_0 else Reg.SVC_NTC_1)
    (bit w 31, fld w 15 0, fld w 30 16)
  else ((s.geoTile t).has, (s.geoTile t).val, (s.geoTile t).age)

/-- The reading is fresh: one has arrived and its age is at most GEO_TEMP_MAXAGE (R51). -/
def State.geoFresh (s : State) (t : Nat) : Bool :=
  let r := s.geoReading t
  r.1 && decide (r.2.2 ≤ s.rf Reg.GEO_TEMP_MAXAGE 15 0)

/-- GEO_T_READING (R64): an NTC input's reading stands as the service die shows it, valid or not (R50). -/
def State.geoReadingWord (s : State) (t : Nat) : Word :=
  let r := s.geoReading t
  wd (b2n (s.geoFresh t) * 2 ^ 31 + min 0x7FFF r.2.2 * 2 ^ 16 + r.2.1)

/-- A new reading of a tile from `src` (0 HOST, 3 PANEL), where that is the tile's source (R50). -/
def State.geoNewReading (s : State) (t src v : Nat) : State :=
  if s.rf (Reg.GEO_T_SRC t) 1 0 = src then s.setGeoTile t { s.geoTile t with has := true, val := v % 65536, age := 0 } else s

/-- A write of GEO_T_SRC starts the age anew (R50). -/
def State.geoSourceWritten (s : State) (t : Nat) : State := s.setGeoTile t { s.geoTile t with has := false, val := 0, age := 0 }

/-- One millisecond passes for the readings. -/
def State.geoTick (s : State) : State :=
  { s with geo := { s.geo with tiles := s.geo.tiles.map fun (x : GeoTile) => { x with age := x.age + 1 } } }

/-- The reading of a tile with ENABLE is stale at a latch point: TEMP_STALE and source 34 (R51). -/
def State.geoStale (s : State) (t : Nat) : Bool :=
  s.enabled (Reg.page 3 (1 + t)) && decide (s.rf Reg.GEO_TEMP_MAXAGE 15 0 < (s.geoReading t).2.2)

/-- R51 for one tile at a latch point; the fault is raised with the latch point's others. A disabled tile keeps its T_EFF (R52). -/
def State.geoTempLatch (s : State) (t : Nat) : State :=
  let b := s.bank .geo (s.tabActive .geo)
  let old := s.rf (Reg.GEO_T_EFF t) 15 0
  let base := if (s.geoTile t).settled then old else b.trefWord
  let r := s.geoReading t
  if s.enabled (Reg.page 3 (1 + t)) then
    let s := s.when (s.geoStale t) fun s => s.evt (362 + 4 * t)
    let take := s.geoFresh t && (!(s.geoTile t).settled || decide (((s.rf Reg.GEO_TEMP_DEADBAND 7 0 : Nat) : Int) ≤ (sgn 16 r.2.1 - sgn 16 base).natAbs))
    let s := s.when (s.geoFresh t) fun s => s.setGeoTile t { s.geoTile t with settled := true }
    let new := if take then r.2.1 else base
    (s.wn (Reg.GEO_T_EFF t) new).when (decide (new ≠ old)) fun s => s.evt (361 + 4 * t)
  else s

/-- R52 for one tile: its effective model shown. -/
def State.geoModelLatch (s : State) (t : Nat) : State :=
  let e := geoEffective (s.bank .geo (s.tabActive .geo)) t (s.rf (Reg.GEO_T_EFF t) 15 0)
  (((s.wn (Reg.GEO_OX_EFF t) (unsgn 32 e.ox)).wn (Reg.GEO_OY_EFF t) (unsgn 32 e.oy)).wn (Reg.GEO_PX_EFF t) (unsgn 32 e.px)).wn (Reg.GEO_PY_EFF t) (unsgn 32 e.py)

/-- The effective model of the latest latched frame. -/
def State.geoEff (s : State) (t : Nat) : GeoEff :=
  ⟨sgn 32 (s.rn (Reg.GEO_OX_EFF t)), sgn 32 (s.rn (Reg.GEO_OY_EFF t)), s.rn (Reg.GEO_PX_EFF t), s.rn (Reg.GEO_PY_EFF t)⟩

/-! ### Layout (R456) -/

/-- A region takes part in a frame that is still being synthesized or sent (R456). -/
def State.geoBusy (s : State) : Bool :=
  s.syn.frames.any (fun f => !f.regions.isEmpty && !f.ended) || s.plk.groups.any (fun (g : Grp) => g.frame.isSome) ||
    s.syn.queues.any fun (q : List QItem) => q.any fun i => match i with | .run _ => true | _ => false

/-- The layout rule of R456 at a write that sets ENABLE of the tile page `pg`: every other tile page reads 0, as this one did. -/
def State.geoLayoutLatch (s : State) (pg : Nat) : State :=
  if s.geoBusy || (List.range 6).any (fun t => pg != Reg.page 3 (1 + t) && s.enabled (Reg.page 3 (1 + t))) then s
  else
    let l := s.rf Reg.GEO_LAYOUT 1 0
    let l := if l = 3 then 0 else l
    ({ s with geo := { s.geo with layout := l } }).wf Reg.GEO_LAYOUT 17 16 l

/-! ### Saturation and probes (R53, R64) -/

/-- Counts of one ray in GEO_SAT_CNT. -/
def State.geoCount (s : State) (t : Nat) (r : GeoRay) : State :=
  let s := s.when r.satU fun s => s.wf (Reg.GEO_SAT_CNT t) 15 0 (satAdd 16 (s.rf (Reg.GEO_SAT_CNT t) 15 0) 1)
  s.when r.satV fun s => s.wf (Reg.GEO_SAT_CNT t) 31 16 (satAdd 16 (s.rf (Reg.GEO_SAT_CNT t) 31 16) 1)

/-- A write of GEO_PROBE: DONE clears and the probe starts. -/
def State.geoProbe (s : State) (t : Nat) (v : Word) : State :=
  (s.setGeoTile t { s.geoTile t with probe := some v }).wb (Reg.GEO_PROBE_LENS t) 31 false

/-- GEO_PROBE_DONE. -/
def State.geoProbeDone (s : State) (t : Nat) : State :=
  match (s.geoTile t).probe with
  | none => s
  | some w =>
    let xe := fld w 14 0
    let ye := fld w 29 16
    let s := s.setGeoTile t { s.geoTile t with probe := none }
    if geoW s.geo.layout ≤ xe ∨ geoH s.geo.layout ≤ ye then (s.wr (Reg.GEO_PROBE_UV t) 0).wn (Reg.GEO_PROBE_LENS t) (2 ^ 31)
    else
      let r := geoRay (s.bank .geo (s.tabActive .geo)) (s.geoEff t) s.geo.layout t xe ye
      (s.wn (Reg.GEO_PROBE_UV t) (unsgn 16 r.v * 2 ^ 16 + unsgn 16 r.u)).wn (Reg.GEO_PROBE_LENS t) (2 ^ 31 + r.ly * 2 ^ 16 + r.lx)

/-- The active map's word as its register shows it (R64): register index 0 to 9. -/
def State.geoModelWord (s : State) (t i : Nat) : Word := wd ((s.bank .geo (s.tabActive .geo)).word .geo t i)

/-- Side effects of a write of a GEO register beyond storing it. -/
def State.geoWritten (s : State) (p : Party) (a : Nat) (v : Word) : State :=
  if a = Reg.GEO_CMD then s.tabCmd .geo p v
  else if 0x301000 ≤ a ∧ a < 0x307000 then
    let t := (a - 0x301000) / 0x1000
    let off := a % 0x1000
    if off = 0x40 then s.geoSourceWritten t
    else if off = 0x44 then s.geoNewReading t 0 (fld v 15 0)
    else if off = 0x8C then s.geoProbe t v
    else s
  else s

/-! ### Meanings -/

/-- GEO_T_HOST (R50). -/
def execGeoTHost (p : Party) (t : Fin 6) (v : Word) (s : State) : Host.Outcome State Fault Refusal :=
  done (s.regWrite p (Reg.GEO_T_HOST t) v fun s => s.geoWritten p (Reg.GEO_T_HOST t) v)

/-- GEO_LOAD (R57, R60). -/
def execGeoLoad (p : Party) (s : State) : Host.Outcome State Fault Refusal :=
  done (s.regWrite p Reg.GEO_CMD 1 fun s => s.tabCmd .geo p 1)

/-- GEO_LOAD_READ_DONE (R57). -/
def execGeoLoadReadDone (s : State) : Host.Outcome State Fault Refusal := done (s.tabRead .geo)

/-- GEO_ARM (R59, R60). -/
def execGeoArm (p : Party) (s : State) : Host.Outcome State Fault Refusal :=
  done (s.regWrite p Reg.GEO_CMD 2 fun s => s.tabCmd .geo p 2)

/-- GEO_DISARM (R60). -/
def execGeoDisarm (p : Party) (s : State) : Host.Outcome State Fault Refusal :=
  done (s.regWrite p Reg.GEO_CMD 3 fun s => s.tabCmd .geo p 3)

/-- GEO_REPAIR_START (R62). -/
def execGeoRepairStart (s : State) : Host.Outcome State Fault Refusal := done (s.repairStart .geo)

/-- GEO_INACTIVE_UNCORR (R62). -/
def execGeoInactiveUncorr (s : State) : Host.Outcome State Fault Refusal := done (s.tabInactive .geo)

/-- GEO_PROBE (R64). -/
def execGeoProbe (p : Party) (t : Fin 6) (v : Word) (s : State) : Host.Outcome State Fault Refusal :=
  done (s.regWrite p (Reg.GEO_PROBE t) v fun s => s.geoProbe t v)

/-- GEO_PROBE_DONE (R64). -/
def execGeoProbeDone (t : Fin 6) (s : State) : Host.Outcome State Fault Refusal := done (s.geoProbeDone t)

end Sys2Proof.Machine
end

