-- ==== Sys2Proof/Machine/Pixel.lean ====
section
/-! DEFINITION. Pixels: binary16, the input decode (spec/07_tone_and_panel_encoding.md R138 to R140), cells and samples
(spec/05_ray_synthesis.md R98 to R100, spec/04_layers_and_slates.md R69 to R73, R83), and the overlay scaler (R77, R78). -/
namespace Sys2Proof.Machine

/-! ### binary16 (R70) -/

/-- A binary16 code as an exact number of units of 2^-24: NaN reads as 0, an infinity as ±65,504 (R70). -/
def halfVal (h : Nat) : Int :=
  let e := h / 1024 % 32
  let m := h % 1024
  let a : Nat := if e = 31 then (if m = 0 then 65504 * 2 ^ 24 else 0) else if e = 0 then m else (1024 + m) * 2 ^ (e - 1)
  if h / 32768 % 2 = 1 then -(a : Int) else a

/-- A source pixel as the device takes it (R70), which an RGBA16F pixel changes: NaN to 0, an infinity to ±65,504, alpha clamped to 0 to 1. -/
def halfTaken (i h : Nat) : Nat :=
  let s := h / 32768 % 2 * 32768
  let m := h % 32768
  let c := if m < 0x7C00 then h else if m = 0x7C00 then s + 0x7BFF else 0
  if i = 3 then (if s ≠ 0 then 0 else min c 0x3C00) else c

/-- `n / d` rounded to nearest, ties to even. -/
def rne (n : Int) (d : Nat) : Int :=
  let q := n / d
  let r := n - q * d
  if 2 * r < d then q else if d < 2 * r then q + 1 else if q % 2 = 0 then q else q + 1

/-- The binary16 code nearest to `n / d` units of 2^-24, ties to even; magnitudes above 65,504 are clamped to it. -/
def halfCode (n : Int) (d : Nat) : Nat :=
  let neg := decide (n < 0)
  let a := n.natAbs
  let u := a / d
  let e := if u < 2048 then 0 else Nat.log2 u - 10
  let m := (rne (a : Int) (d * 2 ^ e)).toNat
  let code := if e = 0 then m else e * 1024 + m
  let code := min code 0x7BFF
  if neg then 0x8000 + code else code

/-! ### Transfer functions (R138, R139) -/

/-- Entry of a decode table for `k / den`: normalised with 65,536 = 1.0, or working units for PQ (R138). -/
def tfEntry (tr k den : Nat) : Int :=
  let e := Fixed.ofRat k den
  if tr = 0 then (2 * 65536 * (k : Int) + den) / (2 * den)
  else if tr = 1 then Fixed.round (Fixed.srgb e) 65536
  else if tr = 2 then Fixed.round (Fixed.pq e) 6553600
  else Fixed.round (Fixed.hlg e) 65536

def sat24 (x : Int) : Int := clampI (-8388608) 8388607 x

/-- The scale S of R138: LINEAR and SRGB by the SDR white, HLG by its peak, PQ unscaled. -/
def tfScale (tr : Nat) (n : Int) (sdr hlg : Nat) : Int :=
  if tr = 2 then sat24 n else sat24 (rnd (n * ((if tr = 3 then hlg else sdr : Nat) : Int)) 16)

/-- A colour component of an RGBA16F cell (R139). -/
def decodeHalf (tr code sdr hlg : Nat) : Int :=
  let x := halfVal code
  if tr = 0 then sat24 (rne (x * (sdr : Int)) (2 ^ 24))
  else
    let q := min (2 ^ 24) x.natAbs
    let idx := q / 2 ^ 14
    let n := if q = 2 ^ 24 then tfEntry tr 1024 1024
      else tfEntry tr idx 1024 + rnd ((tfEntry tr (idx + 1) 1024 - tfEntry tr idx 1024) * ((q % 2 ^ 14 : Nat) : Int)) 14
    tfScale tr (if x < 0 then -n else n) sdr hlg

/-! ### Cells (R69, R99) -/

/-- Bytes of a pixel (R69). -/
def pxBytes (fmt : Nat) : Nat := if fmt = 2 then 8 else 4

/-- The channels of a stored pixel: red, green, blue, alpha codes (R69). -/
def channels (fmt px : Nat) : List Nat :=
  if fmt = 0 then [px % 256, px / 256 % 256, px / 65536 % 256, px / 16777216 % 256]
  else if fmt = 1 then [px % 1024, px / 1024 % 1024, px / 2 ^ 20 % 1024, px / 2 ^ 30 % 4]
  else [px % 65536, px / 65536 % 65536, px / 2 ^ 32 % 65536, px / 2 ^ 48 % 65536]

/-- The pixel of channel codes. -/
def packChannels (fmt : Nat) (l : List Nat) : Nat :=
  let r := nth 0 l 0
  let g := nth 0 l 1
  let b := nth 0 l 2
  let a := nth 0 l 3
  if fmt = 0 then r + 256 * g + 65536 * b + 16777216 * a
  else if fmt = 1 then r + 1024 * g + 2 ^ 20 * b + 2 ^ 30 * a
  else r + 65536 * g + 2 ^ 32 * b + 2 ^ 48 * a

/-- Three colours and a coverage. -/
structure Smp where
  r : Int
  g : Int
  b : Int
  a : Int
  deriving DecidableEq, Repr

def Smp.zero : Smp := ⟨0, 0, 0, 0⟩

/-- The same operation on each colour. -/
def Smp.mapc (x : Smp) (f : Int → Int) : Smp := ⟨f x.r, f x.g, f x.b, x.a⟩

/-- The primaries matrix of R140. -/
def primaries (p : Nat) (r g b : Int) : Int × Int × Int :=
  let o (x y z : Int) : Int := sat24 (rnd (x * r + y * g + z * b) 14)
  if p = 0 then (o 10279 5395 710, o 1132 15066 186, o 269 1442 14673)
  else if p = 1 then (o 12351 3254 779, o 749 15431 204, o (-20) 288 16116)
  else (r, g, b)

/-- `decode(cell)` of R99 with ALPHA_MODE: a stored pixel to premultiplied working light. -/
def decodeCell (slfmt sdr hlg px : Nat) : Smp :=
  let fmt := nfld slfmt 1 0
  let tr := nfld slfmt 9 8
  let am := nfld slfmt 5 4
  let ch := channels fmt px
  let comp (c : Nat) : Int := if fmt = 2 then decodeHalf tr c sdr hlg else tfScale tr (tfEntry tr c (if fmt = 0 then 255 else 1023)) sdr hlg
  let (r, g, b) := primaries (nfld slfmt 13 12) (comp (nth 0 ch 0)) (comp (nth 0 ch 1)) (comp (nth 0 ch 2))
  let ac := nth 0 ch 3
  let a : Int := if am = 2 then 65536 else
    if fmt = 0 then ((ac * 65793 + 128) / 256 : Nat)
    else if fmt = 1 then (nth 0 [0, 21845, 43691, 65536] ac : Nat)
    else rne (clampI 0 (2 ^ 24) (halfVal ac)) 256
  let x : Smp := ⟨r, g, b, a⟩
  if am = 1 then x.mapc fun c => sat24 (rnd (c * a) 16) else x

/-- A stale indicator laid over a decoded cell of layer 39 (R83). -/
def overIndicator (slfmt sdr hlg colour : Nat) (x : Smp) : Smp :=
  let fmt := slfmt - nfld slfmt 1 0 - 16 * nfld slfmt 5 4 + 16
  let i := decodeCell fmt sdr hlg colour
  let t := 65536 - i.a
  ⟨sat24 (i.r + rnd (x.r * t) 16), sat24 (i.g + rnd (x.g * t) 16), sat24 (i.b + rnd (x.b * t) 16), min 65536 (i.a + rnd (x.a * t) 16)⟩

/-! ### The overlay scaler (R76 to R78) -/

/-- A step of R77 from a source and a Q13.2 layer size. -/
def scaleStep (src raw : Nat) : Nat := clampN 0x10000 0x400000 (src * 2 ^ 22 / raw)

/-- Both steps of R77 from SL_SRC and SL_SIZE; a layer with W or H zero has none, which the registers show as 0. -/
def scaleSteps (src size : Nat) : Nat × Nat :=
  if nfld size 14 0 = 0 ∨ nfld size 30 16 = 0 then (0, 0)
  else (scaleStep (nfld src 13 0) (nfld size 14 0), scaleStep (nfld src 29 16) (nfld size 30 16))

/-- Source position of Reel column `j` (R77): the pixel and the phase. -/
def scalePos (j o : Int) (step : Nat) : Int × Nat :=
  let sx := (4 * j + 2 - o) * (step : Int) / 4 - 2 ^ 19
  let xi := sx / 2 ^ 20
  let ph := ((sx % 2 ^ 20).toNat + 2 ^ 13) / 2 ^ 14
  if ph = 64 then (xi + 1, 0) else (xi, ph)

/-- Kernels of R78 at a distance `n/d` in units of the widened pixel, as a fraction times 2^60: triangle, cubic with a = -0.5,
two-lobe windowed sinc. -/
def kernelFix (kern : Nat) (n d : Nat) : Int :=
  let x := Fixed.ofRat n d
  let o := Fixed.one
  if kern = 1 then (if n < d then o - x else 0)
  else
    let x2 := Fixed.mul x x
    let x3 := Fixed.mul x2 x
    if kern = 2 then
      if n ≤ d then (3 * x3 - 5 * x2) / 2 + o
      else if n < 2 * d then (5 * x2 - x3) / 2 - 4 * x + 2 * o
      else 0
    else if n = 0 then o
    else if 2 * d ≤ n then 0
    else
      let px := Fixed.mul x (Fixed.ofRat 3141592653589793238462643383279502884 1000000000000000000000000000000000000)
      let sin (y : Int) : Int :=
        let y2 := Fixed.mul y y
        (List.range 24).reverse.foldl (fun acc k => o - Fixed.mul y2 acc / ((2 * k + 2) * (2 * k + 3) : Nat)) o |> Fixed.mul y
      Fixed.div (Fixed.mul (Fixed.div (sin px) px) (Fixed.div (sin (px / 2)) (px / 2))) o

/-- The weights of phase `ph` (R78): `taps` is 8 horizontally and 4 vertically; tap `i` stands at `i - taps/2 + 1`. -/
def scaleWeights (kern step taps ph : Nat) : List Int :=
  let base := if kern = 0 then 1 else if kern = 1 then 2 else 4
  let f := min (max 0x100000 step) (taps * 0x100000 / base)
  let raw := (List.range taps).map fun (i : Nat) =>
    let dist : Int := ((i : Int) - (taps / 2 : Nat) + 1) * 64 - ph
    let d := dist.natAbs
    if kern = 0 then
      (if d * 2 ^ 15 < f ∨ (d * 2 ^ 15 = f ∧ 0 < dist) then Fixed.round (Fixed.ofRat 0x100000 f) 1024 else 0)
    else Fixed.round (Fixed.div (kernelFix kern (d * 2 ^ 14) f) (Fixed.ofRat f 0x100000)) 1024
  let sum := raw.foldl (· + ·) 0
  let near := taps / 2 - 1 + (if ph < 32 then 0 else 1)
  updWith raw near (· + (1024 - sum))

/-- A weighted sum of channel values in the layer's format, rounded and clamped as R78 says. -/
def filterChannel (fmt i : Nat) (w : List Int) (v : List Nat) : Nat :=
  if fmt = 2 then halfCode ((List.zipWith (fun a c => a * halfVal c) w v).foldl (· + ·) 0) 1024
  else
    let x := ((List.zipWith (fun a (c : Nat) => a * (c : Int)) w v).foldl (· + ·) 0 + 512) / 1024
    (clampI 0 (if fmt = 0 then 255 else if i = 3 then 3 else 1023) x).toNat

/-- A pixel as it enters the filter (R70, R78). -/
def takenPx (fmt px : Nat) : Nat :=
  if fmt = 2 then packChannels 2 ((List.range 4).map fun i => halfTaken i (nth 0 (channels 2 px) i)) else px

/-- Pixels filtered with weights; none where any tap is none (R78). -/
def filterPx (fmt : Nat) (w : List Int) (px : List (Option Nat)) : Option Nat :=
  if px.any (·.isNone) then none
  else
    let ch := px.map fun p => channels fmt (p.getD 0)
    some (packChannels fmt ((List.range 4).map fun i => filterChannel fmt i w (ch.map fun c => nth 0 c i)))

end Sys2Proof.Machine
end

