-- ==== Sys2Proof/Machine/Ton.lean ====
section
/-! DEFINITION. Tone mapping and panel encoding (spec/07_tone_and_panel_encoding.md): the output units, the proof path, the
shadowed registers and the wear banks. -/
namespace Sys2Proof.Machine

/-! ### Lookups (R144, R146) -/

/-- The lookup of R144 in a curve of 609 entries. -/
def curveLookup (tc : Nat → Int) (x : Nat) : Int :=
  if x < 32 then tc x
  else
    let n := Nat.log2 x
    let idx := 32 * (n - 4) + x / 2 ^ (n - 5) - 32
    let fr := x % 2 ^ (n - 5)
    let d := (tc (idx + 1) - tc idx) * (fr : Int)
    tc idx + (if n = 5 then d else rnd d (n - 5))

/-- The 8 × 8 ordered matrix of R147. -/
def ditherB : List Nat :=
  [0, 32, 8, 40, 2, 34, 10, 42, 48, 16, 56, 24, 50, 18, 58, 26, 12, 44, 4, 36, 14, 46, 6, 38, 60, 28, 52, 20, 62, 30, 54, 22
  , 3, 35, 11, 43, 1, 33, 9, 41, 51, 19, 59, 27, 49, 17, 57, 25, 15, 47, 7, 39, 13, 45, 5, 37, 63, 31, 55, 23, 61, 29, 53, 21]

/-- A word of the live set of shadowed registers (R153). -/
def tonWord (live : List (Nat × Word)) (a : Nat) : Word := Sparse.get resetWord live a

/-- What an output unit needs of one emitter: its place and its blended light. -/
structure Emit where
  frame : Nat
  llx : Nat
  lly : Nat
  lx : Nat
  ly : Nat
  iu : Nat
  iv : Nat
  deriving DecidableEq, Repr

/-- The output of one emitter: its 30-bit value, how many values were clipped, whether it was clamped at 0. -/
structure EmitOut where
  val : Nat
  clips : Nat
  neg : Bool
  deriving DecidableEq, Repr

/-- Grid interpolation with the weights of R53 (R145). -/
def gainMix (g : Nat → Nat) (llx lly : Nat) : Nat :=
  let fx := llx % 32
  let fy := lly % 32
  let i := llx / 32
  let j := lly / 32
  ((32 - fx) * (32 - fy) * g (41 * j + i) + fx * (32 - fy) * g (41 * j + i + 1) + (32 - fx) * fy * g (41 * (j + 1) + i)
    + fx * fy * g (41 * (j + 1) + i + 1) + 512) / 1024

/-- Stages 4 to 8 of R136 for one emitter of region `t` (R143 to R148). -/
def tonEmit (b : Bank) (wear : Nat → Nat) (live : List (Nat × Word)) (t : Nat) (e : Emit) (cr cg cb : Int) : EmitOut :=
  let m (r k : Nat) : Int := sgn 17 (tonWord live (Reg.TON_M t (3 * r + k))).toNat
  let p0 (r : Nat) : Int := rnd (m r 0 * cr + m r 1 * cg + m r 2 * cb) 14
  let neg := decide (p0 0 < 0) || decide (p0 1 < 0) || decide (p0 2 < 0)
  let p (r : Nat) : Nat := (clampI 0 8388607 (p0 r)).toNat
  let ctl := tonWord live (Reg.TON_OUT_CTRL t)
  let look (x : Nat) : Int := clampI 0 65535 (curveLookup (fun i => (b.word .ton t i : Int)) x)
  let mx := max (p 0) (max (p 1) (p 2))
  let tone (r : Nat) : Nat :=
    if fld ctl 1 0 = 1 then (if mx = 0 then 0 else min 65535 (p r * (look mx).toNat / mx)) else (look (p r)).toNat
  let sat18 (x : Nat) : Nat := min 262143 x
  let one (c : Nat) : Nat × Nat :=
    let gc := gainMix (fun k => b.word .ton t (3744 + 3 * k + c)) e.llx e.lly
    let gw := gainMix (fun k => wear (t * 4305 + 3 * k + c)) e.llx e.lly
    let pr := b.word .ton t (8064 + 3 * (16 * e.iv + e.iu) + c)
    let g := sat18 ((sat18 ((gc * pr + 16384) / 32768) * gw + 16384) / 32768)
    let td := (tone c * g + 16384) / 32768
    let clip := decide (65535 < td)
    let td := min 65535 td
    let ec (i : Nat) : Int := (b.word .ton t (640 + 1025 * c + i) : Int)
    let idx := td / 64
    let code := (clampI 0 65535 (ec idx + rnd ((ec (idx + 1) - ec idx) * ((td % 64 : Nat) : Int)) 6)).toNat
    let dm := fld ctl 9 8
    let f := if 2 ≤ dm then e.frame % 8 else 0
    let d := if dm = 0 then 32 else nth 0 ditherB (8 * ((e.ly + (e.iv + 5 * c + 3 * f) % 8) % 8) + (e.lx + (e.iu + 3 * c + 5 * f) % 8) % 8)
    (min 1023 ((code + d) / 64), b2n clip)
  let r := one 0
  let g := one 1
  let bl := one 2
  ⟨r.1 + 1024 * g.1 + 1048576 * bl.1, r.2 + g.2 + bl.2, neg⟩

/-! ### The proof path (R149) -/

/-- Entry `k` of the fixed encoding table of a TRANSFER, in units of 2^-16 clipped to 16 bits. -/
def pvEntry (tr k : Nat) : Int :=
  let x : Int := tonX k
  let v := if tr = 1 then Fixed.round (Fixed.srgbInv (min Fixed.one (Fixed.ofRat x 65536))) 65536
    else if tr = 3 then Fixed.round (Fixed.hlgInv (min Fixed.one (Fixed.ofRat x 65536))) 65536
    else Fixed.round (Fixed.pqInv (min Fixed.one (Fixed.ofRat x 6553600))) 65536
  clampI 0 65535 v

/-- The proof pixel of a working value (R101, R149). -/
def proofPixel (ctl : Word) (scale : Nat) (cr cg cb : Int) : Nat :=
  let pr := fld ctl 5 4
  let o (x y z : Int) : Int := rnd (x * cr + y * cg + z * cb) 14
  let c3 : List Int := if pr = 0 then [o 27206 (-9628) (-1194), o (-2041) 18562 (-137), o (-297) (-1648) 18329]
    else if pr = 1 then [o 22013 (-4623) (-1006), o (-1070) 17626 (-172), o 46 (-321) 16659] else [cr, cg, cb]
  let one (i : Nat) : Nat :=
    let x := (clampI 0 8388607 (nth 0 c3 i)).toNat
    let x := min 8388607 ((x * scale + 32768) / 65536)
    let v := (clampI 0 65535 (curveLookup (pvEntry (fld ctl 1 0)) x)).toNat
    if bit ctl 8 then 64 + (v * 876 + 32768) / 65536 else min 1023 ((v + 32) / 64)
  one 0 + 1024 * one 1 + 1048576 * one 2

/-! ### Shadowed registers (R153) -/

/-- The registers marked S of R154, by offset from TON. -/
def tonShadowed (a : Nat) : Bool :=
  a == Reg.TON_SDR_WHITE || a == Reg.TON_HLG_PEAK || (decide (0x600090 ≤ a) && decide (a < 0x6000B0)) ||
    (decide (0x601000 ≤ a) && decide (a < 0x607000) && decide (0x40 ≤ a % 0x1000) && decide (a % 0x1000 < 0x68))

/-- A write of a shadowed register waits, classed by SHADOWED as it stands (R153): in the place of an earlier one of its class, and after every
other, so that of two that apply at one latch point the later is in force. -/
def State.tonHold (s : State) (a : Nat) : State :=
  let sh := s.rb (Reg.SHADOW_CTRL (a / 0x1000 * 0x1000)) 0
  { s with ton := { s.ton with wait := (s.ton.wait.filter fun e => !(e.1 == a && e.2.2 == sh)) ++ [(a, (s.rd a, sh))] } }

/-- The waiting writes that apply at this latch point: those not in the shadow, those of a page whose Take applies, and those of
a page that a committing party owns (R153). -/
def State.tonLatchRegs (s : State) (takes : Nat → Nat → Bool) : State :=
  let goes (e : Nat × (Word × Bool)) : Bool :=
    let pg := e.1 / 0x1000 * 0x1000
    !e.2.2 || (s.rb (Reg.SHADOW_CTRL pg) 0 && takes pg (s.rf (Reg.SHADOW_CTRL pg) 12 8)) || s.ton.commits.any (fun p => s.rb (Reg.PAGE_OWNER pg) p)
  let live := s.ton.wait.foldl (fun l e => if goes e then Sparse.set resetWord l e.1 e.2.1 else l) s.ton.live
  { s with ton := { s.ton with live := live, wait := s.ton.wait.filter (fun e => !goes e), commits := [] } }

/-! ### Wear banks (R152) -/

abbrev wearDefault (_ : Nat) : Nat := 0x8000

def State.wearActive (s : State) : Nat := s.rf Reg.TON_WEAR 0 0

def State.wearBank (s : State) (i : Nat) : List (Nat × Nat) := if i = 0 then s.ton.wearA else s.ton.wearB

def State.setWear (s : State) (i : Nat) (w : List (Nat × Nat)) : State :=
  if i = 0 then { s with ton := { s.ton with wearA := w } } else { s with ton := { s.ton with wearB := w } }

/-- WEAR_SWAP (R152). -/
def State.wearSwap (s : State) (frame : Nat) : State :=
  if s.ton.wearReady then
    let s := s.wn Reg.TON_WEAR (frame % 65536 * 65536 + (1 - s.wearActive))
    ({ s with ton := { s.ton with wearReady := false } }).evt 711
  else s

/-- Side effects of a write of a TON register beyond storing it. -/
def State.tonWritten (s : State) (p : Party) (a : Nat) (v : Word) : State :=
  if a = Reg.TON_CMD then s.tabCmd .ton p v
  else if a = Reg.TON_COMMIT then
    (if bit v 0 then { s with ton := { s.ton with commits := insSorted (partyCode p) s.ton.commits } } else s)
  else if tonShadowed a then s.tonHold a
  else s

/-! ### Meanings -/

/-- TON_LOAD (R151). -/
def execTonLoad (p : Party) (s : State) : Host.Outcome State Fault Refusal := done (s.regWrite p Reg.TON_CMD 1 fun s => s.tabCmd .ton p 1)

/-- TON_LOAD_READ_DONE (R151). -/
def execTonLoadReadDone (s : State) : Host.Outcome State Fault Refusal := done (s.tabRead .ton)

/-- TON_ARM (R151). -/
def execTonArm (p : Party) (s : State) : Host.Outcome State Fault Refusal := done (s.regWrite p Reg.TON_CMD 2 fun s => s.tabCmd .ton p 2)

/-- TON_DISARM (R151). -/
def execTonDisarm (p : Party) (s : State) : Host.Outcome State Fault Refusal := done (s.regWrite p Reg.TON_CMD 3 fun s => s.tabCmd .ton p 3)

/-- TON_COMMIT (R153). -/
def execTonCommit (p : Party) (v : Word) (s : State) : Host.Outcome State Fault Refusal :=
  done (s.regWrite p Reg.TON_COMMIT v fun s => s.tonWritten p Reg.TON_COMMIT v)

/-- TON_REPAIR_START (R151). -/
def execTonRepairStart (s : State) : Host.Outcome State Fault Refusal := done (s.repairStart .ton)

/-- An uncorrectable word of a wear grid reads as 0x8000 (R152): of the active bank, or of the other one. -/
def State.wearUncorr (s : State) (other : Bool) (t word : Nat) : State :=
  let i := if other then 1 - s.wearActive else s.wearActive
  (s.setWear i (Sparse.erase (t * 4305 + word) (s.wearBank i))).notice 144

/-- TON_WEAR_UNCORR (R152). -/
def execTonWearUncorr (other : Bool) (t : Fin 6) (word : Fin 4305) (s : State) : Host.Outcome State Fault Refusal := done (s.wearUncorr other t word)

end Sys2Proof.Machine
end

