-- ==== Sys2Proof/Machine/Lyr.lean ====
section
/-! DEFINITION. Layers and the Slate (spec/04_layers_and_slates.md): the checks at the flip, flips and Takes of a layer, claims,
scaler assignment, stale counts and indicators. -/
namespace Sys2Proof.Machine

/-- The page of layer `n`. -/
abbrev lyrPage (n : Nat) : Nat := Reg.page 4 (n + 1)

/-- Word `i` (0 to 11) of the shadow Slate. -/
def State.shadow (s : State) (n i : Nat) : Nat := s.rn (lyrPage n + 0x40 + 4 * i)

/-- Word `i` of the active Slate. -/
def State.active (s : State) (n i : Nat) : Nat := s.rn (lyrPage n + 0xC0 + 4 * i)

/-- Slate words by index. -/
abbrev slAddrLo : Nat := 0
abbrev slAddrHi : Nat := 1
abbrev slPitch : Nat := 2
abbrev slFormat : Nat := 3
abbrev slDisparity : Nat := 4
abbrev slAlpha : Nat := 5
abbrev slOrigin : Nat := 6
abbrev slSize : Nat := 7
abbrev slSrc : Nat := 8
abbrev slScale : Nat := 9
abbrev slFence : Nat := 10
abbrev slTarget : Nat := 11

/-- FORMAT is RGBA16F. -/
def is16F (fmt : Nat) : Bool := nfld fmt 1 0 == 2

def ownerHost (fmt : Nat) : Nat := nfld fmt 30 28

def scaleEn (w : Nat) : Bool := w.testBit 0

/-- ENABLE of a layer's page as it stands. -/
def State.lyrEnabled (s : State) (n : Nat) : Bool := s.enabled (lyrPage n)

/-- The layer is under TEST (R84). -/
def State.lyrTest (s : State) (n : Nat) : Bool := s.pgState (lyrPage n) == stTest

/-- A layer is waiting (R122): CMT_PENDING. -/
def State.waiting (s : State) (n : Nat) : Bool := s.rb (Reg.CMT_PENDING_LO + 4 * (n / 32)) (n % 32)

def State.setWaiting (s : State) (n : Nat) (b : Bool) : State := s.wb (Reg.CMT_PENDING_LO + 4 * (n / 32)) (n % 32) b

/-- LYR_STATUS.PRINT. -/
def State.lyrPrint (s : State) (n : Nat) : Bool := s.rb (Reg.LYR_STATUS n) 8

/-- Effective scaler quota of port `p` (R85). -/
def State.scalerQuota (s : State) (p : Nat) : Nat :=
  let f (i : Nat) : Nat := s.rf Reg.LYR_SCALER_QUOTA (4 * i + 3) (4 * i)
  ((List.range (p + 1)).foldl (fun (acc : Nat × Nat) i => let q := min (f i) (8 - acc.1); (acc.1 + q, q)) (0, 0)).2

/-- The checks of R81, in their order: 0 where all pass; check 5 counts as R457 states. -/
def State.slateCheck (s : State) (n : Nat) : Nat :=
  let fmt := s.shadow n slFormat
  let own := s.rf (Reg.PAGE_OWNER (lyrPage n)) 5 0
  let oh := ownerHost fmt
  if nfld fmt 1 0 = 3 ∨ nfld fmt 13 12 = 3 then 1
  else if oh = 4 ∨ 6 ≤ oh ∨ (oh ≤ 3 ∧ !own.testBit oh) ∨ (oh = 5 ∧ own % 16 ≠ 0) then 2
  else if is16F fmt ∧ 38 ≤ n then 3
  else if is16F fmt ∧ s.rf (Reg.PAGE_OWNER (lyrPage (n + 1))) 5 0 ≠ own then 4
  else if scaleEn (s.shadow n slScale) ∧ n < 39 ∧ oh ≤ 3 ∧
      s.scalerQuota oh < 1 + ((List.range 39).filter fun m => m ≠ n && s.lyrEnabled m && scaleEn (s.active m slScale) && ownerHost (s.active m slFormat) == oh).length then 5
  else 0

/-- What a latch point is to raise, in the order of step 7 of R118. -/
structure LatchEv where
  flipped : List Nat
  stale : List Nat
  limit : List Nat
  refused : List Nat
  takes : List Nat
  lost : List Nat
  reps : List Report
  deriving DecidableEq, Repr

def LatchEv.none : LatchEv := ⟨[], [], [], [], [], [], []⟩

/-- The shadow copied into the active Slate (R67, R77, R122, R123). The steps that LYR_STEP_X and LYR_STEP_Y show are those of the latest flip of
the layer as a scaled one: the spec does not say what they show while the layer is not scaled (log 27). -/
def State.slateCopy (s : State) (n : Nat) : State :=
  let s := s.each 12 fun i s => s.wn (lyrPage n + 0xC0 + 4 * i) (s.shadow n i)
  let s := (s.setWaiting n false).wf (Reg.LYR_STALE_COUNT n) 15 0 0
  let s := (s.cntWrap (Reg.LYR_FLIP_CNT n)).wf (Reg.LYR_STATUS n) 19 16 0
  let s := s.when (scaleEn (s.active n slScale)) fun s =>
    let st := scaleSteps (s.active n slSrc) (s.active n slSize)
    (s.wn (Reg.LYR_STEP_X n) st.1).wn (Reg.LYR_STEP_Y n) st.2
  if s.lyrEnabled n then { s with lyr := { s.lyr with flipped := upd s.lyr.flipped n true } } else s

/-- A copy of layer `n`, by flip or Take: checked, then made or refused (R81). -/
def State.slateApply (s : State) (ev : LatchEv) (n : Nat) : State × LatchEv :=
  let c := s.slateCheck n
  if c = 0 then (s.slateCopy n, { ev with flipped := ev.flipped ++ [n] })
  else
    let s := s.wf (Reg.LYR_STATUS n) 19 16 c
    if nth false s.lyr.refused n then (s, ev)
    else
      ({ s with lyr := { s.lyr with refused := upd s.lyr.refused n true } },
        { ev with refused := ev.refused ++ [n], reps := ev.reps ++ [⟨42, 0, 0, [], false⟩] })

/-- Counter `i` has reached `target` (R119). -/
def State.fenceVal (s : State) (i : Nat) : Nat := s.rn (Reg.FENCE_VAL (i / 32) (i % 32))

def reached (v target : Nat) : Bool := decide ((v + 2 ^ 32 - target) % 2 ^ 32 < 2 ^ 31)

/-- Layer `n` would flip by its fence (R122). -/
def State.fenceReady (s : State) (n : Nat) : Bool :=
  let f := s.shadow n slFence
  !f.testBit 31 || reached (s.fenceVal (f % 256)) (s.shadow n slTarget)

/-- Step 2 for the layer pages: those a due Take copies, in ascending index. -/
def State.lyrTakes (s : State) (takes : Nat → Nat → Bool) (ev : LatchEv) : State × LatchEv × List Nat :=
  (List.range 40).foldl (fun (acc : State × LatchEv × List Nat) n =>
    let (s, ev, l) := acc
    if takes (lyrPage n) (s.rf (Reg.SHADOW_CTRL (lyrPage n)) 12 8) then
      let r := s.slateApply ev n
      (r.1, r.2, n :: l)
    else acc) (s, ev, [])

/-- Step 3: flips in ascending index; `claimed` says that the layer before claims this one (R74, R122). -/
def State.lyrFlips (s : State) (ev : LatchEv) (taken : List Nat) : State × LatchEv :=
  let r := (List.range 40).foldl (fun (acc : State × LatchEv × Bool) n =>
    let (s, ev, claimed) := acc
    let on := s.lyrEnabled n && !s.lyr.hide.contains n
    let part := on && !s.lyrTest n && !claimed
    let (s, ev) := if part && s.waiting n && !taken.contains n && s.fenceReady n then s.slateApply ev n else (s, ev)
    (s, ev, on && !claimed && is16F (s.active n slFormat) && decide (n ≤ 37))) (s, ev, false)
  (r.1, r.2.1)

/-- Step 4, enables (R84) and layers hidden by a port reset (R128). -/
def State.lyrEnables (s : State) : State :=
  let s := s.eachOf s.lyr.hide fun n s => s.wb (Reg.PAGE_CTRL (lyrPage n)) 0 false
  { s with lyr := { s.lyr with on := (List.range 40).map fun n => s.lyrEnabled n, hide := []
                               flipped := (List.range 40).map fun n => s.lyrEnabled n && nth false s.lyr.flipped n } }

/-- STATE of layer `n` when nothing holds it back (R84): IDLE from its enable to its first flip, then RUN. -/
def State.lyrIdleRun (s : State) (n : Nat) : Nat := if nth false s.lyr.flipped n then stRun else stIdle

/-- STATE of the layer pages after a latch point's enables and claims (R84): OFF where disabled; unchanged while claimed or under TEST. -/
def State.lyrStates (s : State) : State :=
  s.each 40 fun n s =>
    s.when (!s.rb (Reg.LYR_STATUS n) 0 && !s.lyrTest n) fun s => s.setPgState (lyrPage n) (if s.lyrEnabled n then s.lyrIdleRun n else stOff)

/-- Claims (R74): LYR_STATUS.CLAIMED of every layer. -/
def State.lyrClaims (s : State) : State :=
  ((List.range 40).foldl (fun (acc : State × Bool) n =>
    let (s, claimed) := acc
    (s.wb (Reg.LYR_STATUS n) 0 claimed, s.lyrEnabled n && !claimed && is16F (s.active n slFormat) && decide (n ≤ 37))) (s, false)).1

/-- The layer takes part but for its scaler (R84, R74). -/
def State.lyrBase (s : State) (n : Nat) : Bool := s.lyrEnabled n && !s.lyrTest n && !s.rb (Reg.LYR_STATUS n) 0

/-- The layer wants a scaler: it takes part, is scaled, and is not served from the Print (R76). -/
def State.wantsScaler (s : State) (n : Nat) : Bool := s.lyrBase n && scaleEn (s.active n slScale) && !s.lyrPrint n

/-- Scaler assignment (R76): layers that keep theirs, then the rest in ascending index; NO_SCALER where none is free. REFUSE_CODE stops reading
NO_SCALER when the layer gets a scaler, or flips; where its wait ends because it is disabled, claimed or served from the Print, the code
stands: the spec does not say (log 27). -/
def State.lyrScalers (s : State) (ev : LatchEv) : State × LatchEv :=
  let cur (s : State) (n : Nat) : Nat := s.rf (Reg.LYR_STATUS n) 7 4
  let s := s.each 40 fun n s => s.when (!s.wantsScaler n) fun s => s.wf (Reg.LYR_STATUS n) 7 4 0xF
  let s := s.when (s.wantsScaler 39) fun s => s.wf (Reg.LYR_STATUS 39) 7 4 8
  (List.range 39).foldl (fun (acc : State × LatchEv) n =>
    let (s, ev) := acc
    if s.wantsScaler n && cur s n == 0xF then
      match (List.range 8).find? (fun k => (List.range 39).all fun m => cur s m ≠ k) with
      | some k =>
        let s := s.wf (Reg.LYR_STATUS n) 7 4 k
        (s.when (s.rf (Reg.LYR_STATUS n) 19 16 == 6) fun s => s.wf (Reg.LYR_STATUS n) 19 16 0, ev)
      | none =>
        let s := s.wf (Reg.LYR_STATUS n) 19 16 6
        if nth false s.lyr.noScaler n then (s, ev)
        else ({ s with lyr := { s.lyr with noScaler := upd s.lyr.noScaler n true } },
          { ev with refused := ev.refused ++ [n], reps := ev.reps ++ [⟨43, 0, 0, [], false⟩] })
    else acc) (s, ev)

/-- The layer takes part in the frame now latched. -/
def State.takesPart (s : State) (n : Nat) : Bool :=
  s.lyrBase n && (!s.wantsScaler n || s.rf (Reg.LYR_STATUS n) 7 4 != 0xF)

/-- The VALID Print entry that layer `n` belongs to (R220). -/
def State.printEntry (s : State) (n : Nat) : Option PEntry := s.prt.entries.find? fun e => e.st == 2 && decide (e.front ≤ n) && decide (n ≤ e.last)

/-- The unit counts and the sets of the latched frame (R75, R85, R86, R219): every enabled, unclaimed layer counts, also one under TEST or
without a scaler. -/
def State.lyrUnits (s : State) : State :=
  let units (s : State) (n : Nat) : Nat :=
    if !s.lyrEnabled n || s.rb (Reg.LYR_STATUS n) 0 then 0
    else match s.printEntry n with
    | some e => if e.front = e.last then e.units else if e.front = n then 2 else 0
    | none => if is16F (s.active n slFormat) then 2 else 1
  let sum (f : Nat → Nat) : Nat := (List.range 40).foldl (fun a n => a + f n) 0
  let s' := s.each 40 fun n s => s.wf (Reg.LYR_STATUS n) 2 1 (units s n)
  let act := sum fun n => if s.takesPart n then 2 ^ n else 0
  let used := sum fun n => if s.takesPart n ∧ s.rf (Reg.LYR_STATUS n) 7 4 ≠ 0xF then 2 ^ s.rf (Reg.LYR_STATUS n) 7 4 else 0
  ((s'.wn Reg.LYR_UNITS_USED (sum (units s))).wn Reg.LYR_SCALERS_USED used).wr64 Reg.LYR_ACTIVE_LO act

/-- Step 5: stale layers (R125). -/
def State.lyrStale (s : State) (ev : LatchEv) : State × LatchEv :=
  (List.range 40).foldl (fun (acc : State × LatchEv) n =>
    let (s, ev) := acc
    if !s.takesPart n then (s.wf (Reg.LYR_STALE_COUNT n) 15 0 0, ev)
    else if ev.flipped.contains n then acc
    else
      let expected := (List.range 6).any fun q => s.rb (Reg.EXPECT_LO q + 4 * (n / 32)) (n % 32) && s.rb (Reg.PAGE_OWNER (lyrPage n)) q
      if s.waiting n || expected then
        let c := satAdd 16 (s.rf (Reg.LYR_STALE_COUNT n) 15 0) 1
        let hit := decide (c = s.rf (Reg.LYR_STALE_LIMIT n) 7 0) && decide (c ≠ s.rf (Reg.LYR_STALE_COUNT n) 15 0)
        (s.wf (Reg.LYR_STALE_COUNT n) 15 0 c, { ev with stale := ev.stale ++ [n], limit := if hit then ev.limit ++ [n] else ev.limit })
      else acc) (s, ev)

/-- The indicators shown in the frame (R83). -/
def State.indicators (s : State) : List Nat :=
  if s.takesPart 39 then
    (List.range 39).filter fun k =>
      let lim := s.rf (Reg.LYR_STALE_LIMIT k) 7 0
      s.rb (Reg.LYR_IND_EN_LO + 4 * (k / 32)) (k % 32) && lim != 0 && decide (lim ≤ s.rf (Reg.LYR_STALE_COUNT k) 15 0)
  else []

/-- LYR_IND_SHOWN. -/
def State.showIndicators (s : State) : State :=
  s.wr64 Reg.LYR_IND_SHOWN_LO (s.indicators.foldl (fun a k => a + 2 ^ k) 0)

/-- Layer `n` as it stands active. -/
def State.layerAt (s : State) (n : Nat) : FLayer :=
  { idx := n, slate := (List.range 12).map fun i => s.active n i,
    scaler := if s.wantsScaler n then some (s.rf (Reg.LYR_STATUS n) 7 4) else none,
    stepX := s.rn (Reg.LYR_STEP_X n), stepY := s.rn (Reg.LYR_STEP_Y n), print := false, merged := false, stored := [] }

/-- A shadow register of layer `n` has been written (R122, R76, R81). -/
def State.slateWritten (s : State) (n : Nat) : State :=
  { s.setWaiting n true with lyr := { s.lyr with refused := upd s.lyr.refused n false, noScaler := upd s.lyr.noScaler n false } }

/-- Side effects of a write of a LYR register beyond storing it. -/
def State.lyrWritten (s : State) (a : Nat) : State :=
  if 0x401000 ≤ a ∧ a < 0x429000 ∧ 0x40 ≤ a % 0x1000 ∧ a % 0x1000 < 0x70 then s.slateWritten ((a - 0x401000) / 0x1000) else s

/-- A port reset of `p` on the layers (R128): shadows set to the active copies, waiting ended, and the layers hidden where
RESET_ACTION says so. -/
def State.lyrPortReset (s : State) (p : Nat) : State :=
  s.each 40 fun n s =>
    if ownerHost (s.shadow n slFormat) = p ∨ ownerHost (s.active n slFormat) = p then
      let s := s.each 12 fun i s => s.wn (lyrPage n + 0x40 + 4 * i) (s.active n i)
      let s := s.setWaiting n false
      if s.rf (Reg.RESET_ACTION p) 1 0 = 1 then { s with lyr := { s.lyr with hide := insSorted n s.lyr.hide } } else s
    else s

/-! ### Meanings -/

/-- SLATE_WRITE (R122, R67, R68): register `i` of the shadow Slate of layer `n`. -/
def execSlateWrite (p : Party) (n : Fin 40) (i : Fin 12) (v : Word) (s : State) : Host.Outcome State Fault Refusal :=
  done (s.writeReg p (lyrPage n + 0x40 + 4 * i) v fun _ _ s => s.slateWritten n)

end Sys2Proof.Machine
end

