-- ==== Sys2Proof/Machine/Cmt.lean ====
section
/-! DEFINITION. Frame epochs, fence counters, Takes and cue lines (spec/06_epochs_flips_takes.md). The latch point and the epoch
themselves are in Latch.lean. -/
namespace Sys2Proof.Machine

abbrev cmtPage : Nat := Reg.page 2 0

/-! ### Time (R111, R112) -/

/-- Numerator and denominator of a rate (R111). -/
def rateOf (r : Nat) : Nat × Nat :=
  nth (60, 1) [(24000, 1001), (24, 1), (25, 1), (30000, 1001), (30, 1), (48000, 1001), (48, 1), (50, 1), (60000, 1001), (60, 1), (100, 1), (120000, 1001), (120, 1)] r

/-- A nanosecond in the units of an epoch time, 2^-16 ns. -/
abbrev nsUnit : Nat := 65536

/-- The ideal epoch t_k (R112). -/
def epochTime (rate k : Nat) : Nat := k * (rateOf rate).2 * 1000000000 * nsUnit / (rateOf rate).1

/-- The period T, rounded down. -/
def framePeriod (rate : Nat) : Nat := epochTime rate 1

/-- The local clock in units of 2^-16 ns. -/
def Clock.units (c : Clock) : Nat := (c.sec * 1000000000 + c.ns) * nsUnit + c.frac / 2 ^ 30

def State.now (s : State) : Nat := s.clock.units

/-- The clock `n` units of 2^-46 ns further on. -/
def Clock.add (c : Clock) (n : Nat) : Clock :=
  let f := c.frac + n
  let ns := c.ns + f / 2 ^ 46
  ⟨(c.sec + ns / 1000000000) % 2 ^ 48, ns % 1000000000, f % 2 ^ 46⟩

/-- `n` ticks of the time-domain clock (R291). -/
def State.clockTicks (s : State) (n : Nat) : State := { s with clock := s.clock.add (n * s.tim.rate) }

/-- Ticks of 2 ns in one tick of the time unit: 20 on bypass (R319). -/
def State.tickSpan (s : State) : Nat := if s.rb (Reg.PLL_STATUS 7) 9 then 20 else 1

/-- A commanded pulse that is due at time `t`: the local clock goes on to its first tick at or after `t` (R112, R299), unless it is past it. A tick is
2 ns, on bypass 40 ns (R319). -/
def State.reachTime (s : State) (t : Nat) : State :=
  let have_ := (s.clock.sec * 1000000000 + s.clock.ns) * 2 ^ 46 + s.clock.frac
  let step := s.tickSpan * s.tim.rate
  s.clockTicks ((t * 2 ^ 30 - have_ + step - 1) / step * s.tickSpan)

def State.cmtRate (s : State) : Nat := s.rf Reg.CMT_RATE 19 16

abbrev tsStopped : Nat := 0
abbrev tsWaiting : Nat := 1
abbrev tsAligned : Nat := 2
abbrev tsSlewing : Nat := 3
abbrev tsFlywheel : Nat := 4

def State.tstate (s : State) : Nat := s.rf Reg.CMT_STATUS 2 0
def State.setTstate (s : State) (v : Nat) : State := s.wf Reg.CMT_STATUS 2 0 v

/-- TSTATE changes; ALIGNED is raised when it becomes ALIGNED (R135). -/
def State.toTstate (s : State) (v : Nat) : State := if s.tstate = v then s else (s.setTstate v).when (v == tsAligned) fun s => s.evt 51

/-- CMT's STATE is RUN. -/
def State.cmtRuns (s : State) : Bool := s.pgState cmtPage == stRun

/-- OFFSET set, with CMT_OFFSET in signed saturating nanoseconds (R130). -/
def State.setOffset (s : State) (o : Int) : State :=
  ({ s with cmt := { s.cmt with offset := o } }).wn Reg.CMT_OFFSET (unsgn 32 (clampI (-0x80000000) 0x7FFFFFFF (o / nsUnit)))

/-- The lowest frame whose ideal epoch lies at least `CMT_LEAD + 1 ms` after now (R113). -/
def State.firstEpoch (s : State) (rate : Nat) : Epoch :=
  let t := s.now + (s.rf Reg.CMT_LEAD 12 0 + 1000) * 1000 * nsUnit
  let k := t * (rateOf rate).1 / ((rateOf rate).2 * 1000000000 * nsUnit)
  let k := if t ≤ epochTime rate k then k else k + 1
  ⟨k, epochTime rate k⟩

/-- CMT starts timing: the first epoch is set (R113). -/
def State.cmtSchedule (s : State) : State :=
  { s with cmt := { s.cmt with waitLock := false, next := some (s.firstEpoch s.cmtRate), lead := s.rf Reg.CMT_LEAD 12 0 } }

/-- The wait for the lock, if any, is over: the first epoch is set, or awaits the first FRAME_SYNC_IN edge (R113, R115). -/
def State.cmtBegin (s : State) : State :=
  if s.rf Reg.CMT_SRC 1 0 = 1 then { s with cmt := { s.cmt with waitLock := false, waitEdge := true } } else s.cmtSchedule

/-- A write that sets CMT's ENABLE (R111, R113); `locked` says that the time unit's active domain is locked. A frame latched before a stop that has
not finished keeps its epoch (R129). -/
def State.cmtStart (s : State) (locked : Bool) : State :=
  let r := s.rf Reg.CMT_RATE 3 0
  let err := if 13 ≤ r then 2 else if 10 ≤ r ∧ s.geo.layout = 0 then 1 else 0
  if err ≠ 0 then (((s.wf Reg.CMT_STATUS 11 8 err).setPgState cmtPage stOff).evt 52).notice 23
  else
    let keep := s.pgState cmtPage == stDraining
    let s := ((s.wf Reg.CMT_STATUS 11 8 0).wf Reg.CMT_RATE 19 16 r).setPgState cmtPage stIdle
    let s := (s.setTstate tsWaiting).setOffset 0
    let c := s.cmt
    let s := { s with cmt := { c with waitLock := false, waitEdge := false, next := none, latched := if keep then c.latched else none
                                      last := if keep then c.last else none, edge := none, good := 0, period := framePeriod r, jump := 0, syncFor := none } }
    if s.rb Reg.CMT_SRC 8 ∧ !locked then { s with cmt := { s.cmt with waitLock := true } } else s.cmtBegin

/-- The next epoch after `e` (R112, R114, R115): the next frame's ideal epoch plus OFFSET, which moves towards 0 by at most CMT_SLEW parts per
million of T; with SRC SYNC_IN the ideal interval is the measured period, and no interval leaves T by more than CMT_SLEW either. -/
def State.followEpoch (s : State) (e : Epoch) : State × Epoch :=
  let t := framePeriod s.cmtRate
  let o := s.cmt.offset
  let lim : Int := t * s.rf Reg.CMT_SLEW 7 0 / 1000000
  let k := ((e.count : Int) + 1 + s.cmt.jump) % 2 ^ 48
  let s := { s with cmt := { s.cmt with jump := 0 } }
  if s.rf Reg.CMT_SRC 1 0 = 1 then
    let step := clampI (t - lim) (t + lim) (s.cmt.period - o)
    (s.setOffset (o + step - s.cmt.period), ⟨k.toNat, e.time + step.toNat⟩)
  else
    let o' := o - clampI (-lim) lim o
    (s.setOffset o', ⟨k.toNat, ((epochTime s.cmtRate k.toNat : Int) + o').toNat⟩)

/-- SLEW_COMPLETE (R114). -/
def State.slewComplete (s : State) : State := if s.tstate = tsSlewing ∧ s.cmt.offset = 0 then s.toTstate tsAligned else s

/-- Whole frames in a step of the clock by `d` units (R114): with the exact period, what is left lies in −T/2 < r ≤ T/2. -/
def stepFrames (rate : Nat) (d : Int) : Int :=
  let n : Int := (rateOf rate).1
  let t : Int := (rateOf rate).2 * 1000000000 * nsUnit
  (2 * d * n + t - 1) / (2 * t)

/-- CLOCK_STEP (R114): the local clock has been stepped by `d` (in units of 2^-16 ns) while STATE is RUN. Every time held stays the same instant; only
the frames still to be latched get other counts. -/
def State.clockStepped (s : State) (d : Int) : State :=
  if !s.cmtRuns then s
  else
    let w := stepFrames s.cmtRate d
    let at_ (t : Nat) : Nat := ((t : Int) + d).toNat
    let label (k : Nat) (v : Int) : Nat := (((k : Int) + v) % 2 ^ 48).toNat
    let move (v : Int) (e : Epoch) : Epoch := ⟨label e.count v, at_ e.time⟩
    let c := s.cmt
    let k := match c.next, c.latched with
      | some e, _ => e.count
      | none, some e => label e.count (1 + c.jump)
      | none, none => 0
    let r := d - ((epochTime s.cmtRate (label k w) : Int) - epochTime s.cmtRate k)
    let s := { s with cmt := { c with next := c.next.map (move w), latched := c.latched.map (move 0), last := c.last.map (move 0), edge := c.edge.map at_
                                      syncRise := at_ c.syncRise, syncFor := c.syncFor.map at_, jump := if c.next.isNone then c.jump + w else c.jump } }
    let s : State := s.when (decide (w ≠ 0)) fun s => (s.evt 50).notice 24
    let s : State := s.setOffset (s.cmt.offset + r)
    if s.cmt.offset ≠ 0 then s.toTstate tsSlewing else s

/-! ### FRAME_SYNC_IN (R115) -/

/-- SYNC_IN_EDGE (R115): an edge at time `at_`, timestamped to the local clock's tick. The active edge is accepted within T/8 of the expected epoch
and at least 0.999 T after the last accepted one. The spec does not say whether a rejected edge breaks 'two consecutive accepted edges', nor when
SYNC_IN_STATUS.LOCKED is set: here rejected edges do not count, and every accepted edge sets LOCKED, in FLYWHEEL too (log 29). -/
def State.syncEdge (s : State) (rising : Bool) (at_ : Nat) : State :=
  if s.rf Reg.CMT_SRC 1 0 ≠ 1 ∨ !s.enabled cmtPage ∨ rising = s.rb Reg.SYNC_IN_CTRL 1 then s
  else
    let s := s.reachTime at_
    let t := s.now
    let T := framePeriod s.cmtRate
    let nsOf (t : Nat) : Nat := t / nsUnit % 1000000000
    if s.cmt.waitEdge then
      let k := t * (rateOf s.cmtRate).1 / ((rateOf s.cmtRate).2 * 1000000000 * nsUnit)
      let need := (s.rf Reg.CMT_LEAD 12 0) * 1000 * nsUnit
      let j := (max T need + T - 1) / T
      let s := { s with cmt := { s.cmt with waitEdge := false, next := some ⟨(k + j) % 2 ^ 48, t + epochTime s.cmtRate j⟩, edge := some t, good := 1
                                            lead := s.rf Reg.CMT_LEAD 12 0 } }
      ((s.wn Reg.SYNC_IN_LAST_NS (nsOf t)).wf Reg.SYNC_IN_STATUS 23 16 0).wf Reg.SYNC_IN_STATUS 31 31 1
    else
      let near (e : Option Epoch) : Option Int := e.map fun (e : Epoch) => (t : Int) - (e.time : Int)
      let cands := (near s.cmt.next).toList ++ (near s.cmt.latched).toList ++ (near s.cmt.last).toList
      let best : Option Int := cands.foldl (fun (a : Option Int) x => match a with | none => some x | some y => if x.natAbs < y.natAbs then some x else a) none
      let okGap : Bool := match s.cmt.edge with | none => true | some e => decide (T * 999 / 1000 ≤ t - e)
      match best with
      | some d =>
        if d.natAbs * 8 ≤ T ∧ okGap then
          let per := match s.cmt.edge with | some e => (t - e) / max 1 ((2 * (t - e) + T) / (2 * T)) | none => s.cmt.period
          let good := s.cmt.good + 1
          let s := { s with cmt := { s.cmt with edge := some t, good := good, period := per } }
          let s := ((s.wn Reg.SYNC_IN_LAST_NS (nsOf t)).wf Reg.SYNC_IN_STATUS 23 16 0).wf Reg.SYNC_IN_STATUS 31 31 1
          let s := s.setOffset (-d)
          if s.tstate = tsFlywheel then
            if 2 ≤ good then (s.toTstate (if d = 0 then tsAligned else tsSlewing)).evt 59 else s
          else if d ≠ 0 ∧ s.tstate = tsAligned then s.toTstate tsSlewing
          else s
        else ((s.wf Reg.SYNC_IN_STATUS 15 0 (satAdd 16 (s.rf Reg.SYNC_IN_STATUS 15 0) 1))).evt 60
      | none => s

/-- SYNC_IN_MISS (R115). -/
def State.syncMiss (s : State) : State :=
  if s.rf Reg.CMT_SRC 1 0 ≠ 1 ∨ !s.cmtRuns then s
  else
    let n := satAdd 8 (s.rf Reg.SYNC_IN_STATUS 23 16) 1
    let s := ({ s with cmt := { s.cmt with good := 0 } }).wf Reg.SYNC_IN_STATUS 23 16 n
    if max 1 (s.rf Reg.SYNC_IN_CTRL 11 8) ≤ n ∧ s.tstate ≠ tsFlywheel then
      (((s.setTstate tsFlywheel).wf Reg.SYNC_IN_STATUS 31 31 0).evt 58).notice 22
    else s

/-! ### Fence counters (R119 to R121) -/

/-- EVT_RAW of counter `i` (R121). -/
def State.fenceRaw (s : State) (i : Nat) : Bool := reached (s.fenceVal i) (s.rn (Reg.FENCE_WATCH (i / 32) (i % 32)))

/-- The condition of R121 evaluated anew for counter `i`: an event on its rising edge. -/
def State.fenceCheck (s : State) (i : Nat) : State :=
  let now := s.fenceRaw i
  let was := Sparse.get (fun _ => true) s.cmt.watch i
  let s := { s with cmt := { s.cmt with watch := Sparse.set (fun _ => true) s.cmt.watch i now } }
  if now && !was then s.evt (64 + i) else s

/-- Counter `i` set. -/
def State.setFence (s : State) (i v : Nat) : State := (s.wn (Reg.FENCE_VAL (i / 32) (i % 32)) v).fenceCheck i

/-- FENCE_ADVANCE (R120): an engine advances counter `i` by `n` as the party of the host port that owns the work; work of MGT
(`none`) advances any counter. A party that does not own the page is handled as a dropped write (R28). -/
def State.fenceAdvance (s : State) (port : Option Nat) (i n : Nat) : State :=
  let pg := Reg.page 2 (1 + i / 32)
  match port with
  | some p => if s.rb (Reg.PAGE_OWNER pg) p then s.setFence i (s.fenceVal i + n) else s.ownViol (partyOf p) (Reg.FENCE_ADD (i / 32) (i % 32))
  | none => s.setFence i (s.fenceVal i + n)

/-! ### Takes (R123, R124) -/

/-- The Takes of party `q` are due at the latch point of frame `frame`. -/
def State.takeDue (s : State) (q frame : Nat) : Bool :=
  !s.rb (Reg.TAKE_AT q) 31 || s.rf (Reg.TAKE_AT q) 15 0 == frame % 65536

/-- A Take of group `g` by an owner of page `pg` applies at the latch point of `frame`. -/
def State.takeApplies (s : State) (frame : Nat) (pg g : Nat) : Bool :=
  (List.range 6).any fun q => s.rb (Reg.TAKE_ARM q) g && s.takeDue q frame && s.rb (Reg.PAGE_OWNER pg) q

/-- The groups of which any Take applies. -/
def State.takeGroups (s : State) (frame : Nat) : List Nat :=
  (List.range 32).filter fun g => (List.range 6).any fun q => s.rb (Reg.TAKE_ARM q) g && s.takeDue q frame

/-- After the apply: the arms of the applied groups clear, and TAKE_LAST records the frame. -/
def State.takesDone (s : State) (frame : Nat) : State :=
  s.each 6 fun q s =>
    s.when (s.takeDue q frame && s.rd (Reg.TAKE_ARM q) != 0) fun s => (s.wr (Reg.TAKE_ARM q) 0).wf (Reg.TAKE_LAST q) 15 0 frame

/-! ### Cue lines (R126, R127) -/

/-- Operations at the head of a block engine queue that wait for cue line `c` become ready (spec/11_block_engine.md R237). -/
def State.cueBlk (s : State) (c frame : Nat) : State :=
  let waits (o : BOp) : Bool := o.waiting && o.fired.isNone && o.cue == some c
  let mark (o : BOp) : BOp := if waits o then { o with fired := some (frame % 65536) } else o
  let s' := s.each 4 fun p s => s.when (match s.blk.queues[p]? with | some q => q.ops.any waits | none => false) fun s => s.wb (Reg.BLK_Q_STATUS p) 20 false
  { s' with blk := { s.blk with queues := s.blk.queues.map fun (q : BQueue) => { q with ops := q.ops.map mark } } }

/-- CUE_FIRE: cue line `c` fires for the frame with count `frame`. -/
def State.cueFire (s : State) (c frame : Nat) (late : Bool) : State :=
  let s := s.cueBlk c frame
  let s := s.wn (Reg.CUE_STATUS c) (frame % 65536 + b2n late * 2 ^ 31)
  ({ s with cmt := { s.cmt with cueCount := updWith s.cmt.cueCount c (· + 1) } }).evt (54 + c)

/-- Mode of cue line `c` in force: 1 ROW, 2 TIME (R133). -/
def State.cueMode (s : State) (c : Nat) : Nat := nfld (nth (0, 0) s.cmt.cues c).1 1 0

/-- The greatest CUE_OFFSET, T − 1 µs (R127). -/
def cueMax (rate : Nat) : Nat := framePeriod rate / nsUnit / 1000 - 1

/-- CUE_TIME_FIRE (R127): once per frame, while STATE is RUN. -/
def State.cueTime (s : State) (c : Nat) : State :=
  match s.cmt.last with
  | some e =>
    if s.cmtRuns ∧ s.cueMode c = 2 ∧ !s.cmt.cueFired.contains c then
      let off := min (nfld (nth (0, 0) s.cmt.cues c).2 15 0) (cueMax s.cmtRate)
      ({ s.reachTime (e.time + off * 1000 * nsUnit) with cmt := { s.cmt with cueFired := c :: s.cmt.cueFired } }).cueFire c e.count false
    else s
  | none => s

/-! ### FRAME_SYNC_OUT (R116) -/

/-- The epoch that FRAME_SYNC_OUT rises for next: the latest one, or with a negative SYNC_OUT_OFFSET the one to come. -/
def State.syncEpoch (s : State) : Option Epoch :=
  if sgn 32 (s.rn Reg.SYNC_OUT_OFFSET) < 0 then (match s.cmt.latched with | some e => some e | none => s.cmt.next) else s.cmt.last

/-- SYNC_OUT_RISE: once for an epoch, at the first tick at or after it plus SYNC_OUT_OFFSET. -/
def State.syncOutRise (s : State) : State :=
  match s.syncEpoch with
  | some e =>
    if s.cmtRuns && s.rb Reg.SYNC_OUT_CTRL 0 && s.cmt.syncFor != some e.time then
      let s := s.reachTime ((e.time : Int) + sgn 32 (s.rn Reg.SYNC_OUT_OFFSET) * nsUnit).toNat
      { s with cmt := { s.cmt with syncOut := true, syncRise := s.now, syncFor := some e.time } }
    else s
  | none => s

/-- The pin goes low. -/
def State.syncOutLow (s : State) : State := { s with cmt := { s.cmt with syncOut := false } }

/-- SYNC_OUT_FALL: WIDTH µs after the rise. -/
def State.syncOutFall (s : State) : State :=
  if s.cmt.syncOut then (s.reachTime (s.cmt.syncRise + max 1 (s.rf Reg.SYNC_OUT_CTRL 15 8) * 1000 * nsUnit)).syncOutLow else s

/-- A write of FENCE_REQ has no effect on CMT pages; a stop (R129): no latch point follows the write. -/
def State.cmtStop (s : State) : State :=
  let s := { s with cmt := { s.cmt with next := none, waitLock := false, waitEdge := false, syncOut := false } }
  (s.setPgState cmtPage (if s.pgState cmtPage = stRun ∨ s.cmt.latched.isSome then stDraining else stOff)).setTstate tsStopped

/-- The last epoch of the frames already latched, plus T, has passed (R129). -/
def State.cmtDrained (s : State) : State := match s.cmt.last with | some e => s.reachTime (e.time + framePeriod s.cmtRate) | none => s

/-- A port reset of `p` on CMT (R128). -/
def State.cmtPortReset (s : State) (p : Nat) : State := (s.wr (Reg.TAKE_ARM p) 0).lyrPortReset p

/-- Side effects of a write of a CMT register beyond storing it. CUE_OFFSET is limited by the period of the rate in force, or while CMT is disabled of
the rate that RATE selects (log 32). -/
def State.cmtWritten (s : State) (a : Nat) (v : Word) : State :=
  if 0x201000 ≤ a ∧ a < 0x209000 then
    let pg := (a - 0x201000) / 0x1000
    let off := a % 0x1000
    if 0x40 ≤ off ∧ off < 0xC0 then s.fenceCheck (32 * pg + (off - 0x40) / 4)
    else if 0xC0 ≤ off ∧ off < 0x140 then
      let i := 32 * pg + (off - 0xC0) / 4
      s.setFence i (s.fenceVal i + v.toNat)
    else if 0x140 ≤ off ∧ off < 0x1C0 then s.fenceCheck (32 * pg + (off - 0x140) / 4)
    else s
  else if 0x209000 ≤ a ∧ a < 0x20A000 ∧ 0x40 ≤ a % 0x1000 ∧ a % 0x20 = 4 then
    s.wr (a - 4) (s.rd (a - 4) &&& ~~~v)
  else if a = Reg.SYNC_OUT_CTRL ∧ !bit v 0 then s.syncOutLow
  else match (List.range 4).find? (fun c => a == Reg.CUE_OFFSET c) with
    | some c => s.wf (Reg.CUE_OFFSET c) 15 0 (min (s.rf (Reg.CUE_OFFSET c) 15 0) (cueMax (if s.enabled cmtPage then s.cmtRate else s.rf Reg.CMT_RATE 3 0)))
    | none => s

/-! ### Meanings -/

/-- SLEW_COMPLETE (R114). -/
def execSlewComplete (s : State) : Host.Outcome State Fault Refusal := done s.slewComplete

/-- SYNC_IN_MISS (R115). -/
def execSyncInMiss (s : State) : Host.Outcome State Fault Refusal := done s.syncMiss

/-- SYNC_OUT_RISE (R116). -/
def execSyncOutRise (s : State) : Host.Outcome State Fault Refusal := done s.syncOutRise

/-- SYNC_OUT_FALL (R116). -/
def execSyncOutFall (s : State) : Host.Outcome State Fault Refusal := done s.syncOutFall

/-- FENCE_VAL_WRITE (R119). -/
def execFenceValWrite (p : Party) (i : Fin 256) (v : Word) (s : State) : Host.Outcome State Fault Refusal :=
  done (s.regWrite p (Reg.FENCE_VAL (i / 32) (i % 32)) v fun s => s.fenceCheck i)

/-- FENCE_ADD_WRITE (R119). -/
def execFenceAddWrite (p : Party) (i : Fin 256) (v : Word) (s : State) : Host.Outcome State Fault Refusal :=
  done (s.regWrite p (Reg.FENCE_ADD (i / 32) (i % 32)) v fun s => s.setFence i (s.fenceVal i + v.toNat))

/-- TAKE_ARM (R123): by party code `q`'s block. -/
def execTakeArm (p : Party) (q : Fin 6) (v : Word) (s : State) : Host.Outcome State Fault Refusal :=
  done (s.regWrite p (Reg.TAKE_ARM q) v fun s => s)

/-- TAKE_DISARM (R123). -/
def execTakeDisarm (p : Party) (q : Fin 6) (v : Word) (s : State) : Host.Outcome State Fault Refusal :=
  done (s.regWrite p (Reg.TAKE_DISARM q) v fun s => s.wr (Reg.TAKE_ARM q) (s.rd (Reg.TAKE_ARM q) &&& ~~~v))

/-- CUE_TIME_FIRE (R127). -/
def execCueTimeFire (c : Fin 4) (s : State) : Host.Outcome State Fault Refusal := done (s.cueTime c)

end Sys2Proof.Machine
end

