-- ==== Sys2Proof/Machine/Inflate.lean ====
section
/-! DEFINITION. RFC 1951 decoding as a decompressor does it (spec/09_ingest_and_decompression.md R195 to R197): the output
produced when decoding stops, and how it stops. -/
namespace Sys2Proof.Machine

/-- Job statuses (R196). -/
abbrev jsOk : Nat := 0
abbrev jsReturned : Nat := 1
abbrev jsBadBlockType : Nat := 2
abbrev jsBadCodeLengths : Nat := 3
abbrev jsIllegalCode : Nat := 4
abbrev jsDistanceTooFar : Nat := 5
abbrev jsLengthOverrun : Nat := 6
abbrev jsInputTruncated : Nat := 7
abbrev jsTrailingData : Nat := 8
abbrev jsCrcMismatch : Nat := 9
abbrev jsLengthShort : Nat := 10
abbrev jsDenied : Nat := 11
abbrev jsMemUncorr : Nat := 12
abbrev jsNotOwner : Nat := 13
abbrev jsBadHeader : Nat := 14
abbrev jsGeometry : Nat := 15
abbrev jsBadEnvelope : Nat := 16
abbrev jsNoStream : Nat := 17
abbrev jsHeaderMismatch : Nat := 18
abbrev jsRingFull : Nat := 19
abbrev jsCtxFull : Nat := 20
abbrev jsTimeout : Nat := 21

/-- What a block of a stream is made of (R213, R214): its kind (BTYPE), the bit position and output length where it starts and ends, the longest
literal/length code, the shortest match (0 for none), and the bits its symbols would take with the fixed codes. -/
structure BlockRec where
  kind : Nat
  pos0 : Nat
  len0 : Nat
  pos1 : Nat
  len1 : Nat
  longest : Nat
  shortest : Nat
  fixedBits : Nat
  deriving DecidableEq, Repr

/-- A decoder: the payload as a number (bit `i` is bit `i mod 8` of byte `i / 8`), its length in bits, the output limit; the
bit position reached, the output so far (latest byte first) and its length; the bit position and output length at each safe point (R200), a
block's end or a burst of a stored block, and, latest first, after each symbol; the blocks so far, with the one being read last. -/
structure Inf where
  data : Nat
  bits : Nat
  limit : Nat
  pos : Nat
  out : List Byte
  len : Nat
  ends : List (Nat × Nat)
  marks : List (Nat × Nat)
  recs : List BlockRec
  now : BlockRec
  deriving DecidableEq, Repr

/-- A step of decoding: a value and the decoder after it, or the status it stops with. -/
inductive Dec (α : Type) where
  | ok (a : α) (x : Inf)
  | bad (status : Nat) (x : Inf)
  deriving DecidableEq, Repr

def Dec.andThen {α β : Type} (d : Dec α) (f : α → Inf → Dec β) : Dec β :=
  match d with
  | .ok a x => f a x
  | .bad e x => .bad e x

/-- The next `k` bits, least significant first. -/
def Inf.take (x : Inf) (k : Nat) : Dec Nat :=
  if x.bits < x.pos + k then .bad jsInputTruncated { x with pos := x.bits }
  else .ok ((x.data >>> x.pos) % 2 ^ k) { x with pos := x.pos + k }

/-- One byte of output (R196: LENGTH_OVERRUN is judged before a symbol, by the caller). -/
def Inf.put (x : Inf) (b : Byte) : Inf := { x with out := b :: x.out, len := x.len + 1 }

/-- A whole symbol ends here. -/
def Inf.mark (x : Inf) : Inf := { x with marks := (x.pos, x.len) :: x.marks }

/-- A canonical code: for lengths 1 to 15 how many codes there are, and the symbols in code order. -/
structure Huff where
  counts : List Nat
  syms : List Nat
  deriving DecidableEq, Repr

/-- The symbols that have code length `n`, in order. -/
def symsOfLen (lens : List Nat) (n : Nat) : List Nat := (List.range lens.length).filter fun i => nth 0 lens i == n

def huffOf (lens : List Nat) : Huff :=
  let ls := (List.range 15).map fun i => symsOfLen lens (i + 1)
  ⟨ls.map List.length, ls.flatten⟩

/-- Codes left unassigned, in units of 2^-15: negative for an over-subscribed set. -/
def huffLeft (h : Huff) : Int := (2 ^ 15 : Int) - ((List.range 15).foldl (fun (a : Nat) i => a + nth 0 h.counts i * 2 ^ (14 - i)) 0 : Nat)

/-- A set that R196 accepts: complete; or, for distances, a single code of one bit, or none at all as RFC 1951 allows for a
block of literals (log 34). -/
def huffOk (h : Huff) (dist : Bool) : Bool :=
  huffLeft h == 0 || (dist && (h.syms.isEmpty || (h.syms.length == 1 && nth 0 h.counts 0 == 1)))

/-- One symbol: most significant code bit first. `code` and `first` are those of the present length. -/
def Huff.readFrom (syms : List Nat) : List Nat → Nat → Nat → Inf → Dec Nat
  | [], _, _, x => .bad jsIllegalCode x
  | c :: t, code, first, x =>
    (x.take 1).andThen fun b x =>
      let code := 2 * code + b
      let first := 2 * first
      if code < first + c then .ok (nth 0 syms (code - first)) x
      else Huff.readFrom (syms.drop c) t code (first + c) x

/-- The longest code length in use, at least 1. -/
def maxLen (counts : List Nat) : Nat := (List.range 15).foldl (fun a i => if nth 0 counts i = 0 then a else i + 1) 1

def Huff.read (h : Huff) (x : Inf) : Dec Nat := Huff.readFrom h.syms (h.counts.take (maxLen h.counts)) 0 0 x

/-! ### Length and distance codes of RFC 1951 -/

def lenBase : List Nat :=
  [3, 4, 5, 6, 7, 8, 9, 10, 11, 13, 15, 17, 19, 23, 27, 31, 35, 43, 51, 59, 67, 83, 99, 115, 131, 163, 195, 227, 258]

def lenExtra (i : Nat) : Nat := if i < 8 ∨ i = 28 then 0 else (i - 4) / 4

def distExtra (i : Nat) : Nat := if i < 4 then 0 else (i - 2) / 2

def distBase (i : Nat) : Nat := if i < 4 then i + 1 else (2 + i % 2) * 2 ^ ((i - 2) / 2) + 1

def fixedLit : Huff := huffOf (List.replicate 144 8 ++ List.replicate 112 9 ++ List.replicate 24 7 ++ List.replicate 8 8)

def fixedDist : Huff := huffOf (List.replicate 32 5)

/-- `n` bytes copied from `d` bytes back. -/
def Inf.copyBack (x : Inf) (d : Nat) : Nat → Inf
  | 0 => x
  | n + 1 => Inf.copyBack (x.put (x.out.getD (d - 1) 0)) d n

/-- A literal/length symbol of `code` bits, with a match of `n` bytes (0 for none) and `f` bits in the fixed form, is noted. -/
def Inf.note (x : Inf) (code n f : Nat) : Inf :=
  let r := x.now
  { x with now := { r with longest := max r.longest code, shortest := if n = 0 then r.shortest else if r.shortest = 0 then n else min r.shortest n, fixedBits := r.fixedBits + f } }

/-- Bits of a literal/length symbol in the fixed code. -/
def fixedLitBits (s : Nat) : Nat := if s < 144 then 8 else if s < 256 then 9 else if s < 280 then 7 else 8

/-- The symbols of one block, to its end-of-block code (R196 statuses 4, 5, 6, 7). -/
def Inf.symbols (lit dist : Huff) : Nat → Inf → Dec Unit
  | 0, x => .bad jsInputTruncated x
  | fuel + 1, x =>
    (lit.read x).andThen fun s x1 =>
      let code := x1.pos - x.pos
      if s < 256 then
        if x1.limit ≤ x1.len then .bad jsLengthOverrun x1 else Inf.symbols lit dist fuel ((x1.put (BitVec.ofNat 8 s)).note code 0 (fixedLitBits s)).mark
      else if s = 256 then .ok () (x1.note code 0 7).mark
      else if 285 < s then .bad jsIllegalCode x1
      else
        (x1.take (lenExtra (s - 257))).andThen fun e x2 =>
        let n := nth 0 lenBase (s - 257) + e
        (dist.read x2).andThen fun ds x3 =>
        if 29 < ds then .bad jsIllegalCode x3
        else
          (x3.take (distExtra ds)).andThen fun f x4 =>
          let d := distBase ds + f
          if x4.len < d ∨ 32768 < d then .bad jsDistanceTooFar x4
          else if x4.limit < x4.len + n then .bad jsLengthOverrun x4
          else Inf.symbols lit dist fuel ((x4.copyBack d n).note code n (fixedLitBits s + lenExtra (s - 257) + 5 + distExtra ds)).mark

/-- A safe point is here. -/
def Inf.point (x : Inf) : Inf := { x with ends := x.ends ++ [(x.pos, x.len)] }

/-- `n` more bytes of a stored block after `k`, with a safe point at each burst of 64 (R200). -/
def Inf.stored : Nat → Nat → Inf → Dec Unit
  | 0, _, x => .ok () x
  | n + 1, k, x =>
    (x.take 8).andThen fun b x1 =>
      if x1.limit ≤ x1.len then .bad jsLengthOverrun x1
      else
        let x2 := (x1.put (BitVec.ofNat 8 b)).mark
        Inf.stored n (k + 1) (if (k + 1) % 64 = 0 ∧ n ≠ 0 then x2.point else x2)

/-- `k` fields of 3 bits. -/
def Inf.threes : Nat → List Nat → Inf → Dec (List Nat)
  | 0, l, x => .ok l x
  | k + 1, l, x => (x.take 3).andThen fun v x => Inf.threes k (l ++ [v]) x.mark

/-- The order of the code-length code's lengths. -/
def clOrder : List Nat := [16, 17, 18, 0, 8, 7, 9, 6, 10, 5, 11, 4, 12, 3, 13, 2, 14, 1, 15]

/-- The literal/length and distance code lengths of a dynamic header; `l` is the list so far, latest first. -/
def Inf.lengths (cl : Huff) (total : Nat) : Nat → List Nat → Inf → Dec (List Nat)
  | 0, l, x => .ok l.reverse x
  | fuel + 1, l, x =>
    if total ≤ l.length then .ok l.reverse x
    else
      (cl.read x).andThen fun s x1 =>
        if s < 16 then Inf.lengths cl total fuel (s :: l) x1.mark
        else
          let spec : Option (Nat × Nat × Nat) := if s = 16 then l.head?.map fun v => (v, 3, 2) else if s = 17 then some (0, 3, 3) else some (0, 11, 7)
          match spec with
          | none => .bad jsBadCodeLengths x1
          | some (v, base, ex) =>
            (x1.take ex).andThen fun r x2 =>
              if total < l.length + base + r then .bad jsBadCodeLengths x2
              else Inf.lengths cl total fuel (List.replicate (base + r) v ++ l) x2.mark

/-- A dynamic block's header: its two codes. -/
def Inf.dynamic (x : Inf) : Dec (Huff × Huff) :=
  (x.take 5).andThen fun hl x => (x.take 5).andThen fun hd x => (x.take 4).andThen fun hc x =>
  let nl := hl + 257
  let nd := hd + 1
  if 286 < nl ∨ 30 < nd then .bad jsBadCodeLengths x
  else
    (Inf.threes (hc + 4) [] x.mark).andThen fun c x =>
    let cl := huffOf ((List.range 19).map fun i => match clOrder.findIdx? (· == i) with | some j => nth 0 c j | none => 0)
    if !huffOk cl false then .bad jsBadCodeLengths x
    else
      (Inf.lengths cl (nl + nd) (nl + nd) [] x).andThen fun l x =>
      let lit := huffOf (l.take nl)
      let dist := huffOf (l.drop nl)
      if nth 0 l 256 = 0 ∨ !huffOk lit false ∨ !huffOk dist true then .bad jsBadCodeLengths x else .ok (lit, dist) x

/-- One block; true where BFINAL is set (R195). -/
def Inf.block (x : Inf) : Dec Bool :=
  let x0 := x
  (x.take 1).andThen fun fin x => (x.take 2).andThen fun ty x =>
  let x : Inf := { x with now := ⟨ty, x0.pos, x0.len, 0, 0, 0, 0, 0⟩ }
  let body : Dec Unit :=
    if ty = 0 then
      (({ x with pos := (x.pos + 7) / 8 * 8 } : Inf).take 16).andThen fun n x1 => (x1.take 16).andThen fun m x2 =>
      if n + m = 65535 ∧ n ^^^ m = 65535 then Inf.stored n 0 x2.mark else .bad jsBadBlockType x2
    else if ty = 1 then Inf.symbols fixedLit fixedDist (x.bits + 1) x.mark
    else if ty = 2 then x.dynamic.andThen fun h x1 => Inf.symbols h.1 h.2 (x1.bits + 1) x1.mark
    else .bad jsBadBlockType x
  body.andThen fun _ x => .ok (fin == 1) { x.point with recs := x.recs ++ [{ x.now with pos1 := x.pos, len1 := x.len }] }

/-- Blocks up to the final one, then the checks of R197. -/
def Inf.blocks : Nat → Inf → Dec Unit
  | 0, x => .bad jsInputTruncated x
  | fuel + 1, x =>
    x.block.andThen fun fin x =>
      if !fin then Inf.blocks fuel x
      else if x.len < x.limit then .bad jsLengthShort x
      else if (x.pos + 7) / 8 * 8 < x.bits then .bad jsTrailingData x
      else .ok () x

/-- What a decode gives: its status, the output, the input bytes consumed, the byte offset of the error, the bit position and output length at
each safe point, and after each symbol, latest first; its blocks. -/
structure InfRes where
  status : Nat
  out : List Byte
  used : Nat
  errOff : Nat
  ends : List (Nat × Nat)
  marks : List (Nat × Nat)
  recs : List BlockRec
  deriving DecidableEq, Repr

/-- The byte offset of an error (R192): the byte holding the bit position reached; the payload's length where it is truncated
(DEDUCED, log 34). -/
def inflate (payload : List Byte) (ulen : Nat) : InfRes :=
  let x : Inf := ⟨leNat payload, 8 * payload.length, ulen, 0, [], 0, [], [], [], ⟨0, 0, 0, 0, 0, 0, 0, 0⟩⟩
  match Inf.blocks (8 * payload.length + 1) x with
  | .ok _ y => ⟨jsOk, y.out.reverse, (y.pos + 7) / 8, 0, y.ends, y.marks, y.recs⟩
  | .bad e y => ⟨e, y.out.reverse, (y.pos + 7) / 8, (if e = jsTrailingData then (y.pos + 7) / 8 else y.pos / 8), y.ends, y.marks, y.recs⟩

/-- A RAW parcel or a COPY moved unchanged (R195), as a decode: its safe points are 64-byte bursts (R200). -/
def moveRaw (payload : List Byte) : InfRes :=
  ⟨jsOk, payload, payload.length, 0, (List.range ((payload.length + 63) / 64)).map fun i => (8 * min (64 * (i + 1)) payload.length, min (64 * (i + 1)) payload.length), [], []⟩

end Sys2Proof.Machine
end

