-- ==== Sys2Proof/Machine/Ing.lean ====
section
/-! DEFINITION. Scene ingest (spec/09_ingest_and_decompression.md): parcels and plane contexts, staging rings, trays and receipts,
and the decompressors. -/
namespace Sys2Proof.Machine

abbrev rxPage (r : Nat) : Nat := Reg.page 8 (1 + r)
abbrev trayPage (p : Nat) : Nat := Reg.page 8 (5 + p)
abbrev dcpPage (e : Nat) : Nat := Reg.page 9 (1 + e)

def Dcp.idle : Dcp := Dcp.reset

def State.tray (s : State) (p : Nat) : Tray := nth Tray.reset s.ing.trays p
def State.setTray (s : State) (p : Nat) (t : Tray) : State := { s with ing := { s.ing with trays := upd s.ing.trays p t } }
def State.dcp (s : State) (e : Nat) : Dcp := nth Dcp.reset s.ing.engines e
def State.setDcp (s : State) (e : Nat) (d : Dcp) : State := { s with ing := { s.ing with engines := upd s.ing.engines e d } }

/-- The jobs an engine holds (R199). -/
def Dcp.jobs (d : Dcp) : List DJob := d.running.toList ++ d.taken.toList

/-- Jobs on the engines, and jobs to dispatch again. -/
def State.jobsOut (s : State) : List DJob := (s.ing.engines.flatMap Dcp.jobs) ++ s.ing.again

/-- Jobs of tray `p`, or of receiver `p`, that an engine holds or that wait to be dispatched again. -/
def State.jobsOf (s : State) (net : Bool) (p : Nat) : List DJob := s.jobsOut.filter fun j => j.net == net && j.unit == p

/-- Jobs of tray `p` that run on an engine (R205). -/
def State.jobsRunning (s : State) (p : Nat) : Nat := (s.ing.engines.filter fun d => d.running.any fun j => !j.net && j.unit == p).length

/-- A page of ING takes work: enabled, and IDLE or RUN. -/
def State.takesWork (s : State) (pg : Nat) : Bool := s.enabled pg && (s.pgState pg == stIdle || s.pgState pg == stRun)

/-! ### STATE of the pages -/

def State.rxBusy (s : State) (r : Nat) : Bool :=
  s.ing.parcels.any (fun p => p.rx == r) || s.ing.ctxs.any (fun c => c.rx == r) || !(nth [] s.ing.ready r).isEmpty || !(s.jobsOf true r).isEmpty

def State.trayBusy (s : State) (p : Nat) : Bool := !(s.tray p).items.isEmpty || !(s.jobsOf false p).isEmpty

def State.ingStates (s : State) : State :=
  let s := s.each 4 fun r s => s.idleRun (rxPage r) (s.rxBusy r) none
  let s := s.each 4 fun p s => (s.idleRun (trayPage p) (s.trayBusy p) none).wf (Reg.TRAY_STATUS p) 20 16 (s.jobsRunning p)
  s.each 24 fun e s =>
    let busy := !(s.dcp e).jobs.isEmpty
    (s.idleRun (dcpPage e) busy (some (1248 + 4 * e))).wb (Reg.DCP_STATUS e) 0 busy

/-! ### Receipts (R192, R193) -/

def ringMod (n : Nat) : Nat := n % 2 ^ 17

def State.rcptFull (s : State) (p : Nat) : Bool :=
  ringMod (s.rf (Reg.RCPT_TAIL p) 16 0 + 2 ^ 17 - s.rf (Reg.RCPT_HEAD p) 16 0) == 2 ^ (s.tray p).size

/-- Receipts in the ring. -/
def State.rcptCount (s : State) (p : Nat) : Nat := ringMod (s.rf (Reg.RCPT_TAIL p) 16 0 + 2 ^ 17 - s.rf (Reg.RCPT_HEAD p) 16 0)

/-- The tray has stopped on a denied ring access (R193). -/
def State.trayStopped (s : State) (p : Nat) : Bool := s.rf (Reg.TRAY_STATUS p) 27 24 != 0

def State.trayStop (s : State) (p : Nat) : State := (s.wf (Reg.TRAY_STATUS p) 27 24 1).evt (1058 + 16 * p)

/-- A receipt's bytes with the PHASE of slot count `j`. -/
def withPhase (r : List Byte) (j size : Nat) : List Byte :=
  updWith r 3 fun b => if (j / 2 ^ size) % 2 = 0 then b ||| 0x80 else b

/-- Tray `p` may start an envelope (R193): its ring is not full, it has not stopped, and the receipt of every job it has out will find a place in
the ring or among the 24 held on chip. -/
def State.trayRoom (s : State) (p : Nat) : Bool :=
  !s.rcptFull p && !s.trayStopped p && decide ((s.jobsOf false p).length + (s.tray p).held.length + s.rcptCount p < 24 + 2 ^ (s.tray p).size)

/-- One receipt written, where the ring takes it; true where it was. -/
def State.rcptWrite (s : State) (p : Nat) (r : List Byte) : State × Bool :=
  if s.rcptFull p || s.trayStopped p then (s, false)
  else
    let t := s.tray p
    let j := s.rf (Reg.RCPT_TAIL p) 16 0
    let (s, denied) := s.writeMem (some p) ((t.rcpt + 32 * (j % 2 ^ t.size)) % 2 ^ 40) (withPhase r j t.size)
    if denied then (s.trayStop p, false)
    else
      let s := (s.wf (Reg.RCPT_TAIL p) 16 0 (j + 1)).cntSat (Reg.TRAY_JOBS p) 32 1
      let s := s.when (leAt r 2 1 != 0) fun s => s.cntSat (Reg.TRAY_ERRORS p) 32 1
      let s := s.evt (1056 + 16 * p)
      (s.when (s.rcptFull p) fun s => (s.wb (Reg.TRAY_STATUS p) 31 true).evt (1057 + 16 * p), true)

/-- Held receipts released in order (R193). -/
def State.rcptDrain (s : State) (p : Nat) : Nat → State
  | 0 => s
  | n + 1 =>
    match (s.tray p).held with
    | [] => s
    | r :: t =>
      let (s, ok) := s.rcptWrite p r
      if ok then State.rcptDrain (s.setTray p { s.tray p with held := t }) p n else s

/-- A receipt of tray `p`: held on chip while the ring is full, while others are held, or while the tray is stopped. -/
def State.receipt (s : State) (j : DJob) (status engine inB outB errOff fval : Nat) : State :=
  let p := j.unit
  let r := leBytes 4 (j.env % 65536 + status * 2 ^ 16 + engine * 2 ^ 24) ++ leBytes 4 j.tag ++ leBytes 4 inB ++ leBytes 4 outB
    ++ leBytes 4 (if status = jsOk then 0 else errOff) ++ leBytes 4 fval ++ leBytes 4 s.clock.ns ++ leBytes 4 0
  let s := s.when (status != jsOk) fun s => s.wf (Reg.TRAY_STATUS p) 7 0 status
  let s := s.setTray p { s.tray p with held := (s.tray p).held ++ [r] }
  s.rcptDrain p 32

/-- The fence of an envelope that ends with OK (R191): the state, and FENCE_VAL. -/
def State.envFence (s : State) (j : DJob) : State × Nat :=
  match j.fence with
  | none => (s, 0)
  | some (i, n) =>
    let own := match j.port with | some p => s.rb (Reg.PAGE_OWNER (Reg.page 2 (1 + i / 32))) p | none => true
    let s := s.fenceAdvance j.port i n
    (s, if own then s.fenceVal i else 0)

/-! ### Plane contexts (R186, R188) -/

/-- A discarded datagram, or a failed context, in the receiver's registers (R184, R188). -/
def State.rxError (s : State) (r status stream frame layer tile : Nat) : State :=
  let s := s.cntSat (Reg.ING_RX_ERRORS r) 32 1
  (s.wn (Reg.ING_RX_LAST_LO r) (frame % 65536 * 65536 + stream % 65536)).wn (Reg.ING_RX_LAST_HI r)
    (status * 2 ^ 24 + layer % 64 * 2 ^ 16 + tile % 1024)

/-- Freed ring space is reclaimed in allocation order (R187). -/
def reclaim : List RingAlloc → List Nat → List RingAlloc
  | [], _ => []
  | a :: t, blocked => if a.freed && !blocked.contains a.rx then reclaim t blocked else a :: reclaim t (a.rx :: blocked)

def State.ringFree (s : State) (id : Nat) : State :=
  let l := s.ing.allocs.map fun (a : RingAlloc) => if a.id = id then { a with freed := true } else a
  { s with ing := { s.ing with allocs := reclaim l [] } }

/-- A context ends: its parcels still in reassembly are dropped (DEDUCED, log 35). -/
def State.ctxDrop (s : State) (id : Nat) : State :=
  let gone := s.ing.parcels.filter fun p => p.ctx == id
  let s := { s with ing := { s.ing with ctxs := s.ing.ctxs.filter (fun c => c.id != id), parcels := s.ing.parcels.filter (fun p => p.ctx != id) } }
  s.eachOf gone fun p s => s.ringFree p.alloc

/-- A context fails with a status, at a tile (R188). -/
def State.ctxFail (s : State) (id status tile : Nat) : State :=
  match s.ing.ctxs.find? (fun c => c.id == id) with
  | none => s
  | some c => ((s.ctxDrop id).rxError c.rx status c.stream c.frame c.layer tile).evt (994 + 16 * c.rx)

/-- A context whose every tile is decompressed succeeds (R188): the fence goes on by what its stream entry's FENCE_ADD is then. -/
def State.ctxDone (s : State) (k : Nat) : State :=
  match s.ing.ctxs[k]? with
  | none => s
  | some c =>
    if c.done.length < c.tiles then s
    else
      let f := nth 0 c.slate slFence
      let s := s.when (f.testBit 31) fun s => s.fenceAdvance (if c.owner < 4 then some c.owner else none) (f % 256) (s.rn (Reg.ING_STREAM_FENCE c.rx c.entry))
      ((s.ctxDrop c.id).cntSat (Reg.ING_RX_PLANES c.rx) 32 1).evt (993 + 16 * c.rx)

/-! ### The parcel header (R182, R184) -/

/-- Fields of a 32-byte parcel header. -/
structure PHdr where
  raw : Bool
  stream : Nat
  frame : Nat
  seg : Nat
  layer : Nat
  tile : Nat
  tiles : Nat
  tx : Nat
  ty : Nat
  tw : Nat
  th : Nat
  clen : Nat
  ulen : Nat
  deriving DecidableEq, Repr

def parseHdr (h : List Byte) : PHdr :=
  ⟨leAt h 1 1 % 2 == 1, leAt h 2 2, leAt h 4 2, leAt h 6 2, leAt h 8 1, leAt h 10 2 % 1024, leAt h 12 2 % 2048,
    leAt h 14 6 % 4096, leAt h 14 6 / 2 ^ 12 % 4096, leAt h 14 6 / 2 ^ 24 % 4096, leAt h 14 6 / 2 ^ 36, leAt h 20 4, leAt h 24 4⟩

/-- VERSION, the reserved bits and fields, and the ranges of R182. -/
def hdrOk (h : List Byte) : Bool :=
  let x := parseHdr h
  leAt h 0 1 == 1 && decide (leAt h 1 1 < 2) && decide (x.layer < 40) && leAt h 9 1 == 0 && decide (leAt h 10 2 < 1024) && decide (leAt h 12 2 < 2048)
    && decide (1 ≤ x.tiles ∧ x.tiles ≤ 1024) && decide (x.tile < x.tiles) && decide (1 ≤ x.clen ∧ x.clen ≤ 2097152) && decide (1 ≤ x.ulen ∧ x.ulen ≤ 16777216)

/-- CRC-32C over the header with its CRC field zero, and a payload. -/
def hdrCrcOk (h payload : List Byte) : Bool := crc32c (h.take 28 ++ [0, 0, 0, 0] ++ payload) == leAt h 28 4

/-- Check 5 of R184 against a latched Slate. -/
def geomOk (slate : List Nat) (raw : Bool) (tx ty tw th clen ulen : Nat) : Bool :=
  let fmt := nth 0 slate slFormat % 4
  let sc := scaleEn (nth 0 slate slScale)
  let w := if sc then nfld (nth 0 slate slSrc) 13 0 else nfld (nth 0 slate slSize) 14 0 / 4
  let h := if sc then nfld (nth 0 slate slSrc) 29 16 else nfld (nth 0 slate slSize) 30 16 / 4
  decide (fmt ≠ 3) && decide (0 < tw) && decide (0 < th) && decide (tx + tw ≤ w) && decide (ty + th ≤ h) && decide (ulen = tw * th * pxBytes fmt)
    && (!raw || clen == ulen)

/-- The destination of a tile in a Slate (R186). -/
def slateDst (slate : List Nat) (tx ty tw : Nat) : Dst :=
  let b := pxBytes (nth 0 slate slFormat % 4)
  let pitch := nth 0 slate slPitch
  ⟨nth 0 slate slAddrLo + 2 ^ 32 * (nth 0 slate slAddrHi % 256) + ty * pitch + tx * b, tw * b, pitch⟩

/-- The shadow Slate of a layer, latched. -/
def State.latchSlate (s : State) (n : Nat) : List Nat := (List.range 12).map fun i => s.shadow n i

/-! ### Staging rings (R187) -/

def State.ringUsed (s : State) (r : Nat) : Nat := ((s.ing.allocs.filter fun a => a.rx == r).map fun (a : RingAlloc) => a.len).sum

def State.ringBytes (s : State) (r : Nat) : Nat := let m := s.rf (Reg.ING_RING_SIZE r) 10 0; if m < 16 then 0 else min m 1024 * 2 ^ 20

/-- Bytes written to a ring from a position on, wrapping, in lines; unfiltered. -/
def State.ringWrite (s : State) (base size : Nat) : Nat → Nat → List Byte → State
  | 0, _, _ => s
  | fuel + 1, pos, d =>
    if d.isEmpty then s
    else State.ringWrite (s.writeMem none ((base + pos % size) % 2 ^ 40) (d.take 64)).1 base size fuel (pos + 64) (d.drop 64)

/-- A complete parcel queued for dispatch. -/
def State.parcelReady (s : State) (p : Parcel) : State :=
  let x := parseHdr p.hdr
  match s.ing.ctxs.find? (fun c => c.id == p.ctx) with
  | none => s
  | some c =>
    let j : DJob := {
      net := true, unit := p.rx, port := if c.owner < 4 then some c.owner else none, raw := x.raw, ulen := x.ulen, src := p.base, len := x.clen,
      ring := some (p.pos, p.size), hdr := none, dst := slateDst c.slate x.tx x.ty x.tw, ctx := c.id, tile := x.tile, alloc := p.alloc,
      op := 1, wait := false, env := 0, tag := 0, fence := none, discard := false, silent := false }
    { s with ing := { s.ing with
      ready := updWith s.ing.ready p.rx (· ++ [j])
      parcels := s.ing.parcels.filter (fun (q : Parcel) => q.alloc != p.alloc)
      ctxs := s.ing.ctxs.map fun (d : PlaneCtx) => if d.id = c.id then { d with got := x.tile :: d.got } else d } }

/-- A segment stored in its parcel (R183, R187). -/
def State.segStore (s : State) (p : Parcel) (segBytes k : Nat) (payload : List Byte) : State :=
  let n := (leAt p.hdr 20 4 + segBytes - 1) / segBytes
  let s := s.ringWrite p.base p.size (payload.length + 1) (p.pos + k * segBytes) payload
  let p := { p with segs := k :: p.segs }
  let s := { s with ing := { s.ing with parcels := s.ing.parcels.map fun (q : Parcel) => if q.alloc = p.alloc then p else q } }
  if p.segs.length = n then s.parcelReady p else s

/-- The stream entry that matches, lowest first (R204). -/
def State.streamEntry (s : State) (r stream : Nat) : Option Nat :=
  (List.range 16).find? fun i => s.rb (Reg.ING_STREAM r i) 31 && s.rf (Reg.ING_STREAM r i) 15 0 == stream

/-- OWNER passes the two tests of R185; codes 4, 6 and 7 name no owner. -/
def State.streamOwns (s : State) (r owner layer : Nat) : Bool :=
  (decide (owner < 4) || owner == 5) && s.rb (Reg.PAGE_OWNER (rxPage r)) owner && s.rb (Reg.PAGE_OWNER (lyrPage layer)) owner

/-- Receiver `r` discards a datagram (R184). -/
def State.datagramError (s : State) (r status : Nat) (x : PHdr) : State :=
  (s.rxError r status x.stream x.frame x.layer x.tile).evt (992 + 16 * r)

/-- Every header field but SEG and CRC. -/
def hdrKey (h : List Byte) : List Byte := h.take 6 ++ (h.drop 8).take 20

/-- A datagram that receiver `r` takes: the UDP payload (R182 to R187). -/
def State.ingDatagram (s : State) (r : Nat) (d : List Byte) : State :=
  let h := d.take 32
  let payload := d.drop 32
  let x := parseHdr h
  let segBytes := 2 ^ (10 + s.rf (Reg.ING_RX_CTRL r) 17 16)
  let n := (x.clen + segBytes - 1) / segBytes
  let segLen := min segBytes (x.clen - x.seg * segBytes)
  if d.length < 32 || !hdrCrcOk h payload then s.datagramError r jsCrcMismatch x
  else if !hdrOk h || decide (n ≤ x.seg) || decide (payload.length ≠ segLen) then s.datagramError r jsBadHeader x
  else match s.streamEntry r x.stream with
  | none => s.datagramError r jsNoStream x
  | some i =>
    let owner := s.rf (Reg.ING_STREAM r i) 26 24
    if !s.streamOwns r owner x.layer then s.datagramError r jsNotOwner x
    else
      let ctx : Option PlaneCtx := s.ing.ctxs.find? fun (c : PlaneCtx) => c.rx == r && c.stream == x.stream && c.frame == x.frame && c.layer == x.layer
      let slate := match ctx with | some c => c.slate | none => s.latchSlate x.layer
      let par : Option Parcel := match ctx with | some c => s.ing.parcels.find? (fun (p : Parcel) => p.ctx == c.id && p.tile == x.tile) | none => none
      let complete : Bool := match ctx with | some c => c.got.contains x.tile | none => false
      if !geomOk slate x.raw x.tx x.ty x.tw x.th x.clen x.ulen then s.datagramError r jsGeometry x
      else if complete then s.cntSat (Reg.ING_RX_DUPS r) 32 1
      else match par with
      | some p =>
        if hdrKey p.hdr ≠ hdrKey h then s.datagramError r jsHeaderMismatch x
        else if p.segs.contains x.seg then s.cntSat (Reg.ING_RX_DUPS r) 32 1
        else s.segStore p segBytes x.seg payload
      | none =>
        let len := (x.clen + 63) / 64 * 64
        if (match ctx with | some c => c.tiles != x.tiles | none => false) then s.datagramError r jsHeaderMismatch x
        else if s.ringBytes r < s.ringUsed r + len then (s.datagramError r jsRingFull x).evt (995 + 16 * r)
        else if 256 ≤ (s.ing.parcels.filter fun (p : Parcel) => p.rx == r).length then s.datagramError r jsRingFull x
        else if ctx.isNone && (decide (256 ≤ s.ing.ctxs.length) || decide (128 ≤ (s.ing.ctxs.filter fun (c : PlaneCtx) => c.rx == r).length)) then
          s.datagramError r jsCtxFull x
        else
          let id := s.ing.nextId
          let c : PlaneCtx := ctx.getD ⟨id, r, x.stream, x.frame, x.layer, slate, x.tiles, owner, i, [], []⟩
          let p : Parcel := ⟨r, c.id, x.tile, h, s.addr40 (Reg.ING_RING_BASE_LO r), s.ringBytes r, nth 0 s.ing.ringPos r, id + 1, []⟩
          let s := { s with ing := { s.ing with
            nextId := id + 2
            ctxs := if ctx.isNone then s.ing.ctxs ++ [c] else s.ing.ctxs
            parcels := s.ing.parcels ++ [p]
            allocs := s.ing.allocs ++ [(⟨r, id + 1, len, false⟩ : RingAlloc)]
            ringPos := upd s.ing.ringPos r ((p.pos + len) % p.size) } }
          s.segStore p segBytes x.seg payload

/-- PARCEL_TIMEOUT (R187): the `i`-th parcel in reassembly is dropped, and its context fails. -/
def State.parcelTimeout (s : State) (i : Nat) : State :=
  match s.ing.parcels[i]? with
  | none => s
  | some p => s.ctxFail p.ctx jsTimeout p.tile

/-! ### Envelopes (R189 to R191) -/

/-- NOP and FENCE items at the head of a tray's queue are done as they come to it (R194): each takes no engine. -/
def State.trayPump (s : State) (p : Nat) : Nat → State
  | 0 => s
  | n + 1 =>
    match (s.tray p).items with
    | [] => s
    | j :: t =>
      if (j.op = 0 ∨ j.op = 4) ∧ s.trayRoom p ∧ !(j.wait && !(s.jobsOf false p).isEmpty) then
        let s := s.setTray p { s.tray p with items := t }
        let (s, v) := s.envFence j
        State.trayPump (s.receipt j jsOk 31 0 0 0 v) p n
      else s

/-- An envelope's reserved fields are zero (R190), and its OP is 0 to 4. -/
def envOk (e : List Byte) : Bool :=
  let c := leAt e 0 4
  decide (c % 256 ≤ 4) && c / 2 ^ 11 % 32 == 0 && c / 2 ^ 24 == 0 && leAt e 13 3 == 0 && leAt e 46 2 == 0 && leAt e 49 3 == 0 && leAt e 56 8 == 0
    && leAt e 29 3 == 0 && decide (leAt e 32 4 < 2 ^ 20) && decide (leAt e 36 4 < 2 ^ 20)

/-- An envelope as a job (R190, R191), before its checks. FENCE_EN governs the fence of every OP but NOP, which only writes a receipt. -/
def envJob (p idx : Nat) (e : List Byte) : DJob :=
  let c := leAt e 0 4
  let op := c % 256
  { net := false, unit := p, port := some p, raw := op == 3, ulen := leAt e 20 4, src := leAt e 8 5, len := leAt e 16 4, ring := none, hdr := none,
    dst := ⟨leAt e 24 5, leAt e 36 4 % 2 ^ 20, leAt e 32 4 % 2 ^ 20⟩, ctx := 0, tile := 0, alloc := 0,
    op := op, wait := c.testBit 10 || op == 4, env := idx, tag := leAt e 4 4,
    fence := if c.testBit 8 && op != 0 then some (leAt e 48 1, leAt e 52 4) else none, discard := false, silent := false }

/-- The checks of R191 on a fetched envelope: the status it fails with, or the job. -/
def State.envCheck (s : State) (p : Nat) (e : List Byte) (j : DJob) : State × Nat × DJob :=
  let c := leAt e 0 4
  if !envOk e then (s, jsBadEnvelope, j)
  else if j.op = 1 then
    if j.len < 32 then (s, jsBadHeader, j)
    else
      let (s, r) := s.readMem (some p) j.src 32
      if r.denied then (s, jsDenied, j)
      else if r.uncorr then (s, jsMemUncorr, j)
      else
        let x := parseHdr r.data
        let slate := s.latchSlate x.layer
        if !hdrOk r.data ∨ x.seg ≠ 0 ∨ j.len ≠ 32 + x.clen then (s, jsBadHeader, j)
        else if !s.rb (Reg.PAGE_OWNER (lyrPage x.layer)) p then (s, jsNotOwner, j)
        else if !geomOk slate x.raw x.tx x.ty x.tw x.th x.clen x.ulen then (s, jsGeometry, j)
        else (s, jsOk, { j with raw := x.raw, ulen := x.ulen, src := j.src + 32, len := x.clen, hdr := some r.data, dst := slateDst slate x.tx x.ty x.tw })
  else if j.op = 2 ∨ j.op = 3 then
    let badLen : Bool := decide (j.ulen = 0 ∨ 16777216 < j.ulen) || (j.op == 3 && j.len != j.ulen)
    if c.testBit 9 then
      let layer := c / 2 ^ 16 % 256
      let g := leAt e 40 6
      if 39 < layer ∨ !s.rb (Reg.PAGE_OWNER (lyrPage layer)) p then (s, jsNotOwner, j)
      else
        let slate := s.latchSlate layer
        if badLen || !geomOk slate (j.op == 3) (g % 4096) (g / 2 ^ 12 % 4096) (g / 2 ^ 24 % 4096) (g / 2 ^ 36) j.len j.ulen then (s, jsGeometry, j)
        else (s, jsOk, { j with dst := slateDst slate (g % 4096) (g / 2 ^ 12 % 4096) (g / 2 ^ 24 % 4096) })
    else if badLen then (s, jsGeometry, j)
    else (s, jsOk, j)
  else (s, jsOk, j)

/-- The tray fetches (R189, R193, R200): it takes work, or drains up to the TAIL it then had, and its receipts are neither stalled nor
stopped. -/
def State.trayFetches (s : State) (p : Nat) : Bool :=
  let h := s.rf (Reg.TRAY_HEAD p) 16 0
  s.trayRoom p && !s.discarding (trayPage p) &&
    ((s.takesWork (trayPage p) && h != s.rf (Reg.TRAY_TAIL p) 16 0) || (s.pgState (trayPage p) == stDraining && h != (s.tray p).limit))

/-- The next envelope of tray `p` fetched and checked (R189, R191), where its OP is `op`; an OP above 4 is taken by any row. -/
def State.envFetch (s : State) (p op : Nat) : State :=
  let t := s.tray p
  let h := s.rf (Reg.TRAY_HEAD p) 16 0
  let a := (t.base + 64 * (h % 2 ^ t.size)) % 2 ^ 40
  let e0 := s.peek a 64
  if !s.trayFetches p then s
  else if s.allowed (some p) a false && leAt e0 0 1 != op && decide (leAt e0 0 1 ≤ 4) then s
  else
    let (s, r) := s.readMem (some p) a 64
    if r.denied then s.trayStop p
    else
      let s := s.wf (Reg.TRAY_HEAD p) 16 0 (h + 1)
      let j := envJob p h r.data
      let (s, st, j) := if r.uncorr then (s, jsMemUncorr, j) else s.envCheck p r.data j
      if st = jsOk then ((s.setTray p { s.tray p with items := (s.tray p).items ++ [j] }).trayPump p 64).ingStates
      else
        let s := s.when (13 ≤ st) fun s => s.notice (262 + p) 0 0 [.tray (finOf 4 (by decide) p)]
        (s.receipt j st 31 0 0 0 0).ingStates

/-! ### Dispatch (R194) -/

/-- Engines in service (R206): a slice that is IDLE or RUN and enabled. -/
def State.dcpUp (s : State) (e : Nat) : Bool := s.takesWork (dcpPage e) && !(s.dcp e).leaving

/-- Engine `e` is free for dispatch (R199): it holds no job, or its running job has read its last input byte. -/
def State.dcpFree (s : State) (e : Nat) : Bool :=
  let d := s.dcp e
  s.dcpUp e && d.taken.isNone && (d.running.isNone || d.consumed)

/-- The head of queue `q`, where it can start: receivers 0 to 3, then trays 0 to 3. -/
def State.queueHead (s : State) (q : Nat) : Option DJob :=
  if q < 4 then (nth [] s.ing.ready q).head?
  else
    let p := q - 4
    match (s.tray p).items with
    | [] => none
    | j :: _ =>
      if j.op = 0 ∨ j.op = 4 ∨ !s.trayRoom p ∨ (j.wait ∧ !(s.jobsOf false p).isEmpty) then none else some j

def State.queuePop (s : State) (q : Nat) : State :=
  if q < 4 then { s with ing := { s.ing with ready := updWith s.ing.ready q (·.drop 1), turn := (q + 1) % 8 } }
  else
    let s := s.setTray (q - 4) { s.tray (q - 4) with items := (s.tray (q - 4)).items.drop 1 }
    { s with ing := { s.ing with turn := (q + 1) % 8 } }

/-- Source code of a job (R206). -/
def DJob.source (j : DJob) : Nat := if j.net then 1 + j.unit else 5 + j.unit

/-- Engine `e` takes a job (R199). -/
def State.dcpTake (s : State) (e : Nat) (j : DJob) : State :=
  let d := s.dcp e
  if d.running.isNone then (s.setDcp e { d with running := some j, consumed := false }).wf (Reg.DCP_STATUS e) 19 16 j.source
  else s.setDcp e { d with taken := some j }

/-- Engines that wait to join come into service at a dispatch (R201). -/
def State.dcpJoin (s : State) : State :=
  s.each 24 fun e s => s.when (s.pgState (dcpPage e) == stReturning) fun s => s.toState (dcpPage e) (if s.enabled (dcpPage e) then stIdle else stOff) (some (1248 + 4 * e))

/-- DISPATCH (R194): the lowest free engine takes the next item. -/
def State.dispatch (s : State) : State :=
  let s := s.dcpJoin
  match (List.range 24).find? (fun e => s.dcpFree e) with
  | none => s
  | some e =>
    match s.ing.again with
    | j :: t => (({ s with ing := { s.ing with again := t } }).dcpTake e j).ingStates
    | [] =>
      match ((List.range 8).map fun i => (s.ing.turn + i) % 8).find? (fun q => (s.queueHead q).isSome) with
      | none => s
      | some q =>
        match s.queueHead q with
        | none => s
        | some j =>
          let s := ((s.queuePop q).dcpTake e j).when (q < 4) fun s => s.cntSat (Reg.ING_RX_PARCELS q) 32 1
          (s.when (decide (4 ≤ q)) fun s => s.trayPump (q - 4) 64).ingStates

/-! ### A job's end (R195 to R198) -/

/-- Address of payload byte `i` of a job. -/
def DJob.srcAddr (j : DJob) (i : Nat) : Nat :=
  match j.ring with
  | some (pos, size) => (j.src + (pos + i) % size) % 2 ^ 40
  | none => (j.src + i) % 2 ^ 40

/-- The job's payload read in order up to the first burst that is refused or comes marked uncorrectable: the bytes before it, and
DENIED or MEM_UNCORR. The ring is read unfiltered (R187). -/
def State.jobRead (s : State) (j : DJob) (n : Nat) : Nat → Nat → State × List Byte × Nat
  | 0, _ => (s, [], jsOk)
  | fuel + 1, i =>
    if n ≤ i then (s, [], jsOk)
    else
      let a := j.srcAddr i
      let k := min (n - i) (lineLeft a)
      let (s, r) := s.readBurst (if j.net then none else j.port) a k
      if r.denied then (s, [], jsDenied)
      else if r.uncorr then (s, [], jsMemUncorr)
      else
        let (s, d, st) := State.jobRead s j n fuel (i + k)
        (s, r.data ++ d, st)

/-- Address of output byte `i` (R186, R191). -/
def Dst.addr (d : Dst) (i : Nat) : Nat :=
  (if d.row = 0 then d.start + i else d.start + i / d.row * d.pitch + i % d.row) % 2 ^ 40

/-- Output as bursts (R186, R191): from byte `i` on, each within a line and a row of the destination. -/
def Dst.bursts (d : Dst) : Nat → Nat → List Byte → List (Nat × List Byte)
  | 0, _, _ => []
  | fuel + 1, i, out =>
    if out.isEmpty then []
    else
      let a := d.addr i
      let k := min (lineLeft a) (if d.row = 0 then 64 else d.row - i % d.row)
      (a, out.take k) :: Dst.bursts d fuel (i + (out.take k).length) (out.drop k)

/-- Bursts written in order up to the first refused: how many bytes, and whether one was refused. -/
def State.jobWrite (s : State) (port : Option Nat) : Nat → List (Nat × List Byte) → State × Nat × Bool
  | n, [] => (s, n, false)
  | n, b :: t =>
    let (s, den) := s.writeBurst port b.1 b.2
    if den then (s, n, true) else State.jobWrite s port (n + b.2.length) t

/-- Decoding of a payload by a job (R195). -/
def DJob.decode (j : DJob) (payload : List Byte) : InfRes := if j.raw then moveRaw payload else inflate payload j.ulen

/-- Payload bytes consumed once `n` bytes of output are produced. -/
def InfRes.consumed (r : InfRes) (n : Nat) : Nat :=
  if r.marks.isEmpty then min n r.used
  else match r.marks.reverse.find? (fun m => decide (n ≤ m.2)) with | some m => (m.1 + 7) / 8 | none => r.used

/-- A decode stopped at its `n`-th safe point (R200), 0 being its start; one that ends or fails before it is as it was. -/
def InfRes.stopAt (r : InfRes) (n : Nat) : InfRes :=
  let whole := r.status == jsOk || r.status == jsLengthShort || r.status == jsTrailingData
  if r.ends.length < n ∨ (r.ends.length = n ∧ whole) then r
  else
    let e := if n = 0 then (0, 0) else nth (0, 0) r.ends (n - 1)
    { r with status := jsReturned, out := r.out.take e.2, used := (e.1 + 7) / 8, errOff := 0 }

/-- What a job comes to with its payload all readable and its output all taken (R197, R200). -/
def DJob.outcome (j : DJob) (all : List Byte) (points : Option Nat) : InfRes :=
  let r := j.decode all
  let r := match points with | none => r | some n => r.stopAt n
  match j.hdr with
  | some h => if r.status ≠ jsOk then r else if hdrCrcOk h all then { r with used := j.len } else { r with status := jsCrcMismatch, used := j.len, errOff := j.len }
  | none => r

/-- A job run to its end, or to the `points`-th safe point where it is to be discarded there: its status, input and output bytes, and
error offset. A refusal stops it at once (R198): it has then read what the refused burst takes, or what came before the refused one. -/
def State.jobRun (s : State) (j : DJob) (points : Option Nat) : State × Nat × Nat × Nat × Nat :=
  let all := (List.range j.len).map fun i => match s.peek (j.srcAddr i) 1 with | b :: _ => b | [] => 0
  let r := j.outcome all points
  let bursts := j.dst.bursts (r.out.length + 1) 0 r.out
  let good := bursts.takeWhile fun b => s.allowed j.port b.1 true
  let wrote := (good.map fun b => b.2.length).sum
  let r : InfRes := match bursts.drop good.length with
    | b :: _ =>
      let u := (j.decode all).consumed (wrote + b.2.length)
      { r with status := jsDenied, used := u, errOff := u }
    | [] => r
  let (s, pre, st) := s.jobRead j r.used (r.used + 1) 0
  let r := if st = jsOk then r else { j.decode pre with status := st, errOff := pre.length, used := pre.length }
  let (s, n, _) := s.jobWrite j.port 0 (j.dst.bursts (r.out.length + 1) 0 r.out)
  (s, r.status, r.used + (if j.hdr.isSome then 32 else 0), n, if r.status = jsOk then 0 else r.errOff)

/-- What an ended job leaves beside its output (R187, R188, R191). -/
def State.jobClose (s : State) (j : DJob) (status engine inB outB errOff : Nat) : State :=
  if j.net then
    let s := s.ringFree j.alloc
    if status = jsOk then
      { s with ing := { s.ing with ctxs := s.ing.ctxs.map fun (c : PlaneCtx) => if c.id = j.ctx then { c with done := j.tile :: c.done } else c } }
    else s.ctxFail j.ctx status j.tile
  else if j.silent then s
  else
    let (s, v) := if status = jsOk then s.envFence j else (s, 0)
    s.receipt j status engine inB outB errOff v

/-- Bytes counted in units of 64 KiB: the count's register and the remainder. -/
def unitCount (rem n : Nat) : Nat × Nat := ((rem + n) / 65536, (rem + n) % 65536)

/-- DCP_JOB_END (R196): the running job of engine `e` ends; `points` is how many safe points it passed where it is to be discarded. -/
def State.dcpEnd (s : State) (e points : Nat) : State :=
  let d := s.dcp e
  match d.running with
  | none => s
  | some j =>
    let (s, st, inB, outB, off) := s.jobRun j (if j.discard then some points else none)
    let ci := unitCount d.inRem inB
    let co := unitCount d.outRem outB
    let s := s.setDcp e { d with running := d.taken, consumed := false, taken := none, inRem := ci.2, outRem := co.2 }
    let s := ((s.cntSat (Reg.DCP_IN_BYTES e) 32 ci.1).cntSat (Reg.DCP_OUT_BYTES e) 32 co.1).cntSat (Reg.DCP_JOBS e) 32 1
    let s := (s.wf (Reg.DCP_STATUS e) 31 24 st).wf (Reg.DCP_STATUS e) 19 16 ((d.taken.map DJob.source).getD j.source)
    let s := s.when (decide (2 ≤ st ∧ st ≤ 12)) fun s => (s.cntSat (Reg.DCP_ERRORS e) 32 1).evt (1250 + 4 * e)
    let s := s.jobClose j st e inB outB off
    let s := s.when (!j.net) fun s => s.trayPump j.unit 64
    let s := s.ingStates
    let d := s.dcp e
    if d.leaving && d.running.isNone then
      ((s.setDcp e { d with leaving := false }).toState (dcpPage e) stFenced (some (1248 + 4 * e))).cntSat (Reg.DCP_FENCES e) 32 1
    else s

/-! ### Leaving service (R200 to R202) -/

/-- An engine fenced by a fault: every job it holds is dispatched again, ahead of all queues (R201). -/
def State.dcpFence (s : State) (e : Nat) : State :=
  let d := s.dcp e
  let s := ({ s with ing := { s.ing with again := s.ing.again ++ d.jobs } }).setDcp e { d with running := none, consumed := false, taken := none, leaving := false }
  (s.toState (dcpPage e) stFenced (some (1248 + 4 * e))).cntSat (Reg.DCP_FENCES e) 32 1

/-- FENCE_REQ of an engine (R201): its jobs complete first. -/
def State.dcpFenceReq (s : State) (e : Nat) : State :=
  let d := s.dcp e
  if d.running.isNone then (s.toState (dcpPage e) stFenced (some (1248 + 4 * e))).cntSat (Reg.DCP_FENCES e) 32 1
  else s.setDcp e { d with leaving := true }

/-- A taken job of engine `e` ends at once with RETURNED (R200, R206). -/
def State.takenReturned (s : State) (e : Nat) (j : DJob) : State :=
  ((s.cntSat (Reg.DCP_JOBS e) 32 1).wf (Reg.DCP_STATUS e) 31 24 jsReturned).jobClose j jsReturned e 0 0 0

/-- The jobs of engine `e` that `sel` names are to stop at their safe points; a taken one has written nothing and stops at once (R200). -/
def State.dcpDiscard (s : State) (e : Nat) (sel : DJob → Bool) (silent : Bool) : State :=
  let mark (j : DJob) : DJob := if sel j then { j with discard := true, silent := j.silent || silent } else j
  let d := s.dcp e
  let s := s.setDcp e { d with running := d.running.map mark, taken := d.taken.filter fun j => !sel j }
  match d.taken with
  | some j => if sel j then s.takenReturned e (mark j) else s
  | none => s

/-- Jobs that `sel` names are to stop at their safe points, wherever they are (R200). -/
def State.discardJobs (s : State) (sel : DJob → Bool) (silent : Bool) : State :=
  let s := s.each 24 fun e s => s.dcpDiscard e sel silent
  let gone := s.ing.again.filter sel
  let s := { s with ing := { s.ing with again := s.ing.again.filter fun j => !sel j } }
  s.eachOf gone fun j s => s.jobClose { j with discard := true, silent := j.silent || silent } jsReturned 31 0 0 0

/-- DISCARD of receiver `r` (R200): its parcels in reassembly, those queued, its contexts and its jobs. -/
def State.rxDiscard (s : State) (r : Nat) : State :=
  let q := nth [] s.ing.ready r
  let s := { s with ing := { s.ing with ready := upd s.ing.ready r [] } }
  let s := s.eachOf q fun j s => s.ringFree j.alloc
  let s := s.discardJobs (fun j => j.net && j.unit == r) false
  s.eachOf (s.ing.ctxs.filter fun c => c.rx == r) fun c s => s.ctxFail c.id jsReturned 0

/-- A tray that discards gives RETURNED for every envelope not started, fetched or not, as its receipt ring takes them (R193, R200); one that has stopped on a
denied access gives none. -/
def State.trayReturn (s : State) (p : Nat) : Nat → State
  | 0 => s
  | n + 1 =>
    let t := s.tray p
    let h := s.rf (Reg.TRAY_HEAD p) 16 0
    if !s.discarding (trayPage p) then s
    else if s.trayStopped p then s.setTray p { t with items := [] }
    else if s.rcptFull p ∨ !t.held.isEmpty then s
    else
      match t.items with
      | j :: rest => State.trayReturn ((s.setTray p { t with items := rest }).receipt j jsReturned 31 0 0 0 0) p n
      | [] =>
        if h = t.limit then s
        else
          let (s, r) := s.readMem (some p) ((t.base + 64 * (h % 2 ^ t.size)) % 2 ^ 40) 64
          if r.denied then s.trayStop p
          else State.trayReturn ((s.wf (Reg.TRAY_HEAD p) 16 0 (h + 1)).receipt (envJob p h r.data) jsReturned 31 0 0 0 0) p n

/-- DISCARD of tray `p` (R200): its running jobs stop, and every envelope not started is returned. -/
def State.trayDiscard (s : State) (p : Nat) : State := (s.discardJobs (fun j => !j.net && j.unit == p) false).trayReturn p 131073

/-- A reset of port `p` (R202): its tray's jobs are discarded without receipts. -/
def State.trayDrop (s : State) (p : Nat) : State :=
  (s.setTray p { s.tray p with items := [] }).discardJobs (fun j => !j.net && j.unit == p) true

/-- ENABLE of a tray goes from 0 to 1 (R193, R205): held receipts and waiting envelopes go on. -/
def State.trayEnable (s : State) (p : Nat) : State :=
  let t := s.tray p
  let s := s.setTray p { t with base := s.addr40 (Reg.TRAY_BASE_LO p), size := clampN 4 16 (s.rf (Reg.TRAY_SIZE p) 4 0), rcpt := s.addr40 (Reg.RCPT_BASE_LO p) }
  let s := s.wf (Reg.TRAY_STATUS p) 27 24 0
  ((s.wb (Reg.TRAY_STATUS p) 31 (s.rcptFull p)).rcptDrain p 32).trayPump p 64

/-- RCPT_HEAD written (R193): held receipts are released in order. -/
def State.rcptHead (s : State) (p : Nat) : State :=
  let s := s.wb (Reg.TRAY_STATUS p) 31 (s.rcptFull p)
  (((s.rcptDrain p 32).trayPump p 64).trayReturn p 131073).ingStates

/-- What writing an ING register does beyond storing it. -/
def State.ingWritten (s : State) (a : Nat) : State :=
  match (List.range 4).find? (fun p => a == Reg.RCPT_HEAD p) with
  | some p => s.rcptHead p
  | none => s

/-- What an ING or DCP register reads as where that is computed (R203, R204, R206). -/
def State.ingView (s : State) (a : Nat) : Option Word :=
  if a = Reg.ING_DISPATCH then some (wd (min 1023 ((s.ing.ready.flatten.length + (s.ing.trays.flatMap (·.items)).length + s.ing.again.length))))
  else if a = Reg.ING_ENGINES then some (wd ((List.range 24).foldl (fun (m : Nat) e => if s.dcpFree e then m + 2 ^ e else m) 0))
  else if a = Reg.DCP_ACTIVE then some (wd ((List.range 24).foldl (fun (m : Nat) e => if s.takesWork (dcpPage e) then m + 2 ^ e else m) 0))
  else if a = Reg.ING_CTX_USED then some (wd s.ing.ctxs.length)
  else match (List.range 4).find? (fun r => a == Reg.ING_RX_INFLIGHT r || a == Reg.ING_RX_RING_FREE r) with
  | some r =>
    if a = Reg.ING_RX_INFLIGHT r then
      some (wd ((s.ing.ctxs.filter fun c => c.rx == r).length * 65536 + (s.ing.parcels.filter fun p => p.rx == r).length))
    else some (wd ((s.ringBytes r - s.ringUsed r) / 65536))
  | none => none

/-! ### The commands -/

/-- PARCEL_TIMEOUT (R187). -/
def execParcelTimeout (i : Fin 1024) (s : State) : Host.Outcome State Fault Refusal := done (s.parcelTimeout i).ingStates

/-- PLANE_TIMEOUT (R188). -/
def execPlaneTimeout (k : Fin 256) (s : State) : Host.Outcome State Fault Refusal :=
  done (match s.ing.ctxs[k.val]? with | some c => (s.ctxFail c.id jsTimeout 0).ingStates | none => s)

/-- PLANE_DONE (R188). -/
def execPlaneDone (k : Fin 256) (s : State) : Host.Outcome State Fault Refusal := done (s.ctxDone k).ingStates

/-- TRAY_TAIL (R189). -/
def execTrayTail (p : Party) (port : Fin 4) (v : Word) (s : State) : Host.Outcome State Fault Refusal := done (s.regWrite p (Reg.TRAY_TAIL port) v id)

/-- ENVELOPE_PARCEL (R191). -/
def execEnvelopeParcel (port : Fin 4) (s : State) : Host.Outcome State Fault Refusal := done (s.envFetch port 1)

/-- ENVELOPE_INFLATE (R191). -/
def execEnvelopeInflate (port : Fin 4) (s : State) : Host.Outcome State Fault Refusal := done (s.envFetch port 2)

/-- ENVELOPE_COPY (R191). -/
def execEnvelopeCopy (port : Fin 4) (s : State) : Host.Outcome State Fault Refusal := done (s.envFetch port 3)

/-- ENVELOPE_FENCE (R191). -/
def execEnvelopeFence (port : Fin 4) (s : State) : Host.Outcome State Fault Refusal := done (s.envFetch port 4)

/-- ENVELOPE_NOP (R191). -/
def execEnvelopeNop (port : Fin 4) (s : State) : Host.Outcome State Fault Refusal := done (s.envFetch port 0)

/-- RCPT_HEAD (R193). -/
def execRcptHead (p : Party) (port : Fin 4) (v : Word) (s : State) : Host.Outcome State Fault Refusal :=
  done (s.regWrite p (Reg.RCPT_HEAD port) v fun s => s.rcptHead port)

/-- DISPATCH (R194). -/
def execDispatch (s : State) : Host.Outcome State Fault Refusal := done s.dispatch

/-- DCP_INPUT_CONSUMED (R199). -/
def execDcpInputConsumed (e : Fin 24) (s : State) : Host.Outcome State Fault Refusal :=
  done (if (s.dcp e).running.isSome then s.setDcp e { s.dcp e with consumed := true } else s)

/-- DCP_JOB_END (R196). -/
def execDcpJobEnd (e : Fin 24) (points : Nat) (s : State) : Host.Outcome State Fault Refusal := done (s.dcpEnd e points)

end Sys2Proof.Machine
end

