-- ==== Sys2Proof/Machine/Syn.lean ====
section
/-! DEFINITION. Ray synthesis (spec/05_ray_synthesis.md): bands, fills of the Reel, deals, rays, runs and proof views. -/
namespace Sys2Proof.Machine

abbrev synPage : Nat := Reg.page 5 0
abbrev slicePage (n : Nat) : Nat := Reg.page 5 (n + 1)

/-! ### Bands (R90, R94, R97) -/

/-- Bands of one region row. -/
def bandsPerRow (lay : Nat) : Nat := (geoLensH lay + 31) / 32

/-- First and last lens row of band `b`. -/
def bandRows (lay b : Nat) : Nat × Nat :=
  let rr := b / bandsPerRow lay
  let lo := rr * geoLensH lay + 32 * (b % bandsPerRow lay)
  (lo, min (lo + 31) ((rr + 1) * geoLensH lay - 1))

/-- First and last row of the window of band `b` that can be stored (R94). -/
def windowRows (lay b : Nat) : Nat × Nat :=
  let r := bandRows lay b
  (r.1 - 14, min (r.2 + 15) (2 * geoLensH lay - 1))

/-- Extent of a layer in columns and rows, first and last, as R72 and R73 count cells; empty where last < first. -/
structure Extent where
  x0 : Int
  x1 : Int
  y0 : Int
  y1 : Int
  deriving DecidableEq, Repr

/-- Cells j with `o ≤ j + 1/2 < o + w` in Q13.2. -/
def cellSpan (o : Int) (w : Nat) : Int × Int := ((o - 2 + 3) / 4, (o + w - 2 + 3) / 4 - 1)

/-- The extent of a layer (R72, R73). -/
def FLayer.extent (l : FLayer) : Extent :=
  let org := nth 0 l.slate slOrigin
  let size := nth 0 l.slate slSize
  let ox := sgn 16 org
  let oy := sgn 16 (org / 65536)
  let w := nfld size 14 0
  let h := nfld size 30 16
  if scaleEn (nth 0 l.slate slScale) then
    let cx := cellSpan ox w
    let cy := cellSpan oy h
    ⟨cx.1, if w = 0 ∨ h = 0 then cx.1 - 1 else cx.2, cy.1, cy.2⟩
  else
    let x := ox / 4
    let y := oy / 4
    ⟨x, x + (w / 4 : Nat) - 1, y, if w / 4 = 0 then y - 1 else y + (h / 4 : Nat) - 1⟩

/-- An extent meets rows `a … b` and the stored columns. -/
def Extent.meets (e : Extent) (a b : Int) : Bool :=
  decide (e.x0 ≤ e.x1) && decide (e.y0 ≤ e.y1) && decide (e.x0 ≤ 3871) && decide (-32 ≤ e.x1) && decide (e.y0 ≤ b) && decide (a ≤ e.y1)

/-- The layers of the frame in blend order, as latched (R66, R91); a merged Print entry is blended at its front layer, as a layer of
lens cells that covers the union of its members, with no layer alpha of its own (R221). -/
def State.frameLayers (s : State) : List FLayer :=
  ((39 :: List.range 39).filter fun n => s.takesPart n && (match s.printEntry n with | some e => e.front == n | none => true)).map fun n =>
    let l := s.layerAt n
    match s.printEntry n with
    | none => l
    | some e =>
      if e.front = e.last then { l with print := true, stored := e.rows }
      else
        let x0 := nth 0 e.box 0
        let y0 := nth 0 e.box 2
        let slate := upd (upd (upd (upd (upd l.slate slFormat 2) slAlpha 0xFFFF) slScale 0) slOrigin (unsgn 16 (4 * x0) + 2 ^ 16 * unsgn 16 (4 * y0))) slSize
          ((4 * (nth 0 e.box 1 + 1 - x0)).toNat + 2 ^ 16 * (4 * (nth 0 e.box 3 + 1 - y0)).toNat)
        { l with slate := slate, scaler := none, print := true, merged := true, stored := e.rows }

/-- The square of indicator `k` (R83): position, geometry. -/
def indSquare (ind : List Nat) (k : Nat) : Extent :=
  let pos := nth 0 ind 0
  let geom := nth 0 ind 1
  let size := clampN 1 64 (nfld geom 7 0)
  let x : Int := (nfld pos 11 0 + k * nfld geom 15 8 : Nat)
  let y : Int := (nfld pos 27 16 : Nat)
  ⟨x, x + size - 1, y, y + size - 1⟩

/-- A layer takes part in a band (R97). -/
def Frame.inBand (f : Frame) (l : FLayer) (b : Nat) : Bool :=
  let r := bandRows f.layout b
  let lo : Int := r.1 - 14
  let hi : Int := r.2 + 15
  nth 0 l.slate slAlpha != 0 && (l.extent.meets lo hi || (l.idx == 39 && f.shown.any fun k => (indSquare f.ind k).meets lo hi))

/-- Number `i` of the bands a frame walks. -/
def Frame.band (f : Frame) (i : Nat) : Nat := nth 0 f.bands i

/-! ### The latch (R91, R101, R102, R103) -/

/-- A slice is active (R89, R419). -/
def State.sliceActive (s : State) (n : Nat) : Bool :=
  s.enabled (slicePage n) && (s.pgState (slicePage n) == stIdle || s.pgState (slicePage n) == stRun) && !(nth Slice.reset s.syn.slices n).joining &&
    !s.rb Reg.PWR_GATE_SLICE n

def State.activeSlices (s : State) : List Nat := (List.range 26).filter fun n => s.sliceActive n

/-- Proof views that `n` active slices allow, of those in `en` (R102). With 24 slices, where the lowest-numbered enabled view has no valid
PV_OWNER, the next one that has is taken: the spec does not say which of R102 and R103 comes first (log 41). -/
def pvAllowed (n : Nat) (en : List Nat) : List Nat := if 25 ≤ n then en else if n = 24 then en.take 1 else []

/-- PV_OWNER of a view is valid (R103). -/
def State.pvOwnerOk (s : State) (v : Nat) : Bool :=
  let o := s.rf (Reg.PV_OWNER v) 2 0
  let own := s.rf (Reg.PAGE_OWNER synPage) 5 0
  if o < 4 then own.testBit o else o == 5 && own % 16 == 0

def State.synFrames (s : State) : List Frame := s.syn.frames

def State.setFrame (s : State) (f : Frame) : State :=
  { s with syn := { s.syn with frames := s.syn.frames.map fun (x : Frame) => if x.num = f.num then f else x } }

def State.slice (s : State) (n : Nat) : Slice := nth Slice.reset s.syn.slices n

def State.setSlice (s : State) (n : Nat) (v : Slice) : State := { s with syn := { s.syn with slices := upd s.syn.slices n v } }

/-- An item put in a group's queue. -/
def State.pushItem (s : State) (g : Nat) (i : QItem) : State := { s with syn := { s.syn with queues := updWith s.syn.queues g (· ++ [i]) } }

/-- Runs of a region in a frame. -/
def regionRuns (lay : Nat) : Nat := 1280 * geoLensH lay

/-- SYN_PV_GRANT (R102), and PV_STATUS.REFUSED (R103). -/
def State.pvGrantLatch (s : State) : State × List Nat :=
  let en := (List.range 4).filter fun v => s.rb Reg.SYN_PV_EN v
  let s := s.each 4 fun v s => s.wb (Reg.PV_STATUS v) 30 (!s.pvOwnerOk v)
  let g := pvAllowed s.activeSlices.length (en.filter fun v => s.pvOwnerOk v)
  let w := g.foldl (fun a v => a + 2 ^ v) 0
  let s := if s.rf Reg.SYN_PV_GRANT 3 0 = w then s else (s.wf Reg.SYN_PV_GRANT 3 0 w).evt 652
  (s, g)

/-- PV_SKIPPED (R102): the view is not rendered in full for the frame. -/
def State.pvSkipped (s : State) (v : Nat) : State := (s.wb (Reg.PV_STATUS v) 29 true).evt (657 + v)

/-- Mode of cue line `c` as a ROW line: its row, by the cue registers in force (R126, R133). -/
def State.cueRows (s : State) : List (Option Nat) :=
  (List.range 4).map fun c => let x := nth (0, 0) s.cmt.cues c; if nfld x.1 1 0 = 1 then some (nfld x.1 27 16) else none

/-- Synthesis of the frame with count `num` and epoch time `epoch` begins (R91); `on` is false while SYN is disabled (R106). The walk leaves out the
bands of a region row with no enabled region where no proof view is rendered: the spec does not say whether such bands are walked (log 43). -/
def State.synLatch (s : State) (num epoch : Nat) (on : Bool) : State :=
  let lay := s.geo.layout
  let regions := if on then (List.range 6).filter fun t => s.enabled (Reg.page 3 (1 + t)) else []
  let en := (List.range 4).filter fun v => s.rb Reg.SYN_PV_EN v
  let (s, grant) := s.pvGrantLatch
  let skipRate := decide (10 ≤ s.cmtRate) && decide (num % 2 = 1)
  let views := if on && !skipRate then grant else []
  let s := s.eachOf (en.filter fun v => on && !skipRate && !grant.contains v) fun v s => s.pvSkipped v
  let nb := bandsPerRow lay
  let row (i : Nat) : Bool := !views.isEmpty || regions.any fun t => t / 3 == i
  let bands := if on then (List.range (2 * nb)).filter fun b => row (b / nb) else []
  let prev := s.syn.frames.getLast?
  let f : Frame :=
    { num := num, epoch := epoch, layout := lay, regions := regions, geoBank := s.tabActive .geo
      eff := (List.range 6).map fun t => [(s.geoEff t).ox, (s.geoEff t).oy, (s.geoEff t).px, (s.geoEff t).py]
      tonBank := s.tabActive .ton, wearBank := s.wearActive, ton := s.ton.live, layers := s.frameLayers, shown := s.indicators
      ind := [s.rn Reg.LYR_IND_POS, s.rn Reg.LYR_IND_GEOM, s.rn Reg.LYR_IND_COLOUR]
      views := views.map fun v =>
        let o := s.rf (Reg.PV_OWNER v) 2 0
        { view := v, u := clampI (-31744) 31744 (sgn 16 (s.rf (Reg.PV_UV v) 15 0)), v := clampI (-14336) 14336 (sgn 16 (s.rf (Reg.PV_UV v) 31 16))
          addr0 := s.addr40 (Reg.PV_ADDR0_LO v), addr1 := s.addr40 (Reg.PV_ADDR1_LO v), pitch := s.rn (Reg.PV_PITCH v), port := if o < 4 then some o else none
          buf := none }
      pvCut := [], pvDenied := [], pvPix := [], pvDone := []
      ring := match prev with | some p => (p.ring + (windowRows p.layout (nth 0 p.bands (p.bands.length - 1))).2 + 1) % 93 | none => 0
      bands := bands, filled := 0, started := 0, deals := [], runs := List.replicate 6 0, samples := 0, terms := 0, waits := 0, waiting := false, waited := false
      sat := [], clip := [], neg := [], rows := s.cueRows, cues := [], light := [], ended := regions.isEmpty, stopped := false }
  let s := { s with syn := { s.syn with frames := s.syn.frames ++ [f] } }
  let s := s.each 6 fun g s => s.pushItem g (.start num (!regions.contains g))
  s.each 6 fun g s => s.when (!regions.contains g) fun s => s.pushItem g (.fin num false)

/-! ### Fills (R94, R96) -/

/-- The row buffer of a lens row (R94), in the ring of its slot. -/
def Frame.buffer (f : Frame) (row : Nat) : Nat := (f.ring + row) % 93

/-- Unit slots of a layer (R75, R95): a layer of two units has its own and the next. The spec does not say how an 8-byte cell lies in the two;
here the low half lies in the first slot and the high half at the same place of the second (log 42). -/
def FLayer.slots (l : FLayer) : List Nat := if is16F (nth 0 l.slate slFormat) || l.merged then [l.idx, l.idx + 1] else [l.idx]

/-- Unit slots of layer `n` in a frame. -/
def Frame.slots (f : Frame) (n : Nat) : List Nat := match f.layers.find? (fun l => l.idx = n) with | some l => l.slots | none => [n]

/-- Sub-array of the cell of unit slot `n`, row buffer `buf`, column index `c` from column −32 (R95). -/
def subArray (n buf c : Nat) : Nat := (n * 1452288 + buf * 15616 + c * 4) / 131072

/-- Sub-array of a staged pixel (R95): per view two band buffers of 32 rows. -/
def pvSub (v half row x : Nat) : Nat := (58195968 + ((v * 2 + half) * 32 + row) * 15360 + 4 * x) / 131072

/-- Rows to fetch for the layers of a frame's band number `i` among lens rows `lo … hi`, in the order of R96, with those that layer by layer `again`
names. -/
def Frame.rowsToFill (f : Frame) (i lo hi : Nat) (again : Nat → Nat → Bool) : List FillRow :=
  let w := windowRows f.layout (f.band i)
  (f.layers.filter fun l => f.inBand l (f.band i)).flatMap fun l =>
    ((List.range (hi + 1 - w.1)).map (· + w.1)).filterMap fun (r : Nat) =>
      if (lo ≤ r ∨ again l.idx r) ∧ l.extent.y0 ≤ (r : Int) ∧ (r : Int) ≤ l.extent.y1 ∧ l.extent.x0 ≤ 3871 ∧ -32 ≤ l.extent.x1 ∧ l.extent.x0 ≤ l.extent.x1 then
        some ⟨f.num, l.idx, r, i⟩
      else none

/-- Issue the fill of the frame's next unfilled band: the rows of its window that the band before does not hold, and the rows whose staging was
damaged in the fill of the band before (R88). -/
def State.issueFill (s : State) (f : Frame) : State :=
  if f.filled < f.bands.length then
    let w := windowRows f.layout (f.band f.filled)
    let lo := if f.filled = 0 then w.1 else max w.1 ((windowRows f.layout (f.band (f.filled - 1))).2 + 1)
    let mine (x : FillRow) : Bool := x.frame == f.num && x.band + 1 == f.filled
    let again (n r : Nat) : Bool := s.syn.spoilt.any fun x => mine x && x.layer == n && decide (x.row ≤ r)
    let rows := f.rowsToFill f.filled lo w.2 again
    let y := s.syn
    ({ s with syn := { y with fills := y.fills ++ rows, spoilt := y.spoilt.filter fun x => !mine x } }).setFrame { f with filled := f.filled + 1 }
  else s

/-- Deals of a frame that slices hold. -/
def State.heldDeals (s : State) (num : Nat) : List Deal :=
  s.syn.slices.flatMap fun sl => ((sl.running.map (·.deal)).toList ++ sl.queued.toList).filter fun d => d.frame = num

/-- The lowest band of a frame that still has a deal to finish, or has not started (R96). -/
def State.lowBand (s : State) (f : Frame) : Option Nat :=
  let bs := (f.deals ++ s.heldDeals f.num).map (·.band) ++ (f.bands.drop f.started)
  bs.foldl (fun (a : Option Nat) b => match a with | none => some b | some x => some (min x b)) none

/-- Row buffers that no deal can read any more are freed (R96). -/
def State.reelTrim (s : State) : State :=
  let keep (r : ReelRow) : Bool :=
    match s.syn.frames.find? (fun f => f.num = r.frame) with
    | some f => match s.lowBand f with | some b => decide ((windowRows f.layout b).1 ≤ r.row) | none => false
    | none => false
  { s with syn := { s.syn with reel := s.syn.reel.filter keep } }

/-- The row buffer that a row to be filled takes is still read, or holds a row of another number (R94, R96): a row that is stored already is read
until every deal of an earlier band has finished. -/
def State.bufferBusy (s : State) (f : Frame) (fr : FillRow) : Bool :=
  let slots := f.slots fr.layer
  s.syn.reel.any fun r =>
    match s.syn.frames.find? (fun x => x.num = r.frame) with
    | none => false
    | some x =>
      x.buffer r.row == f.buffer fr.row && (x.slots r.layer).any slots.contains &&
        (!(r.frame == fr.frame && r.layer == fr.layer && r.row == fr.row) || (f.deals ++ s.heldDeals f.num).any fun d => d.band < f.band fr.band)

/-- Row buffers a frame still needs: from its lowest unfinished band on. -/
def State.rowsNeeded (s : State) (f : Frame) : Nat :=
  match s.lowBand f, f.bands.getLast? with
  | some b, some l => (windowRows f.layout l).2 + 1 - (windowRows f.layout b).1
  | _, _ => 0

/-- BAND0_FILL_START (R96): the newest frame's first fill, once the rings can spare its buffers. -/
def State.band0Fill (s : State) : State :=
  match s.syn.frames.getLast? with
  | none => s
  | some f =>
    let w := windowRows f.layout (f.band 0)
    let others := (s.syn.frames.filter fun x => x.num ≠ f.num).foldl (fun a x => a + s.rowsNeeded x) 0
    if f.filled = 0 ∧ !f.bands.isEmpty ∧ w.2 + 1 - w.1 + others ≤ 93 then s.issueFill f else s

/-- A read of the layer is what a wrong Slate makes unpredictable: a source wider than the line buffer (R79), or rows that overlap. -/
def FLayer.unpredictable (l : FLayer) : Bool :=
  let fmt := nth 0 l.slate slFormat
  let sc := scaleEn (nth 0 l.slate slScale)
  let w := if sc then nfld (nth 0 l.slate slSrc) 13 0 else nfld (nth 0 l.slate slSize) 14 0 / 4
  (sc && decide ((if is16F fmt then 4096 else 8192) < w)) || decide (nfld (nth 0 l.slate slPitch) 19 6 * 64 < w * pxBytes (nfld fmt 1 0))

/-- Columns of a layer that the Reel stores: first and last. -/
def FLayer.columns (l : FLayer) : Int × Int := (max (-32) l.extent.x0, min 3871 l.extent.x1)

/-- Source rows that Reel row `r` needs, ascending (R73, R78). -/
def FLayer.sourceRows (l : FLayer) (r : Nat) : List Nat :=
  if scaleEn (nth 0 l.slate slScale) then
    let h : Int := nfld (nth 0 l.slate slSrc) 29 16
    let xi := (scalePos r (sgn 16 (nth 0 l.slate slOrigin / 65536)) l.stepY).1
    (([xi - 1, xi, xi + 1, xi + 2].map fun y => (clampI 0 (h - 1) y).toNat).foldl (fun (a : List Nat) y => if a.contains y then a else a ++ [y]) [])
  else [((r : Int) - l.extent.y0).toNat]

/-- First and last source pixel of a line that the layer's columns need. -/
def FLayer.sourceSpan (l : FLayer) : Nat × Nat :=
  let c := l.columns
  if scaleEn (nth 0 l.slate slScale) then
    let w : Int := nfld (nth 0 l.slate slSrc) 13 0
    let o := sgn 16 (nth 0 l.slate slOrigin)
    ((clampI 0 (w - 1) ((scalePos c.1 o l.stepX).1 - 3)).toNat, (clampI 0 (w - 1) ((scalePos c.2 o l.stepX).1 + 4)).toNat)
  else ((c.1 - l.extent.x0).toNat, (c.2 - l.extent.x0).toNat)

/-- The layer has no source pixel (R77). -/
def FLayer.noSource (l : FLayer) : Bool :=
  scaleEn (nth 0 l.slate slScale) && (nfld (nth 0 l.slate slSrc) 13 0 == 0 || nfld (nth 0 l.slate slSrc) 29 16 == 0)

/-- Cells of Reel row `r`, from the layer's first column, made of source lines (R73, R78). -/
def FLayer.cells (l : FLayer) (r : Nat) (lines : List SrcLine) : List (Option Nat) :=
  let c := l.columns
  let n := (c.2 + 1 - c.1).toNat
  let span := l.sourceSpan
  let px (y x : Nat) : Option Nat :=
    match lines.find? (fun t => t.row = y) with
    | some t => nth none t.px (x - span.1)
    | none => none
  let fmt := nfld (nth 0 l.slate slFormat) 1 0
  if scaleEn (nth 0 l.slate slScale) then
    let sc := nth 0 l.slate slScale
    let src := nth 0 l.slate slSrc
    let w : Int := nfld src 13 0
    let h : Int := nfld src 29 16
    let org := nth 0 l.slate slOrigin
    let py := scalePos r (sgn 16 (org / 65536)) l.stepY
    let wy := scaleWeights (nfld sc 9 8) l.stepY 4 py.2
    let ys := [py.1 - 1, py.1, py.1 + 1, py.1 + 2].map fun y => (clampI 0 (h - 1) y).toNat
    let mid := (List.range (span.2 + 1 - span.1)).map fun x => filterPx fmt wy (ys.map fun y => (px y (span.1 + x)).map (takenPx fmt))
    (List.range n).map fun i =>
      let p := scalePos (c.1 + i) (sgn 16 org) l.stepX
      let wx := scaleWeights (nfld sc 5 4) l.stepX 8 p.2
      filterPx fmt wx ((List.range 8).map fun k => nth none mid ((clampI 0 (w - 1) (p.1 + k - 3)).toNat - span.1))
  else (List.range n).map fun i => px (nth 0 (l.sourceRows r) 0) (span.1 + i)

/-- Cells of an unpredictable layer (R19, R73, R79): every cell holds a free value, but a cell built from a denied or uncorrectable read is
transparent as ever. -/
def State.freeCells (s : State) (bits : Nat) : List (Option Nat) → State × List (Option Nat)
  | [] => (s, [])
  | none :: t =>
    let r := s.freeCells bits t
    (r.1, none :: r.2)
  | some _ :: t =>
    let x := s.free bits
    let r := State.freeCells x.2 bits t
    (r.1, some x.1.toNat :: r.2)

/-- The cells of a row of a layer as its fill leaves them. -/
def State.rowCells (s : State) (l : FLayer) (r : Nat) (lines : List SrcLine) : State × List (Option Nat) :=
  let cells := l.cells r lines
  if l.unpredictable then s.freeCells (8 * pxBytes (nfld (nth 0 l.slate slFormat) 1 0)) cells else (s, cells)

/-- Pixels of a source line from pixel `x0` on that one 64-byte burst at `a` holds. -/
def burstPixels (bytes : List Byte) (off bpp n : Nat) (bad : Bool) : List (Option Nat) :=
  (List.range n).map fun i => if bad then none else some (leAt bytes (off + i * bpp) bpp)

/-- The captures that want a row read it as it becomes resident (R220). -/
def State.captureRow (s : State) (fr : FillRow) (first : Int) (cells : List (Option Nat)) : State :=
  let take (c : Capture) : Capture :=
    let e := nth PEntry.free s.prt.entries c.entry
    let mine : Bool := match c.frame with | some f => f == fr.frame | none => decide (c.from_ ≤ fr.frame)
    if mine && fr.row / 64 == c.strip && decide (e.front ≤ fr.layer) && decide (fr.layer ≤ e.last) then
      { c with frame := some fr.frame, rows := c.rows ++ [(fr.layer, ⟨fr.row, first, cells⟩)] }
    else c
  { s with cmp := s.cmp.map fun (x : CmpEng) => { x with capture := x.capture.map take } }

/-- A row of the Reel is complete: stored, and the next fill row begins; a scaler keeps its last lines within one layer's fill for a band (R76,
R88). -/
def State.storeRow (s : State) (fr : FillRow) (first : Int) (cells : List (Option Nat)) (lines : List SrcLine) : State :=
  let rest := s.syn.fills.drop 1
  let same := match rest.head? with | some x => x.frame == fr.frame && x.layer == fr.layer && x.band == fr.band | none => false
  let reel := s.syn.reel.filter fun x => !(x.frame == fr.frame && x.layer == fr.layer && x.row == fr.row)
  let s := s.captureRow fr first cells
  { s with syn := { s.syn with fills := rest, line := [], lines := if same then lines else [], reel := reel ++ [⟨fr.frame, fr.layer, fr.row, first, cells⟩] } }

/-- The requester of a layer's reads (R37): its OWNER_HOST. -/
def FLayer.port (l : FLayer) : Option Nat := let o := ownerHost (nth 0 l.slate slFormat); if o < 4 then some o else none

/-- REEL_BURST_LANDS (R96): the next 64-byte burst of the fill lands; a row all of whose bursts have landed is stored. The fill waits while the
row's buffer is still in use. -/
def State.burstLands (s : State) : State :=
  match s.syn.fills.head? with
  | none => s
  | some fr =>
    match s.syn.frames.find? (fun f => f.num = fr.frame) with
    | none => { s with syn := { s.syn with fills := s.syn.fills.drop 1, line := [], lines := [] } }
    | some f =>
      match f.layers.find? (fun l => l.idx = fr.layer) with
      | none => { s with syn := { s.syn with fills := s.syn.fills.drop 1, line := [], lines := [] } }
      | some l =>
        if s.bufferBusy f fr then s
        else if l.print then
          match l.stored.find? (fun r => r.row = fr.row) with
          | some r => s.storeRow fr r.first r.cells []
          | none => s.storeRow fr 0 [] []
        else if l.noSource then s.storeRow fr 0 [] []
        else
          let need := (l.sourceRows fr.row).filter fun y => !s.syn.lines.any fun t => t.row = y
          match need.head? with
          | none =>
            let r := s.rowCells l fr.row s.syn.lines
            r.1.storeRow fr l.columns.1 r.2 (s.syn.lines.filter fun t => (l.sourceRows fr.row).contains t.row)
          | some y =>
            let bpp := pxBytes (nfld (nth 0 l.slate slFormat) 1 0)
            let span := l.sourceSpan
            let x := span.1 + s.syn.line.length
            let base := nth 0 l.slate slAddrLo + 2 ^ 32 * nfld (nth 0 l.slate slAddrHi) 7 0
            let a := (base + y * nth 0 l.slate slPitch + x * bpp) % 2 ^ 40
            let off := a % 64
            let (s, r) := s.readMem l.port (a - off) 64
            let k := min ((64 - off) / bpp) (span.2 + 1 - x)
            let line := s.syn.line ++ burstPixels r.data off bpp k (r.denied || r.uncorr)
            if line.length = span.2 + 1 - span.1 then
              let lines := s.syn.lines ++ [⟨y, line⟩]
              let s := { s with syn := { s.syn with line := [], lines := lines } }
              if need.length = 1 then
                let r := s.rowCells l fr.row lines
                r.1.storeRow fr l.columns.1 r.2 (lines.filter fun t => (l.sourceRows fr.row).contains t.row)
              else s
            else { s with syn := { s.syn with line := line } }

/-- The window of walked band number `i` is resident (R96). -/
def State.resident (s : State) (f : Frame) (i : Nat) : Bool :=
  let w := windowRows f.layout (f.band i)
  decide (i < f.filled) && s.syn.fills.all fun r => !(r.frame == f.num && decide (w.1 ≤ r.row) && decide (r.row ≤ w.2))

/-- Row `r` counts as resident in frame `f` (R126): the first band whose window holds it is; a row that SYN never fetches counts when the frame
ends. -/
def State.rowResident (s : State) (f : Frame) (r : Nat) : Bool :=
  let holds (i : Nat) : Bool := let w := windowRows f.layout (f.band i); decide (w.1 ≤ r) && decide (r ≤ w.2)
  match (List.range f.bands.length).find? holds with
  | some i => s.resident f i
  | none => f.ended

/-- Cue line `c` fires for frame `f`, at most once, if it is a ROW line there (R126, R127). -/
def State.cueRowFire (s : State) (f : Frame) (c : Nat) (late : Bool) : State :=
  if (nth none f.rows c).isSome && s.cmtRuns && !f.cues.contains c then (s.setFrame { f with cues := c :: f.cues }).cueFire c f.num late else s

/-- ROW cue lines of the frames whose rows are resident fire (R126); a frame that has been stopped fires none before its end. -/
def State.rowCues (s : State) : State :=
  s.eachOf s.syn.frames fun f s =>
    s.each 4 fun c s =>
      match s.syn.frames.find? (fun x => x.num = f.num), nth none f.rows c with
      | some f, some r => if !f.stopped && s.rowResident f r then s.cueRowFire f c false else s
      | _, _ => s

/-! ### Samples and rays (R98 to R101) -/

/-- A cell of the Reel as a frame's samples read it: none for a transparent cell (R72, R94, R107). -/
def State.reelCell (s : State) (f : Frame) (n : Nat) (row col : Int) : Option Nat :=
  if row < 0 then none
  else
    match s.syn.reel.find? (fun r => r.frame = f.num ∧ r.layer = n ∧ (r.row : Int) = row) with
    | none => none
    | some r =>
      if col < r.first ∨ (!s.syn.dead.isEmpty ∧ (f.slots n).any fun k => s.syn.dead.contains (subArray k (f.buffer row.toNat) (col + 32).toNat)) then none
      else nth none r.cells (col - r.first).toNat

/-- A cell of a merged Print entry (R221). -/
def mergedCell (px : Nat) : Smp :=
  let c (i : Nat) : Int := sat24 (rne (halfVal (nth 0 (channels 2 px) i)) 256)
  ⟨c 0, c 1, c 2, clampI 0 65536 (rne (halfVal (nth 0 (channels 2 px) 3)) 256)⟩

/-- A cell of layer `l` converted (R99), with the stale indicators of layer 39 (R83). -/
def State.sampleCell (s : State) (f : Frame) (l : FLayer) (row col : Int) : Smp :=
  let fmt := nth 0 l.slate slFormat
  let sdr := fld (tonWord f.ton Reg.TON_SDR_WHITE) 22 0
  let hlg := fld (tonWord f.ton Reg.TON_HLG_PEAK) 22 0
  let x := match s.reelCell f l.idx row col with
    | none => Smp.zero
    | some px => if l.merged then mergedCell px else decodeCell fmt sdr hlg px
  if l.idx = 39 then
    (f.shown.filter fun k =>
      let q := indSquare f.ind k
      decide (q.x0 ≤ col) && decide (col ≤ q.x1) && decide (q.y0 ≤ row) && decide (row ≤ q.y1)).foldl
      (fun x _ => overIndicator fmt sdr hlg (nth 0 f.ind 2) x) x
  else x

/-- The sample of layer `l` (R98, R99) for a ray in a band of lens rows `a … b`. -/
def State.sampleLayer (s : State) (f : Frame) (l : FLayer) (a b : Nat) (lx ly : Nat) (u v : Int) : Smp :=
  let d := sgn 12 (nth 0 l.slate slDisparity)
  let ax (base : Nat) (p : Int) : Int × Int :=
    let w := (p % 2 ^ 20 + 2 ^ 11) / 2 ^ 12
    if w = 256 then ((base : Int) + p / 2 ^ 20 + 1, 0) else ((base : Int) + p / 2 ^ 20, w)
  let x := ax lx (d * u)
  let y := ax ly (d * v)
  let j := clampI (-32) 3870 x.1
  let i := clampI ((a : Int) - 14) ((b : Int) + 14) y.1
  let w00 := (256 - x.2) * (256 - y.2)
  let w10 := x.2 * (256 - y.2)
  let w01 := (256 - x.2) * y.2
  let w11 := x.2 * y.2
  let c00 := s.sampleCell f l i j
  let c10 := s.sampleCell f l i (j + 1)
  let c01 := s.sampleCell f l (i + 1) j
  let c11 := s.sampleCell f l (i + 1) (j + 1)
  let alpha : Int := (nth 0 l.slate slAlpha : Nat)
  let la := if l.merged then 65536 else alpha + alpha / 2 ^ 15
  let mix (g : Smp → Int) : Int := rnd (w00 * g c00 + w10 * g c10 + w01 * g c01 + w11 * g c11) 16
  let fin (x : Int) : Int := sat24 (rnd (sat24 x * la) 16)
  ⟨fin (mix Smp.r), fin (mix Smp.g), fin (mix Smp.b), rnd (mix Smp.a * la) 16⟩

/-- What the blend of a ray gives: the light, the coverage, layers sampled, lane cycles, whether it stopped early. -/
structure Blend where
  c : Smp
  samples : Nat
  cycles : Nat
  term : Bool
  deriving DecidableEq, Repr

/-- R100 over layers in blend order; `sample` is R98 and R99. -/
def blendLayers (sample : FLayer → Smp) : List FLayer → Blend → Blend
  | [], r => r
  | l :: t, r =>
    if 65472 ≤ r.c.a then { r with term := true }
    else
      let x := sample l
      let k := 65536 - r.c.a
      let acc (c d : Int) : Int := sat24 (c + rnd (k * d) 16)
      let c : Smp := ⟨acc r.c.r x.r, acc r.c.g x.g, acc r.c.b x.b, min 65536 (r.c.a + rnd (k * x.a) 16)⟩
      blendLayers sample t ⟨c, r.samples + 1, r.cycles + (if is16F (nth 0 l.slate slFormat) || l.merged then 2 else 1), false⟩

/-- A ray through the layers taking part in band `band` (R98 to R100). -/
def State.ray (s : State) (f : Frame) (band lx ly : Nat) (u v : Int) : Blend :=
  let r := bandRows f.layout band
  blendLayers (fun l => s.sampleLayer f l r.1 r.2 lx ly u v) (f.layers.filter fun l => f.inBand l band) ⟨Smp.zero, 0, 0, false⟩

/-! ### Deals (R92, R101) -/

/-- Rays of one lens cell of a deal: the emitters of a run, or one proof ray. -/
def Deal.perCell (d : Deal) (lay : Nat) : Nat := if d.view.isSome then 1 else geoNu lay * geoNv

/-- Lens cells of a deal. -/
def Deal.cellCount (d : Deal) (lay : Nat) : Nat := let r := bandRows lay d.band; 8 * (r.2 + 1 - r.1)

/-- The first ray from `i` on whose run has not been sent; none where the deal has no more. -/
def Deal.nextRay (d : Deal) (lay : Nat) : Nat → Nat → Option Nat
  | 0, _ => none
  | fuel + 1, i =>
    let n := d.perCell lay
    if d.cellCount lay * n ≤ i then none
    else if d.sent.contains (i / n) then Deal.nextRay d lay fuel ((i / n + 1) * n)
    else some i

/-- Lanes take the first rays of a deal that starts to run (R92). -/
def Deal.start (d : Deal) (lay : Nat) : Running :=
  let r := (List.range 64).foldl (fun (acc : List (Option Nat) × Nat) _ =>
    match d.nextRay lay 300 acc.2 with
    | some i => (acc.1 ++ [some i], i + 1)
    | none => (acc.1 ++ [none], acc.2)) ([], 0)
  ⟨d, r.2, r.1, [], []⟩

/-- The deal list of a band (R92, R101): panel deals, then proof deals in ascending view. -/
def Frame.bandDeals (f : Frame) (b : Nat) : List Deal :=
  let rr := b / bandsPerRow f.layout
  let ts := f.regions.filter fun t => t / 3 == rr
  let m := ts.length
  (List.range (160 * m)).map (fun d => ⟨f.num, b, none, nth 0 ts (d % m), 8 * (d / m), []⟩) ++
    (f.views.filter fun v => !f.pvCut.contains v.view).flatMap fun v => (List.range 480).map fun d => ⟨f.num, b, some v.view, 0, 8 * d, []⟩

/-- SLC_STATUS of a slice (R109): OUTPUT_STALL ends with the deal whose run waits. -/
def State.sliceStatus (s : State) (n : Nat) : State :=
  let sl := s.slice n
  let s := s.wf (Reg.SLC_STATUS n) 1 0 (b2n sl.running.isSome + b2n sl.queued.isSome)
  match sl.running with | some r => s.wf (Reg.SLC_STATUS n) 14 8 r.deal.band | none => s.wb (Reg.SLC_STATUS n) 16 false

/-- A slice with a free place takes the next deal: deals of an older frame before any of a newer one (R91, R92). -/
def State.takeDeal (s : State) (n : Nat) : State :=
  let sl := s.slice n
  if !s.sliceActive n || (sl.running.isSome && sl.queued.isSome) then s
  else
    match s.syn.frames.find? (fun f => !f.deals.isEmpty) with
    | none => s
    | some f =>
      match f.deals with
      | [] => s
      | d :: t =>
        let s := s.setFrame { f with deals := t }
        (if sl.running.isNone then s.setSlice n { sl with running := some (d.start f.layout) } else s.setSlice n { sl with queued := some d }).sliceStatus n

/-- Free places filled, in ascending slice index. -/
def State.dealOut (s : State) : State := (s.each 26 fun n s => s.takeDeal n).each 26 fun n s => s.takeDeal n

/-- Deals put back at the front of their frames' lists (R104); deals of frames that have ended are gone. -/
def State.redeal (s : State) (ds : List Deal) : State :=
  ds.reverse.foldl (fun s d => match s.syn.frames.find? (fun f => f.num = d.frame) with
    | some f => s.setFrame { f with deals := d :: f.deals }
    | none => s) s

/-- STATE of a slice changes, with its event (R104, R110). -/
def State.sliceState (s : State) (n v : Nat) : State :=
  let s := s.when (v == stFenced && s.pgState (slicePage n) != stFenced) fun s => s.cntSat (Reg.SLC_FENCES n) 32 1
  s.toState (slicePage n) v (some (544 + 4 * n))

/-- The number of active slices may have fallen (R102): proof deals not yet dealt of views beyond what it allows leave their frame's list, and a
view that loses deals, or bands still to start, is not rendered in full. -/
def State.proofCut (s : State) : State :=
  let n := s.activeSlices.length
  s.eachOf s.syn.frames fun f s =>
    let ok := pvAllowed n (f.views.map (·.view))
    let rest (v : Nat) : Bool := decide (f.started < f.bands.length) || f.deals.any fun d => d.view == some v
    let cut := (f.views.map (·.view)).filter fun v => !ok.contains v && !f.pvCut.contains v && rest v
    if cut.isEmpty then s
    else s.setFrame { f with pvCut := f.pvCut ++ cut, deals := f.deals.filter fun d => match d.view with | some v => !cut.contains v | none => true }

/-- A fault reaction on a slice (R104): its deals are withdrawn and dealt again. -/
def State.sliceFault (s : State) (n : Nat) : State :=
  let sl := s.slice n
  let ds := (sl.running.map (·.deal)).toList ++ sl.queued.toList
  let s := (s.setSlice n { sl with running := none, queued := none, joining := false, leaving := false }).redeal ds
  let s := (s.sliceState n stFenced).when (!ds.isEmpty) fun s => s.evt (546 + 4 * n)
  ((s.sliceStatus n).proofCut).dealOut

/-- Rays of the deal a slice runs belong to `f`; a count in units of `k`, with the part below one unit kept. -/
def addUnits (s : State) (reg k part n : Nat) : State × Nat := (s.cntSat reg 32 ((part + n) / k), (part + n) % k)

/-- A flag of a region raised once in a frame. -/
def State.onceIn (s : State) (l : List Nat) (t : Nat) (c : Bool) (evt : Nat) : State × List Nat :=
  if c && !l.contains t then (s.evt evt, t :: l) else (s, l)

/-- RAY_DONE (R98 to R101): lane `k` of slice `n` finishes its ray and takes the next one of the running deal. -/
def State.rayDone (s : State) (n k : Nat) : State :=
  let sl := s.slice n
  match sl.running with
  | none => s
  | some r =>
    match nth none r.lanes k, s.syn.frames.find? (fun f => f.num = r.deal.frame) with
    | some i, some f =>
      let d := r.deal
      let per := d.perCell f.layout
      let cell := i / per
      let e := i % per
      let ly := (bandRows f.layout d.band).1 + cell / 8
      let nu := geoNu f.layout
      let llx := d.col + cell % 8
      let t := d.tile
      let g : GeoRay := match d.view.bind (fun v => f.views.find? fun x => x.view = v) with
        | some v => ⟨d.col + cell % 8, ly, v.u, v.v, false, false⟩
        | none =>
          let eff := nth [] f.eff t
          geoRay (s.bank .geo f.geoBank) ⟨nth 0 eff 0, nth 0 eff 1, nth 0 eff 2, nth 0 eff 3⟩ f.layout t (llx * nu + e % nu)
            ((ly - geoLensH f.layout * (t / 3)) * geoNv + e / nu)
      let b := s.ray f d.band g.lx g.ly g.u g.v
      let (s, rays) := addUnits s (Reg.SLC_RAYS n) 256 sl.rays 1
      let (s, smp) := addUnits s (Reg.SLC_SAMPLES n) 1024 sl.samples b.cycles
      let (s, trm) := addUnits s (Reg.SLC_TERM n) 256 sl.term (b2n b.term)
      let s := s.when d.view.isNone fun s => s.geoCount t g
      let (s, sat) := s.onceIn f.sat t (d.view.isNone && (g.satU || g.satV)) (360 + 4 * t)
      let f := { f with samples := f.samples + b.samples, terms := f.terms + b2n b.term, sat := sat }
      let nx := d.nextRay f.layout 300 r.next
      let lanes := upd r.lanes k nx
      let next := match nx with | some j => j + 1 | none => r.next
      match d.view with
      | some v =>
        let ctl := tonWord f.ton (Reg.TON_PV_CTRL v)
        let px := proofPixel ctl (fld (tonWord f.ton (Reg.TON_PV_SCALE v)) 17 0) b.c.r b.c.g b.c.b
        let f := { f with pvPix := Sparse.insert (v * 2 ^ 24 + ly * 4096 + g.lx) px f.pvPix }
        let r := { r with deal := { d with sent := cell :: d.sent }, lanes := lanes, next := next }
        (s.setFrame f).setSlice n { sl with running := some r, rays := rays, samples := smp, term := trm }
      | none =>
        let results := (i, (b.c.r, b.c.g, b.c.b)) :: r.results
        let full := (results.filter fun x => x.1 / per = cell).length = per
        let r := { r with lanes := lanes, next := next, results := results, ready := if full then r.ready ++ [cell] else r.ready }
        (s.setFrame f).setSlice n { sl with running := some r, rays := rays, samples := smp, term := trm }
    | _, _ => s

/-! ### Runs and the end of a frame (R91, R93) -/

/-- Emitters waiting in a group's queue. -/
def queueLevel (q : List QItem) : Nat := q.foldl (fun a i => match i with | .run r => a + r.vals.length | _ => a) 0

/-- The queue of a group holds 16,384 emitters (R14). -/
def State.queueRoom (s : State) (g n : Nat) : Bool := decide (queueLevel (nth [] s.syn.queues g) + n ≤ 16384)

/-- SYN_FRAME_DONE (R91, R108): the frame's counters, its slack in µs to the next epoch, and the events of its end. -/
def State.frameEnds (s : State) (f : Frame) (late : Bool) : State :=
  let nextEpoch := f.epoch + framePeriod s.cmtRate
  let slack := if late then 0 else min 65535 ((nextEpoch - s.now) / (1000 * nsUnit))
  let s := s.setFrame { f with ended := true }
  let s := s.wn Reg.SYN_SLACK_LAST (b2n late * 2 ^ 31 + slack)
  let s := s.wf Reg.SYN_SLACK_MIN 15 0 (if s.syn.slackRead then slack else min (s.rf Reg.SYN_SLACK_MIN 15 0) slack)
  let s := { s with syn := { s.syn with slackRead := false } }
  let s := s.wn Reg.SYN_FILL_WAIT (min (2 ^ 32 - 1) f.waits)
  let s := (s.wn Reg.SYN_SAMPLES_LO f.samples).wf Reg.SYN_SAMPLES_HI 7 0 (f.samples / 2 ^ 32)
  let s := (s.wn Reg.SYN_TERM_LO f.terms).wf Reg.SYN_TERM_HI 7 0 (f.terms / 2 ^ 32)
  let s := s.when (!late) (·.evt 648)
  let s := s.when (decide (slack < s.rf Reg.SYN_SLACK_WARN 15 0)) (·.evt 649)
  if late then s else s.rowCues

/-- Light of a run by grid cell and colour (R390). -/
def addLight (l : List (Nat × Nat)) (t llx lly : Nat) (vals : List Nat) : List (Nat × Nat) :=
  (List.range 3).foldl (fun l c =>
    let k := ((t * 34 + lly / 32) * 40 + llx / 32) * 3 + c
    let sum := vals.foldl (fun a v => a + v / 1024 ^ c % 1024) 0
    Sparse.set (fun _ => 0) l k (Sparse.get (fun _ => 0) l k + sum)) l

/-- RUN_SEND (R93, R141): the slice's oldest complete run goes through the output unit into its group queue. -/
def State.runSend (s : State) (n : Nat) : State :=
  let sl := s.slice n
  match sl.running with
  | none => s
  | some r =>
    match r.ready, s.syn.frames.find? (fun f => f.num = r.deal.frame) with
    | cell :: rest, some f =>
      let per := r.deal.perCell f.layout
      let t := r.deal.tile
      if !s.queueRoom t per then s.wb (Reg.SLC_STATUS n) 16 true
      else
        let nu := geoNu f.layout
        let ly := (bandRows f.layout r.deal.band).1 + cell / 8
        let llx := r.deal.col + cell % 8
        let lly := ly - geoLensH f.layout * (t / 3)
        let bank := s.bank .ton f.tonBank
        let wear := fun k => Sparse.get wearDefault (s.wearBank f.wearBank) k
        let outs := (List.range per).map fun e =>
          let c := ((r.results.find? fun x => x.1 = cell * per + e).map (·.2)).getD (0, 0, 0)
          tonEmit bank wear f.ton t ⟨f.num, llx, lly, llx + 1280 * (t % 3), ly, e % nu, e / nu⟩ c.1 c.2.1 c.2.2
        let clips := outs.foldl (fun a o => a + o.clips) 0
        let negs := (outs.filter fun o => o.neg).length
        let s := (s.cntSat (Reg.TON_CLIP_CNT t) 32 clips).cntSat (Reg.TON_NEG_CNT t) 32 negs
        let (s, clip) := s.onceIn f.clip t (decide (0 < clips)) (712 + 4 * t)
        let (s, neg) := s.onceIn f.neg t (decide (0 < negs)) (713 + 4 * t)
        let vals := outs.map (·.val)
        let runs := updWith f.runs t (· + 1)
        let f := { f with clip := clip, neg := neg, runs := runs, light := addLight f.light t llx lly vals }
        let s := (s.setFrame f).pushItem t (.run ⟨f.num, llx, lly, vals⟩)
        let r := { r with ready := rest, results := r.results.filter fun x => x.1 / per ≠ cell, deal := { r.deal with sent := cell :: r.deal.sent } }
        let s := (s.setSlice n { sl with running := some r }).wb (Reg.SLC_STATUS n) 16 false
        let s := s.when (nth 0 runs t == regionRuns f.layout) fun s => s.pushItem t (.fin f.num false)
        if f.regions.all (fun t => nth 0 runs t == regionRuns f.layout) then s.frameEnds f false else s
    | _, _ => s

/-- The queued deal of a slice, to run next. -/
def State.nextDeal (s : State) (sl : Slice) : Option Running :=
  sl.queued.bind fun d => (s.syn.frames.find? fun x => x.num = d.frame).map fun x => d.start x.layout

/-- DEAL_FINISH (R92): every run of the running deal is sent (every pixel of a proof deal is staged); the next deal begins. -/
def State.dealFinish (s : State) (n : Nat) : State :=
  let sl := s.slice n
  match sl.running with
  | none => s
  | some r =>
    let fin := match s.syn.frames.find? (fun f => f.num = r.deal.frame) with
      | none => true
      | some f => decide (r.deal.sent.length = r.deal.cellCount f.layout)
    if fin then ((((s.setSlice n { sl with running := s.nextDeal sl, queued := none }).sliceStatus n).dealOut).reelTrim) else s

/-! ### Band boundaries (R92, R96, R102, R104, R107) -/

/-- Reel repairs waiting at a band boundary (R107): remap each failed sub-array and fetch its resident rows, of either frame, again. -/
def State.reelRepair (s : State) : State :=
  s.eachOf s.syn.failed fun x s =>
    let y := s.syn
    let s := { s with syn := { y with failed := y.failed.filter fun z => z ≠ x } }
    if s.syn.remapped.length < 32 then
      let s := { s with syn := { s.syn with remapped := x :: s.syn.remapped } }
      let s := ((s.wf Reg.SYN_REEL_MAP 5 0 s.syn.remapped.length).wf Reg.SYN_REEL_LAST 8 0 x).evt 661
      let hit (r : ReelRow) : Bool :=
        match s.syn.frames.find? (fun f => f.num = r.frame) with
        | some f => (f.slots r.layer).any fun k => decide (subArray k (f.buffer r.row) 0 ≤ x) && decide (x ≤ subArray k (f.buffer r.row) 3903)
        | none => false
      let band (n : Nat) : Nat := match s.syn.frames.find? (fun f => f.num = n) with | some f => f.filled - 1 | none => 0
      let rows := (s.syn.reel.filter hit).map fun (r : ReelRow) => (⟨r.frame, r.layer, r.row, band r.frame⟩ : FillRow)
      { s with syn := { s.syn with reel := s.syn.reel.filter fun r => !hit r, fills := rows ++ s.syn.fills, line := [], lines := [] } }
    else { s.wb Reg.SYN_REEL_MAP 31 true with syn := { s.syn with dead := x :: s.syn.dead } }

/-- Slice changes at a band boundary (R104, R105); a slice under TEST waits for a later one (R455). -/
def State.sliceChanges (s : State) : State :=
  s.each 26 fun n s =>
    let sl := s.slice n
    if s.pgState (slicePage n) = stTest then s
    else if sl.leaving then
      let ds := sl.queued.toList
      let s := (s.setSlice n { sl with queued := none, leaving := false, joining := false }).redeal ds
      let disc := s.pgState (slicePage n) == stDraining
      let run := if disc then (sl.running.map (·.deal)).toList else []
      let s := if disc then (s.setSlice n { s.slice n with running := none }).redeal run else s.sliceState n stFenced
      (s.when (!(ds ++ run).isEmpty) fun s => s.evt (546 + 4 * n)).sliceStatus n
    else if sl.joining then (s.setSlice n { sl with joining := false }).sliceState n stRun
    else s

/-- The set of active slices at a band boundary: SYN_ACTIVE, its event, SLICES_SHORT and the proof deals (R102, R104, R108). -/
def State.activeNote (s : State) : State :=
  let act := s.activeSlices
  let w := act.foldl (fun a n => a + 2 ^ n) 0
  let s := if s.rn Reg.SYN_ACTIVE = w then s else (s.wn Reg.SYN_ACTIVE w).evt 651
  let s := if act.length < 24 then (if s.syn.short then s else ({ s with syn := { s.syn with short := true } }).notice 135)
    else { s with syn := { s.syn with short := false } }
  s.proofCut

/-- Every band of view `v` of a frame has been written. -/
def Frame.viewDone (f : Frame) (v : Nat) : Bool := decide ((f.pvDone.filter fun x => x.1 = v).length = f.bands.length)

/-- A frame whose synthesis stops (R91, R106): its deals are withdrawn, what is not sent is held, and its unfinished proof views stay so. -/
def State.frameStop (s : State) (f : Frame) : State :=
  let s := { s with syn := { s.syn with fills := s.syn.fills.filter fun (r : FillRow) => r.frame ≠ f.num, line := [], lines := [] } }
  let s := s.each 26 fun n s =>
    let sl := s.slice n
    let drop (d : Deal) : Bool := d.frame == f.num
    let q := match sl.queued with | some d => if drop d then none else some d | none => none
    let sl' := { sl with queued := q }
    match sl.running with
    | some r =>
      if drop r.deal then ((s.setSlice n { sl' with running := s.nextDeal sl', queued := none }).wb (Reg.SLC_STATUS n) 16 false).sliceStatus n
      else (s.setSlice n sl').sliceStatus n
    | none => s
  let s := s.eachOf f.regions fun t s => s.when (!f.stopped && nth 0 f.runs t != regionRuns f.layout) fun s => s.pushItem t (.fin f.num true)
  let cut := (f.views.map (·.view)).filter fun v => !f.viewDone v && !f.pvCut.contains v
  (s.setFrame { f with deals := [], started := f.bands.length, filled := f.bands.length, pvCut := f.pvCut ++ cut, waiting := false, ended := true,
                       stopped := true }).dealOut

/-- BAND_START (R92): the next band of the oldest frame with one left begins once its window is resident and a slice has a place. -/
def State.bandStart (s : State) : State :=
  if s.syn.stopping then
    let s : State := s.eachOf (s.syn.frames.filter fun (f : Frame) => decide (f.started < f.bands.length)) fun f s => s.frameStop f
    ({ s with syn := { s.syn with stopping := false } }).reelTrim
  else
    match s.syn.frames.find? (fun f => decide (f.started < f.bands.length)) with
    | none => s
    | some f =>
      let place := (List.range 26).any fun n =>
        let sl := s.slice n
        (s.sliceActive n || sl.joining) && !sl.leaving && (sl.running.isNone || sl.queued.isNone)
      if !f.deals.isEmpty || !place then s
      else
        let s := s.reelRepair
        if !s.resident f f.started then
          let s := s.when (!f.waited) (·.evt 650)
          s.setFrame { f with waiting := true, waited := true }
        else
          let s := s.sliceChanges.activeNote
          match s.syn.frames.find? (fun x => x.num = f.num) with
          | none => s
          | some f =>
            let b := f.band f.started
            let s := s.wn Reg.SYN_BAND (f.num % 65536 * 65536 + b)
            let f := { f with started := f.started + 1, deals := f.deals ++ f.bandDeals b, waiting := false }
            let s := s.setFrame f
            (((s.issueFill f).dealOut).reelTrim).rowCues

/-! ### Proof views (R103) -/

/-- Lens rows of a layout. -/
def layoutRows (lay : Nat) : Nat := 2 * geoLensH lay

/-- A view's image is unpredictable (R103): its rows overlap, or its two buffers do. -/
def PView.wild (lay : Nat) (pv : PView) : Bool :=
  let len := (layoutRows lay - 1) * pv.pitch + 15360
  decide (pv.pitch < 15360) || (decide (pv.addr0 < pv.addr1 + len) && decide (pv.addr1 < pv.addr0 + len))

/-- The staged pixel of a view as its band is written (R95, R107): a pixel staged in a sub-array that has no spare reads 0. -/
def State.staged (s : State) (f : Frame) (v i y x : Nat) : Nat :=
  if s.syn.dead.contains (pvSub v (i % 2) ((y - (bandRows f.layout (f.band i)).1) % 32) x) then 0
  else Sparse.get (fun _ => 0) f.pvPix (v * 2 ^ 24 + y * 4096 + x)

/-- PROOF_BAND_WRITE (R103): the next completed band of view `v` is written to its buffer, of the oldest frame that still renders it; the image is
complete with the last, and only then does the view change buffer. -/
def State.proofWrite (s : State) (v : Nat) : State :=
  match s.syn.frames.find? (fun f => (f.views.any fun x => x.view = v) && !f.pvCut.contains v && decide ((f.pvDone.filter fun x => x.1 = v).length < f.bands.length)) with
  | none => s
  | some f =>
    let i := (f.pvDone.filter fun x => x.1 = v).length
    let b := f.band i
    let busy := (f.deals ++ s.heldDeals f.num).any fun d => d.band == b && d.view == some v
    match f.views.find? (fun x => x.view = v) with
    | none => s
    | some pv =>
      if f.started ≤ i ∨ busy then s
      else
        let r := bandRows f.layout b
        let buf := pv.buf.getD (nth 0 s.syn.pvNext v)
        let base := if buf = 0 then pv.addr0 else pv.addr1
        let r' := (List.range (r.2 + 1 - r.1)).foldl (fun (acc : State × Bool) k =>
          let y := r.1 + k
          let (row, s) := if pv.wild f.layout then acc.1.freeBytes 15360
            else ((List.range 3840).flatMap fun x => leBytes 4 (acc.1.staged f v i y x), acc.1)
          let w := s.writeMem pv.port ((base + y * pv.pitch) % 2 ^ 40) row
          (w.1, acc.2 || w.2)) (s, false)
        let s := r'.1
        let denied := if r'.2 then insSorted v f.pvDenied else f.pvDenied
        let f := { f with pvDone := f.pvDone ++ [(v, b)], pvDenied := denied, views := f.views.map fun x => if x.view = v then { x with buf := some buf } else x,
                          pvPix := f.pvPix.filter fun x => !(x.1 / 2 ^ 24 == v && decide (r.1 ≤ x.1 / 4096 % 4096) && decide (x.1 / 4096 % 4096 ≤ r.2)) }
        let s := s.setFrame f
        if i + 1 = f.bands.length then
          let later := (s.syn.frames.dropWhile fun x => x.num ≠ f.num).drop 1
          let whole := later.all fun x => x.views.any (fun y => y.view = v) && !x.pvCut.contains v
          let s := ((s.wb (Reg.PV_STATUS v) 31 (denied.contains v)).wf (Reg.PV_STATUS v) 16 16 buf).wf (Reg.PV_STATUS v) 15 0 (f.num % 65536)
          let s := s.when whole fun s => s.wb (Reg.PV_STATUS v) 29 false
          ({ s with syn := { s.syn with pvNext := upd s.syn.pvNext v (1 - buf) } }).evt (653 + v)
        else s

/-- The bands of a frame's proof views that are complete and staged are written (R103). -/
def State.proofFlush (s : State) (f : Frame) : State :=
  s.eachOf (f.views.filter fun v => !f.pvCut.contains v.view) fun v s => s.each f.bands.length fun _ s => s.proofWrite v.view

/-- An item of a group queue of a frame that is over. -/
def QItem.frame : QItem → Nat
  | .start n _ => n
  | .run r => r.frame
  | .lost n => n
  | .fin n _ => n

/-- A frame ends at the next frame's epoch (R91): unfinished deals are withdrawn, the frame is late where runs are missing, views not complete
are skipped (R102), and ROW cues that have not fired fire late (R127). -/
def State.frameOver (s : State) (f : Frame) : State :=
  let again (s : State) : Frame := (s.syn.frames.find? fun x => x.num = f.num).getD f
  let s := s.proofFlush f
  let g := again s
  let s := s.frameStop g
  let s := if g.ended then s else s.frameEnds (again s) true
  let s := s.eachOf ((again s).views.filter fun v => !(again s).viewDone v.view) fun v s => s.pvSkipped v.view
  s.each 4 fun c s => s.cueRowFire (again s) c true

/-- Frames older than the epoch of frame `num` end there (R91); their items leave the group queues (R15, R161). -/
def State.synEpoch (s : State) (num : Nat) : State :=
  let old := s.syn.frames.filter fun f => f.num ≠ num
  let s := s.eachOf old fun f s => s.frameOver f
  let gone (i : QItem) : Bool := old.any fun f => f.num == i.frame
  ({ s with syn := { s.syn with frames := s.syn.frames.filter fun (f : Frame) => f.num = num
                                queues := s.syn.queues.map fun (q : List QItem) => q.filter fun i => !gone i } }).reelTrim

/-- Core cycles of a millisecond (spec/01_frame_to_light.md, the core domain's 1.75 GHz). -/
abbrev coreCycles : Nat := 1750000

/-- A millisecond of the counters that count core cycles (R93, R96, R109): slices that hold deals are busy; a slice whose run waits for its queue, and
an active slice without a deal while a band waits for its fill, wait; and such a band's wait counts for its frame (log 8). -/
def State.synTick (s : State) : State :=
  let waits := s.syn.frames.any fun (f : Frame) => f.waiting
  let s := s.each 26 fun n s =>
    let sl := s.slice n
    let s := s.when (sl.running.isSome || sl.queued.isSome) fun s => s.cntSat (Reg.SLC_BUSY n) 32 (coreCycles / 16)
    s.when (s.rb (Reg.SLC_STATUS n) 16 || (waits && s.sliceActive n && sl.running.isNone)) fun s => s.cntSat (Reg.SLC_WAIT n) 32 (coreCycles / 16)
  { s with syn := { s.syn with frames := s.syn.frames.map fun (f : Frame) => if f.waiting then { f with waits := f.waits + coreCycles } else f } }

/-- A port reset of `p` on the proof views (R103). -/
def State.synPortReset (s : State) (p : Nat) : State :=
  s.each 4 fun v s => if s.rf (Reg.PV_OWNER v) 2 0 = p then
      let s := s.wb Reg.SYN_PV_EN v false
      s.eachOf s.syn.frames fun f s => if f.views.any (fun x => x.view = v) then s.setFrame { f with pvCut := insSorted v f.pvCut, deals := f.deals.filter fun d => d.view ≠ some v } else s
    else s

/-! ### Meanings -/

/-- BAND0_FILL_START (R96, R126: a band whose window holds no row to fill is resident at once, and its ROW cues fire). -/
def execBand0FillStart (s : State) : Host.Outcome State Fault Refusal := done s.band0Fill.rowCues

/-- REEL_BURST_LANDS (R96, R126). -/
def execReelBurstLands (s : State) : Host.Outcome State Fault Refusal := done s.burstLands.rowCues

/-- DEAL_FINISH (R92). -/
def execDealFinish (n : Fin 26) (s : State) : Host.Outcome State Fault Refusal := done (s.dealFinish n)

/-- RAY_DONE (R100). -/
def execRayDone (n : Fin 26) (lane : Fin 64) (s : State) : Host.Outcome State Fault Refusal := done (s.rayDone n lane)

/-- RUN_SEND (R93). -/
def execRunSend (n : Fin 26) (s : State) : Host.Outcome State Fault Refusal := done (s.runSend n)

/-- PROOF_BAND_WRITE (R103). -/
def execProofBandWrite (v : Fin 4) (s : State) : Host.Outcome State Fault Refusal := done (s.proofWrite v)

/-- An uncorrectable word of layer `n`'s staging or of its scaler's line buffer (R88): pixel `x` of source line `y`, where the fill under way holds
it. Every cell built from it from now on is stored transparent, and the next band's fill fetches those rows afresh. -/
def State.stagingUncorr (s : State) (n y x : Nat) : State :=
  let s := match s.syn.fills.head? with
    | none => s
    | some fr =>
      match (s.syn.frames.find? (fun (f : Frame) => f.num = fr.frame)).bind (fun (f : Frame) => f.layers.find? (fun (l : FLayer) => l.idx = fr.layer)) with
      | none => s
      | some l =>
        if fr.layer ≠ n ∨ x < l.sourceSpan.1 then s
        else
          let i := x - l.sourceSpan.1
          let need := (l.sourceRows fr.row).filter fun r => !s.syn.lines.any fun t => t.row = r
          let z := s.syn
          { s with syn := { z with
            lines := z.lines.map fun (t : SrcLine) => if t.row = y then { t with px := upd t.px i none } else t
            line := if need.head? = some y then upd z.line i none else z.line
            spoilt := if z.spoilt.any fun t => t.frame == fr.frame && t.layer == n && t.band == fr.band then z.spoilt else z.spoilt ++ [fr] } }
  s.notice 41

/-- LYR_SRAM_UNCORR (R88). -/
def execLyrSramUncorr (n : Fin 40) (line : Fin 16384) (x : Fin 8192) (s : State) : Host.Outcome State Fault Refusal := done (s.stagingUncorr n line x)

end Sys2Proof.Machine
end

