-- ==== Sys2Proof/Machine/Cmp.lean ====
section
/-! DEFINITION. The compressors and the Print (spec/10_compressor_and_print.md). -/
namespace Sys2Proof.Machine

abbrev cmpPage (e : Nat) : Nat := Reg.page 10 (1 + e)

/-- Job statuses (R212). -/
abbrev csOk : Nat := 0
abbrev csReturned : Nat := 1
abbrev csSuspended : Nat := 2
abbrev csVerifyFailed : Nat := 3
abbrev csClenLimit : Nat := 4
abbrev csDenied : Nat := 5
abbrev csMemUncorr : Nat := 6
abbrev csBadJob : Nat := 7
abbrev csEngineFault : Nat := 8

def CmpEng.idle : CmpEng := ⟨none, none, false⟩

def State.cmpEng (s : State) (e : Nat) : CmpEng := nth CmpEng.idle s.cmp e
def State.setCmpEng (s : State) (e : Nat) (v : CmpEng) : State := { s with cmp := upd s.cmp e v }

/-! ### The stream (R213 to R215) -/

/-- The source in stored blocks. -/
def storedStream : Nat → List Byte → List Byte
  | 0, _ => []
  | fuel + 1, d =>
    let b := d.take 65535
    let rest := d.drop 65535
    (if rest.isEmpty then 1 else 0) :: (leBytes 2 b.length ++ leBytes 2 (65535 - b.length) ++ b ++ (if rest.isEmpty then [] else storedStream fuel rest))

/-- The growth bound of R214. -/
def growthBound (n : Nat) : Nat := n + 5 * ((n + 65534) / 65535)

/-- A block as an encoder writes it (R213, R214), the `k`-th of its stream: at most 65,535 source bytes; a compressed form no larger than the stored
form or, if dynamic, than the fixed one, and within the growth bound; at levels 4 to 9 no match under 8 bytes and no code over 9 bits. -/
def blockKept (level k : Nat) (r : BlockRec) : Bool :=
  let n := r.len1 - r.len0
  let size := r.pos1 - r.pos0
  decide (1 ≤ n ∧ n ≤ 65535) &&
    (r.kind == 0 || (decide ((r.pos1 + 7) / 8 ≤ r.len1 + 5 * k ∧ size ≤ (r.pos0 + 10) / 8 * 8 + 32 + 8 * n - r.pos0) &&
      (r.kind == 1 || decide (size ≤ 3 + r.fixedBits)))) &&
    (decide (level < 4) || (decide (r.longest ≤ 9) && (r.shortest == 0 || decide (8 ≤ r.shortest))))

/-- The stream an engine makes at a level: the search's, where it decodes to the source (R215) in blocks that R213 and R214 allow; stored blocks
otherwise. The search itself is open: R213 names neither its hash nor how a limited code is built (log 36). -/
def cmpStream (level : Nat) (src : List Byte) : List Byte :=
  let c := Config.deflate level src
  let r := inflate c src.length
  let kept := (List.range r.recs.length).all fun k => match r.recs[k]? with | some b => blockKept level (k + 1) b | none => false
  if r.status = jsOk ∧ r.out = src ∧ c.length ≤ growthBound src.length ∧ kept then c else storedStream (src.length / 65535 + 1) src

/-! ### Jobs (R208 to R212) -/

/-- The port code whose rights a job's accesses use: none for MGT; a party that is no host has none (R208, R37). -/
def CJob.port (j : CJob) : Option Nat := if j.owner = 5 then none else some j.owner

/-- IDLE or RUN of an engine page, and CMP_STATUS.CAPTURE and JOB. -/
def State.cmpState (s : State) (e : Nat) : State :=
  let x := s.cmpEng e
  let code := match x.job with | none => 0 | some j => if j.suspended then 2 else 1
  let s := (s.wf (Reg.CMP_STATUS e) 9 8 code).wb (Reg.CMP_STATUS e) 4 x.capture.isSome
  s.idleRun (cmpPage e) (x.job.isSome || x.capture.isSome) (some (1344 + 4 * e))

/-- A receipt of a job (R211); true where a pigeonhole refuses it, and STATUS then reads DENIED (R212). -/
def State.cmpReceipt (s : State) (e : Nat) (j : CJob) (final : Bool) (status fval crc : Nat) : State × Bool :=
  let r := leBytes 4 (b2n final * 2 ^ 31 + status * 2 ^ 16 + e * 2 ^ 8) ++ leBytes 4 j.tag ++ leBytes 4 j.consumed ++ leBytes 4 j.cur ++ leBytes 4 j.out
    ++ leBytes 4 fval ++ leBytes 4 s.clock.ns ++ leBytes 4 crc
  let (s, den) := s.writeMem j.port j.rcpt r
  (((s.wf (Reg.CMP_STATUS e) 31 24 (if den then csDenied else status)).wn (Reg.CMP_IN_DONE e) j.consumed).wn (Reg.CMP_OUT_DONE e) j.out, den)

/-- Bytes of a buffer become unpredictable (R212): free values wherever the owner may write. -/
def State.scribble (s : State) (port : Option Nat) (a : Nat) : Nat → State
  | 0 => s
  | n + 1 =>
    let x := (a + n) % 2 ^ 40
    let s := match s.locate x with
      | some (c, la) => if s.allowed port x true then let f := s.free 8; f.2.setCell (cellKey c la) f.1 else s
      | none => s
    State.scribble s port a n

/-- Strips that no engine captures, of entries in capture (R220). -/
def State.nextStrip (s : State) : Option (Nat × Nat) :=
  let busy := s.cmp.filterMap fun (x : CmpEng) => x.capture.map fun c => (c.entry, c.strip)
  (((List.range 8).flatMap fun i =>
    let e := nth PEntry.free s.prt.entries i
    if e.st = 1 then e.todo.map fun t => (i, t) else []).filter fun x => !busy.contains x).head?

/-- Engines without a host job each take a strip (R220); they read the frames latched from now on. -/
def State.assignStrips (s : State) : State :=
  s.each 4 fun e s =>
    let x := s.cmpEng e
    if s.takesWork (cmpPage e) && x.job.isNone && x.capture.isNone && !x.leaving then
      match s.nextStrip with
      | some (i, t) =>
        let first := match s.syn.frames.getLast? with | some f => f.num + 1 | none => 0
        (s.setCmpEng e { x with capture := some ⟨i, t, first, none, []⟩ }).cmpState e
      | none => s
    else s

/-- The engine enters FENCED (R217). -/
def State.cmpToFenced (s : State) (e : Nat) : State :=
  let s := s.setCmpEng e { s.cmpEng e with capture := none, leaving := false }
  (((s.wb (Reg.CMP_STATUS e) 4 false).toState (cmpPage e) stFenced (some (1344 + 4 * e))).cntSat (Reg.CMP_FENCES e) 32 1)

/-- The job of engine `e` ends with a status (R211, R212): a job that is neither OK nor refused leaves its buffers unpredictable; OK
advances the fence, then the receipt is written. -/
def State.cmpFinish (s : State) (e : Nat) (j : CJob) (status : Nat) : State :=
  let s := s.when (status != csOk && status != csBadJob) fun s => s.eachOf j.bufs fun b s => s.scribble j.port b.1 b.2
  let (s, v) := if status = csOk then (match j.fence with
    | none => (s, 0)
    | some (i, n) =>
      let own := j.owner == 5 || s.rb (Reg.PAGE_OWNER (Reg.page 2 (1 + i / 32))) j.owner
      let s := s.fenceAdvance j.port i n
      (s, if own then s.fenceVal i else 0)) else (s, 0)
  let crc := if status = csOk ∧ j.format = 0 then crc32c (j.stream.getD []) else 0
  let s := (s.cmpReceipt e j true status v crc).1.evt (1345 + 4 * e)
  let x := s.cmpEng e
  let s := (s.setCmpEng e { x with job := none }).cmpState e
  if x.leaving then s.cmpToFenced e else s.assignStrips

/-- The header bytes that the CMP_HDR registers give (R210), with CLEN still zero. -/
def State.cmpHdr (s : State) (e ulen : Nat) : List Byte :=
  let t := s.rn (Reg.CMP_HDR_TILE e)
  let st := s.rn (Reg.CMP_HDR_STREAM e)
  [1, 0] ++ leBytes 2 st ++ leBytes 2 (st / 65536) ++ [0, 0] ++ leBytes 1 (nfld t 31 24) ++ [0] ++ leBytes 2 (nfld t 9 0) ++ leBytes 2 (nfld t 20 10)
    ++ leBytes 6 (s.rn (Reg.CMP_HDR_GEOM_LO e) + 2 ^ 32 * s.rf (Reg.CMP_HDR_GEOM_HI e) 15 0) ++ leBytes 4 0 ++ leBytes 4 ulen

/-- START (R208, R209). -/
def State.cmpStart (s : State) (e : Nat) (p : Party) : State :=
  let x := s.cmpEng e
  if !s.takesWork (cmpPage e) || x.job.isSome || x.leaving then s.wb (Reg.CMP_STATUS e) 0 true
  else
    let w := s.rn (Reg.CMP_JOB e)
    let len := s.rf (Reg.CMP_SRC_LEN e) 24 0
    let dstLen := s.rn (Reg.CMP_DST_LEN e)
    let t := s.rn (Reg.CMP_HDR_TILE e)
    let j : CJob := {
      owner := partyCode p, level := nfld w 3 0, format := nfld w 5 4, src := s.addr40 (Reg.CMP_SRC_LO e), len := len,
      bufs := [(s.addr40 (Reg.CMP_DST_LO e), dstLen)], rcpt := s.addr40 (Reg.CMP_RCPT_LO e), tag := s.rn (Reg.CMP_TAG e),
      fence := if w.testBit 8 then some (nfld w 23 16, s.rn (Reg.CMP_FENCE_AMOUNT e)) else none, hdr := s.cmpHdr e len,
      consumed := 0, out := 0, cur := 0, suspended := false, discard := false, stream := none }
    let ok : Bool := decide (1 ≤ j.level ∧ j.level ≤ 9 ∧ j.format ≤ 1 ∧ 1 ≤ len ∧ len ≤ 16777216 ∧ 64 ≤ dstLen) &&
      (j.format == 0 || decide (nfld t 31 24 < 40 ∧ nfld t 23 21 = 0 ∧ 1 ≤ nfld t 20 10 ∧ nfld t 20 10 ≤ 1024 ∧ nfld t 9 0 < nfld t 20 10))
    let s := (s.wb (Reg.CMP_STATUS e) 0 false).wf (Reg.CMP_STATUS e) 18 16 j.owner
    let s := (s.setCmpEng e { x with job := some j, capture := none }).cmpState e
    if ok then (((s.wn (Reg.CMP_IN_DONE e) 0).wn (Reg.CMP_OUT_DONE e) 0)).assignStrips else s.cmpFinish e j csBadJob

/-- RESUME (R216). -/
def State.cmpResume (s : State) (e : Nat) (p : Party) : State :=
  let x := s.cmpEng e
  match x.job with
  | some j =>
    let n := s.rn (Reg.CMP_DST_LEN e)
    if j.owner = partyCode p ∧ j.suspended ∧ 64 ≤ n then
      ((s.setCmpEng e { x with job := some { j with suspended := false, cur := 0, bufs := j.bufs ++ [(s.addr40 (Reg.CMP_DST_LO e), n)] } }).wb
        (Reg.CMP_STATUS e) 0 false).cmpState e
    else s.wb (Reg.CMP_STATUS e) 0 true
  | none => s.wb (Reg.CMP_STATUS e) 0 true

/-- A job is to be discarded (R216, R217): at once if it is suspended, else at its next safe point. -/
def State.cmpDrop (s : State) (e : Nat) : State :=
  let x := s.cmpEng e
  match x.job with
  | some j => if j.suspended then s.cmpFinish e j csReturned else s.setCmpEng e { x with job := some { j with discard := true } }
  | none => s

/-- DISCARD (R216). -/
def State.cmpDiscard (s : State) (e : Nat) (p : Party) : State :=
  match (s.cmpEng e).job with
  | some j => if j.owner = partyCode p then (s.wb (Reg.CMP_STATUS e) 0 false).cmpDrop e else s.wb (Reg.CMP_STATUS e) 0 true
  | none => s.wb (Reg.CMP_STATUS e) 0 true

/-- Source bytes read by an owner in order, up to the first burst refused or uncorrectable: how far, and the status. -/
def State.srcRead (s : State) (port : Option Nat) (a n : Nat) : Nat → Nat → State × Nat × Nat
  | 0, i => (s, i, csOk)
  | fuel + 1, i =>
    if n ≤ i then (s, n, csOk)
    else
      let x := (a + i) % 2 ^ 40
      let k := min (n - i) (lineLeft x)
      let (s, r) := s.readBurst port x k
      if r.denied then (s, i, csDenied) else if r.uncorr then (s, i, csMemUncorr) else State.srcRead s port a n fuel (i + k)

/-- Whole bytes of a stream of `n` source bytes that its first `c` bytes make, by its marks, oldest first. -/
def streamOut (ms : List (Nat × Nat)) (st : List Byte) (n c : Nat) : Nat :=
  if n ≤ c then st.length else match ms.reverse.find? (fun m => decide (m.2 ≤ c)) with | some m => m.1 / 8 | none => 0

/-- Source bytes that the first `k` bytes of a stream take. -/
def streamIn (ms : List (Nat × Nat)) (n k : Nat) : Nat := match ms.find? (fun m => decide (8 * k ≤ m.1)) with | some m => m.2 | none => n

/-- A running job reads its source up to byte `c` and writes its stream up to byte `k` at address `a` (R208, R212): it stops at the first access
that is refused or returns an uncorrectable error, with what it had read and written by then. -/
def State.cmpMove (s : State) (j : CJob) (a k c : Nat) (ms : List (Nat × Nat)) (st : List Byte) : State × CJob × Nat :=
  let bursts (k : Nat) : List (Nat × List Byte) := (⟨a, 0, 0⟩ : Dst).bursts (st.length + 1) 0 ((st.drop j.out).take (k - j.out))
  let good := (bursts k).takeWhile fun b => s.allowed j.port b.1 true
  let wrote := (good.map fun b => b.2.length).sum
  let need := match (bursts k).drop good.length with
    | b :: _ => min c (streamIn ms j.len (j.out + wrote + b.2.length))
    | [] => c
  let (s, i, rs) := s.srcRead j.port j.src need (j.len + 1) j.consumed
  let upto := if rs = csOk then k else max j.out (min (j.out + wrote) (streamOut ms st j.len i))
  let (s, n, den) := s.jobWrite j.port 0 (bursts upto)
  (s, { j with consumed := max j.consumed i, out := j.out + n, cur := n }, if rs ≠ csOk then rs else if den then csDenied else csOk)

/-- The running job of engine `e` goes on until it ends or its buffer is full (R210, R214 to R216); `full` says which of the two the
command reports, and the other is no event. -/
def State.cmpAdvance (s : State) (e : Nat) (full : Bool) : State :=
  let x := s.cmpEng e
  match x.job with
  | none => s
  | some j =>
    if j.suspended then s
    else if j.discard then (if full then s else s.cmpFinish e j csReturned)
    else
      let st := j.stream.getD (cmpStream j.level (s.peek j.src j.len))
      let j := { j with stream := some st }
      let ms := (inflate st j.len).marks.reverse
      let b := nth (0, 0) j.bufs (j.bufs.length - 1)
      let head := if j.format = 1 ∧ j.bufs.length = 1 then 32 else 0
      let a := (b.1 + head) % 2 ^ 40
      let room := b.2 - head
      let limit : Bool := j.format == 1 && decide (2097152 < st.length)
      let last (k : Nat) : Nat × Nat := (ms.reverse.find? fun m => decide (m.1 ≤ 8 * k)).getD (0, 0)
      let goal := if limit then (last 2097152).1 / 8 else st.length
      if goal - j.out ≤ room then
        if full then s
        else
          let (s, j, rs) := s.cmpMove j a goal (if limit then (last 2097152).2 else j.len) ms st
          if rs ≠ csOk then s.cmpFinish e j rs
          else if limit then s.cmpFinish e j csClenLimit
          else if j.format = 0 then s.cmpFinish e j csOk
          else
            let h := j.hdr.take 20 ++ leBytes 4 st.length ++ (j.hdr.drop 24).take 4
            let w := h ++ leBytes 4 (crc32c (h ++ [0, 0, 0, 0] ++ st))
            let (s, _, den) := s.jobWrite j.port 0 ((⟨(nth (0, 0) j.bufs 0).1, 0, 0⟩ : Dst).bursts 33 0 w)
            s.cmpFinish e j (if den then csDenied else csOk)
      else if !full then s
      else
        let m := last (j.out + room)
        let (s, j, rs) := s.cmpMove j a (max j.out (m.1 / 8)) (max j.consumed m.2) ms st
        if rs ≠ csOk then s.cmpFinish e j rs
        else
          let j := { j with suspended := true }
          let (s, den) := (s.setCmpEng e { x with job := some j }).cmpReceipt e j false csSuspended 0 0
          if den then s.cmpFinish e j csDenied else (s.evt (1346 + 4 * e)).cmpState e

/-- A fault ends the job of engine `e` (R215, R217); the engine's own fencing is left to the collector. -/
def State.cmpFault (s : State) (e status : Nat) : State :=
  match (s.cmpEng e).job with
  | some j => s.cmpFinish e j status
  | none => s

/-- A fault fences engine `e` (R217): its job, where it still has one, ends with ENGINE_FAULT. -/
def State.cmpFence (s : State) (e : Nat) : State :=
  let s := s.cmpFault e csEngineFault
  if s.pgState (cmpPage e) = stFenced then s else (s.cmpToFenced e).assignStrips

/-- A lasting corrected fault (R217): the engine is fenced after its job ends. -/
def State.cmpLasting (s : State) (e : Nat) : State :=
  let x := s.cmpEng e
  if x.job.isNone then (s.cmpToFenced e).assignStrips else s.setCmpEng e { x with leaving := true }

/-- FENCE_REQ of an engine (R217): a suspended job is discarded first, a running one ends first. -/
def State.cmpFenceReq (s : State) (e : Nat) : State :=
  let x := s.cmpEng e
  match x.job with
  | none => (s.cmpToFenced e).assignStrips
  | some j => let s := s.setCmpEng e { x with leaving := true }; if j.suspended then s.cmpFinish e j csReturned else s

/-- A port reset (R217): the owner's jobs are discarded without receipt or fence. -/
def State.cmpPortReset (s : State) (p : Nat) : State :=
  (s.each 4 fun e s =>
    let x := s.cmpEng e
    match x.job with
    | some j => if j.owner = p then
        let s := s.eachOf j.bufs fun b s => s.scribble j.port b.1 b.2
        let s := ((s.setCmpEng e { x with job := none }).cmpState e).evt (1345 + 4 * e)
        if x.leaving then s.cmpToFenced e else s
      else s
    | none => s).assignStrips

/-- A write of CMP_CMD (R224). -/
def State.cmpCmd (s : State) (e : Nat) (p : Party) (v : Nat) : State :=
  match v % 16 with
  | 1 => s.cmpStart e p
  | 2 => s.cmpResume e p
  | 3 => s.cmpDiscard e p
  | _ => s

/-! ### The Print (R218 to R222) -/

def State.pEntry (s : State) (x : Nat) : PEntry := nth PEntry.free s.prt.entries x
def State.setPEntry (s : State) (x : Nat) (v : PEntry) : State := { s with prt := { s.prt with entries := upd s.prt.entries x v } }

/-- The Print's registers (R223). -/
def State.prtRegs (s : State) : State :=
  let es := s.prt.entries
  let sum (f : PEntry → Nat) : Nat := (es.map f).sum
  let s := s.wn Reg.CMP_PRINT_USED (sum PEntry.units * 2 ^ 24 + sum (fun (e : PEntry) => if e.st = 2 then 2 ^ 16 else 0) + sum PEntry.pages)
  s.each 8 fun x s =>
    let e := s.pEntry x
    s.wn (Reg.CMP_PRINT_ENT x) (if e.st = 0 then 0 else e.st * 2 ^ 28 + e.front * 2 ^ 22 + e.last * 2 ^ 16 + e.units * 2 ^ 14 + e.pages)


/-- DEPTH_GROUP and STATIC of a layer's active Slate (R70, R219). -/
def State.depthGroup (s : State) (n : Nat) : Nat := nfld (s.active n slFormat) 23 20

def State.isStatic (s : State) (n : Nat) : Bool := (s.active n slFormat).testBit 16

/-- A layer the Print may hold (R219). -/
def State.eligible (s : State) (n : Nat) : Bool := s.takesPart n && s.isStatic n && s.depthGroup n != 0 && n != 39

/-- The eligible layers of a group. -/
def State.groupMembers (s : State) (g : Nat) : List Nat := (List.range 39).filter fun n => s.eligible n && s.depthGroup n == g

/-- A candidate refused (R219, R220): recorded, and raised once per DEPTH_GROUP until the group changes. -/
def State.prtRefuse (s : State) (group front reason : Nat) : State :=
  let k := (group, front, reason, s.groupMembers group)
  let told := s.prt.refused.any fun r => r.1 == group
  let s := { s with prt := { s.prt with refused := k :: s.prt.refused.filter (· != k) } }
  if told then s else (s.wn Reg.CMP_PRINT_LAST (reason * 2 ^ 24 + front * 2 ^ 16 + group)).evt 1362

/-- What every entry depends on (R222): EN, MERGE, the GEO tile enables, the layout. -/
def State.prtKey (s : State) : List Nat :=
  [s.rf Reg.CMP_PRINT_CTRL 1 0, (List.range 6).foldl (fun a t => a + b2n (s.enabled (Reg.page 3 (1 + t))) * 2 ^ t) 0, s.geo.layout]

/-- An entry is freed (R222): its captures end, its layers are served from memory. -/
def State.prtFree (s : State) (x : Nat) : State :=
  let e := s.pEntry x
  let s := s.each 40 fun n s => s.when (decide (e.front ≤ n ∧ n ≤ e.last)) fun s => s.wb (Reg.LYR_STATUS n) 8 false
  let s := s.each 4 fun k s =>
    let c := s.cmpEng k
    s.when (match c.capture with | some q => q.entry == x | none => false) fun s => (s.setCmpEng k { c with capture := none }).cmpState k
  let s := s.setPEntry x PEntry.free
  ({ s with prt := { s.prt with refused := s.prt.refused.filter fun r => r.2.2.1 != 3 } }).evt 1361

/-- Entry `e` must be freed (R222): a member flipped or is no longer eligible, or the members of its group have changed. -/
def State.prtStale (s : State) (e : PEntry) (flipped : List Nat) : Bool :=
  let ms := (List.range 40).filter fun n => decide (e.front ≤ n) && decide (n ≤ e.last)
  e.st != 0 && (ms.any (fun n => flipped.contains n || !s.eligible n) || (e.front != e.last && s.groupMembers e.group != ms)
    || (e.front == e.last && s.depthGroup e.front != e.group))

/-- The Print at a latch point, with step 4 of R118: entries freed (R222), then entries whose every strip is captured become VALID. Whether a scaled
layer takes part is seen in `seen`, the state with scalers assigned as the entries stand. -/
def State.prtLatch (s seen : State) (flipped : List Nat) : State :=
  let key := s.prtKey
  let all := s.prt.key != key
  let s := s.each 8 fun x s =>
    let e := s.pEntry x
    s.when (e.st != 0 && (all || s.prt.drop.contains x || seen.prtStale e flipped)) fun s => s.prtFree x
  let s := { s with prt := { s.prt with drop := [], key := key } }
  let s := s.each 8 fun x s =>
    let e := s.pEntry x
    if e.st = 1 ∧ e.todo.isEmpty then
      let s := s.setPEntry x { e with st := 2 }
      (s.each 40 fun n s => s.when (decide (e.front ≤ n ∧ n ≤ e.last)) fun s => s.wb (Reg.LYR_STATUS n) 8 true).evt 1360
    else s
  s.prtRegs

/-- Strips that meet the extent of a member (R220). -/
def State.prtStrips (s : State) (ms : List Nat) : List Nat :=
  let h : Int := (2 * geoLensH s.geo.layout : Nat)
  (List.range 34).filter fun (t : Nat) =>
    decide ((64 * t : Nat) < h) && ms.any fun n => (s.layerAt n).extent.meets ((64 * t : Nat) : Int) (min (h - 1) ((64 * t + 63 : Nat) : Int))

/-- The union of the members' extents within the stored columns and the rows of the layout. -/
def State.prtBox (s : State) (ms : List Nat) : List Int :=
  let es := (ms.map fun n => (s.layerAt n).extent).filter fun (x : Extent) => x.meets 0 ((2 * geoLensH s.geo.layout : Nat) - 1)
  match es with
  | [] => [0, -1, 0, -1]
  | x :: t =>
    let u := t.foldl (fun (a : Extent) (b : Extent) => (⟨min a.x0 b.x0, max a.x1 b.x1, min a.y0 b.y0, max a.y1 b.y1⟩ : Extent)) x
    [max (-32) u.x0, min 3871 u.x1, max 0 u.y0, min ((2 * geoLensH s.geo.layout : Nat) - 1) u.y1]

/-- A candidate admitted, where entries and units remain (R219). -/
def State.prtAdmit (s : State) (group : Nat) (ms : List Nat) (units : Nat) : State :=
  let front := nth 0 ms 0
  let es := s.prt.entries
  if es.any fun e => e.st != 0 && e.front == front then s
  else if s.prt.refused.any fun r => r.1 == group && r.2.1 == front && r.2.2.1 == 3 then s
  else match (List.range 8).find? (fun x => (s.pEntry x).st == 0) with
  | none => s.prtRefuse group front 1
  | some x =>
    if 12 < (es.map PEntry.units).sum + units then s.prtRefuse group front 2
    else
      s.setPEntry x ⟨1, front, nth 0 ms (ms.length - 1), units, 0, group, s.prtBox ms, s.prtStrips ms, []⟩

/-- The candidates at a latch point (R219), in ascending order of their front layer, and the strips the engines take. An entry with a member that the
scaler assignment has left out is freed first (R222). -/
def State.prtCandidates (s : State) : State :=
  let s := s.each 8 fun x s => s.when (s.prtStale (s.pEntry x) []) fun s => s.prtFree x
  if !s.rb Reg.CMP_PRINT_CTRL 0 then s.prtRegs
  else
    -- refusals of groups that have changed are forgotten
    let keep (r : Nat × Nat × Nat × List Nat) : Bool := s.groupMembers r.1 == r.2.2.2
    let s := { s with prt := { s.prt with refused := s.prt.refused.filter keep } }
    let s :=
      if s.rb Reg.CMP_PRINT_CTRL 1 then
        (List.range 39).foldl (fun (s : State) n =>
          let g := s.depthGroup n
          let ms := s.groupMembers g
          if !s.eligible n || ms.head? != some n then s
          else
            let k := ms.length
            let same : Bool := ms.all fun m => ownerHost (s.active m slFormat) == ownerHost (s.active n slFormat) && nfld (s.active m slDisparity) 11 0 == nfld (s.active n slDisparity) 11 0
            if decide (2 ≤ k) && nth 0 ms (k - 1) == n + k - 1 && decide (n ≤ 37) && ms.all (fun m => !is16F (s.active m slFormat)) && same then s.prtAdmit g ms 2
            else s.prtRefuse g n 4) s
      else
        (List.range 39).foldl (fun (s : State) n =>
          if s.eligible n then s.prtAdmit (s.depthGroup n) [n] (if is16F (s.active n slFormat) then 2 else 1) else s) s
    s.assignStrips.prtRegs

/-- The rows of strip `t` of a frame are resident or will never be (R220): every band of the frame whose window meets them has been
filled, and no row of them waits to be. A frame that was stopped (R106) fills no more, and serves no strip. -/
def State.stripReady (s : State) (c : Capture) : Bool :=
  s.syn.frames.any fun f => !f.stopped &&
    (match c.frame with | some n => f.num == n | none => decide (c.from_ ≤ f.num)) &&
    (List.range f.bands.length).all (fun i =>
      let w := windowRows f.layout (f.band i)
      decide (i < f.filled) || decide (w.2 < 64 * c.strip) || decide (64 * c.strip + 63 < w.1)) &&
    s.syn.fills.all fun r => !(r.frame == f.num && r.row / 64 == c.strip)

/-- A cell of a merged entry (R221): the members' cells in index order, each decoded, under its layer alpha, with no early end. -/
def State.mergeCell (s : State) (ms : List Nat) (cell : Nat → Option Nat) : Option Nat :=
  let sdr := fld (tonWord s.ton.live Reg.TON_SDR_WHITE) 22 0
  let hlg := fld (tonWord s.ton.live Reg.TON_HLG_PEAK) 22 0
  let fin := ms.foldl (fun (a : Smp) n =>
    let x := match cell n with | none => Smp.zero | some px => decodeCell (s.active n slFormat) sdr hlg px
    let alpha : Int := (s.active n slAlpha : Nat)
    let la := alpha + alpha / 2 ^ 15
    let k := 65536 - a.a
    let acc (c d : Int) : Int := sat24 (c + rnd (k * sat24 (rnd (sat24 d * la) 16)) 16)
    ⟨acc a.r x.r, acc a.g x.g, acc a.b x.b, min 65536 (a.a + rnd (k * rnd (x.a * la) 16) 16)⟩) Smp.zero
  if fin = Smp.zero then none
  else some (packChannels 2 ([fin.r, fin.g, fin.b, fin.a].map fun v => halfCode (v * 256) 1))

/-- The rows of a finished capture, as the entry stores them (R221). -/
def State.stripRows (s : State) (c : Capture) : List PrintRow :=
  let e := s.pEntry c.entry
  (List.range 64).filterMap fun i =>
    let row := 64 * c.strip + i
    let rowOf (n : Nat) : Option PrintRow := (c.rows.find? fun r => r.1 == n && r.2.row == row).map fun (r : Nat × PrintRow) => r.2
    if (e.front = e.last) then rowOf e.front
    else
      let ms := (List.range (e.last + 1 - e.front)).map fun k => e.front + k
      let rows := ms.filterMap fun n => (rowOf n).map fun r => (n, r)
      if rows.isEmpty then none
      else some ⟨row, -32, (List.range 3904).map fun j => s.mergeCell ms fun n =>
        match rows.find? (fun r => r.1 == n) with
        | some r => if (j : Int) - 32 < r.2.first then none else nth none r.2.cells ((j : Int) - 32 - r.2.first).toNat
        | none => none⟩

/-- Bytes of a strip (R221): every row of the strip, every column, transparent cells as zeros. -/
def stripBytes (bpp strip rowsOfLayout : Nat) (rows : List PrintRow) : List Byte :=
  (List.range (min 64 (rowsOfLayout - 64 * strip))).flatMap fun i =>
    (List.range 3904).flatMap fun j =>
      match rows.find? (fun (r : PrintRow) => r.row == 64 * strip + i) with
      | some r => leBytes bpp (if (j : Int) - 32 < r.first then 0 else (nth none r.cells ((j : Int) - 32 - r.first).toNat).getD 0)
      | none => leBytes bpp 0

/-- PRINT_STRIP_DONE (R220): engine `e` has compressed, verified and stored its strip, or the Print pages run out. -/
def State.stripDone (s : State) (e : Nat) : State :=
  let x := s.cmpEng e
  match x.capture with
  | none => s
  | some c =>
    if !s.stripReady c then s
    else
      let en := s.pEntry c.entry
      let rows := s.stripRows c
      let bpp := if en.front ≠ en.last ∨ is16F (s.active en.front slFormat) then 8 else 4
      let n := ((cmpStream (clampN 4 9 (s.rf Reg.CMP_PRINT_CTRL 11 8)) (stripBytes bpp c.strip (2 * geoLensH s.geo.layout) rows)).length + 4095) / 4096
      let s := (s.setCmpEng e { x with capture := none }).cmpState e
      let s := if 3072 < (s.prt.entries.map PEntry.pages).sum + n then
          let s := s.each 4 fun k s =>
            let c' := s.cmpEng k
            s.when (match c'.capture with | some q => q.entry == c.entry | none => false) fun s => (s.setCmpEng k { c' with capture := none }).cmpState k
          (s.setPEntry c.entry PEntry.free).prtRefuse en.group en.front 3
        else s.setPEntry c.entry { en with pages := en.pages + n, todo := en.todo.filter (· != c.strip), rows := en.rows ++ rows }
      s.assignStrips.prtRegs

/-- PRINT_STRIP_ABANDON (R220): the strip is captured again in a later frame. -/
def State.stripAbandon (s : State) (e : Nat) : State :=
  let x := s.cmpEng e
  if x.capture.isSome then ((s.setCmpEng e { x with capture := none }).cmpState e).assignStrips else s

/-- Captures whose frame has ended are abandoned, for a later frame (R220). -/
def State.captureSweep (s : State) : State :=
  (s.each 4 fun e s =>
    let x := s.cmpEng e
    match x.capture.bind (·.frame) with
    | some n => if s.syn.frames.any fun f => f.num == n then s else (s.setCmpEng e { x with capture := none }).cmpState e
    | none => s).assignStrips

/-- A write of CMP_PRINT_CMD (R223). -/
def State.prtCmd (s : State) (v : Nat) : State :=
  match v % 16 with
  | 1 => { s with prt := { s.prt with drop := (List.range 8).filter fun x => (s.pEntry x).st != 0 } }
  | 2 => { s with prt := { s.prt with refused := s.prt.refused.filter fun r => r.2.2.1 != 3 } }
  | _ => s

/-- PRINT_UNCORR (R222): row `row` of entry `x` is lost: its cells are transparent, the entry is freed at the next latch point. -/
def State.prtUncorr (s : State) (x row : Nat) : State :=
  let e := s.pEntry x
  if e.st = 0 then s
  else
    let keep (r : PrintRow) : Bool := r.row != row
    let blank (l : FLayer) : FLayer := if l.print && l.idx == e.front then { l with stored := l.stored.filter keep } else l
    let s := s.setPEntry x { e with rows := e.rows.filter keep }
    let s := { s with prt := { s.prt with drop := x :: s.prt.drop }
                      syn := { s.syn with frames := s.syn.frames.map (fun (f : Frame) => { f with layers := f.layers.map blank })
                                          reel := s.syn.reel.map fun (r : ReelRow) =>
                                            if e.st = 2 ∧ r.layer = e.front ∧ r.row = row then { r with cells := [] } else r } }
    s.notice 353

/-- What writing a CMP register does beyond storing it. -/
def State.cmpWritten (s : State) (p : Party) (a : Nat) (v : Word) : State :=
  if a = Reg.CMP_PRINT_CMD then s.prtCmd v.toNat
  else match (List.range 4).find? (fun e => a == Reg.CMP_CMD e) with
  | some e => s.cmpCmd e p v.toNat
  | none => s

/-! ### The commands -/

/-- CMP_START (R208, R209). -/
def execCmpStart (p : Party) (e : Fin 4) (s : State) : Host.Outcome State Fault Refusal := done (s.regWrite p (Reg.CMP_CMD e) 1 fun s => s.cmpCmd e p 1)

/-- CMP_RESUME (R216). -/
def execCmpResume (p : Party) (e : Fin 4) (s : State) : Host.Outcome State Fault Refusal := done (s.regWrite p (Reg.CMP_CMD e) 2 fun s => s.cmpCmd e p 2)

/-- CMP_DISCARD (R216). -/
def execCmpDiscard (p : Party) (e : Fin 4) (s : State) : Host.Outcome State Fault Refusal := done (s.regWrite p (Reg.CMP_CMD e) 3 fun s => s.cmpCmd e p 3)

/-- CMP_SUSPEND (R216). -/
def execCmpSuspend (e : Fin 4) (s : State) : Host.Outcome State Fault Refusal := done (s.cmpAdvance e true)

/-- CMP_JOB_END (R211). -/
def execCmpJobEnd (e : Fin 4) (s : State) : Host.Outcome State Fault Refusal := done (s.cmpAdvance e false)

/-- PRINT_STRIP_DONE (R220). -/
def execPrintStripDone (e : Fin 4) (s : State) : Host.Outcome State Fault Refusal := done (s.stripDone e)

/-- PRINT_STRIP_ABANDON (R220). -/
def execPrintStripAbandon (e : Fin 4) (s : State) : Host.Outcome State Fault Refusal := done (s.stripAbandon e)

/-- INVALIDATE_ALL (R222). -/
def execInvalidateAll (p : Party) (s : State) : Host.Outcome State Fault Refusal := done (s.regWrite p Reg.CMP_PRINT_CMD 1 fun s => s.prtCmd 1)

/-- RETRY (R220). -/
def execPrintRetry (p : Party) (s : State) : Host.Outcome State Fault Refusal := done (s.regWrite p Reg.CMP_PRINT_CMD 2 fun s => s.prtCmd 2)

/-- PRINT_UNCORR (R222). -/
def execPrintUncorr (x : Fin 8) (row : Fin 2160) (s : State) : Host.Outcome State Fault Refusal := done (s.prtUncorr x row)

end Sys2Proof.Machine
end

