-- ==== Sys2Proof/Machine/Blk.lean ====
section
/-! DEFINITION. The block engine (spec/11_block_engine.md). -/
namespace Sys2Proof.Machine

abbrev blkPage : Nat := Reg.page 11 0
abbrev blkQPage (p : Nat) : Nat := Reg.page 11 (1 + p)

/-- Statuses of an operation (R239). -/
abbrev bsOk : Nat := 0
abbrev bsReturned : Nat := 1
abbrev bsBadDesc : Nat := 2
abbrev bsDenied : Nat := 3
abbrev bsMemUncorr : Nat := 4
abbrev bsOverlapPitch : Nat := 5
abbrev bsEngineFault : Nat := 6

def State.bqueue (s : State) (p : Nat) : BQueue := nth BQueue.reset s.blk.queues p
def State.setBqueue (s : State) (p : Nat) (q : BQueue) : State := { s with blk := { s.blk with queues := upd s.blk.queues p q } }
def Mover.idle : Mover := ⟨none, false⟩
def State.mover (s : State) (m : Nat) : Mover := nth Mover.idle s.blk.movers m
def State.setMover (s : State) (m : Nat) (v : Mover) : State := { s with blk := { s.blk with movers := upd s.blk.movers m v } }

/-! ### STATE -/

/-- STATE of mover `m` (R243), kept in BLK_MOVERS. -/
def State.moverState (s : State) (m : Nat) : Nat := s.rf Reg.BLK_MOVERS (10 + 4 * m) (8 + 4 * m)

def State.toMoverState (s : State) (m v : Nat) : State :=
  if s.moverState m = v then s else (s.wf Reg.BLK_MOVERS (10 + 4 * m) (8 + 4 * m) v).evt (1408 + 4 * m)

/-- An operation of queue `p` is on a mover, or is to be run again. One that a port reset stops is the queue's no more (R242). -/
def State.queueRuns (s : State) (p : Nat) : Bool :=
  (s.blk.movers.any fun (m : Mover) => match m.run with | some r => r.op.queue == p && !r.silent | none => false) || s.blk.again.any fun o => o.1.queue == p

/-- The queue discards (R26, R240). -/
def State.queueDiscards (s : State) (p : Nat) : Bool := s.pgState (blkQPage p) == stDraining && s.discarding (blkQPage p)

/-- IDLE or RUN of the BLK pages and movers, BLK_Q_STATUS.RUNNING. -/
def State.blkStates (s : State) : State :=
  let s := s.each 4 fun p s => (s.wb (Reg.BLK_Q_STATUS p) 16 (s.queueRuns p)).idleRun (blkQPage p) (s.queueRuns p || !(s.bqueue p).ops.isEmpty) none
  let s := s.each 2 fun m s =>
    let busy := (s.mover m).run.isSome
    if s.moverState m = stIdle ∧ busy then s.toMoverState m stRun
    else if s.moverState m = stRun ∧ !busy then s.toMoverState m stIdle
    else s
  s.idleRun blkPage ((s.mover 0).run.isSome || (s.mover 1).run.isSome) none

/-! ### Receipts (R227, R238) -/

def State.blkFull (s : State) (p : Nat) : Bool :=
  (s.rf (Reg.BLK_R_TAIL p) 15 0 + 65536 - s.rf (Reg.BLK_R_HEAD p) 15 0) % 65536 == 2 ^ (s.bqueue p).size

def State.blkStopped (s : State) (p : Nat) : Bool := s.rf (Reg.BLK_Q_STATUS p) 27 24 != 0

def State.blkStop (s : State) (p : Nat) : State := (s.wf (Reg.BLK_Q_STATUS p) 27 24 1).evt (1378 + 8 * p)

def State.blkWrite (s : State) (p : Nat) (r : List Byte) : State × Bool :=
  if s.blkFull p || s.blkStopped p then (s, false)
  else
    let q := s.bqueue p
    let j := s.rf (Reg.BLK_R_TAIL p) 15 0
    let (s, denied) := s.writeMem (some p) ((q.rcpt + 32 * (j % 2 ^ q.size)) % 2 ^ 40) (withPhase r j q.size)
    if denied then (s.blkStop p, false)
    else
      let s := ((s.wf (Reg.BLK_R_TAIL p) 15 0 (j + 1)).cntSat (Reg.BLK_Q_OPS p) 32 1).evt (1376 + 8 * p)
      let s := s.when (leAt r 2 1 != 0) fun s => s.evt (1380 + 8 * p)
      (s.when (s.blkFull p) fun s => (s.wb (Reg.BLK_Q_STATUS p) 31 true).evt (1377 + 8 * p), true)

/-- Held receipts released in order (R227). -/
def State.blkDrain (s : State) (p : Nat) : Nat → State
  | 0 => s
  | n + 1 =>
    match (s.bqueue p).held with
    | [] => s
    | r :: t =>
      let (s, ok) := s.blkWrite p r
      if ok then State.blkDrain (s.setBqueue p { s.bqueue p with held := t }) p n else s

/-- A receipt for an operation that has ended (R238, R239). -/
def State.blkReceipt (s : State) (o : BOp) (status mover rows bytes fval : Nat) : State :=
  let p := o.queue
  let r := leBytes 4 (o.idx % 65536 + status * 2 ^ 16 + mover * 2 ^ 24) ++ leBytes 4 o.tag ++ leBytes 4 rows ++ leBytes 4 bytes ++ leBytes 4 fval
    ++ leBytes 4 (if o.cue.isSome then o.fired.getD 0 else 0) ++ leBytes 4 s.clock.ns ++ leBytes 4 0
  let s := s.when (status != bsOk) fun s => s.wf (Reg.BLK_Q_STATUS p) 7 0 status
  (s.setBqueue p { s.bqueue p with held := (s.bqueue p).held ++ [r] }).blkDrain p 8

/-- The end of an operation (R239). -/
def State.blkEnd (s : State) (o : BOp) (status mover rows bytes : Nat) : State :=
  let (s, v) := match status, o.fence with
    | 0, some (i, n) =>
      let own := s.rb (Reg.PAGE_OWNER (Reg.page 2 (1 + i / 32))) o.queue
      let s := s.fenceAdvance (some o.queue) i n
      (s, if own then s.fenceVal i else 0)
    | _, _ => (s, 0)
  s.blkReceipt o status mover rows bytes v

/-! ### Descriptors (R229, R231) -/

/-- A descriptor as an operation; `bad` where any check of R231 fails. -/
def parseDesc (p idx : Nat) (d : List Byte) : BOp :=
  let c := leAt d 0 4
  let op := c % 16
  let fmt := c / 16 % 4
  let cue := c.testBit 10
  let src := leAt d 8 8
  let dst := leAt d 16 8
  let sp := leAt d 24 4
  let dp := leAt d 28 4
  let w := leAt d 32 4
  let h := leAt d 36 4
  let px := pxBytes fmt
  let moves : Bool := op == 1 || op == 2 || op == 3
  let reserved : Bool := c / 64 % 4 == 0 && !c.testBit 9 && !c.testBit 11 && c / 2 ^ 14 % 4 == 0 && c / 2 ^ 24 == 0 && decide (src < 2 ^ 40 ∧ dst < 2 ^ 40)
    && decide (sp < 2 ^ 20 ∧ dp < 2 ^ 20 ∧ w < 2 ^ 20 ∧ h < 2 ^ 16) && leAt d 52 8 == 0 && leAt d 60 4 == 0
  let zeros : Bool := (op != 2 || (src == 0 && sp == 0)) && (moves || leNat ((d.drop 8).take 40) == 0)
  let shape : Bool := !moves || (w != 0 && h != 0 && (decide (h ≤ 1) || (decide (w ≤ dp) && (op == 2 || decide (w ≤ sp)))))
  let blend : Bool := op != 3 || (decide (fmt ≤ 2) && src % px == 0 && dst % px == 0 && sp % px == 0 && dp % px == 0 && w % px == 0)
  { queue := p, idx := idx, tag := leAt d 4 4, bad := !(decide (op ≤ 4) && reserved && zeros && shape && blend && (!cue || moves)), op := op, format := fmt
    fence := if c.testBit 8 || op == 4 then some (c / 2 ^ 16 % 256, leAt d 48 4) else none
    cue := if cue then some (c / 2 ^ 12 % 4) else none, src := src, dst := dst, spitch := sp, dpitch := dp, width := w, height := h, fill := leAt d 40 8
    waiting := false, fired := none }

/-- Queue `p` starts and ends operations (R227, R240): the common page works, the ring has room, no receipt is held, nothing of it runs. -/
def State.queueGoes (s : State) (p : Nat) : Bool :=
  s.takesWork blkPage && !s.blkFull p && !s.blkStopped p && (s.bqueue p).held.isEmpty && !s.queueRuns p

/-- The head of a queue moves on where it needs no mover (R227, R228, R231): refused, NOP and FENCE operations end; one with CUE begins
its wait as soon as it is the head (R237). -/
def State.blkPump (s : State) (p : Nat) : Nat → State
  | 0 => s
  | n + 1 =>
    let q := s.bqueue p
    match q.ops with
    | [] => s
    | o :: t =>
      if s.queueDiscards p then s
      else if o.cue.isSome && !o.bad then
        if o.waiting || s.queueRuns p then s
        else ((s.setBqueue p { q with ops := { o with waiting := true } :: t }).wb (Reg.BLK_Q_STATUS p) 20 true).evt (1379 + 8 * p)
      else if !s.queueGoes p then s
      else if o.bad then State.blkPump ((s.setBqueue p { q with ops := t }).blkEnd o bsBadDesc 0 0 0) p n
      else if o.op = 0 ∨ o.op = 4 then State.blkPump ((s.setBqueue p { q with ops := t }).blkEnd o bsOk 0 0 0) p n
      else s

/-- A queue that discards gives a receipt for every operation not started, fetched or not, in ring order and as its ring takes them (R227, R231, R240); one
that has stopped on a denied access gives none. -/
def State.blkReturn (s : State) (p : Nat) : Nat → State
  | 0 => s
  | n + 1 =>
    let q := s.bqueue p
    let h := s.rf (Reg.BLK_Q_HEAD p) 15 0
    if !s.queueDiscards p then s
    else if s.blkStopped p then s.setBqueue p { q with ops := [] }
    else if s.blkFull p ∨ !q.held.isEmpty ∨ s.queueRuns p then s
    else
      match q.ops with
      | o :: rest => State.blkReturn ((s.setBqueue p { q with ops := rest }).blkEnd o (if o.bad then bsBadDesc else bsReturned) 0 0 0) p n
      | [] =>
        if h = q.limit then s
        else
          let (s, r) := s.readMem (some p) ((q.base + 64 * (h % 2 ^ q.size)) % 2 ^ 40) 64
          if r.denied then s.blkStop p
          else State.blkReturn ((s.wf (Reg.BLK_Q_HEAD p) 15 0 (h + 1)).blkEnd (parseDesc p h r.data) bsReturned 0 0 0) p n

/-- A queue goes on: what it can end, and what it is to return. -/
def State.queueOn (s : State) (p : Nat) : State := (s.blkPump p 16).blkReturn p 65537

/-- The next descriptor of queue `p` fetched and checked (R231), where its OP is `op`; an OP above 4 is taken by any row. -/
def State.blkFetch (s : State) (p op : Nat) : State :=
  let q := s.bqueue p
  let h := s.rf (Reg.BLK_Q_HEAD p) 15 0
  let a := (q.base + 64 * (h % 2 ^ q.size)) % 2 ^ 40
  let c := leAt (s.peek a 64) 0 1 % 16
  let more := (s.takesWork (blkQPage p) && h != s.rf (Reg.BLK_Q_TAIL p) 15 0) || (s.pgState (blkQPage p) == stDraining && h != q.limit)
  if !more || s.queueDiscards p || !s.takesWork blkPage || s.blkStopped p || s.blkFull p then s
  else if s.allowed (some p) a false && c != op && decide (c ≤ 4) then s
  else
    let (s, r) := s.readMem (some p) a 64
    if r.denied then s.blkStop p
    else
      let o := parseDesc p h r.data
      let o := { o with bad := o.bad || r.uncorr }
      let s := s.when o.bad fun s => s.notice (360 + p) 0 0 [.blkQueue (finOf 4 (by decide) p)]
      let s := (s.wf (Reg.BLK_Q_HEAD p) 15 0 (h + 1)).setBqueue p { s.bqueue p with ops := (s.bqueue p).ops ++ [o] }
      (s.queueOn p).blkStates

/-! ### Overlap and direction (R234, R235) -/

/-- Last byte of a surface's bounding range. -/
def surfEnd (a pitch w h : Nat) : Nat := a + (h - 1) * pitch + w - 1

def BOp.overlaps (o : BOp) : Bool :=
  o.op != 2 && decide (o.src ≤ surfEnd o.dst o.dpitch o.width o.height) && decide (o.dst ≤ surfEnd o.src o.spitch o.width o.height)

/-- Rows run bottom to top; bursts run right to left. -/
def BOp.direction (o : BOp) : Bool × Bool :=
  if o.overlaps && o.spitch == o.dpitch then
    let d : Int := (o.dst : Int) - o.src
    let dy := d.tdiv o.spitch
    let dx := d.tmod o.spitch
    (decide (0 < dy) || (dy == 0 && decide (0 < dx)), decide (0 < dx) || (dx == 0 && decide (0 < dy)))
  else (false, false)

/-- Bursts of a row. -/
def BOp.rowBursts (o : BOp) : Nat := (o.width + 2047) / 2048

/-- Burst number `k` of a pass: its row, first byte and length (R232). -/
def BOp.burstAt (o : BOp) (dir : Bool × Bool) (k : Nat) : Nat × Nat × Nat :=
  let r := k / o.rowBursts
  let j := k % o.rowBursts
  let row := if dir.1 then o.height - 1 - r else r
  if dir.2 then
    let hi := o.width - 2048 * j
    (row, hi - 2048, hi - (hi - 2048))
  else (row, 2048 * j, min 2048 (o.width - 2048 * j))

/-! ### Blending (R233) -/

/-- An integer rounded to 24 significant bits, ties to even: a binary32 result. -/
def round24 (x : Int) : Int :=
  let a := x.natAbs
  let k := if a < 2 ^ 24 then 0 else Nat.log2 a - 23
  let r : Int := rne (a : Int) (2 ^ k) * 2 ^ k
  if x < 0 then -r else r

/-- `s + d × (1 − sa)` on binary16 codes. -/
def blendHalf (sc dc sac : Nat) : Nat :=
  let one : Int := 2 ^ 24
  let t := one - halfVal sac
  let prod := round24 (halfVal dc * t)
  let sum := round24 (halfVal sc * one + prod)
  if sum = 0 then (if sc = 0x8000 ∧ prod = 0 ∧ ((32768 ≤ dc) != decide (t < 0)) then 0x8000 else 0)
  else if 65520 * 2 ^ 48 ≤ sum.natAbs then (if sum < 0 then 0xFC00 else 0x7C00)
  else halfCode sum (2 ^ 24)

/-- A destination pixel after BLEND; RGBA16F values are read as R70 states, alpha limited to 0 to 1. -/
def blendPixel (fmt s d : Nat) : Nat :=
  let cs := channels fmt (takenPx fmt s)
  let cd := channels fmt (takenPx fmt d)
  let sa := nth 0 cs 3
  let f (i : Nat) : Nat :=
    let x := nth 0 cs i
    let y := nth 0 cd i
    if fmt = 0 then min 255 (x + (y * (255 - sa) + 127) / 255)
    else if fmt = 1 then min (if i = 3 then 3 else 1023) (x + (y * (3 - sa) + 1) / 3)
    else blendHalf x y sa
  packChannels fmt ((List.range 4).map f)

/-- Source bytes over destination bytes. -/
def blendBytes (fmt : Nat) : Nat → List Byte → List Byte → List Byte
  | 0, _, _ => []
  | n + 1, s, d =>
    let b := pxBytes fmt
    if s.isEmpty then [] else leBytes b (blendPixel fmt (leAt s 0 b) (leAt d 0 b)) ++ blendBytes fmt n (s.drop b) (d.drop b)

/-! ### Movers (R228, R232, R235, R236) -/

/-- The operation at the head of queue `p` can be taken (R228). -/
def State.queueReady (s : State) (p : Nat) : Option BOp :=
  if !s.queueGoes p || s.queueDiscards p then none
  else match (s.bqueue p).ops with
  | o :: _ => if o.bad || o.op == 0 || o.op == 4 || (o.cue.isSome && o.fired.isNone) then none else some o
  | [] => none

/-- An operation begun on a mover: through the scratch area, or not at all, where the pitches of overlapping surfaces differ (R235). -/
def State.blkBegin (s : State) (o : BOp) : BRun :=
  let via := o.overlaps && o.spitch != o.dpitch
  let scr := s.addr40 (Reg.BLK_Q_SCRATCH_LO o.queue)
  let len := s.rn (Reg.BLK_Q_SCRATCH_LEN o.queue)
  let meets (a pitch : Nat) : Bool := decide (scr ≤ surfEnd a pitch o.width o.height) && decide (a < scr + len)
  let bad := via && (decide (len < o.width * o.height) || meets o.src o.spitch || meets o.dst o.dpitch)
  ⟨o, via, via, (scr, len), 0, 0, 0, false, s.rf (Reg.BLK_Q_DEAD o.queue) 15 0, if bad then some bsOverlapPitch else none, false, false⟩

/-- A mover can take work: the common page runs, and the mover is in service, or joins now (R241). -/
def State.moverFree (s : State) (m : Nat) : Bool :=
  s.takesWork blkPage && (s.mover m).run.isNone && !(s.mover m).leaving &&
    (s.moverState m == stIdle || s.moverState m == stRun || s.moverState m == stReturning)

/-- Work for mover `m` (R228, R241): an operation that the other mover left, else the head of the next ready queue. -/
def State.moverWork (s : State) (m : Nat) : Bool :=
  s.blk.again.any (fun o => o.2 != m) || (List.range 4).any fun p => (s.queueReady p).isSome

/-- MOVER_TAKE (R228): the lowest free mover that has work takes the operation to be run again, which the other mover left, or the head of the next
ready queue. -/
def State.moverTake (s : State) : State :=
  match (List.range 2).find? (fun m => s.moverFree m && s.moverWork m) with
  | none => s
  | some m =>
    let start (s : State) (o : BOp) : State :=
      let s := s.when (s.moverState m == stReturning) fun s => s.toMoverState m stIdle
      (s.setMover m { s.mover m with run := some (s.blkBegin o) }).blkStates
    match s.blk.again.find? (fun o => o.2 != m) with
    | some o => start { s with blk := { s.blk with again := s.blk.again.filter (· != o) } } o.1
    | none =>
      match ((List.range 4).map fun i => (s.blk.last + 1 + i) % 4).find? (fun p => (s.queueReady p).isSome) with
      | none => s
      | some p =>
        match s.queueReady p with
        | none => s
        | some o =>
          let s := (s.setBqueue p { s.bqueue p with ops := (s.bqueue p).ops.drop 1 }).wb (Reg.BLK_Q_STATUS p) 20 false
          start { s with blk := { s.blk with last := p } } o

/-- Bytes written counted by the engine in units of 64 KiB, and by the queue unless it has been reset since (R242). -/
def State.blkCount (s : State) (p n : Nat) (silent : Bool) : State :=
  let b := unitCount s.blk.rem n
  let s := ({ s with blk := { s.blk with rem := b.2 } }).cntSat Reg.BLK_BYTES 32 b.1
  if silent then s
  else
    let q := s.bqueue p
    let a := unitCount q.rem n
    (s.setBqueue p { q with rem := a.2 }).cntSat (Reg.BLK_Q_BYTES p) 32 a.1

/-- Surface bytes not yet written become unpredictable (R239): those of the bursts from `k` on. -/
def State.blkScribble (s : State) (o : BOp) (dir : Bool × Bool) (k : Nat) : State :=
  let total := o.rowBursts * o.height
  s.each (total - k) fun i s =>
    let b := o.burstAt dir (k + i)
    s.scribble (some o.queue) (o.dst + b.1 * o.dpitch + b.2.1) b.2.2

/-- The scratch area becomes unpredictable (R235). -/
def State.scratchScribble (s : State) (r : BRun) : State :=
  if r.viaScratch && r.status != some bsOverlapPitch then
    s.scribble (some r.op.queue) r.area.1 r.area.2
  else s

/-- The run has nothing more to do: all its bursts are done, or it has stopped. -/
def BRun.over (r : BRun) : Bool := r.status.isSome || (!r.scratch && r.burst == r.op.rowBursts * r.op.height)

/-- One burst (R232). -/
def State.blkBurst (s : State) (r : BRun) : State × BRun :=
  let o := r.op
  let port := some o.queue
  let scr := r.area.1
  let dir := if r.viaScratch then (false, false) else o.direction
  let b := o.burstAt dir r.burst
  let srcA := if r.viaScratch && !r.scratch then scr + b.1 * o.width + b.2.1 else o.src + b.1 * o.spitch + b.2.1
  let dstA := if r.scratch then scr + b.1 * o.width + b.2.1 else o.dst + b.1 * o.dpitch + b.2.1
  let (s, x) := if o.op = 2 then (s, (⟨(List.range b.2.2).map fun i => nth 0 (leBytes 8 o.fill) ((b.2.1 + i) % 8), false, false⟩ : MemRes))
    else s.readMem port (srcA % 2 ^ 40) b.2.2
  let (s, y) := if o.op = 3 ∧ !r.scratch ∧ !x.denied ∧ !x.uncorr then s.readMem port (dstA % 2 ^ 40) b.2.2 else (s, (⟨[], false, false⟩ : MemRes))
  if x.denied || y.denied then (s, { r with status := some bsDenied })
  else if x.uncorr || y.uncorr then (s, { r with status := some bsMemUncorr })
  else
    let d := if o.op = 3 ∧ !r.scratch then blendBytes o.format (b.2.2 + 1) x.data y.data else x.data
    let (s, den) := s.writeMem port (dstA % 2 ^ 40) d
    if den then (s, { r with status := some bsDenied })
    else if r.scratch then
      (s, if r.burst + 1 = o.rowBursts * o.height then { r with scratch := false, burst := 0, dead := true } else { r with burst := r.burst + 1, dead := true })
    else (s.blkCount o.queue b.2.2 r.silent, { r with burst := r.burst + 1, rows := (r.burst + 1) / o.rowBursts, bytes := r.bytes + b.2.2, dead := true })

/-- The operation that mover `m` holds ends (R239). -/
def State.blkClose (s : State) (m : Nat) (r : BRun) (status : Nat) : State :=
  let s := s.setMover m { s.mover m with run := none }
  let s := s.when (status == bsReturned || status == bsDenied || status == bsMemUncorr || status == bsEngineFault) fun s =>
    s.blkScribble r.op (if r.viaScratch then (false, false) else r.op.direction) (if r.scratch then 0 else r.burst)
  let s := s.scratchScribble r
  (if r.silent then s else (s.blkEnd r.op status m r.rows r.bytes).queueOn r.op.queue).blkStates

/-- Mover `m` leaves service; what it holds is run again, or ends with ENGINE_FAULT (R241). -/
def State.moverFence (s : State) (m : Nat) : State :=
  let x := s.mover m
  let s := s.setMover m ⟨none, false⟩
  let s := match x.run with
    | none => s
    | some r =>
      match r.status with
      | some st => s.blkClose m r st
      | none =>
        if r.discard then s.blkClose m r bsReturned
        else if r.op.overlaps then s.blkClose m r bsEngineFault
        else { s with blk := { s.blk with again := s.blk.again ++ [(r.op, m)] } }
  (s.toMoverState m stFenced).blkStates

/-- BLK_BURST_DONE (R232, R236). The dead time after a burst is what BLK_Q_DEAD was when the burst began. -/
def State.burstDone (s : State) (m : Nat) : State :=
  let x := s.mover m
  match x.run with
  | none => s
  | some r =>
    if r.over || r.dead then s
    else
      let (s, r) := s.blkBurst r
      let dead := r.dead && r.gap != 0
      let r := { r with dead := dead, gap := if dead then r.gap else s.rf (Reg.BLK_Q_DEAD r.op.queue) 15 0 }
      let r := if r.discard && !r.over then { r with status := some bsReturned } else r
      let s := s.setMover m { x with run := some r }
      if x.leaving then s.moverFence m else s

/-- BLK_OP_END (R239): the mover is held through the dead time of the last burst (R236). -/
def State.opEnd (s : State) (m : Nat) : State :=
  match (s.mover m).run with
  | none => s
  | some r => if r.over && !r.dead then s.blkClose m r (r.status.getD bsOk) else s

/-- A mover is fenced after its running burst (R241). -/
def State.moverLeave (s : State) (m : Nat) : State :=
  match (s.mover m).run with
  | some r => if r.over || r.dead then s.moverFence m else s.setMover m { s.mover m with leaving := true }
  | none => s.moverFence m

/-- A write of BLK_MOVERS (R241): FENCE_REQ bits as they were and as written; a fence that still waits for its burst is withdrawn. -/
def State.moversWritten (s : State) (old : Word) : State :=
  s.each 2 fun m s =>
    let now := s.rb Reg.BLK_MOVERS m
    if now && !bit old m then
      if s.moverState m = stFenced then s else s.moverLeave m
    else if !now && bit old m then
      if s.moverState m ≠ stFenced then s.setMover m { s.mover m with leaving := false }
      else if s.rb Reg.PWR_GATE_MISC (24 + m) then s else s.toMoverState m stTest
    else s

/-- A write of BLK_MOVERS by a party. -/
def State.writeMovers (s : State) (p : Party) (v : Word) : State :=
  let old := s.rd Reg.BLK_MOVERS
  s.regWrite p Reg.BLK_MOVERS v fun s => s.moversWritten old

/-! ### Enable, discard and reset (R226, R240, R242) -/

/-- ENABLE of a queue page goes from 0 to 1. -/
def State.blkQEnable (s : State) (p : Nat) : State :=
  let q := s.bqueue p
  let s := s.setBqueue p { q with base := s.addr40 (Reg.BLK_Q_BASE_LO p), size := clampN 4 12 (s.rf (Reg.BLK_Q_SIZE p) 3 0), rcpt := s.addr40 (Reg.BLK_R_BASE_LO p) }
  let s := (s.wf (Reg.BLK_Q_STATUS p) 27 24 0).wb (Reg.BLK_Q_STATUS p) 31 (s.blkFull p)
  (s.blkDrain p 8).queueOn p

/-- ENABLE of the common page goes from 0 to 1: movers out of service come into it. -/
def State.blkEnable (s : State) : State := s.each 2 fun m s => s.when (s.moverState m == stOff) fun s => s.toMoverState m stIdle

/-- Operations of a queue on a mover stop at their next burst, or now in dead time. -/
def State.blkMark (s : State) (sel : Nat → Bool) (silent : Bool) : State :=
  s.each 2 fun m s =>
    let x := s.mover m
    match x.run with
    | some r =>
      if sel r.op.queue then
        let r := { r with silent := r.silent || silent }
        s.setMover m { x with run := some (if r.over then r else if r.dead then { r with status := some bsReturned } else { r with discard := true }) }
      else s
    | none => s

/-- DISCARD of a queue page: an operation that was to be run again is returned with the rest. -/
def State.blkQDiscard (s : State) (p : Nat) : State :=
  let again := (s.blk.again.filter fun o => o.1.queue == p).map (·.1)
  let s := ({ s with blk := { s.blk with again := s.blk.again.filter fun o => o.1.queue != p } }).blkMark (· == p) false
  let s := (s.setBqueue p { s.bqueue p with ops := again ++ (s.bqueue p).ops }).wb (Reg.BLK_Q_STATUS p) 20 false
  (s.blkReturn p 65537).blkStates

/-- The common page's DISCARD: both movers stop at their next burst. -/
def State.blkDiscard (s : State) : State := (s.blkMark (fun _ => true) false).blkStates

/-- A port reset (R242), but for the page's registers: the running operation stops at its next burst, and ends without receipt or fence. -/
def State.blkPortReset (s : State) (p : Nat) : State :=
  let s := s.blkMark (· == p) true
  ({ s with blk := { s.blk with again := s.blk.again.filter fun o => o.1.queue != p } }.setBqueue p BQueue.reset).blkStates

/-- BLK_R_HEAD written (R227). -/
def State.blkRHead (s : State) (p : Nat) : State :=
  (((s.wb (Reg.BLK_Q_STATUS p) 31 (s.blkFull p)).blkDrain p 8).queueOn p).blkStates

/-- What writing a BLK register does beyond storing it; `old` is what BLK_MOVERS held. -/
def State.blkWritten (s : State) (a : Nat) (old : Word) : State :=
  if a = Reg.BLK_MOVERS then s.moversWritten old
  else match (List.range 4).find? (fun p => a == Reg.BLK_R_HEAD p) with
  | some p => s.blkRHead p
  | none => s

/-! ### The commands -/

/-- BLK_Q_TAIL (R226). -/
def execBlkQTail (p : Party) (port : Fin 4) (v : Word) (s : State) : Host.Outcome State Fault Refusal := done (s.regWrite p (Reg.BLK_Q_TAIL port) v id)

/-- BLK_COPY (R230). -/
def execBlkCopy (port : Fin 4) (s : State) : Host.Outcome State Fault Refusal := done (s.blkFetch port 1)

/-- BLK_FILL (R230). -/
def execBlkFill (port : Fin 4) (s : State) : Host.Outcome State Fault Refusal := done (s.blkFetch port 2)

/-- BLK_BLEND (R233). -/
def execBlkBlend (port : Fin 4) (s : State) : Host.Outcome State Fault Refusal := done (s.blkFetch port 3)

/-- BLK_FENCE (R230). -/
def execBlkFence (port : Fin 4) (s : State) : Host.Outcome State Fault Refusal := done (s.blkFetch port 4)

/-- BLK_NOP (R230). -/
def execBlkNop (port : Fin 4) (s : State) : Host.Outcome State Fault Refusal := done (s.blkFetch port 0)

/-- MOVER_TAKE (R228). -/
def execMoverTake (s : State) : Host.Outcome State Fault Refusal := done s.moverTake

/-- BLK_BURST_DONE (R232). -/
def execBlkBurstDone (m : Fin 2) (s : State) : Host.Outcome State Fault Refusal := done (s.burstDone m)

/-- DEAD_TIME_EXPIRY (R236). -/
def execDeadTimeExpiry (m : Fin 2) (s : State) : Host.Outcome State Fault Refusal :=
  done (match (s.mover m).run with
    | some r => if r.dead then s.setMover m { s.mover m with run := some { r with dead := false, gap := s.rf (Reg.BLK_Q_DEAD r.op.queue) 15 0 } } else s
    | none => s)

/-- BLK_OP_END (R239). -/
def execBlkOpEnd (m : Fin 2) (s : State) : Host.Outcome State Fault Refusal := done (s.opEnd m)

/-- BLK_R_HEAD (R227). -/
def execBlkRHead (p : Party) (port : Fin 4) (v : Word) (s : State) : Host.Outcome State Fault Refusal :=
  done (s.regWrite p (Reg.BLK_R_HEAD port) v fun s => s.blkRHead port)

/-- MOVER_FENCE_REQ (R241). -/
def execMoverFenceReq (p : Party) (v : Word) (s : State) : Host.Outcome State Fault Refusal := done (s.writeMovers p v)

end Sys2Proof.Machine
end

