-- ==== Sys2Proof/Machine/Dmc.lean ====
section
/-! DEFINITION. The DDR5 memory subsystem (spec/12_ddr5_memory.md): training, the interleave map, scheduling, refresh, ECC, scrub,
retirement, and taking a channel out of service. -/
namespace Sys2Proof.Machine

abbrev dmcPage : Nat := Reg.page 12 0
abbrev chPage (c : Nat) : Nat := Reg.page 12 (1 + c)

/-- STATE of a channel with its event (R277). -/
def State.toChState (s : State) (c v : Nat) : State := s.toState (chPage c) v (some (1440 + 32 * c))

def State.chInService (s : State) (c : Nat) : Bool := s.pgState (chPage c) == stIdle || s.pgState (chPage c) == stRun

/-- A channel's DRAM runs: in service, or draining (R274). -/
def State.chLive (s : State) (c : Nat) : Bool := s.chInService c || s.pgState (chPage c) == stDraining

/-! ### The interleave map (R251, R252, R271, R272) -/

/-- Set `k` as the registers define it; offsets are filled in by `mapSets`. -/
def State.isetReg (s : State) (k : Nat) : ISet :=
  let w := s.rn (Reg.DMC_ISET_CTRL k)
  ⟨w.testBit 31, nfld w 21 16, nfld w 13 0, s.rf (Reg.DMC_ISET_SIZE k) 14 0, [], true⟩

/-- Bytes of each channel that a set uses. -/
def ISet.perChan (k : ISet) : Nat := if k.valid then k.units * unitBytes / chCount k.chmask else 0

/-- off[k][ch]: what the lower sets take of a channel (R252). -/
def mapSets (l : List ISet) : List ISet :=
  (List.range l.length).map fun k =>
    let x := nth ⟨false, 0, 0, 0, [], false⟩ l k
    { x with off := (List.range 6).map fun c => ((l.take k).map fun (j : ISet) => if j.chmask.testBit c then j.perChan else 0).sum }

/-- MAP_ERR of R251: the first check that fails, 0 where none does. -/
def State.mapErr (s : State) : Nat :=
  let l := (List.range 4).map s.isetReg
  let v := l.filter fun k => k.valid
  if v.any fun k => chCount k.chmask == 0 || k.units == 0 || k.units % chCount k.chmask != 0 then 1
  else if (List.range 4).any (fun i => (List.range i).any fun j =>
      let a := s.isetReg i
      let b := s.isetReg j
      a.valid && b.valid && decide (a.base < b.base + b.units) && decide (b.base < a.base + a.units)) then 2
  else if v.any fun k => (List.range 6).any fun c => k.chmask.testBit c && s.pgState (chPage c) != stIdle then 3
  else if (List.range 6).any fun c => decide (s.chanUsable c < (v.map fun (k : ISet) => if k.chmask.testBit c then k.perChan else 0).sum) then 4
  else 0

/-- ONLINE and OFFLINE of DMC_MAP_STATUS. -/
def State.mapStatus (s : State) : State :=
  let bits (f : ISet → Bool) : Nat := (List.range 4).foldl (fun (a : Nat) k => match s.dmc.map[k]? with | some x => if x.valid && f x then a + 2 ^ k else a | none => a) 0
  (s.wf Reg.DMC_MAP_STATUS 3 0 (bits fun x => x.online)).wf Reg.DMC_MAP_STATUS 11 8 (bits fun x => !x.online)

/-- ENABLE of the common page goes from 0 to 1 (R251): true where the map is accepted. -/
def State.mapEnable (s : State) : State × Bool :=
  let e := s.mapErr
  let s := s.wf Reg.DMC_MAP_STATUS 23 16 e
  if e ≠ 0 then (s.evt 1459, false)
  else (({ s with dmc := { s.dmc with map := mapSets ((List.range 4).map s.isetReg) } }).mapStatus, true)

/-- The map is gone: every address is unmapped (R274). -/
def State.mapOff (s : State) : State := ({ s with dmc := { s.dmc with map := [] } }).mapStatus

/-- A pigeonhole's range meets a set. -/
def State.phMeets (s : State) (j : Nat) (k : ISet) : Bool :=
  decide (s.rf (Reg.PH_BASE j) 13 0 < k.base + k.units) && decide (k.base ≤ s.rf (Reg.PH_LIMIT j) 13 0)

/-- SUSPENDED in every valid pigeonhole that meets a set using channel `c` (R40, R272). -/
def State.phSuspend (s : State) (c : Nat) : State :=
  s.each 64 fun j s =>
    if s.rb (Reg.PH_RIGHTS j) 31 && s.dmc.map.any (fun k => k.valid && k.chmask.testBit c && s.phMeets j k) then
      let s := (s.wb (Reg.PH_STATUS j) 0 true).wf (Reg.PH_STATUS j) 7 4 c
      let m := Sparse.get (fun _ => 0) s.hif.phChannels j
      { s with hif := { s.hif with phChannels := Sparse.set (fun _ => 0) s.hif.phChannels j (if m.testBit c then m else m + 2 ^ c) } }
    else s

/-- Events on each channel page of a set. -/
def State.setEvents (s : State) (k : ISet) (e : Nat) : State := s.each 6 fun c s => s.when (k.chmask.testBit c) fun s => s.evt (e + 32 * c)

/-- Channel `c` is out of service (R271, R272, R274): its sets go OFFLINE, its requests end, the reads marked uncorrectable, and pigeonholes are
suspended. -/
def State.chanOut (s : State) (c : Nat) : State :=
  let hit := s.dmc.map.filter fun k => k.valid && k.online && k.chmask.testBit c
  let s := s.phSuspend c
  let s := { s with dmc := { s.dmc with map := s.dmc.map.map fun (k : ISet) => if k.valid && k.chmask.testBit c then { k with online := false } else k } }
  let ch := s.chan c
  let empty (x : SubChan) : SubChan := { x with queue := [], issued := [], writing := false }
  let s := s.when (ch.requests.any fun q => q.rq.write.isNone) fun s => s.answer .completerAbort
  let s := s.setChan c { ch with subA := empty ch.subA, subB := empty ch.subB, inbox := [], copies := [], training := false, ranks := ch.ranks.map fun (r : Rank) => { r with batch := 0, rest := 0 } }
  (s.eachOf hit fun k s => s.setEvents k 1457).mapStatus

/-- A channel has come into service: each OFFLINE set whose channels are all IDLE or RUN comes ONLINE (R273, R274). -/
def State.chanIn (s : State) : State :=
  let up (k : ISet) : Bool := k.valid && !k.online && (List.range 6).all fun c => !k.chmask.testBit c || s.chInService c
  let back := s.dmc.map.filter up
  let s := { s with dmc := { s.dmc with map := s.dmc.map.map fun (k : ISet) => if up k then { k with online := true } else k } }
  (s.eachOf back fun k s => s.setEvents k 1458).mapStatus

/-! ### Population and training (R246 to R249) -/

/-- R246 over the DIMMs of a channel. -/
def popOk (l : List Dimm) : Bool :=
  decide (l.length ≤ 2) && l.all (fun d => d.rdimmEcc && (d.width == 4 || d.width == 8) && (d.ranks == 1 || d.ranks == 2) && (d.gib == 16 || d.gib == 32 || d.gib == 64))
    && (match l with | [a, b] => a.gib == b.gib && a.ranks == b.ranks && a.width == b.width && a.density == b.density | _ => true)

/-- The rate AUTO chooses (R247), as SPEED encodes it: 1 to 3, highest first. -/
def State.autoSpeed (s : State) : Nat :=
  let ds := s.dmc.chans.flatMap fun (c : DmcChan) => c.dimms
  let two := s.dmc.chans.any fun c => c.dimms.length == 2
  if ds.all (fun d => decide (6400 ≤ d.maxSpeed)) && !two then 1
  else if ds.all fun d => decide (5600 ≤ d.maxSpeed) then 2
  else 3

/-- MEM changes between 9.6 and 8.4 GHz (R311, R318): its loops re-lock, and the controller domain runs on bypass until one of them has locked. LSTATE
and the other domains of the core PLLs stay as they are (DEDUCED, log 57). -/
def State.memRelock (s : State) : State :=
  let s := { s with clk := { s.clk with memBypass := true } }
  s.each 2 fun k s => s.wb (Reg.PLL_STATUS k) 9 true

/-- The controller has its clock: on bypass DMC runs no traffic (R319). -/
def State.dmcClock (s : State) : Bool := !s.clk.memBypass && s.rf Reg.CLK_CORE_SEL 9 8 != 2

/-- The rate in force is fixed at training, anew where no other channel is trained (R247). -/
def State.setSpeed (s : State) (c : Nat) : State :=
  if s.rf Reg.DMC_SPEED 17 16 = 0 ∨ (List.range 6).all (fun d => d == c || s.rf (Reg.DMC_CH_STATUS d) 31 28 == 0 || s.pgState (chPage d) == stOff) then
    let want := s.rf Reg.DMC_SPEED 1 0
    let v := if want = 0 then s.autoSpeed else max want s.autoSpeed
    let s := if (v == 2) == (s.rf Reg.DMC_SPEED 17 16 == 2) then s else s.memRelock
    s.wf Reg.DMC_SPEED 17 16 v
  else s

/-- A write of DMC_CH_CMD 1 (R248, R249). -/
def State.trainCmd (s : State) (c : Nat) (keep : Bool) : State :=
  if s.pgState (chPage c) = stOff ∧ !s.rb Reg.PWR_GATE_MISC (16 + c) then
    let ch := s.chan c
    let s := s.setChan c { ch with training := true, keep := keep && ch.held, dimms := [] }
    let s := (s.wb (Reg.DMC_CH_STATUS c) 20 false).wf (Reg.DMC_CH_STATUS c) 31 28 1
    (s.wf (Reg.DMC_CH_STATUS c) 27 24 0).wb (Reg.DMC_CH_STATUS c) 23 false
  else s.wb (Reg.DMC_CH_STATUS c) 20 true

/-- Every byte of a channel reads zero, and no line is bad (R248 stage 8, R273). -/
def State.chanZero (s : State) (c : Nat) : State :=
  let ch := s.chan c
  { s.setChan c { ch with bad := [] } with mem := Sparse.dropKeys (fun k => k / 2 ^ 37 == c) s.mem }

/-- The channel's RANKS and CAPACITY (R276). -/
def State.chanSizes (s : State) (c : Nat) : State :=
  let d := (s.chan c).dimms
  (s.wf (Reg.DMC_CH_STATUS c) 19 16 (chanRanks d)).wf (Reg.DMC_CH_STATUS c) 7 0 (chanGib d)

/-- Training ends with the channel IDLE. Pages that a power-off saved are retired again (R270). -/
def State.trainEnd (s : State) (c : Nat) (kept : Bool) : State :=
  let s := ((s.setSpeed c).chanSizes c).wb (Reg.DMC_CH_STATUS c) 23 kept
  let s := if kept then s else s.chanZero c
  let s := s.setChan c { s.chan c with training := false, keep := false, held := false, ranks := (s.chan c).ranks.map fun (r : Rank) => { Rank.fresh with base := r.base } }
  let s := if kept then s else s.eachOf (s.chan c).saved fun pg s => s.queueRetire c pg
  let s := ((s.toChState c stIdle).evt (1442 + 32 * c)).when (!kept) fun s => s.evt (1456 + 32 * c)
  s.chanIn

/-- Training ends with a failure: what comes before the fault (R248). -/
def State.trainFail (s : State) (c : Nat) : State :=
  let s := s.setChan c { s.chan c with training := false }
  (s.wf (Reg.DMC_CH_STATUS c) 27 24 (s.rf (Reg.DMC_CH_STATUS c) 31 28)).evt (1443 + 32 * c)

/-- A stage ends (R248); true where training fails. Stage 1 finds the DIMMs, stage 6 the oscillator count of each rank (R250). -/
def State.trainStage (s : State) (c : Nat) (pass : Bool) (dimms : List Dimm) (osc : List Nat) : State × Bool :=
  let st := s.rf (Reg.DMC_CH_STATUS c) 31 28
  let ch := s.chan c
  if !ch.training then (s, false)
  else if st = 1 then
    let s := s.wf (Reg.DMC_CH_STATUS c) 15 14 (min 2 dimms.length)
    if dimms.isEmpty then (s.setChan c { ch with training := false }, false)
    else if pass && popOk dimms then ((s.setChan c { ch with dimms := dimms }).wf (Reg.DMC_CH_STATUS c) 31 28 2, false)
    else (s.trainFail c, true)
  else if !pass then (s.trainFail c, true)
  else if st = 6 then
    ((s.setChan c { ch with ranks := (List.range 4).map fun r => { nth Rank.fresh ch.ranks r with base := nth 0 osc r } }).wf (Reg.DMC_CH_STATUS c) 31 28 7, false)
  else if st < 7 ∨ (st = 7 ∧ !ch.keep) then (s.wf (Reg.DMC_CH_STATUS c) 31 28 (st + 1), false)
  else (s.trainEnd c (decide (st = 7)), false)

/-- A channel returns to service (R273): its contents are zero. The oscillator counts of its test's stage 6 are free (log 55). -/
def State.chanJoin (s : State) (c : Nat) : State :=
  let s := (s.chanSizes c).chanZero c
  let s := s.setChan c { s.chan c with ranks := List.replicate 4 Rank.fresh, held := false, replays := 0 }
  let s := s.each 4 fun r s =>
    let f := s.free 16
    f.2.setChan c { f.2.chan c with ranks := updWith (f.2.chan c).ranks r fun (k : Rank) => { k with base := f.1.toNat } }
  (s.toChState c stIdle).chanIn

/-! ### Requests (R255 to R257) -/

/-- A rank of a channel. -/
def State.rank (s : State) (c r : Nat) : Rank := nth Rank.fresh (s.chan c).ranks r

/-- Postpone limit of a refresh class (R259, R261). -/
def refLimit (cls : Nat) : Nat := if cls = 0 then 4 else 2

def State.setRank (s : State) (c r : Nat) (v : Rank) : State :=
  let ch := s.chan c
  let s := s.setChan c { ch with ranks := upd ch.ranks r v }
  (s.wf (Reg.DMC_CH_REFRESH c) (8 * r + 7) (8 * r + 4) (min 15 v.debt)).wf (Reg.DMC_CH_REFRESH c) (8 * r + 1) (8 * r) v.cls

/-- Controller cycles in a millisecond at the rate in force. -/
def State.dmcCycles (s : State) : Nat := match s.rf Reg.DMC_SPEED 17 16 with | 2 => 1400000 | 3 => 1200000 | _ => 1600000

/-- A request may enter its subchannel: 512 are tracked, of which 64 writes (R255, R256). -/
def SubChan.room (x : SubChan) (q : Queued) : Bool :=
  decide (x.queue.length + x.issued.length < 512) && (q.rq.write.isNone || decide ((x.queue.filter fun (y : Queued) => y.rq.write.isSome).length < 64))

/-- A request enters its subchannel's tracker. It wakes its rank; a rank that leaves self-refresh is read first (R260, R265). -/
def State.enroll (s : State) (c : Nat) (q : Queued) : State :=
  let b := q.la.testBit 6
  let x := s.sub c b
  let s := s.setSub c b { x with queue := x.queue ++ [{ q with age := 0, seq := x.next }], next := x.next + 1 }
  s.rouse c q.la

/-- What the crossing held enters the trackers in order while there is room (R14). -/
def State.takeIn (s : State) (c : Nat) : List Queued → State
  | [] => s.setChan c { s.chan c with inbox := [] }
  | q :: t => if (s.sub c (q.la.testBit 6)).room q then State.takeIn (s.enroll c q) c t else s.setChan c { s.chan c with inbox := q :: t }

/-- MEMORY_REQUEST (R254 to R256): a request enters its subchannel, or is held back while there is no room or another is held back; an unmapped
one is answered at once. -/
def State.memRequest (s : State) (q : MemReq) : State :=
  if !s.allowed (q.port.map (·.val)) q.addr.toNat q.write.isSome then
    match q.port with | some p => (s.phViol p q.addr.toNat q.write.isSome).answer .unsupportedRequest | none => s
  else match s.locate q.addr.toNat with
  | none => s.unmapped.answer (if q.write.isSome then .none else .completerAbort)
  | some (c, la) =>
    let x : Queued := ⟨q, la, 0, 0⟩
    if (s.chan c).inbox.isEmpty && (s.sub c (la.testBit 6)).room x then s.enroll c x
    else s.setChan c { s.chan c with inbox := (s.chan c).inbox ++ [x] }

/-- The request that a class offers (R256.3): the oldest beyond the age cap, else the oldest row hit, else the oldest. -/
def offer (cap : Nat) (hit : Queued → Bool) (l : List Queued) : Option Queued :=
  match l.find? (fun q => decide (cap < q.age)) with
  | some q => some q
  | none => match l.find? hit with
    | some q => some q
    | none => l.head?

/-- A rank takes requests: no batch or refresh of it is under way, and it is not to be read first (R260, R261). -/
def Rank.open (k : Rank) : Bool := k.batch == 0 && k.rest == 0 && !k.mustRead

/-- A refresh goes first (R256.1): the next of a batch, tRFC after the one before, or one forced by the debt. -/
def State.dueRank (s : State) (c : Nat) : Option Nat :=
  (List.range 4).find? fun r =>
    let k := s.rank c r
    k.rest == 0 && !k.mustRead && (decide (0 < k.batch) || decide (refLimit k.cls < k.debt))

/-- Two requests of one requester. -/
def Queued.sameUser (a b : Queued) : Bool := a.rq.who == b.rq.who && a.rq.port == b.rq.port

/-- An older request for the line goes before this one (R257): one of the same requester, but that a read need not wait for a write, whose data it
returns; and writes of a line are stored in order. -/
def SubChan.behind (x : SubChan) (q : Queued) : Bool :=
  (x.queue ++ x.issued).any fun o => decide (o.seq < q.seq) && o.la / 64 == q.la / 64 &&
    (if q.rq.write.isSome then o.rq.write.isSome || o.sameUser q else o.rq.write.isNone && o.sameUser q && x.queue.contains o)

/-- A request can issue. -/
def State.canIssue (s : State) (c : Nat) (b : Bool) (q : Queued) : Bool := (s.rank c (s.rankOf c q.la)).open && !(s.sub c b).behind q

/-- A rank with a debt and no request that can issue is refreshed (R259). -/
def State.idleRank (s : State) (c : Nat) : Option Nat :=
  (List.range 4).find? fun r =>
    let k := s.rank c r
    k.open && decide (0 < k.debt) && [false, true].all fun b => !(s.sub c b).queue.any fun q => s.rankOf c q.la == r && s.canIssue c b q

/-- The requests that image loads make: last within the HOST class (R57, R255). -/
def Queued.image (q : Queued) : Bool := q.rq.who == .geoImage || q.rq.who == .tonImage

/-- The choice of R256 among what a subchannel holds, and whether a write batch is under way. In a batch writes go first, but a write of BACKGROUND
does not go before a request of FRAME or HOST (R17). -/
def State.choose (s : State) (c : Nat) (b : Bool) : Option Queued × Bool :=
  let x := s.sub c b
  let writes := x.queue.filter fun q => q.rq.write.isSome
  let reads := x.queue.filter fun q => q.rq.write.isNone
  let hi := s.rf Reg.DMC_WR_WM 15 8
  let lo := s.rf Reg.DMC_WR_WM 7 0
  let batch := (x.writing && decide (lo < writes.length)) || decide (hi ≤ writes.length)
  let first := (if batch || reads.isEmpty then writes else reads).filter (s.canIssue c b)
  let second := (if batch then reads else []).filter (s.canIssue c b)
  let hit (q : Queued) : Bool := let f := dramFields (s.chan c).dimms q.la; Sparse.get (fun _ => 0) x.rows f.1 == f.2.1 + 1
  let ofc (l : List Queued) (k : MemClass) : Option Queued :=
    let l := l.filter fun q => q.rq.who.cls == k
    (offer (s.rf Reg.DMC_AGE_CAP 15 0) hit (l.filter fun q => !q.image)).or (offer (s.rf Reg.DMC_AGE_CAP 15 0) hit (l.filter Queued.image))
  let hostShort := decide ((x.history.filter (· == MemClass.host)).length < s.rf Reg.DMC_SHARE 7 0)
  let lead (l : List Queued) : Option Queued := if hostShort then (ofc l .host).or (ofc l .frame) else (ofc l .frame).or (ofc l .host)
  ((((lead first).or (lead second)).or (ofc first .background)).or (ofc second .background), batch)

/-- Command slots of tRFC: a slot is one controller cycle of one subchannel (log 54). -/
def State.trfcSlots (s : State) (c : Nat) : Nat :=
  match (s.chan c).dimms with
  | d :: _ => 2 * ((d.trfc * s.dmcCycles + 999999) / 1000000)
  | [] => 0

/-- A refresh of a rank: its rows are closed, and tRFC passes before its next command (R259, R261). -/
def State.refresh (s : State) (c r : Nat) : State :=
  let ch := s.chan c
  let shut (x : SubChan) : SubChan := { x with rows := Sparse.dropKeys (fun k => k / 32 == r) x.rows }
  let s := s.setChan c { ch with subA := shut ch.subA, subB := shut ch.subB }
  let k := s.rank c r
  s.setRank c r { k with debt := k.debt - 1, batch := k.batch - 1, powerDown := false, rest := s.trfcSlots c }

/-- A request issues: a read waits for its data, a write is stored. -/
def State.issue (s : State) (c : Nat) (b : Bool) (q : Queued) (batch : Bool) : State :=
  let x := s.sub c b
  let f := dramFields (s.chan c).dimms q.la
  let x := { x with queue := x.queue.filter (fun y => y.seq != q.seq), writing := batch
                    history := (x.history ++ [q.rq.who.cls]).drop (x.history.length + 1 - 256), rows := Sparse.set (fun _ => 0) x.rows f.1 (f.2.1 + 1) }
  let s := (s.setSub c b (if q.rq.write.isNone then { x with issued := x.issued ++ [q] } else x)).rouse c q.la
  match q.rq.write with
  | some w => s.lineWrite c q.la (w.take (lineLeft q.la))
  | none => s

/-- Time passes in a command slot: requests grow older, refreshes come nearer their end. -/
def State.slotTime (s : State) (c : Nat) (b : Bool) : State :=
  let x := s.sub c b
  let s := s.setSub c b { x with queue := x.queue.map fun (q : Queued) => { q with age := q.age + 1 } }
  s.setChan c { s.chan c with ranks := (s.chan c).ranks.map fun (r : Rank) => { r with rest := r.rest - 1 } }

/-- Self-refresh entered: every owed refresh is issued; or left: the mode register is read first (R260, R265). -/
def State.selfRefresh (s : State) (c : Nat) (on : Bool) : State :=
  s.each 4 fun r s => let x := s.rank c r; s.setRank c r { x with debt := 0, batch := 0, rest := 0, selfRefresh := on, powerDown := false, mustRead := !on && (x.mustRead || x.selfRefresh) }

/-- Every rank of a channel enters self-refresh, once its requests in flight are complete (R417). -/
def State.selfRefreshSoon (s : State) (c : Nat) : State :=
  let wait := !(s.chan c).requests.isEmpty
  (s.setChan c { s.chan c with srDue := wait }).when (!wait) fun s => s.selfRefresh c true

/-- A channel whose last request in flight is complete enters the self-refresh that waits for it. -/
def State.selfRefreshTake (s : State) (c : Nat) : State := if (s.chan c).srDue then s.selfRefreshSoon c else s

/-- DMC_COMMAND_SLOT (R256, R259): a due refresh; else one of a rank that has nothing to issue; else a request. On bypass nothing issues (R319). -/
def State.commandSlot (s : State) (c : Nat) (b : Bool) : State :=
  if !s.dmcClock then s else
  let r := match (s.dueRank c).or (s.idleRank c) with
    | some r => (s.slotTime c b).refresh c r
    | none => match s.choose c b with
      | (some q, batch) => (s.slotTime c b).issue c b q batch
      | (none, _) => s.slotTime c b
  (r.takeIn c (r.chan c).inbox).selfRefreshTake c

/-! ### ECC (R266, R267) -/

/-- A corrected read (R266): counted and recorded; true where source 364 counts it. -/
def State.ceRead (s : State) (c la dev : Nat) : State × Bool :=
  let w := lastWords la false dev
  let s := s.cntSat (Reg.DMC_CH_CE c) 32 1
  let s := ((s.wr (Reg.DMC_CH_LAST_LO c) w.1).wr (Reg.DMC_CH_LAST_HI c) w.2).evt (1449 + 32 * c)
  let pg := la / 4096
  let ch := s.chan c
  if ch.copies.contains pg || ch.retired.any (fun e => e.page == pg) then (s, false)
  else
    let n := Sparse.get (fun _ => 0) ch.corr pg + 1
    let s := s.setChan c { ch with corr := Sparse.set (fun _ => 0) ch.corr pg n }
    (if max 1 (s.rf Reg.DMC_RETIRE_THRESH 3 0) ≤ n then s.queueRetire c pg else s, true)

/-- The oldest issued read of a subchannel returns, with the data of the older writes that still wait (R257, R266, R267); true where source 364
counts it. -/
def State.readReturn (s : State) (c : Nat) (b : Bool) (e : Ecc) : State × Bool :=
  let x := s.sub c b
  match x.issued with
  | [] => (s, false)
  | q :: t =>
    let n := lineLeft q.la
    let older := x.queue.filter fun (y : Queued) => decide (y.seq < q.seq)
    let d := (List.range n).map fun i => byteOver older (s.cell (cellKey c (q.la + i))) (q.la + i)
    let s := (s.setSub c b { x with issued := t }).countBytes c n false
    let s := (s.takeIn c (s.chan c).inbox).selfRefreshTake c
    match (if s.badLine c q.la then Ecc.uncorrectable 15 else e) with
    | .clean => (s.answer (.bytes d), false)
    | .corrected dev => let r := s.ceRead c q.la dev; (r.1.answer (.bytes d), r.2)
    | .uncorrectable dev => ((s.ueRead c q.la dev []).answer .completerAbort, false)

/-! ### Retirement (R269) -/

/-- RETIRE (R269). -/
def State.retireCmd (s : State) (c : Nat) : State :=
  (s.wb (Reg.DMC_CH_STATUS c) 20 false).queueRetire c ((s.rf (Reg.DMC_CH_ADDR_LO c) 31 12) + 2 ^ 20 * s.rf (Reg.DMC_CH_ADDR_HI c) 4 0)

/-- A page's bytes and bad lines moved to another. -/
def State.copyPage (s : State) (c src dst : Nat) : State :=
  let s := s.each 4096 fun i s => s.setCell (cellKey c (dst + i)) (s.cell (cellKey c (src + i)))
  s.each 64 fun i s => s.setBad c (dst + 64 * i) (s.badLine c (src + 64 * i))

/-- RETIRE_COPY_DONE (R269): the oldest queued page is now in its spare; the requests for it that waited go there. -/
def State.retireDone (s : State) (c : Nat) : State :=
  let ch := s.chan c
  match ch.copies with
  | [] => s
  | pg :: t =>
    if 256 ≤ ch.retired.length then
      (((s.setChan c { ch with copies := t }).wb (Reg.DMC_CH_RETIRED c) 31 true).evt (1452 + 32 * c)).notice (367 + 8 * c)
    else
      let spare := s.chanUsable c + ch.retired.length * 4096
      let poisoned := (List.range 64).any fun i => s.badLine c (pg * 4096 + 64 * i)
      let s := s.copyPage c (pg * 4096) spare
      let ch := s.chan c
      let moved (q : Queued) : Queued := if q.la / 4096 = pg then { q with la := spare + q.la % 4096 } else q
      let go (x : SubChan) : SubChan := { x with queue := x.queue.map moved, issued := x.issued.map moved }
      let s := s.setChan c { ch with copies := t, retired := ch.retired ++ [⟨pg, poisoned⟩], subA := go ch.subA, subB := go ch.subB, inbox := ch.inbox.map moved }
      ((s.wf (Reg.DMC_CH_RETIRED c) 8 0 (ch.retired.length + 1)).wb (Reg.DMC_CH_RETIRED c) 31 (decide (ch.retired.length + 1 = 256))).evt (1451 + 32 * c)

/-- DMC_CH_RET_ENTRY (R276). -/
def State.retEntry (s : State) (c : Nat) : Word :=
  match (s.chan c).retired[s.rf (Reg.DMC_CH_RET_IDX c) 7 0]? with
  | some e => wd (2 ^ 31 + b2n e.poisoned * 2 ^ 30 + e.page % 2 ^ 25)
  | none => 0

/-! ### Refresh and temperature (R250, R259 to R264) -/

/-- Refresh class of an MR4 code: 0 NORMAL, 1 DOUBLED, 2 ABOVE (PRESUMED from JESD79-5, log 37). -/
def mr4Class (code : Nat) : Nat := if code % 8 ≤ 2 then 0 else if code % 8 ≤ 4 then 1 else 2

/-- A rank's class becomes `k` (R261 to R263). -/
def State.rankClass (s : State) (c r k : Nat) : State :=
  let x := s.rank c r
  let s := if x.cls = k then s
    else if x.cls = 0 then (s.setRank c r { x with cls := k, debt := 2 * x.debt, batch := 2 * x.debt }).evt (1446 + 32 * c)
    else if k = 0 then (s.setRank c r { x with cls := 0, debt := (x.debt + 1) / 2, batch := 0 }).evt (1447 + 32 * c)
    else s.setRank c r { x with cls := k }
  if k = 2 ∧ x.cls ≠ 2 then (s.evt (1448 + 32 * c)).notice (368 + 8 * c) else s

/-- MR4_POLL (R260): the mode registers of the channel's ranks, but for those in self-refresh, which are read on exit. -/
def State.mr4Poll (s : State) (c : Nat) (codes : List Byte) : State :=
  if !s.chLive c then s
  else
    s.each (s.rf (Reg.DMC_CH_STATUS c) 19 16) fun r s =>
      match codes[r]? with
      | some v =>
        if (s.rank c r).selfRefresh then s
        else
          let s := s.wf (Reg.DMC_CH_MR4 c) (8 * r + 7) (8 * r) v.toNat
          let s := s.setRank c r { s.rank c r with powerDown := false, mustRead := false }
          s.rankClass c r (mr4Class v.toNat)
      | none => s

/-- REFRESH_TICK (R259, R261). -/
def State.refreshTick (s : State) (c r : Nat) : State :=
  let x := s.rank c r
  if x.selfRefresh || !s.chLive c || decide (s.rf (Reg.DMC_CH_STATUS c) 19 16 ≤ r) then s
  else s.setRank c r { x with debt := x.debt + 1, batch := if x.batch = 0 then 0 else x.batch + 1 }

/-- The oscillator count of a rank against its baseline (R250). The delays stand at their stage 6 values plus the step of the drift (log 55). -/
def State.retrainRank (s : State) (c r count : Nat) : State :=
  let k := s.rank c r
  let d : Int := count - k.base
  if d.natAbs ≤ 8 then s
  else if d.natAbs ≤ 63 then ((s.setRank c r { k with shift := d }).cntSat (Reg.DMC_CH_RETRAINS c) 32 1).evt (1444 + 32 * c)
  else (s.evt (1445 + 32 * c)).notice (369 + 8 * c)

/-- RETRAIN_CHECK (R250): the oscillator counts of the ranks. -/
def State.retrainCheck (s : State) (c : Nat) (counts : List Nat) : State :=
  if !s.chLive c then s
  else
    s.each (s.rf (Reg.DMC_CH_STATUS c) 19 16) fun r s =>
      match counts[r]? with
      | some n => s.retrainRank c r n
      | none => s

/-- TS_POLL (R264): the hottest reading in 1/64 °C, none where no sensor answers. -/
def State.tsPoll (s : State) (c : Nat) (reading : Option Int) : State :=
  match reading with
  | none => s.wb (Reg.DMC_CH_TEMP c) 31 false
  | some t =>
    let s := (s.wf (Reg.DMC_CH_TEMP c) 15 0 (unsgn 16 t)).wb (Reg.DMC_CH_TEMP c) 31 true
    if sgn 16 (s.rf Reg.DMC_TS_LIMIT 15 0) ≤ t then (s.evt (1455 + 32 * c)).notice (368 + 8 * c) else s

/-- Lines of a channel. -/
def State.chanLines (s : State) (c : Nat) : Nat := s.rf (Reg.DMC_CH_STATUS c) 7 0 * 2 ^ 24

/-- DMC_SCRUB_PROGRESS (R275): the present pass over all trained channels; a pass is complete when every channel's part is. -/
def State.scrubProgress (s : State) : State :=
  let up := (List.range 6).filter fun c => s.chInService c
  let total := (up.map s.chanLines).sum
  let pos := (up.map fun c => if (s.chan c).passDone then s.chanLines c else (s.chan c).scrubPos).sum
  if !up.isEmpty && up.all (fun c => (s.chan c).passDone) then
    let s := s.each 6 fun c s => s.setChan c { s.chan c with passDone := false, behind := false }
    (s.wf Reg.DMC_SCRUB_PROGRESS 31 16 (s.rf Reg.DMC_SCRUB_PROGRESS 31 16 + 1)).wf Reg.DMC_SCRUB_PROGRESS 9 0 0
  else s.wf Reg.DMC_SCRUB_PROGRESS 9 0 (if total = 0 then 0 else pos * 1000 / total)

/-- SCRUB_BATCH (R268): 64 lines per rank read, in a slot that no request wants (R17); the lines found corrected and uncorrectable, by channel-local
line number; how many raises of source 364 follow. -/
def State.scrubBatch (s : State) (c : Nat) (corrected uncorrectable : List Nat) (behind : Bool) : State × Nat :=
  if !s.chLive c || (s.chan c).passDone || !(s.chan c).requests.isEmpty || (s.chan c).ranks.any (fun r => r.selfRefresh) then (s, 0)
  else
    let s := s.setChan c { s.chan c with ranks := (s.chan c).ranks.map fun (r : Rank) => { r with powerDown := false } }
    let (s, n) := corrected.foldl (fun (acc : State × Nat) l => let r := acc.1.ceRead c (l * 64) 15; (r.1, acc.2 + b2n r.2)) (s, 0)
    let ch := s.chan c
    let pos := ch.scrubPos + 64 * s.rf (Reg.DMC_CH_STATUS c) 19 16
    let marked := ch.bad.filterMap fun e => if e.2 && decide (ch.scrubPos ≤ e.1) && decide (e.1 < pos) then some e.1 else none
    let s := s.eachOf (uncorrectable ++ marked.filter fun l => !uncorrectable.contains l) fun l s => s.ueRead c (l * 64) 15 []
    let s := s.when (behind && !ch.behind) fun s => (s.setChan c { s.chan c with behind := true }).evt (1454 + 32 * c)
    let s := if s.chanLines c ≤ pos then (s.setChan c { s.chan c with scrubPos := 0, passDone := true }).evt (1453 + 32 * c)
      else s.setChan c { s.chan c with scrubPos := pos }
    (s.scrubProgress, n)

/-- POWER_DOWN_ENTRY (R265). -/
def State.powerDownEntry (s : State) (c r : Nat) : State :=
  if s.rb Reg.DMC_PD 31 && s.chLive c && decide (r < s.rf (Reg.DMC_CH_STATUS c) 19 16) then s.setRank c r { s.rank c r with powerDown := true } else s

/-- A millisecond of power-down counted (R276). -/
def State.dmcTick (s : State) : State :=
  s.each 6 fun c s =>
    let ch := s.chan c
    if ch.ranks.any fun r => r.powerDown then
      let n := ch.pdRem + s.dmcCycles
      (s.setChan c { ch with pdRem := n % 1024 }).cntSat (Reg.DMC_CH_PD c) 32 (n / 1024)
    else s

/-- What writing a DMC register does beyond storing it. -/
def State.dmcWritten (s : State) (a : Nat) (v : Word) : State :=
  match (List.range 6).find? (fun c => a == Reg.DMC_CH_CMD c) with
  | some c => match v.toNat % 16 with
    | 1 => s.trainCmd c (bit v 4)
    | 2 => s.retireCmd c
    | _ => s
  | none => s

/-! ### The commands -/

/-- TRAIN (R248). -/
def execTrain (p : Party) (c : Fin 6) (s : State) : Host.Outcome State Fault Refusal := done (s.regWrite p (Reg.DMC_CH_CMD c) 1 fun s => s.trainCmd c false)

/-- TRAIN_KEEP (R249). -/
def execTrainKeep (p : Party) (c : Fin 6) (s : State) : Host.Outcome State Fault Refusal := done (s.regWrite p (Reg.DMC_CH_CMD c) 17 fun s => s.trainCmd c true)

/-- RETIRE (R269). -/
def execRetire (p : Party) (c : Fin 6) (s : State) : Host.Outcome State Fault Refusal := done (s.regWrite p (Reg.DMC_CH_CMD c) 2 fun s => s.retireCmd c)

/-- RETIRE_COPY_DONE (R269). -/
def execRetireCopyDone (c : Fin 6) (s : State) : Host.Outcome State Fault Refusal := done (s.retireDone c)

/-- RETRAIN_CHECK (R250). -/
def execRetrainCheck (c : Fin 6) (counts : List Nat) (s : State) : Host.Outcome State Fault Refusal := done (s.retrainCheck c counts)

/-- MR4_POLL (R260). -/
def execMr4Poll (c : Fin 6) (codes : List Byte) (s : State) : Host.Outcome State Fault Refusal := done (s.mr4Poll c codes)

/-- REFRESH_TICK (R259). -/
def execRefreshTick (c : Fin 6) (rank : Fin 4) (s : State) : Host.Outcome State Fault Refusal := done (s.refreshTick c rank)

/-- MEMORY_REQUEST (R256). -/
def execMemoryRequest (rq : MemReq) (s : State) : Host.Outcome State Fault Refusal := done (s.memRequest rq)

/-- TS_POLL (R264). -/
def execTsPoll (c : Fin 6) (reading : Option Int) (s : State) : Host.Outcome State Fault Refusal := done (s.tsPoll c reading)

/-- POWER_DOWN_ENTRY (R265). -/
def execPowerDownEntry (c : Fin 6) (rank : Fin 4) (s : State) : Host.Outcome State Fault Refusal := done (s.powerDownEntry c rank)

/-- CHANNEL_JOIN (R273). -/
def execChannelJoin (c : Fin 6) (s : State) : Host.Outcome State Fault Refusal := done (if s.pgState (chPage c) = stReturning then s.chanJoin c else s)

/-- DMC_COMMAND_SLOT (R256). -/
def execDmcCommandSlot (c : Fin 6) (sub : Bool) (s : State) : Host.Outcome State Fault Refusal := done (s.commandSlot c sub)

end Sys2Proof.Machine
end

