-- ==== Sys2Proof/Machine/Plk.lean ====
section
/-! DEFINITION. Colnus Panel Link (spec/08_colnus_panel_link.md): blocks, the stream, frames on the link, bring-up, the back channel,
lanes and their roles. The loss of a lane raises a FENCE fault and is in FaultCmds.lean. -/
namespace Sys2Proof.Machine

abbrev grpPage (g : Nat) : Nat := Reg.page 7 (1 + g)
abbrev lanePage (l : Nat) : Nat := Reg.page 7 (8 + l)

/-- Roles of a lane (R156). -/
abbrev roleNone : Nat := 0
abbrev roleData : Nat := 1
abbrev roleStandin : Nat := 2
abbrev roleFenced : Nat := 3

/-- Stages beyond the numbers of R169. -/
abbrev stageData : Nat := 8
abbrev stageFailed : Nat := 15

def State.grp (s : State) (g : Nat) : Grp := nth Grp.reset s.plk.groups g
/-- A group set, with STATE of its page IDLE or RUN by whether a frame is being sent. -/
def State.setGrp (s : State) (g : Nat) (v : Grp) : State :=
  { s with plk := { s.plk with groups := upd s.plk.groups g v } }.idleRun (grpPage g) v.frame.isSome none
def State.lane (s : State) (l : Nat) : Lane := nth Lane.reset s.plk.lanes l
def State.setLane (s : State) (l : Nat) (v : Lane) : State := { s with plk := { s.plk with lanes := upd s.plk.lanes l v } }

/-- Physical lane of logical lane `k` of group `g` (R156). -/
def State.phys (s : State) (g k : Nat) : Nat := 16 * g + nth 0 (s.grp g).map k

/-- Logical lane of physical lane `l`. -/
def State.logical (s : State) (l : Nat) : Nat := ((s.grp (l / 16)).map.findIdx? (· == l % 16)).getD 0

def State.role (s : State) (l : Nat) : Nat := s.rf (Reg.PLK_LANE_STATUS l) 1 0

/-- Role of logical lane `k` of group `g`. -/
def State.roleOf (s : State) (g k : Nat) : Nat := s.role (s.phys g k)

def State.stage (s : State) (g : Nat) : Nat := s.rf (Reg.PLK_GRP_STATUS g) 3 0

/-- Logical lanes of a group with a role. -/
def State.lanesOf (s : State) (g r : Nat) : List Nat := (List.range 16).filter fun k => s.roleOf g k == r

def maskOf (l : List Nat) : Nat := l.foldl (fun a k => a + 2 ^ k) 0

/-- HEALTHY and the stand-ins as they stand (R178). -/
def State.grpHealth (s : State) (g : Nat) : State :=
  let st := s.lanesOf g roleStandin
  (s.wf (Reg.PLK_GRP_STATUS g) 19 15 ((s.lanesOf g roleData).length + st.length)).wf (Reg.PLK_GRP_MASK g) 31 16 (maskOf st)

/-- A lane's role set. -/
def State.setRole (s : State) (l r : Nat) : State := (s.wf (Reg.PLK_LANE_STATUS l) 1 0 r).grpHealth (l / 16)

/-- STATE of a lane's page changes, with its event (R180). -/
def State.laneState (s : State) (l v : Nat) : State := s.toState (lanePage l) v (some (784 + 2 * l))

/-- STAGE of a group changes, with its events; PLK_UP follows (R169, R177, R180). -/
def State.setStage (s : State) (g v : Nat) : State :=
  if s.stage g = v then s
  else
    let s := ((s.wf (Reg.PLK_GRP_STATUS g) 3 0 v).wb Reg.PLK_UP g (v == stageData)).evt (736 + 8 * g)
    s.when (v == stageData) fun s => s.evt (737 + 8 * g)

/-- Fault source 245 + 2g with its cause (R178). -/
def State.grpNotice (s : State) (g cause : Nat) : State := (s.wf (Reg.PLK_GRP_STATUS g) 30 28 cause).notice (245 + 2 * g)

/-! ### Blocks (R157, R160) -/

/-- A control block's payload: type, bits [55:8], and the CRC-8 over bytes 1 to 6. -/
def controlBlock (type bits : Nat) : Nat :=
  let body := bits % 2 ^ 48
  type + body * 256 + crc8 (leBytes 6 body) * 2 ^ 56

def fillerBlock : Nat := controlBlock 0x1E 0

/-- Bits [11:8] and [14:12] of a marker: LANE and GROUP. -/
def laneBits (g k : Nat) : Nat := k + g * 16

/-! ### What a lane sends (R156, R157, R171) -/

/-- The scrambler x^58 + x^39 + 1 over at most 39 bits `d`, with the 58 latest bits out in `h`: the bits out, and the history after them. -/
def scrambleBits (h n d : Nat) : Nat × Nat :=
  let o := ((d ^^^ h) ^^^ (h / 2 ^ 19)) % 2 ^ n
  (o, (h + o * 2 ^ 58) / 2 ^ n)

/-- A payload of 64 bits scrambled (R157). -/
def scramble (h d : Nat) : Nat × Nat :=
  let a := scrambleBits h 39 (d % 2 ^ 39)
  let b := scrambleBits a.2 25 (d / 2 ^ 39 % 2 ^ 25)
  (a.1 + b.1 * 2 ^ 39, b.2)

/-- Length and tap of the patterns of R171: 1 PRBS7, 2 PRBS15, 3 PRBS31. -/
def prbsTaps (p : Nat) : Nat × Nat := if p = 1 then (7, 6) else if p = 2 then (15, 14) else (31, 28)

/-- `k` bits of a pattern from the history `h`: the bits, and the history after them. -/
def prbsBits (n m : Nat) : Nat → Nat → Nat × Nat
  | h, 0 => (0, h)
  | h, k + 1 =>
    let o := (h + h / 2 ^ (n - m)) % 2
    let r := prbsBits n m (h / 2 + o * 2 ^ (n - 1)) k
    (o + 2 * r.1, r.2)

/-- What a lane is used for. -/
inductive LaneUse where
  | silent | service | training | near | pattern (p : Nat)
  deriving DecidableEq, Repr

/-- A lane that bring-up or its return trains: it sends ALIGN and FILLER (R169, R175). R156 says that a lane of role NONE or FENCED in bring-up or
return sends nothing or test patterns, R169 and R175 that ALIGN and FILLER go out on it: these are followed (log 80). -/
def State.training (s : State) (l : Nat) : Bool :=
  let g := l / 16
  s.pgState (lanePage l) == stReturning ||
    (decide (1 ≤ s.stage g ∧ s.stage g ≤ 7) && s.role l == roleNone && (s.grp g).taking.contains (s.logical l))

/-- On bypass no lane transmits (R319). R156, R171: PATTERN and LOOPBACK act only in the roles NONE and FENCED; a lane's TEST sends PRBS31, a group's TEST and NEAR_PARALLEL filler. -/
def State.laneUse (s : State) (l : Nat) : LaneUse :=
  if s.rb (Reg.PLL_STATUS 2) 9 then .silent
  else if s.pgState (grpPage (l / 16)) = stTest then .near
  else if s.role l = roleData ∨ s.role l = roleStandin then .service
  else if s.pgState (lanePage l) = stTest then .pattern 3
  else if s.rf (Reg.PLK_LANE_CTRL l) 5 4 = 2 then .near
  else if s.rf (Reg.PLK_LANE_CTRL l) 9 8 ≠ 0 then .pattern (s.rf (Reg.PLK_LANE_CTRL l) 9 8)
  else if s.training l then .training
  else .silent

/-- A block on a lane: the sync header first, the payload scrambled (R157); INVERT inverts the line (R169, R179). -/
def State.laneBlock (s : State) (l : Nat) (ctl : Bool) (p : Nat) : LaneWord × Lane :=
  let x := s.lane l
  let r := scramble x.scr p
  let line := (if ctl then 2 else 1) + 4 * r.1
  (.block ctl p (if s.rb (Reg.PLK_LANE_CTRL l) 0 then 2 ^ 66 - 1 - line else line), { x with scr := r.2 })

/-- What physical lane `l` sends where a lane in service sends the block `own` and a lane in training the control block `train`, and the lane
after it. -/
def State.laneWord (s : State) (l : Nat) (own : Bool × Nat) (train : Nat) : LaneWord × Lane :=
  match s.laneUse l with
  | .silent => (.silent, s.lane l)
  | .service => s.laneBlock l own.1 own.2
  | .training => s.laneBlock l true train
  | .near => s.laneBlock l true fillerBlock
  | .pattern p =>
    let (n, m) := prbsTaps p
    let r := prbsBits n m (s.lane l).prbs 66
    (.pattern (if s.rb (Reg.PLK_LANE_CTRL l) 0 then 2 ^ 66 - 1 - r.1 else r.1), { s.lane l with prbs := r.2 })

/-- The words of one block time on the logical lanes of a group. -/
def State.rowWords (s : State) (g : Nat) (own : Nat → Bool × Nat) (train : Nat → Nat) : List LaneWord :=
  (List.range 16).map fun k => (s.laneWord (s.phys g k) (own k) (train k)).1

/-- One block time of a group. -/
def State.putRow (s : State) (g : Nat) (own : Nat → Bool × Nat) (train : Nat → Nat) : State :=
  let t := { s with sent := s.sent ++ [Output.plkRow g (s.rowWords g own train)] }
  t.each 16 fun k t => t.setLane (s.phys g k) (s.laneWord (s.phys g k) (own k) (train k)).2

/-- A COMMAND copy may go into the next reserved position (R164). -/
def Grp.commandFits (x : Grp) : Bool := !x.lastCmd && decide (x.slot ≠ 0 ∧ x.slot ≠ 1 ∧ x.slot ≠ 127)

/-- The reserved position 127 of a slot (R160, R164, R168): ALIGN in every 128th, a pending COMMAND where it fits, else FILLER. -/
def State.reserved (s : State) (g : Nat) : State :=
  let x := s.grp g
  let y := { x with pos := 0, slot := (x.slot + 1) % 128, lastCmd := false }
  if x.slot = 0 then
    let f k := controlBlock 0x2D (laneBits g k + x.align * 256)
    (s.putRow g (fun k => (true, f k)) f).setGrp g { y with align := (x.align + 1) % 65536 }
  else
    match x.commandFits, x.cmds with
    | true, (c, k) :: t =>
      (s.putRow g (fun _ => (true, controlBlock 0x66 c)) fun _ => fillerBlock).setGrp g
        { y with lastCmd := true, cmds := if k ≤ 1 then t else (c, k - 1) :: t }
    | _, _ => (s.putRow g (fun _ => (true, fillerBlock)) fun _ => fillerBlock).setGrp g y

/-- A row on the positions 0 to 126 (R160), after the reserved position where that is next. -/
def State.rowOut (s : State) (g : Nat) (own : Nat → Bool × Nat) : State :=
  let s := if (s.grp g).pos = 127 then s.reserved g else s
  (s.putRow g own fun _ => fillerBlock).setGrp g { s.grp g with pos := (s.grp g).pos + 1 }

/-- A row of one control block made per logical lane, on the lanes in service. -/
def State.controlRow (s : State) (g : Nat) (f : Nat → Nat) : State := s.rowOut g fun k => (true, f k)

def State.fillerRow (s : State) (g : Nat) : State := s.controlRow g fun _ => fillerBlock

/-! ### Packets (R158, R159) -/

/-- `n` words of the bit string of emitter values, 30 bits each. -/
def emitterWords (vals : List Nat) : List Nat :=
  let bits := vals.reverse.foldl (fun a v => a * 2 ^ 30 + v) 0
  (List.range ((vals.length * 30 + 63) / 64)).map fun i => bits / 2 ^ (64 * i) % 2 ^ 64

/-- A packet: its tag with the CRC-16, and its emitter words. -/
def packet (kind : Nat) (r0 : Run) (r1 : Option Run) : List Nat :=
  let ws := emitterWords (r0.vals ++ (r1.map (·.vals)).getD [])
  let x1 := (r1.map (·.llx)).getD 0
  let y1 := (r1.map (·.lly)).getD 0
  let tag := kind * 2 ^ 62 + r0.llx * 2 ^ 51 + r0.lly * 2 ^ 40 + x1 * 2 ^ 29 + y1 * 2 ^ 18 + r0.frame % 4 * 2 ^ 16
  (tag + crc16 ((leBytes 8 tag).drop 2 ++ ws.flatMap (leBytes 8))) :: ws

/-- A PAD word. -/
def padWord : Nat := let t := 2 * 2 ^ 62; t + crc16 ((leBytes 8 t).drop 2)

/-! ### Frames on the link (R161, R173, R174) -/

/-- MODE for a count of data lanes: 0 NORMAL, 1 ALT, 2 DOWN (R173). -/
def modeOf (n : Nat) : Nat := if 14 ≤ n then 0 else if 8 ≤ n then 1 else 2

def State.grpMode (s : State) (g : Nat) : Nat := s.rf (Reg.PLK_GRP_STATUS g) 14 13

/-- The frame being sent is given up or has ended. -/
def State.frameGone (s : State) (g : Nat) : State :=
  s.setGrp g { s.grp g with frame := none, hold := false, runs := 0, pair := none, words := [], fin := false, short := false }

/-- END of the frame being sent (R161); with the common page's ENABLE 0 nothing is sent (R176). -/
def State.sendEnd (s : State) (g : Nat) (hold : Bool) : State :=
  let x := s.grp g
  match x.frame with
  | none => s
  | some n =>
    if !s.enabled (Reg.page 7 0) then s.frameGone g
    else
      let s := s.controlRow g fun k => controlBlock 0x87 (laneBits g k + b2n hold * 128 + n % 65536 * 256 + x.runs % 2 ^ 24 * 2 ^ 24)
      let s := s.wf (Reg.PLK_GRP_RUNS g) 23 0 x.runs
      let s := s.when hold fun s => s.cntSat (Reg.PLK_GRP_HELD g) 32 1
      s.frameGone g

/-- The lanes that leave at the release by FENCE_REQ or ENABLE (R175). -/
def State.laneLeaves (s : State) (g : Nat) : State :=
  s.each 16 fun k s =>
    let l := s.phys g k
    if (s.lane l).leaving then
      let s := s.setLane l { s.lane l with leaving := false }
      (s.setRole l roleFenced).laneState l (if s.enabled (lanePage l) then stFenced else stOff)
    else if (s.lane l).ready then
      let s := s.setLane l { s.lane l with ready := false, byLoss := false }
      (s.setRole l roleStandin).laneState l stIdle
    else s

/-- The new data set D' of R173, as logical lanes. -/
def State.newData (s : State) (g : Nat) : List Nat :=
  let x := s.grp g
  let stay := x.data.filter fun k => s.roleOf g k == roleData
  let st := s.lanesOf g roleStandin
  if x.restripe then ((List.range 16).filter fun k => s.roleOf g k == roleData || s.roleOf g k == roleStandin).take 15
  else if s.grpMode g ≠ 0 then stay ++ st.take (15 - stay.length)
  else stay ++ st.take (x.data.length - stay.length)

/-- Restriping at the release (R173): roles, MAP_SEQ, MODE and their events; true where ALT or DOWN is entered. D' is compared with the LANE_MASK of
the latest FRAME, which is 0 before the first (log 80). -/
def State.restripe (s : State) (g : Nat) : State × Bool :=
  let s := s.laneLeaves g
  let d := s.newData g
  let old := s.rf (Reg.PLK_GRP_MASK g) 15 0
  let m0 := s.grpMode g
  let m := modeOf d.length
  let s := s.each 16 fun k s =>
    let l := s.phys g k
    if d.contains k then (if s.role l ≠ roleData then (s.setRole l roleData).laneState l stRun else s)
    else if s.role l = roleData then (s.setRole l roleStandin).laneState l stIdle
    else s
  let s := s.setGrp g { s.grp g with restripe := false, data := d }
  if maskOf d = old then (s, false)
  else
    let s := s.wf (Reg.PLK_GRP_MASK g) 15 0 (maskOf d)
    let s := (s.wf (Reg.PLK_GRP_STATUS g) 27 24 (s.rf (Reg.PLK_GRP_STATUS g) 27 24 + 1)).wb (Reg.PLK_GRP_STATUS g) 31 false
    let s := (s.wf (Reg.PLK_GRP_STATUS g) 12 8 d.length).wf (Reg.PLK_GRP_STATUS g) 14 13 m
    let s := (s.setGrp g { s.grp g with since := 0, changed := true }).evt (738 + 8 * g)
    (s.when ((m0 == 0) != (m == 0)) fun s => s.evt (742 + 8 * g), m != 0 && m != m0)

/-- MAP_UNCONFIRMED (R174), at the release of the frame PLK_ACK_FRAMES after the change. -/
def State.ackCheck (s : State) (g : Nat) : State :=
  let x := s.grp g
  if x.changed && !s.rb (Reg.PLK_GRP_STATUS g) 31 then
    let n := x.since + 1
    if max 1 (s.rf Reg.PLK_ACK_FRAMES 3 0) ≤ n then
      ((s.setGrp g { x with changed := false }).evt (740 + 8 * g)).grpNotice g 2
    else s.setGrp g { x with since := n }
  else s

def State.queue (s : State) (g : Nat) : List QItem := nth [] s.syn.queues g
def State.setQueue (s : State) (g : Nat) (q : List QItem) : State := { s with syn := { s.syn with queues := upd s.syn.queues g q } }

/-- The oldest item of frame `n` in a queue, and the queue without it: the runs of a frame may lie behind the start of the next. -/
def takeItem (n : Nat) : List QItem → Option (QItem × List QItem)
  | [] => none
  | i :: t => if i.frame = n then some (i, t) else (takeItem n t).map fun r => (r.1, i :: r.2)

/-- Items of other frames dropped from a queue. -/
def dropOld (n : Nat) (q : List QItem) : List QItem := q.filter fun i => i.frame == n

/-- The frame reported as held: a disabled tile page or a disabled SYN left runs out (R161). -/
def State.reportedShort (s : State) (g n : Nat) : Bool :=
  (s.grp g).short || (s.queue g).any fun i => i == .fin n true

/-- A group sends FRAME markers (R162, R169, R176). -/
def State.grpSends (s : State) (g : Nat) : Bool :=
  s.enabled (Reg.page 7 0) && s.enabled (grpPage g) && !(s.grp g).stopped && s.stage g == stageData && s.cmtRuns && s.pwr.state == 0

/-- LINK_RELEASE of frame `n` in one group (R161); true where ALT or DOWN is entered. A frame held from its start ends at once. -/
def State.releaseGroup (s : State) (g n : Nat) : State × Bool :=
  let s := match (s.grp g).frame with
    | some m =>
      if m = n then s
      else
        let late := s.enabled (Reg.page 7 0) && !s.reportedShort g m
        (s.sendEnd g true).when late fun s => ((s.cntSat (Reg.PLK_GRP_LATE g) 32 1).evt (739 + 8 * g)).grpNotice g 1
    | none => s
  let s := s.setQueue g (dropOld n (s.queue g))
  if !s.grpSends g then (s, false)
  else
    let s := s.ackCheck g
    let (s, degraded) := s.restripe g
    let lay := s.geo.layout
    let mask := s.rf (Reg.PLK_GRP_MASK g) 15 0
    let seq := s.rf (Reg.PLK_GRP_STATUS g) 27 24
    let s := s.controlRow g fun k => controlBlock 0x78 (laneBits g k + n % 65536 * 256 + mask * 2 ^ 24 + s.grpMode g * 2 ^ 40 + lay * 2 ^ 42 + seq * 2 ^ 44)
    let s := s.cntWrap (Reg.PLK_GRP_FRAMES g)
    let s := s.setGrp g { s.grp g with frame := some n, hold := false, runs := 0, pair := none, words := [], fin := false, short := false }
    let held := (s.queue g).any fun i => i == .start n true
    let s := s.setQueue g ((s.queue g).filter fun i => match i with | .start _ _ => false | .fin _ _ => !held | _ => true)
    (if held then s.sendEnd g true else s, degraded)

/-- A frame sends this run (R173): all in NORMAL, the rows of the frame's parity in ALT, none in DOWN. -/
def State.sendsRun (s : State) (g fr : Nat) (r : Run) : Bool :=
  if s.grpMode g = 0 then true else if s.grpMode g = 1 then r.lly % 2 == fr % 2 else false

/-- Runs read from the queue into the stream until `n` words are ready or the frame's end is read (R158, R159, R173). -/
def State.fillWords (s : State) (g n : Nat) : Nat → State
  | 0 => s
  | fuel + 1 =>
    let x := s.grp g
    if n ≤ x.words.length ∨ x.fin then s
    else
      match x.frame with
      | none => s
      | some fr =>
        match takeItem fr (s.queue g) with
        | none => s
        | some (i, t) =>
          let s := s.setQueue g t
          match i with
          | .run r =>
            let s := if !s.sendsRun g fr r then s
              else if r.vals.length = 64 then
                match x.pair with
                | none => s.setGrp g { x with pair := some r }
                | some q => s.setGrp g { x with pair := none, words := x.words ++ packet 3 q (some r), runs := x.runs + 2 }
              else s.setGrp g { x with words := x.words ++ packet 1 r none, runs := x.runs + 1 }
            State.fillWords s g n fuel
          | .lost _ => State.fillWords (s.setGrp g { x with hold := true }) g n fuel
          | .start _ _ => State.fillWords s g n fuel
          | .fin _ short =>
            let w := match x.pair with | some q => packet 1 q none | none => []
            s.setGrp g { x with pair := none, words := x.words ++ w, runs := x.runs + b2n x.pair.isSome, fin := true, hold := x.hold || short, short := short }

/-- STREAM_ROW_SEND (R160): a stream row where n words are ready, the padded last row after the frame-end item, else a filler row. -/
def State.rowSend (s : State) (g : Nat) : State :=
  if !s.enabled (Reg.page 7 0) then s
  else if (s.grp g).frame.isNone then s.fillerRow g
  else
    let mask := s.rf (Reg.PLK_GRP_MASK g) 15 0
    let ls := (List.range 16).filter fun k => mask.testBit k
    let n := ls.length
    let s := s.fillWords g (max 1 n) 300
    let x := s.grp g
    if n = 0 ∨ (x.words.length < n ∧ (!x.fin ∨ x.words.isEmpty)) then s.fillerRow g
    else
      let ws := x.words.take n ++ List.replicate (n - x.words.length) padWord
      let s := s.rowOut g fun k => if mask.testBit k then (false, nth 0 ws ((ls.findIdx? (· == k)).getD 0)) else (true, fillerBlock)
      s.setGrp g { s.grp g with words := x.words.drop n }

/-- GROUP_END_SEND (R161). In DOWN every frame ends with HOLD = 1 (R173). -/
def State.groupEnd (s : State) (g : Nat) : State :=
  if !s.enabled (Reg.page 7 0) then s
  else
    let s := s.fillWords g 1 300
    let x := s.grp g
    if x.frame.isSome ∧ x.fin ∧ x.words.isEmpty then s.sendEnd g (x.hold || s.grpMode g == 2) else s

/-- ALIGN_SEND (R160): the reserved position, where it is next and carries ALIGN. -/
def State.alignSend (s : State) (g : Nat) : State :=
  if s.enabled (Reg.page 7 0) ∧ (s.grp g).pos = 127 ∧ (s.grp g).slot = 0 then s.reserved g else s

/-- COMMAND_COPY_SEND (R164, R168): the reserved position, where it is next and carries a copy of the oldest command. -/
def State.commandCopy (s : State) (g : Nat) : State :=
  let x := s.grp g
  if s.enabled (Reg.page 7 0) ∧ x.pos = 127 ∧ x.commandFits ∧ !x.cmds.isEmpty then s.reserved g else s

/-- A command issued to the panel, to be sent twice (R168): CODE and ARGS. -/
def State.panelCommand (s : State) (g c : Nat) : State := let x := s.grp g; s.setGrp g { x with cmds := x.cmds ++ [(c % 2 ^ 48, 2)] }

/-! ### Bring-up (R169, R170) -/

/-- BRINGUP fails: STAGE FAILED with the stage (R169). -/
def State.bringupFail (s : State) (g st : Nat) : State := (s.wf (Reg.PLK_GRP_STATUS g) 23 20 st).setStage g stageFailed

/-- A lane that fails a stage is fenced with role FENCED (R169). -/
def State.laneFails (s : State) (g k : Nat) : State :=
  let l := s.phys g k
  let s := (s.setRole l roleFenced).laneState l stFenced
  let s := s.setLane l { s.lane l with failed := true }
  s.setGrp g { s.grp g with taking := (s.grp g).taking.filter (· ≠ k) }

/-- A lane takes part in bring-up (R169). -/
def State.laneTakes (s : State) (l : Nat) : Bool := s.enabled (lanePage l) && s.plk.eqDone && !s.rb Reg.PWR_GATE_MISC (8 + l / 16)

/-- Lane `k` starts a bring-up with role NONE; it takes part, or it is off. -/
def State.laneStarts (s : State) (g k : Nat) : State :=
  let l := s.phys g k
  let s := (s.wf (Reg.PLK_LANE_STATUS l) 27 24 k).wf (Reg.PLK_LANE_STATUS l) 31 28 0
  let takes := s.laneTakes l
  let s := s.setLane l { s.lane l with byLoss := false, ready := false, leaving := false, failed := !takes, clean := 0, good := 0, rxIn := none }
  let s := (s.setRole l roleNone).laneState l (if s.enabled (lanePage l) then stIdle else stOff)
  if takes then s.setGrp g { s.grp g with taking := (s.grp g).taking ++ [k] } else s

/-- BRINGUP starts at stage 1 with the map as written (R169, R178). A frame being sent is given up. Where fewer than eight lanes take part, the
spec names no stage: FAIL_STAGE is 1, and STAGE 1 is not shown (log 80). -/
def State.bringupStart (s : State) (g : Nat) : State :=
  let m := (List.range 16).map fun k => s.rf (if k < 8 then Reg.PLK_GRP_MAP_LO g else Reg.PLK_GRP_MAP_HI g) (4 * (k % 8) + 3) (4 * (k % 8))
  if (List.range 16).any (fun i => !m.contains i) then s.bringupFail g 0
  else
    let s := s.frameGone g
    let s := s.setGrp g { s.grp g with map := m, held := false, deskew := false, rate := false, restripe := false, changed := false, taking := [], data := [] }
    let s := s.each 16 fun k s => s.laneStarts g k
    if (s.grp g).taking.length < 8 then s.bringupFail g 1 else (s.wf (Reg.PLK_GRP_STATUS g) 23 20 0).setStage g 1

/-- Logical lane `k` has done its part of stage `st` (R169). -/
def State.laneDone (s : State) (g st k : Nat) : Bool :=
  let l := s.phys g k
  let rep := s.rf (Reg.PLK_LANE_STATUS l) 31 28
  match st with
  | 1 => s.rb (Reg.PLK_GRP_BC_STATUS g) 31 && decide (1 ≤ rep)
  | 3 => decide (2 ≤ rep ∧ 2 ≤ (s.lane l).clean)
  | 4 => rep == 4
  | 5 => (s.lane l).rxIn == some k
  | _ => true

/-- The stage's done condition holds (R169). -/
def State.stageDone (s : State) (g : Nat) : Bool :=
  let st := s.stage g
  let x := s.grp g
  (x.taking.all fun k => s.laneDone g st k) && (st != 2 || x.lock) && (st != 6 || x.deskew) && (st != 7 || x.rate) && decide (1 ≤ st ∧ st ≤ 7)

/-- The group reaches DATA (R156, R169): roles are given out. LANE_MASK and MODE change at the first FRAME (R173, R178). -/
def State.reachData (s : State) (g : Nat) : State :=
  let t := (s.grp g).taking
  let s := s.each 16 fun k s =>
    let l := s.phys g k
    if !t.contains k then s
    else if (t.filter (· < k)).length < 15 then (s.setRole l roleData).laneState l stRun
    else (s.setRole l roleStandin).laneState l stIdle
  (s.setGrp g { s.grp g with data := s.lanesOf g roleData }).setStage g stageData

/-- The next stage starts (R169). -/
def State.nextStage (s : State) (g : Nat) : State :=
  let s := s.setGrp g { s.grp g with held := false }
  if s.stage g = 2 ∧ !s.rb (Reg.PLK_GRP_BC_STATUS g) 31 then s.bringupFail g 2
  else if s.stage g = 7 then s.reachData g
  else s.setStage g (s.stage g + 1)

/-- BRINGUP (R169): starts a bring-up, or lets a stage that MANUAL holds go on. -/
def State.bringup (s : State) (g : Nat) : State := if (s.grp g).held then s.nextStage g else s.bringupStart g

/-- BRINGUP_STAGE_DONE (R169). -/
def State.bringupDone (s : State) (g : Nat) : State :=
  if !s.stageDone g then s
  else if s.rb (Reg.PLK_GRP_CTRL g) 1 then s.setGrp g { s.grp g with held := true }
  else s.nextStage g

/-- BRINGUP_STAGE_TIMEOUT (R169): the lanes that have not done their part are fenced; in DESKEW and RATE, where no report names a lane, those of
`failing` (logical). Too few lanes, or no back channel by the end of LOCK, fail the bring-up. -/
def State.bringupTimeout (s : State) (g : Nat) (failing : Nat) : State :=
  let st := s.stage g
  if st = 0 ∨ 7 < st then s
  else
    let s := s.eachOf ((s.grp g).taking.filter fun k => !s.laneDone g st k || (decide (6 ≤ st) && failing.testBit k)) fun k s => s.laneFails g k
    if (s.grp g).taking.length < 8 ∨ (st = 2 ∧ !s.rb (Reg.PLK_GRP_BC_STATUS g) 31) then s.bringupFail g st
    else s.bringupDone g

/-! ### Reports and the firmware's corrections (R167, R169) -/

/-- A bit-slip of lane `l`, at most 65 (R179). -/
def State.slipLane (s : State) (l : Nat) : State := s.wf (Reg.PLK_LANE_STATUS l) 22 16 (min 65 (s.rf (Reg.PLK_LANE_STATUS l) 22 16 + 1))

/-- The map that brings every lane taking part to the input of its logical number (R169, ORDER): the lane that arrives at input `k` becomes logical
lane `k`, and the lanes that do not take part fill what is left in order. None where the reports do not give one. -/
def State.orderMap (s : State) (g : Nat) : Option (List Nat) :=
  let x := s.grp g
  let at_ (k : Nat) : Option Nat := (x.taking.find? fun j => (s.lane (s.phys g j)).rxIn == some k).map fun j => nth 0 x.map j
  let used := (List.range 16).filterMap at_
  let free := x.map.filter fun p => !used.contains p
  let m := ((List.range 16).foldl (fun (acc : List Nat × List Nat) k => match at_ k with
    | some p => (acc.1 ++ [p], acc.2)
    | none => (acc.1 ++ [acc.2.headD 0], acc.2.drop 1)) ([], free)).1
  if used.length = x.taking.length ∧ (List.range 16).all m.contains then some m else none

/-- The ORDER stage rewrites PLK_GRP_MAP where the inputs reported are a permutation and not as configured (R169; log 80). -/
def State.reorder (s : State) (g : Nat) : State :=
  let x := s.grp g
  match s.orderMap g with
  | some m =>
    if m = x.map then s
    else
      let phys := x.taking.map fun k => nth 0 x.map k
      let s := s.setGrp g { x with map := m, taking := (List.range 16).filter fun k => phys.contains (nth 0 m k) }
      let nib (o : Nat) : Nat := (List.range 8).foldl (fun a i => a + nth 0 m (o + i) * 16 ^ i) 0
      let s := (s.wn (Reg.PLK_GRP_MAP_LO g) (nib 0)).wn (Reg.PLK_GRP_MAP_HI g) (nib 8)
      s.each 16 fun k s =>
        let l := s.phys g k
        (s.wf (Reg.PLK_LANE_STATUS l) 27 24 k).setLane l { s.lane l with rxIn := none }
  | none => s

/-- The firmware's correction after a report of physical lane `l` (R169, R175): one slip per report in SLIP that is not clean, INVERT at STATUS 3 in
POLARITY, the map in ORDER; a returning lane has the corrections of SLIP and POLARITY for itself. -/
def State.correct (s : State) (l status errs : Nat) : State :=
  let g := l / 16
  let back := s.pgState (lanePage l) == stReturning
  let part := back || (s.grp g).taking.contains (s.logical l)
  if !part then s
  else
    let slip := (back || s.stage g == 3) && (decide (status < 2) || (status == 2 && decide (errs ≠ 0)))
    let inv := (back || s.stage g == 4) && status == 3
    let s := if slip then s.slipLane l else s
    let s := if inv then s.wb (Reg.PLK_LANE_CTRL l) 0 true else s
    if !back && s.stage g == 5 then s.reorder g else s

/-- What a LANE_REPORT for logical lane `k` records (R167, R169, R175). -/
def State.reportIn (s : State) (g k rx status errs : Nat) : State :=
  let l := s.phys g k
  let s := (s.wf (Reg.PLK_LANE_STATUS l) 31 28 status).cntSat (Reg.PLK_LANE_SYNC_ERR l) 32 errs
  let x := s.lane l
  let s := s.setLane l { x with rxIn := some rx, clean := if 2 ≤ status ∧ errs = 0 then x.clean + 1 else 0, good := if status = 4 ∧ errs = 0 then x.good + 1 else 0 }
  s.correct l status errs

/-- EQ_TABLE_APPLY (R170). -/
def State.eqApply (s : State) (img : List Byte) : State :=
  let s := { s with plk := { s.plk with eqDone := true } }
  if img.length = 448 ∧ leAt img 0 4 = 0x51454C50 ∧ leAt img 4 2 = 1 ∧ leAt img 6 2 = 96 ∧ leAt img 8 4 = crc32c (img.drop 64) ∧ leAt img 12 8 ≠ 0
      ∧ ((img.drop 20).take 44).all (fun b => b = 0) then
    let s := s.each 96 fun l s => s.wr (Reg.PLK_LANE_EQ l) (applyLim (wd (leAt img (64 + 4 * l) 4) &&& 0x3F1F0FFF) .taps)
    (s.wr64 Reg.PLK_EQ_ID_LO (leAt img 12 8)).evt 977
  else
    let s := s.each 96 fun l s => s.wr (Reg.PLK_LANE_EQ l) 0x30000000
    ((s.wr64 Reg.PLK_EQ_ID_LO 0).evt 978).notice 258

/-! ### The back channel (R165 to R167) -/

/-- A valid message has arrived (R166); false where the receiver has no block lock and so receives none. -/
def State.bcMessage (s : State) (g : Nat) (f : State → State) : State :=
  if (s.grp g).lock then
    let s := s.setGrp g { s.grp g with msg := true }
    f (s.wb (Reg.PLK_GRP_BC_STATUS g) 31 true)
  else s

/-- The back channel goes down (R166). -/
def State.bcDown (s : State) (g : Nat) : State :=
  if s.rb (Reg.PLK_GRP_BC_STATUS g) 31 then ((s.wb (Reg.PLK_GRP_BC_STATUS g) 31 false).evt (743 + 8 * g)).grpNotice g 3 else s

/-- A message for the host's queue of 32 (R167). -/
def State.bcQueue (s : State) (g code args : Nat) : State :=
  let x := s.grp g
  if x.queue.length < 32 then
    let s := s.setGrp g { x with queue := x.queue ++ [controlBlock 0x33 (code + args % 2 ^ 40 * 256)] }
    (s.wf (Reg.PLK_GRP_BC_STATUS g) 5 0 (x.queue.length + 1)).evt (741 + 8 * g)
  else s.wf (Reg.PLK_GRP_BC_STATUS g) 23 16 (satAdd 8 (s.rf (Reg.PLK_GRP_BC_STATUS g) 23 16) 1)

/-- The oldest waiting message, or zero (R178). -/
def State.bcOldest (s : State) (g : Nat) : Nat := (s.grp g).queue.head?.getD 0

/-- A read of PLK_GRP_BC_HI removes the oldest message (R178). -/
def State.bcPop (s : State) (g : Nat) : State :=
  let x := s.grp g
  (s.setGrp g { x with queue := x.queue.drop 1 }).wf (Reg.PLK_GRP_BC_STATUS g) 5 0 (x.queue.length - 1)

/-- MAP_ACK (R167, R174). -/
def State.mapAck (s : State) (g seq : Nat) : State := s.when (s.rf (Reg.PLK_GRP_STATUS g) 27 24 == seq) fun s => s.wb (Reg.PLK_GRP_STATUS g) 31 true

/-- FRAME_REPORT (R167). -/
def State.frameReport (s : State) (g : Nat) (held : Bool) (runs : Nat) : State := s.wn (Reg.PLK_GRP_PANEL_RUNS g) (b2n held * 2 ^ 31 + runs)

/-- TEMP (R167, R50). -/
def State.bcTemp (s : State) (g t : Nat) : State := (s.wn (Reg.PLK_GRP_TEMP g) (2 ^ 31 + t % 65536)).geoNewReading g 3 t

/-! ### Commands (R178, R179) -/

/-- A write of PLK_GRP_CMD. -/
def State.grpCmd (s : State) (g : Nat) (v : Word) : State :=
  match fld v 3 0 with
  | 1 => s.bringup g
  | 2 => s.setGrp g { s.grp g with restripe := true }
  | 3 => s.panelCommand g (s.rn (Reg.PLK_GRP_TX_LO g) / 256 + s.rf (Reg.PLK_GRP_TX_HI g) 23 0 * 2 ^ 24)
  | _ => s

/-- A write of PLK_LANE_SLIP (R179): ignored unless the role is NONE or FENCED; at most 65 slips. -/
def State.laneSlip (s : State) (l : Nat) (v : Word) : State :=
  if bit v 0 ∧ (s.role l = roleNone ∨ s.role l = roleFenced) then s.slipLane l else s

/-- The test pattern of lane `l` starts at a state that the spec leaves open (R171): any but all zeros. -/
def State.seedLane (s : State) (l p : Nat) : State :=
  let (v, s) := s.free 31
  s.setLane l { s.lane l with prbs := v.toNat % (2 ^ (prbsTaps p).1 - 1) + 1 }

/-- A write of PLK_LANE_CTRL (R171, R179): FAR is refused for lane 16g and before stage LOCK, and LOOPBACK then reads 0; a pattern starts. -/
def State.laneCtrl (s : State) (l : Nat) (old : Word) : State :=
  let a := Reg.PLK_LANE_CTRL l
  let st := s.stage (l / 16)
  let s := if s.rf a 5 4 = 3 ∧ (l % 16 = 0 ∨ st < 2 ∨ st = stageFailed) then s.wf a 5 4 0 else s
  if s.rf a 9 8 ≠ 0 ∧ s.rf a 9 8 ≠ fld old 9 8 then s.seedLane l (s.rf a 9 8) else s

/-- Side effects of a write of a PLK register beyond storing it. -/
def State.plkWritten (s : State) (a : Nat) (v old : Word) : State :=
  if 0x701000 ≤ a ∧ a < 0x707000 ∧ a % 0x1000 = 0x40 then s.grpCmd ((a - 0x701000) / 0x1000) v
  else if 0x708000 ≤ a ∧ a < 0x768000 ∧ a % 0x1000 = 0x40 then s.laneCtrl ((a - 0x708000) / 0x1000) old
  else if 0x708000 ≤ a ∧ a < 0x768000 ∧ a % 0x1000 = 0x4C then s.laneSlip ((a - 0x708000) / 0x1000) v
  else s

/-! ### Meanings -/

/-- STREAM_ROW_SEND (R160). -/
def execStreamRowSend (g : Fin 6) (s : State) : Host.Outcome State Fault Refusal := done (s.rowSend g)

/-- ALIGN_SEND (R160). -/
def execAlignSend (g : Fin 6) (s : State) : Host.Outcome State Fault Refusal := done (s.alignSend g)

/-- COMMAND_COPY_SEND (R168). -/
def execCommandCopySend (g : Fin 6) (s : State) : Host.Outcome State Fault Refusal := done (s.commandCopy g)

/-- GROUP_END_SEND (R161). -/
def execGroupEndSend (g : Fin 6) (s : State) : Host.Outcome State Fault Refusal := done (s.groupEnd g)

/-- HELLO (R167): consumed; it keeps the back channel up. -/
def execHello (g : Fin 6) (_panelId : Word) (_version : Byte) (s : State) : Host.Outcome State Fault Refusal := done (s.bcMessage g fun s => s)

/-- DESKEW (R167). -/
def execDeskew (g : Fin 6) (ok : Bool) (_skew : Byte) (s : State) : Host.Outcome State Fault Refusal :=
  done (s.bcMessage g fun s => s.setGrp g { s.grp g with deskew := ok })

/-- RATE_OK (R167). -/
def execRateOk (g : Fin 6) (s : State) : Host.Outcome State Fault Refusal :=
  done (s.bcMessage g fun s => s.setGrp g { s.grp g with rate := true })

/-- MAP_ACK (R167, R174). -/
def execMapAck (g : Fin 6) (seq : Fin 16) (_frame : Fin 65536) (s : State) : Host.Outcome State Fault Refusal :=
  done (s.bcMessage g fun s => s.mapAck g seq)

/-- FRAME_REPORT (R167). -/
def execFrameReport (g : Fin 6) (held : Bool) (runs : Fin 2097152) (s : State) : Host.Outcome State Fault Refusal :=
  done (s.bcMessage g fun s => s.frameReport g held runs)

/-- FRAME_ID (R167). -/
def execFrameId (g : Fin 6) (frame : Fin 65536) (s : State) : Host.Outcome State Fault Refusal :=
  done (s.bcMessage g fun s => s.setGrp g { s.grp g with repFrame := frame })

/-- TEMP (R167). -/
def execTemp (g : Fin 6) (t : Fin 65536) (s : State) : Host.Outcome State Fault Refusal := done (s.bcMessage g fun s => s.bcTemp g t)

/-- PANEL_FAULT (R167). -/
def execPanelFault (g : Fin 6) (code : Fin 65536) (s : State) : Host.Outcome State Fault Refusal :=
  done (s.bcMessage g fun s => s.bcQueue g 0x0A code)

/-- USER_MESSAGE (R167). -/
def execUserMessage (g : Fin 6) (code : Fin 128) (args : BitVec 40) (s : State) : Host.Outcome State Fault Refusal :=
  done (s.bcMessage g fun s => s.bcQueue g (0x80 + code) args.toNat)

/-- BC_LOST (R166): no valid message for 100 ms. -/
def execBcLost (g : Fin 6) (s : State) : Host.Outcome State Fault Refusal := done ((s.setGrp g { s.grp g with msg := false }).bcDown g)

/-- BACK_CHANNEL_LOCK_LOSS (R166). -/
def execBackChannelLockLoss (g : Fin 6) (s : State) : Host.Outcome State Fault Refusal := done ((s.setGrp g { s.grp g with lock := false }).bcDown g)

/-- BACK_CHANNEL_LOCK_GAIN (R166). -/
def execBackChannelLockGain (g : Fin 6) (s : State) : Host.Outcome State Fault Refusal :=
  done ((s.setGrp g { s.grp g with lock := true }).when (s.grp g).msg fun s => s.wb (Reg.PLK_GRP_BC_STATUS g) 31 true)

/-- BRINGUP (R169). -/
def execBringup (p : Party) (g : Fin 6) (s : State) : Host.Outcome State Fault Refusal := done (s.regWrite p (Reg.PLK_GRP_CMD g) 1 fun s => s.grpCmd g 1)

/-- RESTRIPE (R173). -/
def execRestripe (p : Party) (g : Fin 6) (s : State) : Host.Outcome State Fault Refusal := done (s.regWrite p (Reg.PLK_GRP_CMD g) 2 fun s => s.grpCmd g 2)

/-- SEND_MSG (R168). -/
def execSendMsg (p : Party) (g : Fin 6) (s : State) : Host.Outcome State Fault Refusal := done (s.regWrite p (Reg.PLK_GRP_CMD g) 3 fun s => s.grpCmd g 3)

/-- BRINGUP_STAGE_DONE (R169). -/
def execBringupStageDone (g : Fin 6) (s : State) : Host.Outcome State Fault Refusal := done (s.bringupDone g)

/-- BRINGUP_STAGE_TIMEOUT (R169). -/
def execBringupStageTimeout (g : Fin 6) (failing : BitVec 16) (s : State) : Host.Outcome State Fault Refusal := done (s.bringupTimeout g failing.toNat)

/-- LANE_SLIP (R179). -/
def execLaneSlip (p : Party) (l : Fin 96) (v : Word) (s : State) : Host.Outcome State Fault Refusal :=
  done (s.regWrite p (Reg.PLK_LANE_SLIP l) v fun s => s.laneSlip l v)

/-- EQ_TABLE_APPLY (R170). -/
def execEqTableApply (img : List Byte) (s : State) : Host.Outcome State Fault Refusal := done (s.eqApply img)

/-- A fenced lane may return without a BRINGUP (R175): it is enabled and no bring-up failed it. -/
def State.laneReturns (s : State) (l : Nat) : Bool := s.pgState (lanePage l) == stFenced && s.enabled (lanePage l) && !(s.lane l).failed

/-- The checker of a lane counts a number of bit errors that the spec leaves open (R171). -/
def State.badBits (s : State) (l : Nat) : State :=
  let (v, s) := s.free 32
  s.cntSat (Reg.PLK_LANE_PRBS_ERR l) 32 v.toNat

/-- A lane's TEST has ended and RETURNING starts (R175), with a REPORT command; or the return has failed, and is tried again. -/
def State.laneTested (s : State) (l : Nat) (pass : Bool) : State :=
  let s := s.laneState l (if pass then stReturning else stFenced)
  let s := s.setLane l { s.lane l with ready := false, clean := 0, good := 0, rxIn := none, byLoss := (s.lane l).byLoss || !pass }
  let s := if pass then s else s.badBits l
  s.when pass fun s => s.panelCommand (l / 16) (1 + s.logical l * 256)

/-- LANE_AUTO_RETURN (R175): a lane fenced by loss starts its return, where AUTO_RETURN is set; FENCE_REQ then reads 0. -/
def execLaneAutoReturn (l : Fin 96) (s : State) : Host.Outcome State Fault Refusal :=
  done (if s.rb (Reg.PLK_GRP_CTRL (l / 16)) 0 && (s.lane l).byLoss && s.laneReturns l then
    ((s.wb (Reg.PAGE_CTRL (lanePage l)) 3 false).laneState l stTest).seedLane l 3 else s)

/-- A returning lane has qualified (R175): 100 reports of a millisecond with STATUS 4 and no errors, at the input of its logical number. -/
def State.laneQualified (s : State) (l : Nat) : Bool :=
  s.pgState (lanePage l) == stReturning && decide (100 ≤ (s.lane l).good) && (s.lane l).rxIn == some (s.logical l)

/-- LANE_RETURN_QUALIFIED (R175): STATUS 4 with no errors over 100 ms; the lane waits for the next FRAME marker. -/
def execLaneReturnQualified (l : Fin 96) (s : State) : Host.Outcome State Fault Refusal :=
  done (if s.laneQualified l then s.setLane l { s.lane l with ready := true } else s)

/-- The place in a queue of the run that holds word `w`, and its frame: none where no run does. -/
def runAt : Nat → List QItem → Option (Nat × Nat)
  | _, [] => none
  | w, .run r :: t => if w < r.vals.length then some (0, r.frame) else (runAt (w - r.vals.length) t).map fun x => (x.1 + 1, x.2)
  | w, _ :: t => (runAt w t).map fun x => (x.1 + 1, x.2)

/-- An uncorrectable word of a group's queue (R176): the run that holds it is dropped, which sets HOLD when its place is read. -/
def State.queueUncorr (s : State) (g w : Nat) : State :=
  let s := match runAt w (s.queue g) with
    | some (i, n) => s.setQueue g (upd (s.queue g) i (.lost n))
    | none => s
  (s.wf (Reg.PLK_GRP_STATUS g) 30 28 4).notice 257

/-- PLK_QUEUE_UNCORR (R176): the run that holds the word is dropped and HOLD is set. -/
def execPlkQueueUncorr (g : Fin 6) (word : Fin 16384) (s : State) : Host.Outcome State Fault Refusal := done (s.queueUncorr g word)

/-- A millisecond of the checkers (R171): a lane that receives a pattern from its pins counts errors that the spec leaves open. -/
def State.plkTick (s : State) : State :=
  s.each 96 fun l s =>
    let lb := s.rf (Reg.PLK_LANE_CTRL l) 5 4
    if s.enabled (Reg.page 7 0) ∧ s.rf (Reg.PLK_LANE_CTRL l) 9 8 ≠ 0 ∧ (s.role l = roleNone ∨ s.role l = roleFenced) ∧ (lb = 0 ∨ lb = 3) then s.badBits l
    else s

end Sys2Proof.Machine
end

