-- ==== Sys2Proof/Machine/Tim.lean ====
section
/-! DEFINITION. The local clock, PTP domains and steering (spec/13_network_and_time.md R291 to R301, R305 to R307). -/
namespace Sys2Proof.Machine

abbrev timPage : Nat := Reg.page 14 0
abbrev tdPage (d : Nat) : Nat := Reg.page 14 (1 + d)

/-! ### The clock (R291, R292) -/

/-- RATE, limited to 2.0 × (1 ± 500 × 10^-6) (R291). -/
def rateLimit (r : Nat) : Nat := clampN (2 ^ 47 - 2 ^ 47 * 500 / 1000000) (2 ^ 47 + 2 ^ 47 * 500 / 1000000) r

/-- RATE set: it is one of the 64 whose mean HOLDOVER takes (R298). -/
def State.setRate (s : State) (r : Nat) : State := { s with tim := { s.tim with rate := rateLimit r, rates := (rateLimit r :: s.tim.rates).take 64 } }

/-- The clock stepped by `d` units of 2^-16 ns (R305, R114). -/
def State.clockStep (s : State) (d : Int) : State :=
  let t := ((s.now : Int) + d).toNat
  let s := { s with clock := ⟨t / nsUnit / 1000000000 % 2 ^ 48, t / nsUnit % 1000000000, t % nsUnit * 2 ^ 30⟩ }
  ((s.cntSat Reg.TIM_STEPS 32 1).evt 1765).clockStepped d

/-! ### SSTATE and the domains (R294, R295, R298) -/

abbrev ssFree : Nat := 0
abbrev ssAcquiring : Nat := 1
abbrev ssTracking : Nat := 2
abbrev ssHoldover : Nat := 3
abbrev ssSlewing : Nat := 4
abbrev ssHost : Nat := 5

def State.sstate (s : State) : Nat := s.rf Reg.TIM_STATUS 3 0

/-- SSTATE changes: its event, and what entering HOLDOVER raises and does (R298). -/
def State.toSstate (s : State) (v : Nat) : State :=
  if s.sstate = v then s
  else
    let s := ((s.wf Reg.TIM_STATUS 3 0 v).wb Reg.TIM_STATUS 30 (decide (v = ssHoldover))).evt 1760
    if v = ssHoldover then
      let l := s.tim.rates
      let s := if l.isEmpty then s else { s with tim := { s.tim with rate := l.sum / l.length } }
      (s.evt 1762).notice 446
    else s

abbrev tdDisabled : Nat := 0
abbrev tdListening : Nat := 1
abbrev tdUncal : Nat := 2
abbrev tdLocked : Nat := 3
abbrev tdHoldover : Nat := 4
abbrev tdFaulty : Nat := 5

def State.tdState (s : State) (d : Nat) : Nat := s.rf (Reg.TD_STATE d) 3 0

def State.domain (s : State) (d : Nat) : PtpDomain := nth PtpDomain.reset s.tim.domains d
def State.setDomain (s : State) (d : Nat) (v : PtpDomain) : State := { s with tim := { s.tim with domains := upd s.tim.domains d v } }

/-- The steering domain (R297). -/
def State.steer (s : State) : Nat := b2n (s.rb Reg.TIM_STATUS 28)

/-- The servo is autonomous and takes its offsets from PTP. -/
def State.autonomous (s : State) : Bool := s.rf Reg.TIM_CTRL 5 4 != 1
def State.srcPtp (s : State) : Bool := s.rf Reg.TIM_CTRL 13 12 == 0 || s.rf Reg.TIM_CTRL 13 12 == 3
def State.srcPps (s : State) : Bool := s.rf Reg.TIM_CTRL 13 12 == 1
def State.timOn (s : State) : Bool := s.enabled timPage

/-- The steering domain is LOCKED (R113). -/
def State.timLocked (s : State) : Bool := s.tdState s.steer == tdLocked

/-- The latest offset of a domain, in units of 2^-16 ns. -/
def State.tdOffset (s : State) (d : Nat) : Int := sgn 64 (s.pair64 (Reg.TD_OFFSET_LO d))

/-- The domain agrees: LOCKED, and within TIM_AGREE (R297). -/
def State.agrees (s : State) (d : Nat) : Bool :=
  s.tdState d == tdLocked && decide ((s.tdOffset d).natAbs ≤ s.rf Reg.TIM_AGREE 19 0 * nsUnit)

/-- AGREES of a domain brought up to date. -/
def State.noteAgrees (s : State) (d : Nat) : State :=
  let a := s.agrees d
  if s.rb (Reg.TD_STATE d) 31 = a then s else (s.wb (Reg.TD_STATE d) 31 a).evt (1779 + 8 * d)

/-- TIM_STATUS.LOCKED. -/
def State.noteLocked (s : State) : State :=
  let l := s.timLocked
  if l && !s.rb Reg.TIM_STATUS 31 then (s.wb Reg.TIM_STATUS 31 true).evt 1761 else s.wb Reg.TIM_STATUS 31 l

/-- Domain `d` goes to a state (R294). -/
def State.toTd (s : State) (d v : Nat) : State :=
  if s.tdState d = v then s
  else
    let s := ((s.wf (Reg.TD_STATE d) 3 0 v).evt (1776 + 8 * d)).when (v == tdHoldover) fun s => s.evt (1777 + 8 * d)
    let x := s.domain d
    let s := s.setDomain d { x with offsets := if v = tdLocked then x.offsets else [], bad := 0, everLocked := x.everLocked || v == tdLocked }
    (s.noteAgrees d).noteLocked

/-- Steering moves (R297): never a step. -/
def State.moveSteer (s : State) : State := ((s.wb Reg.TIM_STATUS 28 (s.steer == 0)).evt 1763).noteLocked

/-- OFFSET_LARGE acts (R297). -/
def State.largeActs (s : State) : State := ((s.wb Reg.TIM_STATUS 29 true).evt 1764).notice 447

def State.beyondLarge (s : State) (o : Int) : Bool := decide (s.rf Reg.TIM_OFFSET_LARGE 19 0 * 1000 * nsUnit < o.natAbs)

/-- OFFSET_LARGE clears when both domains are within TIM_OFFSET_LARGE. -/
def State.largeClear (s : State) : State :=
  if (List.range 2).all fun d => !(s.domain d).has || !s.beyondLarge (s.tdOffset d) then s.wb Reg.TIM_STATUS 29 false else s

/-! ### The servo (R295) -/

/-- RATE for a correction of `n / d` ppb: 2.0 × (1 − adj × 10^-9), to nearest. -/
def servoRate (n : Int) (d : Nat) : Nat := (rdiv (2 ^ 47 * ((d : Int) * 1000000000 - n)) ((d : Int) * 1000000000)).toNat

/-- One offset tracked: `o` in units of 2^-16 ns, taken in whole nanoseconds. -/
def State.track (s : State) (o : Int) : State :=
  let m := rdiv o 65536
  let i := clampI (-(2 ^ 47)) (2 ^ 47 - 1) (s.tim.integ + m)
  let kp := s.rf Reg.TIM_SERVO 4 0
  let ki := s.rf Reg.TIM_SERVO 12 8
  let d : Nat := 2 ^ (kp + ki)
  let lim : Int := s.rf Reg.TIM_SLEW 7 0 * 1000 * d
  let n := clampI (-lim) lim (m * 2 ^ ki + i * 2 ^ kp)
  { s with tim := { s.tim with integ := i } }.setRate (servoRate n d)

/-- A valid offset of the source that steers (R295, R297 rule 3, R298). -/
def State.servo (s : State) (o : Int) : State :=
  let small := decide (o.natAbs ≤ s.rf Reg.TIM_LOCK_THRESH 15 0 * nsUnit)
  if s.sstate = ssAcquiring then
    let s := if small then s else s.clockStep (-o)
    s.toSstate ssTracking
  else if s.sstate = ssSlewing ∧ !small then
    s.setRate (servoRate (if 0 < o then s.rf Reg.TIM_SLEW 7 0 * 1000 else -(s.rf Reg.TIM_SLEW 7 0 * 1000 : Int)) 1)
  else (s.toSstate ssTracking).track o

/-- Rule 3 of R297: the offset is removed at exactly TIM_SLEW. -/
def State.slewLarge (s : State) (o : Int) : State := (s.toSstate ssSlewing).servo o

/-- Rule 1 of R297, and R298: the steering domain is in HOLDOVER or FAULTY. -/
def State.steerLost (s : State) : State :=
  let d := s.steer
  if !(s.timOn && s.autonomous && s.srcPtp) || !(s.tdState d == tdHoldover || s.tdState d == tdFaulty) then s
  else if s.rb Reg.TIM_CTRL 8 && s.tdState (1 - d) == tdLocked then s.moveSteer
  else s.toSstate ssHoldover

/-- A domain's new offset in the rules of R297 and the servo. -/
def State.steerOffset (s : State) (d : Nat) (o : Int) : State :=
  let auto := s.timOn && s.autonomous && s.srcPtp
  let rules := auto && s.rb Reg.TIM_CTRL 8
  let st := s.steer
  let s :=
    if !auto then s
    else if d = st then
      if s.sstate ≠ ssAcquiring ∧ s.beyondLarge o then
        if rules && (s.domain d).everLocked && s.agrees (1 - d) then s.moveSteer.largeActs
        else s.largeActs.slewLarge o
      else s.servo o
    else if rules && s.beyondLarge o && s.tdState st == tdLocked then s.largeActs
    else s
  s.largeClear

/-- The port of a FAULTY domain is on its way back and its link is up (R300): the domain measures again. -/
def State.portReturns (s : State) (d : Nat) : Bool :=
  s.tdState d == tdFaulty && s.pgState (Reg.page 13 (1 + (s.domain d).port)) == stReturning && s.rb (Reg.NET_PORT_STATUS (s.domain d).port) 31

/-- A FAULTY domain listens again. -/
def State.tdBack (s : State) (d : Nat) : State := (s.setDomain d { s.domain d with since := 0 }).toTd d tdListening

/-- PTP_OFFSET (R294): an offset of domain `d` in units of 2^-16 ns, with its mean path delay and grandmaster. -/
def State.ptpOffset (s : State) (d : Nat) (o : Int) (mpd gm : Nat) (quality : Word) : State :=
  let s := if s.portReturns d then s.tdBack d else s
  let st := s.tdState d
  if st = tdDisabled ∨ st = tdFaulty then s
  else
    let s := (s.wr64 (Reg.TD_OFFSET_LO d) (unsgn 64 o)).wn (Reg.TD_MPD d) (min (2 ^ 32 - 1) mpd)
    let s := (s.wn (Reg.TD_MEAS_NS d) s.clock.ns).cntWrap (Reg.TD_MEAS_CNT d)
    let s := if s.pair64 (Reg.TD_GM_ID_LO d) = gm then s else (s.wr64 (Reg.TD_GM_ID_LO d) gm).evt (1778 + 8 * d)
    let s := s.wr (Reg.TD_GM_QUALITY d) quality
    let s := if st = tdListening ∨ st = tdHoldover then
        let s := s.toTd d tdUncal
        if d = s.steer ∧ !s.tim.reached ∧ s.timOn ∧ s.autonomous ∧ s.srcPtp then ({ s with tim := { s.tim with reached := true } }).toSstate ssAcquiring else s
      else s
    let x := s.domain d
    let l := (o :: x.offsets).take 16
    let th := s.rf Reg.TIM_LOCK_THRESH 15 0 * nsUnit
    let far := decide (10 * th < o.natAbs)
    let bad := if far then x.bad + 1 else 0
    let s := s.setDomain d { x with offsets := l, bad := bad, has := true, since := x.since + 1 }
    let mean := rdiv l.sum 16
    let s := if s.tdState d = tdUncal ∧ l.length = 16 ∧ l.all (fun v => decide ((v - mean).natAbs ≤ th)) then s.toTd d tdLocked
      else if s.tdState d = tdLocked ∧ 4 ≤ bad then s.toTd d tdUncal
      else s
    ((s.noteAgrees d).noteLocked).steerOffset d o

/-- A receipt timeout that comes again in HOLDOVER: the grandmaster is lost and none is found (R294; DEDUCED, log 56). -/
def State.announceLost (s : State) (d : Nat) : State := if s.tdState d = tdHoldover then s.toTd d tdListening else s

/-- ANNOUNCE_TIMEOUT and SYNC_TIMEOUT (R294). -/
def State.tdTimeout (s : State) (d : Nat) : State :=
  if s.tdState d = tdUncal ∨ s.tdState d = tdLocked then (s.toTd d tdHoldover).steerLost else s

/-- The domains of a network port that leaves service are FAULTY (R294, R300). -/
def State.domainsFaulty (s : State) (port : Nat) : State :=
  (s.each 2 fun d s => if s.tdState d ≠ tdDisabled ∧ (s.domain d).port = port then s.toTd d tdFaulty else s).steerLost

/-- The domains of a port that is back listen again. -/
def State.domainsBack (s : State) (port : Nat) : State :=
  s.each 2 fun d s => if s.tdState d = tdFaulty ∧ (s.domain d).port = port then s.tdBack d else s

/-! ### Commands of TIM_CMD (R305) -/

def State.timRefuse (s : State) : State := s.wb Reg.TIM_STATUS 27 true
def State.timAccept (s : State) : State := s.wb Reg.TIM_STATUS 27 false

def State.timCmd (s : State) (v : Nat) : State :=
  match v % 16 with
  | 1 =>
    let ns := s.rf Reg.TIM_SET_NS 29 0
    if 1000000000 ≤ ns then s.timRefuse
    else s.timAccept.clockStep (((s.rn Reg.TIM_SET_SEC_LO + 2 ^ 32 * s.rf Reg.TIM_SET_SEC_HI 15 0) * 1000000000 + ns : Nat) * nsUnit - s.now)
  | 2 =>
    let d := sgn 64 (s.pair64 Reg.TIM_STEP_LO) * nsUnit
    if (s.now : Int) + d < 0 then s.timRefuse else s.timAccept.clockStep d
  | 3 => if s.tdState (1 - s.steer) = tdLocked then s.timAccept.moveSteer else s.timRefuse
  | 4 => if s.timOn && s.autonomous then s.timAccept.toSstate ssAcquiring else s.timAccept
  | 5 => s.timAccept.clockStep ((s.pair64 Reg.TIM_STEP_LO : Nat) * nsUnit - s.now)
  | _ => s

/-- A rate written by the host (R292, R296): it acts in SERVO HOST alone. -/
def State.rateWritten (s : State) (r : Nat) : State :=
  if s.autonomous then s else (s.setRate r).when s.timOn fun s => s.toSstate ssHost

/-- SSTATE for TIM_CTRL as written, and at ENABLE (R295, R296). -/
def State.timMode (s : State) : State :=
  if !s.timOn then s.toSstate ssFree
  else if !s.autonomous then s.toSstate ssHost
  else if !s.srcPtp && !s.srcPps then s.toSstate ssFree
  else if s.sstate = ssHost then s.toSstate ssTracking
  else if s.sstate = ssFree then s.toSstate ssAcquiring
  else s

/-- ENABLE of the common page goes to 1. -/
def State.timEnable (s : State) : State := ({ s with tim := { s.tim with reached := false, integ := 0 } }).timMode

/-- ENABLE of domain `d` goes to 1 (R294, R306), or to 0. -/
def State.tdEnable (s : State) (d : Nat) (on : Bool) : State :=
  if on then
    let c := s.rd (Reg.TD_CTRL d)
    ((s.setDomain d { PtpDomain.reset with port := fld c 17 16, ctrl := c }).toTd d tdListening)
  else (s.toTd d tdDisabled).setDomain d PtpDomain.reset

/-- HOST_TIMEOUT (R296). -/
def State.hostTimeout (s : State) : State :=
  if s.timOn && !s.autonomous && s.sstate == ssHost then ((s.toSstate ssHoldover).evt 1766).notice 448 else s

/-! ### PPS (R299) -/

/-- PPS_OUT rises at a whole second plus its offset. -/
def State.ppsRise (s : State) : State :=
  if !s.rb Reg.TIM_PPS_OUT_CTRL 0 then s
  else
    let off := sgn 32 (s.rn Reg.TIM_PPS_OUT_OFFSET)
    let sec : Int := 1000000000
    let now : Int := (s.now + nsUnit - 1) / nsUnit
    let k := (now - off + sec - 1) / sec
    let s := s.reachTime (((k * sec + off) * nsUnit).toNat)
    { s with tim := { s.tim with ppsOut := true, ppsRise := s.now } }

/-- The pin goes low. -/
def State.ppsLow (s : State) : State := { s with tim := { s.tim with ppsOut := false } }

/-- PPS_OUT falls WIDTH ms after its rise. -/
def State.ppsFall (s : State) : State :=
  if s.tim.ppsOut then (s.reachTime (s.tim.ppsRise + max 1 (s.rf Reg.TIM_PPS_OUT_CTRL 15 8) * 1000000 * nsUnit)).ppsLow else s

/-- An edge on PPS_IN at time `t`, in units of 2^-16 ns: POLARITY says which is active, and it is timestamped to its tick. -/
def State.ppsIn (s : State) (rising : Bool) (t : Nat) : State :=
  if !s.rb Reg.TIM_PPS_IN_CTRL 0 || rising == s.rb Reg.TIM_PPS_IN_CTRL 1 then s
  else
    let s := s.reachTime t
    let t := s.now
    let s := ((s.wn Reg.TIM_PPS_IN_SEC_LO (t / nsUnit / 1000000000)).wn Reg.TIM_PPS_IN_NS (t / nsUnit % 1000000000)).evt 1767
    if s.timOn && s.autonomous && s.srcPps then
      let f : Int := t % (1000000000 * nsUnit)
      s.servo (if 2 * f ≤ 1000000000 * nsUnit then f else f - 1000000000 * nsUnit)
    else s

def State.ppsLost (s : State) : State :=
  if !s.rb Reg.TIM_PPS_IN_CTRL 0 then s
  else
    let s := (s.evt 1768).notice 449
    if s.timOn && s.autonomous && s.srcPps then s.toSstate ssHoldover else s

/-! ### Registers -/

/-- What writing a TIM register does beyond storing it. -/
def State.timWritten (s : State) (a : Nat) (v : Word) : State :=
  if a = Reg.TIM_CMD then s.timCmd v.toNat
  else if a = Reg.TIM_CTRL then s.timMode
  else if a = Reg.TIM_RATE_HI then s.rateWritten (s.rn Reg.TIM_RATE_LO + 2 ^ 32 * s.rf Reg.TIM_RATE_HI 15 0)
  else if a = Reg.TIM_INCREMENT then s.rateWritten (v.toNat * 2 ^ 22)
  else if a = Reg.TIM_PPS_OUT_CTRL ∧ !bit v 0 then s.ppsLow
  else s

/-- What a TIM register reads as where that is computed (R291, R292). -/
def State.timView (s : State) (a : Nat) : Option Word :=
  let c := s.clock
  if a = Reg.TIM_NOW_SEC_LO then some (wd c.sec)
  else if a = Reg.TIM_NOW_SEC_HI then some (wd (c.sec / 2 ^ 32))
  else if a = Reg.TIM_NOW_NS then some (wd c.ns)
  else if a = Reg.TIM_NOW_FRAC then some (wd (c.frac / 2 ^ 30))
  else if a = Reg.TIM_NOW64_LO then some (wd (c.sec * 1000000000 + c.ns))
  else if a = Reg.TIM_NOW64_HI then some (wd ((c.sec * 1000000000 + c.ns) / 2 ^ 32))
  else if a = Reg.TIM_RATE_LO then some (wd s.tim.rate)
  else if a = Reg.TIM_RATE_HI then some (wd (s.tim.rate / 2 ^ 32))
  else if a = Reg.TIM_INCREMENT then some (wd (s.tim.rate / 2 ^ 22))
  else none

/-! ### The commands -/

/-- PTP_OFFSET (R294). -/
def execPtpOffset (d : Fin 2) (o : Int) (mpd : Word) (gm : BitVec 64) (quality : Word) (s : State) : Host.Outcome State Fault Refusal :=
  done (s.ptpOffset d o mpd.toNat gm.toNat quality)

/-- ANNOUNCE_TIMEOUT (R294). -/
def execAnnounceTimeout (d : Fin 2) (s : State) : Host.Outcome State Fault Refusal :=
  done (if s.tdState d = tdHoldover then s.announceLost d else s.tdTimeout d)

/-- SYNC_TIMEOUT (R294). -/
def execSyncTimeout (d : Fin 2) (s : State) : Host.Outcome State Fault Refusal := done (s.tdTimeout d)

/-- SET (R305). -/
def execTimSet (p : Party) (s : State) : Host.Outcome State Fault Refusal := done (s.regWrite p Reg.TIM_CMD 1 fun s => s.timCmd 1)

/-- TIM_STEP (R305). -/
def execTimStep (p : Party) (s : State) : Host.Outcome State Fault Refusal := done (s.regWrite p Reg.TIM_CMD 2 fun s => s.timCmd 2)

/-- SET64 (R292). -/
def execSet64 (p : Party) (s : State) : Host.Outcome State Fault Refusal := done (s.regWrite p Reg.TIM_CMD 5 fun s => s.timCmd 5)

/-- SWITCH (R297). -/
def execTimSwitch (p : Party) (s : State) : Host.Outcome State Fault Refusal := done (s.regWrite p Reg.TIM_CMD 3 fun s => s.timCmd 3)

/-- REACQUIRE (R295). -/
def execReacquire (p : Party) (s : State) : Host.Outcome State Fault Refusal := done (s.regWrite p Reg.TIM_CMD 4 fun s => s.timCmd 4)

/-- TIM_RATE_WRITE (R296): TIM_INCREMENT, or the pair TIM_RATE. -/
def execTimRateWrite (p : Party) (inc : Bool) (v : BitVec 48) (s : State) : Host.Outcome State Fault Refusal :=
  if inc then done (s.writeReg p Reg.TIM_INCREMENT (wd v.toNat) fun a v s => s.timWritten a v)
  else done ((s.writeReg p Reg.TIM_RATE_LO (wd v.toNat) fun _ _ s => s).writeReg p Reg.TIM_RATE_HI (wd (v.toNat / 2 ^ 32)) fun a v s => s.timWritten a v)

/-- HOST_TIMEOUT (R296). -/
def execHostTimeout (s : State) : Host.Outcome State Fault Refusal := done s.hostTimeout

/-- PPS_OUT_RISE (R299). -/
def execPpsOutRise (s : State) : Host.Outcome State Fault Refusal := done s.ppsRise

/-- PPS_OUT_FALL (R299). -/
def execPpsOutFall (s : State) : Host.Outcome State Fault Refusal := done s.ppsFall

/-- PPS_IN (R299). -/
def execPpsIn (rising : Bool) (t : Nat) (s : State) : Host.Outcome State Fault Refusal := done (s.ppsIn rising t)

/-- PPS_IN_LOST (R299). -/
def execPpsInLost (s : State) : Host.Outcome State Fault Refusal := done s.ppsLost

end Sys2Proof.Machine
end

