-- ==== Sys2Proof/Machine/Net.lean ====
section
/-! DEFINITION. Network ports, their transmit queues and the proof stream (spec/13_network_and_time.md R278 to R290, R300 to R304). -/
namespace Sys2Proof.Machine

abbrev netPage (p : Nat) : Nat := Reg.page 13 (1 + p)

def State.netPort (s : State) (p : Nat) : NetPort := nth NetPort.reset s.net.ports p
def State.setNetPort (s : State) (p : Nat) (v : NetPort) : State := { s with net := { s.net with ports := upd s.net.ports p v } }
def State.sender (s : State) (x : Nat) : Sender := nth Sender.reset s.net.senders x
def State.setSender (s : State) (x : Nat) (v : Sender) : State := { s with net := { s.net with senders := upd s.net.senders x v } }

def State.netLink (s : State) (p : Nat) : Bool := s.rb (Reg.NET_PORT_STATUS p) 31

/-- The port of a proof sender: in a slot the one read at its start (R302). -/
def State.senderPort (s : State) (x : Nat) : Nat :=
  if (s.sender x).slot.isSome then nfld (nth 0 (s.sender x).regs 0).toNat 5 4 else s.rf (Reg.PS_CTRL x) 5 4

/-- The port sends: its link is up, and it is not FENCED or on its way back. -/
def State.netSends (s : State) (p : Nat) : Bool :=
  s.netLink p && (s.pgState (netPage p) == stIdle || s.pgState (netPage p) == stRun || s.pgState (netPage p) == stDraining)

/-- IDLE or RUN of a port page. -/
def State.netState (s : State) (p : Nat) : State :=
  let n := s.netPort p
  let slot := (List.range 4).any fun x => (s.sender x).slot.isSome && s.senderPort x == p
  s.idleRun (netPage p) (n.sending.isSome || !n.items.isEmpty || !n.mgt.isEmpty || !n.ptp.isEmpty || slot) (some (1632 + 32 * p))

/-! ### Frames (R279, R280) -/

/-- The ones' complement sum of 16-bit words, folded. -/
def sum16 : List Byte → Nat
  | [] => 0
  | [a] => a.toNat * 256
  | a :: b :: t => a.toNat * 256 + b.toNat + sum16 t

/-- A sum folded to 16 bits. -/
def fold16 (n : Nat) : Nat :=
  let a := n / 65536 + n % 65536
  let b := a / 65536 + a % 65536
  b / 65536 + b % 65536

/-- The Internet checksum of bytes. -/
def inetSum (l : List Byte) : Nat := 65535 - fold16 (sum16 l)

/-- A frame without its FCS, taken apart: tags, VLAN ID, EtherType, offset of what follows it; IP version (0 for none), header checksum
right, fragment, protocol, offset and end of what follows the IP headers. -/
structure EthInfo where
  tags : Nat
  vid : Nat
  etype : Nat
  off : Nat
  ver : Nat
  ipOk : Bool
  frag : Bool
  proto : Nat
  l4 : Nat
  fin : Nat
  deriving DecidableEq, Repr

/-- An EtherType that opens an 802.1Q tag. -/
def isTag (e : Nat) : Bool := e == 0x8100 || e == 0x88A8

/-- IPv6 extension headers followed: protocol, offset, a Fragment header met. -/
def v6Chain (f : List Byte) : Nat → Nat → Nat → Bool → Nat × Nat × Bool
  | 0, p, o, g => (p, o, g)
  | n + 1, p, o, g =>
    if p = 0 ∨ p = 43 ∨ p = 60 then v6Chain f n (beAt f o 1) (o + 8 * (beAt f (o + 1) 1 + 1)) g
    else if p = 44 then v6Chain f n (beAt f o 1) (o + 8) true
    else (p, o, g)

def ethParse (f : List Byte) : EthInfo :=
  let e0 := beAt f 12 2
  let e1 := beAt f 16 2
  let tags := if isTag e0 then (if isTag e1 then 2 else 1) else 0
  let etype := if tags = 0 then e0 else e1
  let off := 14 + 4 * min tags 1
  let vid := if tags = 0 then 0 else beAt f 14 2 % 4096
  if etype = 0x0800 then
    let ihl := 4 * (beAt f off 1 % 16)
    let fl := beAt f (off + 6) 2
    ⟨tags, vid, etype, off, 4, fold16 (sum16 ((f.drop off).take ihl)) == 65535 && decide (20 ≤ ihl), fl.testBit 13 || fl % 8192 != 0,
      beAt f (off + 9) 1, off + ihl, min f.length (off + beAt f (off + 2) 2)⟩
  else if etype = 0x86DD then
    let c := v6Chain f 16 (beAt f (off + 6) 1) (off + 40) false
    ⟨tags, vid, etype, off, 6, true, c.2.2, c.1, c.2.1, min f.length (off + 40 + beAt f (off + 4) 2)⟩
  else ⟨tags, vid, etype, off, 0, true, false, 0, off, f.length⟩

def EthInfo.isUdp (e : EthInfo) : Bool := e.ver != 0 && e.proto == 17

/-- The addresses of the pseudo-header. -/
def EthInfo.addrs (e : EthInfo) (f : List Byte) : List Byte :=
  if e.ver = 4 then (f.drop (e.off + 12)).take 8 else (f.drop (e.off + 8)).take 32

/-- The sum over pseudo-header and `n` bytes of the upper layer. -/
def EthInfo.l4Sum (e : EthInfo) (f : List Byte) (n : Nat) : Nat :=
  fold16 (sum16 (e.addrs f) + e.proto + n + sum16 ((f.drop e.l4).take n))

/-- The UDP checksum is right (R280): zero is not checked over IPv4, and wrong over IPv6. -/
def EthInfo.udpOk (e : EthInfo) (f : List Byte) : Bool :=
  let n := beAt f (e.l4 + 4) 2
  if n < 8 ∨ e.fin < e.l4 + n then false
  else if beAt f (e.l4 + 6) 2 = 0 then e.ver == 4
  else e.l4Sum f n == 65535

/-- A frame with bytes replaced at an offset. -/
def patch (f : List Byte) (o : Nat) (l : List Byte) : List Byte := f.take o ++ l ++ f.drop (o + l.length)

/-- The UDP checksum filled in. -/
def EthInfo.fillUdp (e : EthInfo) (f : List Byte) : List Byte :=
  let n := beAt f (e.l4 + 4) 2
  let f := patch f (e.l4 + 6) [0, 0]
  let c := 65535 - e.l4Sum f n
  patch f (e.l4 + 6) (beBytes 2 (if c = 0 then 65535 else c))

/-- A frame with its FCS (R279). -/
def withFcs (f : List Byte) : List Byte := f ++ leBytes 4 (crc32 f)

/-- A station address from its register pair: bytes 0 and 1 in the high word. -/
def State.macOf (s : State) (lo : Nat) : List Byte := beBytes 2 (s.rf (lo + 4) 15 0) ++ beBytes 4 (s.rn lo)

def State.netMac (s : State) (p : Nat) : List Byte := s.macOf (Reg.NET_MAC_LO p)

def State.netIp6 (s : State) (p : Nat) : List Byte := (List.range 4).flatMap fun i => beBytes 4 (s.rn (Reg.NET_IP6 p i))

/-- The link-local address formed from a MAC address (PRESUMED RFC 4291, log 59). -/
def linkLocal (mac : List Byte) : List Byte :=
  [0xFE, 0x80, 0, 0, 0, 0, 0, 0, nth 0 mac 0 ^^^ 2, nth 0 mac 1, nth 0 mac 2, 0xFF, 0xFE, nth 0 mac 3, nth 0 mac 4, nth 0 mac 5]

def ptpMulticasts : List (List Byte) :=
  [ [0x01, 0x1B, 0x19, 0, 0, 0], [0x01, 0x80, 0xC2, 0, 0, 0x0E], [0x01, 0, 0x5E, 0, 0x01, 0x81], [0x01, 0, 0x5E, 0, 0, 0x6B]
  , [0x33, 0x33, 0, 0, 0x01, 0x81], [0x33, 0x33, 0, 0, 0, 0x6B] ]

/-- Step 2 of R280. -/
def State.addrTakes (s : State) (p : Nat) (d : List Byte) : Bool :=
  let h := crc32 d / 2 ^ 26
  let mc := (nth 0 d 0).getLsbD 0
  d == List.replicate 6 0xFF || (!mc && d == s.netMac p) || ptpMulticasts.contains d
    || (mc && s.rb (if h < 32 then Reg.NET_MCAST_HASH_LO p else Reg.NET_MCAST_HASH_HI p) (h % 32))

/-- A free error within ±`n` units of 2^-16 ns (R281, R285). -/
def State.timeError (s : State) (n : Nat) : State × Int :=
  let r := s.free 20
  (r.2, ((r.1.toNat % (2 * n + 1) : Nat) : Int) - n)

/-- NET_DELAY_TX or NET_DELAY_RX in units of 2^-16 ns. -/
def State.netDelay (s : State) (a : Nat) : Int := sgn 24 (s.rf a 23 0) * 256

/-- Receiver `p` takes a UDP datagram (R181). -/
def State.rxTakes (s : State) (p : Nat) (e : EthInfo) (f : List Byte) : Bool :=
  s.takesWork (rxPage p) && e.isUdp && beAt f (e.l4 + 2) 2 == s.rf (Reg.ING_RX_CTRL p) 15 0 &&
    (if s.rb (Reg.ING_RX_VLAN p) 31 then e.tags == 1 && e.vid == s.rf (Reg.ING_RX_VLAN p) 11 0 else e.vid == 0)

def State.rxDrop (s : State) (p : Nat) : State := s.cntSat (Reg.NET_RX_DROPS p) 32 1

/-- A PTP message that the firmware's engine discards as malformed (R306; PRESUMED IEEE 1588-2019, log 56): its header does not fit, it is of another
version, or it is shorter than it says. -/
def ptpMalformed (m : List Byte) : Bool :=
  decide (m.length < 34) || beAt m 1 1 % 16 != 2 || decide (beAt m 2 2 < 34) || decide (m.length < beAt m 2 2)

/-- A PTP frame of port `p` for the firmware, its message at offset `o`; a malformed one counts at the domains of the port. -/
def State.ptpIn (s : State) (p : Nat) (f : List Byte) (o : Nat) : State :=
  let (s, err) := s.timeError 131072
  let t := ((s.now : Int) + s.netDelay (Reg.NET_DELAY_RX p) + err).toNat
  let s := { s with sent := s.sent ++ [Output.ptpIn p t f] }
  s.when (ptpMalformed (f.drop o)) fun s =>
    s.each 2 fun d s => s.when (s.tdState d != tdDisabled && (s.domain d).port == p) fun s => s.cntSat (Reg.TD_MSG_ERR d) 32 1

/-- FRAME_RECEIVE (R280): a frame from its destination address to its FCS. -/
def State.frameReceive (s : State) (p : Nat) (bytes : List Byte) : State :=
  let f := bytes.take (bytes.length - 4)
  let e := ethParse f
  if !s.takesWork (netPage p) || !s.netLink p then s
  else if decide (bytes.length < 64) || decide (9216 < bytes.length) || withFcs f != bytes || decide (2 ≤ e.tags) || e.etype == 0x8808 then s.rxDrop p
  else if !s.addrTakes p (f.take 6) then s
  else
    let s := s.cntSat (Reg.NET_RX_FRAMES p) 32 1
    if !e.ipOk || (e.isUdp && !e.frag && !e.udpOk f) then s.cntSat (Reg.NET_RX_CSUM p) 32 1
    else if e.frag then s.cntSat (Reg.NET_RX_FRAG p) 32 1
    else
      let dport := beAt f (e.l4 + 2) 2
      if e.etype = 0x88F7 ∨ (e.isUdp && (dport == 319 || dport == 320)) then s.ptpIn p f (if e.etype = 0x88F7 then e.off else e.l4 + 8)
      else if s.rxTakes p e f then (s.ingDatagram p ((f.drop (e.l4 + 8)).take (beAt f (e.l4 + 4) 2 - 8))).ingStates
      else
        let t := beAt f e.l4 1
        if e.etype == 0x0806 || (e.ver == 6 && e.proto == 58 && decide (133 ≤ t) && decide (t ≤ 137)) || s.rb (Reg.NET_PORT_CTRL p) 12 then
          let n := s.netPort p
          if n.exc.length < 64 then s.setNetPort p { n with exc := n.exc ++ [f] } else s.rxDrop p
        else s.rxDrop p

/-- A frame of at least 60 bytes. -/
def pad60 (f : List Byte) : List Byte := f ++ List.replicate (60 - f.length) 0

/-- The firmware's answer to an exception frame (R280; PRESUMED the frames of RFC 826 and RFC 4861, log 59): ARP for NET_IP4, Neighbour
Solicitations for NET_IP6 and for the link-local address. -/
def State.excAnswer (s : State) (p : Nat) (f : List Byte) : Option (List Byte) :=
  let e := ethParse f
  let mac := s.netMac p
  let o := e.off
  let head := (f.drop 6).take 6 ++ mac ++ (f.drop 12).take (o - 12)
  if e.etype = 0x0806 then
    if beAt f (o + 6) 2 = 1 ∧ beAt f (o + 24) 4 = s.rn (Reg.NET_IP4 p) ∧ s.rn (Reg.NET_IP4 p) ≠ 0 then
      some (pad60 (head ++ (f.drop o).take 6 ++ [0, 2] ++ mac ++ (f.drop (o + 24)).take 4 ++ (f.drop (o + 8)).take 10))
    else none
  else if e.ver = 6 ∧ e.proto = 58 ∧ beAt f e.l4 1 = 135 then
    let target := (f.drop (e.l4 + 8)).take 16
    if target == s.netIp6 p || target == linkLocal mac then
      let src := (f.drop (o + 8)).take 16
      let unspec := beNat src == 0
      let dst := if unspec then [0xFF, 2] ++ List.replicate 13 0 ++ [1] else src
      let body : List Byte := [136, 0, 0, 0, if unspec then 0x20 else 0x60, 0, 0, 0] ++ target ++ [2, 1] ++ mac
      let pkt : List Byte := head ++ [0x60, 0, 0, 0] ++ beBytes 2 body.length ++ [58, 255] ++ target ++ dst ++ body
      let c := 65535 - fold16 (sum16 target + sum16 dst + 58 + body.length + sum16 body)
      some (pad60 (patch pkt (o + 42) (beBytes 2 c)))
    else none
  else none

/-- EXCEPTION_FRAME (R280). -/
def State.excHandle (s : State) (p : Nat) : State :=
  let n := s.netPort p
  match n.exc with
  | [] => s
  | f :: t =>
    let s := s.setNetPort p { n with exc := t }
    match s.excAnswer p f with
    | some a => (s.setNetPort p { s.netPort p with mgt := (s.netPort p).mgt ++ [a] }).netState p
    | none => s

/-! ### The host queue (R283, R284, R286) -/

def State.txParty (s : State) (p : Nat) : Nat := s.rf (Reg.NET_TXQ_PARTY p) 2 0

/-- The queue's party owns the port page. -/
def State.txOwned (s : State) (p : Nat) : Bool := decide (s.txParty p < 4) && s.rb (Reg.PAGE_OWNER (netPage p)) (s.txParty p)

def State.txrFull (s : State) (p : Nat) : Bool :=
  (s.rf (Reg.NET_TXR_TAIL p) 15 0 + 65536 - s.rf (Reg.NET_TXR_HEAD p) 15 0) % 65536 == 2 ^ (s.netPort p).size

/-- The queue has stopped on a denied ring access. -/
def State.txStopped (s : State) (p : Nat) : Bool := s.rf (Reg.NET_TXQ_STATUS p) 27 24 == 1

def State.txStop (s : State) (p : Nat) : State := (s.wf (Reg.NET_TXQ_STATUS p) 27 24 1).evt (1639 + 32 * p)

/-- A receipt that reports an error (R304). -/
def txError (st : Nat) : Bool := decide (1 ≤ st ∧ st ≤ 4) || st == 6

/-- One receipt written, where the ring takes it; true where it was. -/
def State.txrWrite (s : State) (p : Nat) (r : List Byte) : State × Bool :=
  if s.txrFull p || s.txStopped p then (s, false)
  else
    let n := s.netPort p
    let j := s.rf (Reg.NET_TXR_TAIL p) 15 0
    let (s, denied) := s.writeMem (some (s.txParty p)) ((n.rcpt + 32 * (j % 2 ^ n.size)) % 2 ^ 40) (withPhase r j n.size)
    if denied then (s.txStop p, false)
    else
      let s := (s.wf (Reg.NET_TXR_TAIL p) 15 0 (j + 1)).evt (1636 + 32 * p)
      let s := s.when (txError (leAt r 2 1)) fun s => s.evt (1637 + 32 * p)
      (s.when (s.txrFull p) fun s => (s.wb (Reg.NET_TXQ_STATUS p) 31 true).evt (1639 + 32 * p), true)

/-- Held receipts released in order. -/
def State.txrDrain (s : State) (p : Nat) : Nat → State
  | 0 => s
  | n + 1 =>
    match (s.netPort p).held with
    | [] => s
    | r :: t =>
      let (s, ok) := s.txrWrite p r
      if ok then State.txrDrain (s.setNetPort p { s.netPort p with held := t }) p n else s

/-- A receipt of the host queue of port `p` (R286), with a timestamp in units of 2^-16 ns, 0 for none. -/
def State.txReceipt (s : State) (p : Nat) (d : TxDesc) (st stamp : Nat) : State :=
  let r := leBytes 4 (d.idx % 65536 + st * 2 ^ 16) ++ leBytes 4 d.tag ++ leBytes 6 (stamp / nsUnit / 1000000000)
    ++ leBytes 4 (stamp / nsUnit % 1000000000) ++ leBytes 2 (stamp % nsUnit) ++ List.replicate 12 0
  let s := s.when (txError st) fun s => s.wf (Reg.NET_TXQ_STATUS p) 7 0 st
  (s.setNetPort p { s.netPort p with held := (s.netPort p).held ++ [r] }).txrDrain p 8

/-- Failed descriptors at the head of the queue write their receipts in ring order. -/
def State.txPump (s : State) (p : Nat) : Nat → State
  | 0 => s
  | k + 1 =>
    let n := s.netPort p
    match n.items with
    | d :: t =>
      if d.bad && n.sending.isNone && !s.txrFull p && !s.txStopped p then
        State.txPump ((s.setNetPort p { n with items := t }).txReceipt p d 2 0) p k
      else s
    | [] => s

/-- A descriptor's fields and its check against the clock (R284). -/
def txParse (now idx : Nat) (b : List Byte) : TxDesc :=
  let c := leAt b 0 4
  let len := c % 2 ^ 14
  let ns := leAt b 22 4
  let t := (leAt b 16 6 * 1000000000 + ns) * nsUnit
  let launch := c.testBit 16
  let bad := c / 2 ^ 14 % 4 != 0 || c / 2 ^ 21 != 0 || leAt b 13 3 != 0 || leAt b 26 6 != 0 || decide (2 ^ 30 ≤ ns)
    || decide (len < 60) || decide (9212 < len) || (launch && (decide (1000000000 ≤ ns) || decide (now + 2000000000 * nsUnit < t)))
  ⟨idx, leAt b 4 4, bad, len, if launch then some t else none, c.testBit 17, c.testBit 18, c.testBit 19, c.testBit 20, leAt b 8 5⟩

/-- TXQ_STATUS.STOP follows the ownership of the page (R283). -/
def State.txOwner (s : State) (p : Nat) : State :=
  let stop := s.rf (Reg.NET_TXQ_STATUS p) 27 24
  if stop = 0 ∧ !s.txOwned p then (s.wf (Reg.NET_TXQ_STATUS p) 27 24 2).evt (1639 + 32 * p)
  else if stop = 2 ∧ s.txOwned p then s.wf (Reg.NET_TXQ_STATUS p) 27 24 0
  else s

/-- TX_DESC_FETCH (R284). -/
def State.txFetch (s : State) (p : Nat) : State :=
  let s := s.when (s.takesWork (netPage p)) fun s => s.txOwner p
  let n := s.netPort p
  let h := s.rf (Reg.NET_TXQ_HEAD p) 15 0
  if !s.takesWork (netPage p) || !s.txOwned p || s.txStopped p || s.txrFull p || h == s.rf (Reg.NET_TXQ_TAIL p) 15 0 then s
  else
    let (s, r) := s.readMem (some (s.txParty p)) ((n.base + 32 * (h % 2 ^ n.size)) % 2 ^ 40) 32
    if r.denied then s.txStop p
    else
      let d := txParse s.now h r.data
      let d := if r.uncorr then { d with bad := true } else d
      let s := s.wf (Reg.NET_TXQ_HEAD p) 15 0 (h + 1)
      let s := s.when d.bad fun s => s.notice (417 + 8 * p) 0 0 [.txQueue (finOf 4 (by decide) p)]
      ((s.setNetPort p { s.netPort p with items := (s.netPort p).items ++ [d] }).txPump p 4).netState p

/-! ### Launch (R282, R285, R287) -/

/-- The launch time of a proof sender's next packet (R288), in units of 2^-16 ns. -/
def State.packetTime (s : State) (x : Nat) : Option Nat :=
  let d := s.sender x
  match d.slot with
  | none => none
  | some j =>
    let rate := s.cmtRate
    let period := if 10 ≤ rate then 2 * framePeriod rate else framePeriod rate
    let tro := match nfld (nth 0 d.regs 11).toNat 23 0 with | 0 => 43 * period / 1125 | t => t * nsUnit
    some (epochTime rate j + tro + d.next * period * 1080 / (1125 * d.packets))

/-- The first launch time that waits on a port. -/
def State.nextProof (s : State) (p : Nat) : Option Nat :=
  (List.range 4).foldl (fun (m : Option Nat) x =>
    if s.senderPort x = p then
      match m, s.packetTime x with
      | none, t => t
      | some a, some b => some (min a b)
      | some a, none => some a
    else m) none

/-- The time a frame of `n` bytes without FCS takes at 100 Gbit/s, with preamble and gap, in units of 2^-16 ns. -/
def wireTime (n : Nat) : Nat := (n + 24) * 8 * nsUnit / 100

/-- A frame of `n` bytes can start: it ends before the launch time of every proof packet (R282). -/
def State.mayStart (s : State) (p n : Nat) : Bool :=
  match s.nextProof p with
  | none => true
  | some t => decide (s.now + wireTime n ≤ t)

/-- A frame on the wire. -/
def State.onWire (s : State) (p : Nat) (f : List Byte) : State := { s with sent := s.sent ++ [.frame p (withFcs f)] }

/-- Where a PTP message lies in a frame, and the frame's headers (R287). -/
def ptpAt (f : List Byte) : Option Nat :=
  let e := ethParse f
  if 2 ≤ e.tags then none
  else if e.etype = 0x88F7 then some e.off
  else if e.isUdp && (beAt f (e.l4 + 2) 2 == 319 || beAt f (e.l4 + 2) 2 == 320) then some (e.l4 + 8)
  else none

/-- POSTMARK (R287): the frame with its timestamp; none where it cannot be postmarked. -/
def State.postmark (s : State) (p : Nat) (f : List Byte) (stamp : Nat) : Option (List Byte) :=
  match ptpAt f with
  | none => none
  | some o =>
    if p < 2 ∧ s.rf Reg.TIM_CTRL 1 0 ≠ 1 ∧ beAt f o 1 % 16 ≤ 2 ∧ o + 44 ≤ f.length then
      let t := stamp / nsUnit
      let f := patch f (o + 34) (beBytes 6 (t / 1000000000) ++ beBytes 4 (t % 1000000000))
      let f := patch f (o + 8) (beBytes 8 ((beAt f (o + 8) 8 + stamp % nsUnit) % 2 ^ 64))
      let e := ethParse f
      some (if e.ver = 4 then patch f (e.l4 + 6) [0, 0] else if e.ver = 6 then e.fillUdp f else f)
    else none

/-- A host frame starts (R285 to R287). -/
def State.txStart (s : State) (p : Nat) (d : TxDesc) (late : Bool) : State :=
  let n := s.netPort p
  let s := s.setNetPort p { n with items := n.items.drop 1 }
  let (s, r) := s.readMem (some (s.txParty p)) d.addr d.len
  if r.denied then ((s.txReceipt p d 3 0).txPump p 4).netState p
  else if r.uncorr then ((s.txReceipt p d 4 0).txPump p 4).netState p
  else
    let f := r.data
    let e := ethParse f
    let f := if d.csum && e.isUdp && !e.frag then e.fillUdp f else f
    let (s, e4) := s.timeError 262144
    let point : Int := match d.launch with
      | some t => if late || decide (t < s.now) then (s.now : Int) + s.netDelay (Reg.NET_DELAY_TX p) else (t : Int) + e4
      | none => (s.now : Int) + s.netDelay (Reg.NET_DELAY_TX p)
    let (s, e2) := s.timeError 131072
    let stamp := (point + e2).toNat
    let m := if d.postmark then s.postmark p f stamp else some f
    let st := if late then 5 else if m.isNone then 7 else 0
    let s := s.onWire p (m.getD f)
    (s.setNetPort p { s.netPort p with sending := some (d, st, if d.ts || d.postmark then stamp else 0) }).netState p

/-- Queue 0 goes first, at a frame boundary (R282). -/
def State.ptpFlush (s : State) (p : Nat) : State :=
  let n := s.netPort p
  if !s.netSends p || n.sending.isSome || n.ptp.isEmpty then s
  else
    let s := { s with sent := s.sent ++ n.ptp.map fun (m : Nat × Bool) => Output.ptpOut p m.1 m.2 }
    ((s.setNetPort p { n with ptp := [] }).cntSat (Reg.NET_TX_FRAMES p) 32 n.ptp.length).netState p

/-- TX_LAUNCH (R285): the firmware's frames go before the host's (R282). -/
def State.txLaunch (s : State) (p : Nat) : State :=
  let s := s.ptpFlush p
  let n := s.netPort p
  if !s.netSends p || n.sending.isSome then s
  else
    match n.mgt with
    | f :: t =>
      if s.mayStart p f.length then
        (((s.setNetPort p { n with mgt := t }).onWire p f).cntSat (Reg.NET_TX_FRAMES p) 32 1).netState p
      else s
    | [] =>
      let s := s.txPump p 4
      match (s.netPort p).items with
      | [] => s
      | d :: t =>
        if s.txrFull p || s.txStopped p || d.bad then s
        else
          let s := match d.launch with | some l => s.reachTime l | none => s
          if !s.mayStart p d.len then s
          else
            let late := match d.launch with | some l => decide (l + s.rf Reg.NET_LATE_TOL 15 0 * nsUnit < s.now) | none => false
            if late then
              let s := (s.cntSat (Reg.NET_TX_LATE p) 32 1).evt (1638 + 32 * p)
              if d.lateSend then s.txStart p d true
              else (((s.setNetPort p { s.netPort p with items := t }).txReceipt p d 6 0).txPump p 4).netState p
            else s.txStart p d false

/-- The fence of port `p` at its frame boundary (R300). -/
def State.netFence (s : State) (p : Nat) : State :=
  (((s.toState (netPage p) stFenced (some (1632 + 32 * p))).cntSat (Reg.NET_FENCES p) 32 1)).domainsFaulty p

/-- FENCE_REQ of port `p`, or a fault reaction (R300): a frame being sent ends first. -/
def State.netFenceReq (s : State) (p : Nat) : State := if (s.netPort p).sending.isSome then s else s.netFence p

/-- A frame boundary of port `p`: a fence that waits takes effect. -/
def State.netBoundary (s : State) (p : Nat) : State :=
  if s.rb (Reg.PAGE_CTRL (netPage p)) 3 && decide (s.pgState (netPage p) < stFenced) && (s.netPort p).sending.isNone then s.netFence p else s

/-- The host queue discards (R300). -/
def State.netDiscards (s : State) (p : Nat) : Bool := s.pgState (netPage p) == stDraining && s.discarding (netPage p)

/-- A host queue that discards gives a receipt for every frame not yet started, fetched or not, from the next frame boundary on, in ring order and as
its ring takes them (R283, R300); one that has stopped gives none. -/
def State.netReturn (s : State) (p : Nat) : Nat → State
  | 0 => s
  | n + 1 =>
    let q := s.netPort p
    let h := s.rf (Reg.NET_TXQ_HEAD p) 15 0
    if !s.netDiscards p || q.sending.isSome then s
    else if s.txStopped p then s.setNetPort p { q with items := [] }
    else if s.txrFull p ∨ !q.held.isEmpty then s
    else
      match q.items with
      | d :: rest => State.netReturn ((s.setNetPort p { q with items := rest }).txReceipt p d (if d.bad then 2 else 1) 0) p n
      | [] =>
        if h = s.rf (Reg.NET_TXQ_TAIL p) 15 0 ∨ !s.txOwned p then s
        else
          let (s, r) := s.readMem (some (s.txParty p)) ((q.base + 32 * (h % 2 ^ q.size)) % 2 ^ 40) 32
          if r.denied then s.txStop p
          else State.netReturn ((s.wf (Reg.NET_TXQ_HEAD p) 15 0 (h + 1)).txReceipt p (txParse s.now h r.data) 1 0) p n

/-- Frames of a discarding host queue that still await their receipts (R300). -/
def State.netReturns (s : State) (p : Nat) : Bool :=
  s.discarding (netPage p) && !s.txStopped p && s.txOwned p && s.rf (Reg.NET_TXQ_HEAD p) 15 0 != s.rf (Reg.NET_TXQ_TAIL p) 15 0

/-- The host queue goes on: failed descriptors at its head, and what it is to return. -/
def State.txOn (s : State) (p : Nat) : State := ((s.txPump p 4).netReturn p 65537).netState p

/-- TX_FRAME_SENT (R286): its receipt, but for a frame of a queue that a port reset has discarded (R301). -/
def State.txSent (s : State) (p : Nat) : State :=
  let n := s.netPort p
  match n.sending with
  | none => s
  | some (d, st, stamp) =>
    let s := (s.setNetPort p { n with sending := none, silent := false }).cntSat (Reg.NET_TX_FRAMES p) 32 1
    let s := if n.silent then s else s.txReceipt p d st stamp
    ((s.netBoundary p).ptpFlush p).txOn p

/-- NET_TXR_HEAD written: held receipts are released in order. -/
def State.txrHead (s : State) (p : Nat) : State :=
  let s := s.wb (Reg.NET_TXQ_STATUS p) 31 (s.txrFull p)
  (s.txrDrain p 8).txOn p

/-! ### The proof stream (R288 to R290) -/

/-- Sender `x` runs (R288). -/
def State.senderRuns (s : State) (x : Nat) : Bool :=
  s.rb (Reg.PS_CTRL x) 0 && s.netSends (s.senderPort x) && s.rf (Reg.PS_UDP x) 15 0 != 0 && s.pgState (Reg.page 2 0) == stRun

/-- PS_CTRL written (R288): EN with a zero destination port is refused. -/
def State.senderCtrl (s : State) (x : Nat) : State :=
  if s.rb (Reg.PS_CTRL x) 0 then
    if s.rf (Reg.PS_UDP x) 15 0 = 0 then (s.wb (Reg.PS_CTRL x) 0 false).wb (Reg.PS_STATUS x) 29 true
    else s.wb (Reg.PS_STATUS x) 29 false
  else s

/-- PS_SLOT (R288). -/
def State.senderSlot (s : State) (x : Nat) : State :=
  match s.cmt.last with
  | none => s
  | some e =>
    let j := e.count
    if !s.senderRuns x || (decide (10 ≤ s.cmtRate) && decide (j % 2 = 0)) || (s.sender x).slot == some j then s
    else
      let st := s.rd (Reg.PV_STATUS x)
      let b := fld st 16 16
      let o := s.rf (Reg.PV_OWNER x) 2 0
      let prev := j - 1
      let d := s.sender x
      let d := { d with
        slot := some j, addr := s.addr40 (if b = 0 then Reg.PV_ADDR0_LO x else Reg.PV_ADDR1_LO x), pitch := s.rn (Reg.PV_PITCH x),
        port := if o < 4 then some o else none, packets := if s.geo.layout = 1 then 12960 else 25920, next := 0,
        regs := (List.range 12).map fun i => s.rd (Reg.PS_CTRL x + 4 * i),
        stamp := prev * (rateOf s.cmtRate).2 * 90000 / (rateOf s.cmtRate).1 % 2 ^ 32 }
      let s := s.setSender x d
      let s := (s.wb (Reg.PS_STATUS x) 30 false).wf (Reg.PS_STATUS x) 15 0 j
      (s.when (fld st 15 0 != prev % 65536) fun s => s.cntSat (Reg.PS_REPEATS x) 32 1).netState (s.senderPort x)

/-- The bits of a pgroup (R289; PRESUMED the order of RFC 4175, log 61): four pixels of 30 bits, red first, most significant bit first. -/
def pgroup (px : List Nat) : List Byte :=
  beBytes 15 (px.foldl (fun a w => a * 2 ^ 30 + nfld w 9 0 * 2 ^ 20 + nfld w 19 10 * 2 ^ 10 + nfld w 29 20) 0)

/-- Groups of four pixels of 4 bytes packed. -/
def packPixels : Nat → List Byte → List Byte
  | 0, _ => []
  | n + 1, l => pgroup ((List.range 4).map fun i => leAt l (4 * i) 4) ++ packPixels n (l.drop 16)

/-- A proof packet (R289): the frame without its FCS, from the registers read at the slot. -/
def State.proofFrame (s : State) (d : Sender) (ident : Nat) (payload : List Byte) : List Byte :=
  let reg (i : Nat) : Nat := (nth 0 d.regs i).toNat
  let ctrl := reg 0
  let p := nfld ctrl 5 4
  let y := d.next / 12
  let pt := if nfld ctrl 22 16 < 96 then 96 else nfld ctrl 22 16
  let last := d.next + 1 == d.packets
  let rtp : List Byte := [0x80] ++ beBytes 1 (b2n last * 128 + pt) ++ beBytes 2 d.seq ++ beBytes 4 d.stamp ++ beBytes 4 (reg 9) ++ beBytes 2 (d.seq / 65536)
    ++ beBytes 2 1200 ++ beBytes 2 (y % 32768) ++ beBytes 2 (d.next % 12 * 320)
  let udp : List Byte := beBytes 4 (reg 8) ++ beBytes 2 1228 ++ [0, 0] ++ rtp ++ payload
  let tos := nfld (reg 10) 5 0 * 4
  let ttl := nfld (reg 10) 15 8
  let eth : List Byte := beBytes 2 (nfld (reg 3) 15 0) ++ beBytes 4 (reg 2) ++ s.netMac p
    ++ (if ctrl.testBit 9 then [0x81, 0x00] ++ beBytes 2 (nfld (reg 1) 15 13 * 8192 + nfld (reg 1) 11 0) else [])
  if ctrl.testBit 8 then
    let f : List Byte := eth ++ [0x86, 0xDD] ++ beBytes 4 (6 * 2 ^ 28 + tos * 2 ^ 20) ++ beBytes 2 1228 ++ beBytes 1 17 ++ beBytes 1 ttl ++ s.netIp6 p
      ++ ((List.range 4).flatMap fun i => beBytes 4 (reg (4 + i))) ++ udp
    (ethParse f).fillUdp f
  else
    let ip : List Byte := [0x45] ++ beBytes 1 tos ++ beBytes 2 1248 ++ beBytes 2 ident ++ [0x40, 0] ++ beBytes 1 ttl ++ [17, 0, 0]
      ++ beBytes 4 (s.rn (Reg.NET_IP4 p)) ++ beBytes 4 (reg 4)
    eth ++ [0x08, 0x00] ++ patch ip 10 (beBytes 2 (inetSum ip)) ++ udp

/-- PS_PACKET_LAUNCH (R290). -/
def State.packetLaunch (s : State) (x : Nat) : State :=
  let d := s.sender x
  let p := nfld (nth 0 d.regs 0).toNat 5 4
  match s.packetTime x with
  | none => s
  | some t =>
    if !s.netSends p || (s.netPort p).sending.isSome then s
    else
      let s := s.reachTime t
      let late := decide (t + s.rf Reg.NET_LATE_TOL 15 0 * nsUnit < s.now)
      let (s, r) := s.readMem d.port ((d.addr + d.next / 12 * d.pitch + d.next % 12 * 1280) % 2 ^ 40) 1280
      let payload := if r.denied then List.replicate 1200 0 else packPixels 80 r.data
      let s := s.when r.denied fun s => (s.wb (Reg.PS_STATUS x) 30 true).notice (416 + 8 * p) 0 0 [.proofView (finOf 4 (by decide) x), .sender (finOf 4 (by decide) x)]
      let (ident, s) := s.free 16
      let s := (s.onWire p (s.proofFrame d ident.toNat payload)).cntSat (Reg.NET_TX_FRAMES p) 32 1
      let s := s.cntSat (Reg.PS_PKTS x) 32 1
      let s := s.when late fun s => (s.cntSat (Reg.PS_LATE x) 32 1).evt (1641 + 32 * p)
      let last := decide (d.packets ≤ d.next + 1)
      let s := s.setSender x { d with next := d.next + 1, seq := (d.seq + 1) % 2 ^ 32, slot := if last then none else d.slot }
      (s.when last fun s => s.evt (1640 + 32 * p)).netState p

/-! ### Links, fencing and resets (R300, R301) -/

/-- NET_LINK_UP (R278, R304). While the port's PCS runs on bypass its link stays down (R319). -/
def State.linkUp (s : State) (p : Nat) : State :=
  if s.netLink p || s.rb (Reg.PLL_STATUS (3 + p)) 9 then s
  else
    let m := s.rf (Reg.NET_PORT_CTRL p) 1 0
    let fec := m != 2 || s.rb (Reg.NET_PORT_CTRL p) 4
    let s := s.setNetPort p { s.netPort p with mode := m, fec := fec }
    let s := s.wr (Reg.NET_PORT_STATUS p) (wd (2 ^ 31 + b2n (m != 2) * 2 ^ 30 + b2n fec * 2 ^ 29 + 15))
    let s := s.evt (1634 + 32 * p)
    (if s.inService (netPage p) || s.pgState (netPage p) == stReturning then s.domainsBack p else s).ptpFlush p

/-- NET_LINK_DOWN (R304); `local` and `remote` are the faults that the PCS reports. -/
def State.linkDown (s : State) (p : Nat) (localFault remoteFault : Bool) : State :=
  if !s.netLink p then s
  else
    let s := s.wr (Reg.NET_PORT_STATUS p) (wd (b2n localFault * 2 ^ 28 + b2n remoteFault * 2 ^ 27))
    let s := (s.cntSat (Reg.NET_LINK_DOWNS p) 32 1).evt (1635 + 32 * p)
    (s.notice (414 + 8 * p)).domainsFaulty p

/-- Domain `d` is on port `p`. -/
def State.domainOn (s : State) (p d : Nat) : Bool := s.tdState d != tdDisabled && (s.domain d).port == p

/-- PORT_JOIN (R300): the port is back, once its link has been up and every domain on it has made 8 offsets, or in time where no domain uses it. -/
def State.netJoin (s : State) (p : Nat) : State :=
  let used := (List.range 2).filter fun d => s.domainOn p d
  if s.pgState (netPage p) ≠ stReturning ∨ !(used.isEmpty || (s.netLink p && used.all fun d => decide (8 ≤ (s.domain d).since))) then s
  else (((s.toState (netPage p) (if s.enabled (netPage p) then stIdle else stOff) (some (1632 + 32 * p))).domainsBack p).ptpFlush p).netState p

/-- ENABLE of a port page goes from 0 to 1 (R283). -/
def State.netEnable (s : State) (p : Nat) : State :=
  let n := s.netPort p
  let s := s.setNetPort p { n with base := s.addr40 (Reg.NET_TXQ_BASE_LO p), size := clampN 4 12 (s.rf (Reg.NET_TXQ_SIZE p) 3 0), rcpt := s.addr40 (Reg.NET_TXR_BASE_LO p) }
  (((s.wf (Reg.NET_TXQ_STATUS p) 27 24 0).txOwner p).txrDrain p 8).ptpFlush p

/-- DISCARD of the host queue (R300). -/
def State.netDiscard (s : State) (p : Nat) : State := s.txOn p

/-- A function-level or link reset of host port `h` (R301): its queues are discarded without receipts. -/
def State.netPortReset (s : State) (h : Nat) : State :=
  s.each 4 fun p s =>
    if s.txParty p ≠ h then s
    else
      let n := s.netPort p
      let s := s.setNetPort p { n with base := 0, size := 4, rcpt := 0, items := [], held := [], silent := n.sending.isSome }
      (s.each 11 fun i s => s.wr (Reg.NET_TXQ_BASE_LO p + 4 * i) (resetWord (Reg.NET_TXQ_BASE_LO p + 4 * i))).netState p

/-- What writing a NET register does beyond storing it. -/
def State.netWritten (s : State) (a : Nat) : State :=
  match (List.range 4).find? (fun p => a == Reg.NET_TXR_HEAD p || a == Reg.PS_CTRL p) with
  | some p => if a = Reg.PS_CTRL p then s.senderCtrl p else s.txrHead p
  | none => s

/-- What a NET register reads as where that is computed (R283, R288). -/
def State.netView (s : State) (a : Nat) : Option Word :=
  match (List.range 4).find? (fun p => a == Reg.NET_TXQ_STATUS p || a == Reg.PS_STATUS p) with
  | some p =>
    if a = Reg.PS_STATUS p then some (setBit (s.rd a) 31 (s.senderRuns p || (s.sender p).slot.isSome))
    else some (if s.txStopped p then s.rd a else setFld (s.rd a) 27 24 (if s.txOwned p then 0 else 2))
  | none => none

/-! ### The commands -/

/-- FRAME_RECEIVE (R280). -/
def execFrameReceive (port : Fin 4) (frame : List (BitVec 8)) (s : State) : Host.Outcome State Fault Refusal := done (s.frameReceive port frame)

/-- EXCEPTION_FRAME (R280). -/
def execExceptionFrame (port : Fin 4) (s : State) : Host.Outcome State Fault Refusal := done (s.excHandle port)

/-- NET_TXQ_TAIL (R283). -/
def execNetTxqTail (p : Party) (port : Fin 4) (v : Word) (s : State) : Host.Outcome State Fault Refusal := done (s.regWrite p (Reg.NET_TXQ_TAIL port) v id)

/-- TX_DESC_FETCH (R284). -/
def execTxDescFetch (port : Fin 4) (s : State) : Host.Outcome State Fault Refusal := done (s.txFetch port)

/-- TX_LAUNCH (R285). -/
def execTxLaunch (port : Fin 4) (s : State) : Host.Outcome State Fault Refusal := done (s.txLaunch port)

/-- TX_FRAME_SENT (R286). -/
def execTxFrameSent (port : Fin 4) (s : State) : Host.Outcome State Fault Refusal := done (s.txSent port)

/-- NET_TXR_HEAD (R283). -/
def execNetTxrHead (p : Party) (port : Fin 4) (v : Word) (s : State) : Host.Outcome State Fault Refusal :=
  done (s.regWrite p (Reg.NET_TXR_HEAD port) v fun s => s.txrHead port)

/-- PS_ENABLE (R288). -/
def execPsEnable (p : Party) (x : Fin 4) (v : Word) (s : State) : Host.Outcome State Fault Refusal :=
  done (s.regWrite p (Reg.PS_CTRL x) v fun s => s.senderCtrl x)

/-- PS_SLOT (R288). -/
def execPsSlot (x : Fin 4) (s : State) : Host.Outcome State Fault Refusal := done (s.senderSlot x)

/-- PS_PACKET_LAUNCH (R290). -/
def execPsPacketLaunch (x : Fin 4) (s : State) : Host.Outcome State Fault Refusal := done (s.packetLaunch x)

/-- NET_LINK_UP (R304). -/
def execNetLinkUp (port : Fin 4) (s : State) : Host.Outcome State Fault Refusal := done (s.linkUp port)

/-- NET_LINK_DOWN (R304). -/
def execNetLinkDown (port : Fin 4) (localFault remoteFault : Bool) (s : State) : Host.Outcome State Fault Refusal :=
  done (s.linkDown port localFault remoteFault)

/-- PORT_JOIN (R300). -/
def execPortJoin (port : Fin 4) (s : State) : Host.Outcome State Fault Refusal := done (s.netJoin port)

/-- The firmware's PTP message (R293) joins queue 0 of a port; the port takes it at its next frame boundary, at once where it is idle (R282). -/
def State.ptpSend (s : State) (p kind : Nat) (postmark : Bool) : State :=
  (s.setNetPort p { s.netPort p with ptp := (s.netPort p).ptp ++ [(kind, postmark)] }).ptpFlush p

/-- DELAY_REQ_SEND (R293): in a domain that has a master. -/
def execDelayReqSend (d : Fin 2) (s : State) : Host.Outcome State Fault Refusal :=
  let st := s.tdState d
  done (if st = tdUncal ∨ st = tdLocked then s.ptpSend (s.domain d).port 1 (decide ((s.domain d).port < 2)) else s)

/-- PDELAY_REQ (R287): answered by Pdelay_Resp and Pdelay_Resp_Follow_Up; where the exchange has measured the link's peer delay, it is shown in the
domains on the port (R293). -/
def execPdelayReq (port : Fin 4) (measured : Option Word) (s : State) : Host.Outcome State Fault Refusal :=
  let s := (s.ptpSend port 3 false).ptpSend port 10 false
  done (match measured with
    | some v => s.each 2 fun d s => s.when (s.domainOn port d) fun s => s.wr (Reg.TD_PDELAY d) v
    | none => s)

/-- RS_FEC_CODEWORD (R303). -/
def execRsFecCodeword (port : Fin 4) (corrected : Bool) (s : State) : Host.Outcome State Fault Refusal :=
  done (if !(s.netPort port).fec || !s.netLink port then s
    else if corrected then s.cntSat (Reg.NET_FEC_CORR port) 32 1
    else ((s.cntSat (Reg.NET_FEC_UNCORR port) 32 1).evt (1642 + 32 * port)).notice (415 + 8 * port))

end Sys2Proof.Machine
end

