-- ==== Sys2Proof/Machine/Clk.lean ====
section
/-! DEFINITION. Clock synthesis: references, PLLs, core selection and clock outputs (spec/14_clock_synthesis.md). -/
namespace Sys2Proof.Machine

abbrev pllPage (k : Nat) : Nat := Reg.page 15 (1 + k)

def State.pll (s : State) (k : Nat) : Pll := nth Pll.reset s.clk.plls k
def State.setPll (s : State) (k : Nat) (v : Pll) : State := { s with clk := { s.clk with plls := upd s.clk.plls k v } }

/-- Values of LSTATE (R313). -/
abbrev lsOff : Nat := 0
abbrev lsRelock : Nat := 1
abbrev lsFreerun : Nat := 2
abbrev lsLocked : Nat := 3
abbrev lsHoldover : Nat := 4
abbrev lsSlewing : Nat := 5

def State.lstate (s : State) (k : Nat) : Nat := s.rf (Reg.PLL_STATUS k) 2 0

/-- LSTATE changes and raises PLL_STATE (R313). -/
def State.toLstate (s : State) (k v : Nat) : State :=
  if s.lstate k = v then s else (s.wf (Reg.PLL_STATUS k) 2 0 v).evt (1824 + 2 * k)

/-- The reference in use: 0 none, 1 REFIN_A, 2 REFIN_B, 3 XTAL. -/
def State.pllRef (s : State) (k : Nat) : Nat := s.rf (Reg.PLL_STATUS k) 5 4

/-- The state of a reference input (R309). -/
def State.refState (s : State) (r : Nat) : Nat := s.rf Reg.CLK_REF_STATUS (8 * r + 2) (8 * r)

def State.refValid (s : State) (r : Nat) : Bool := s.refState r == 4

/-- The measured frequency of reference input `r`, in units of 2^-8 ppm. -/
def State.refPpm (s : State) (r : Nat) : Int := sgn 32 (s.rn (if r = 0 then Reg.CLK_REF_A_PPM else Reg.CLK_REF_B_PPM))

/-- The bound of PLL_OFFSET (R314). -/
def offsetBound (k : Nat) : Int := if 2 ≤ k ∧ k ≤ 6 then 50 * 256 else 2000 * 256

def State.pllOffset (s : State) (k : Nat) : Int := sgn 20 (s.rf (Reg.PLL_OFFSET k) 19 0)

/-- The PLL runs: it is not OFF or re-locking. -/
def State.pllRuns (s : State) (k : Nat) : Bool := decide (2 ≤ s.lstate k)

/-! ### Core selection and bypass (R318 to R320) -/

/-- A core PLL is usable (R320). -/
def State.coreUsable (s : State) (k : Nat) : Bool :=
  s.pllRuns k && s.pgState (pllPage k) != stFenced && s.pgState (pllPage k) != stTest && s.pgState (pllPage k) != stReturning

def State.coreActive (s : State) : Nat := s.rf Reg.CLK_CORE_SEL 9 8

/-- What CLK_CORE_SEL.ACTIVE is to be. -/
def State.coreWant (s : State) : Nat :=
  let p := b2n (s.rb Reg.CLK_CORE_SEL 0)
  if s.coreUsable p then p else if s.coreUsable (1 - p) then 1 - p else 2

/-- The core domains take the PLL that R320 names; true where both are newly unusable (source 462). -/
def State.coreUpdate (s : State) : State × Bool :=
  let w := s.coreWant
  if s.coreActive = w then (s, false)
  else
    let s := (s.wf Reg.CLK_CORE_SEL 9 8 w).evt 1842
    let s := s.each 2 fun k s => s.wb (Reg.PLL_STATUS k) 9 (w == 2 || s.clk.memBypass)
    (s, w == 2)

/-- The domains of a PLL that is not a core PLL go to bypass, or come back (R318, R319). -/
def State.bypass (s : State) (k : Nat) (on : Bool) : State :=
  if k < 2 then s
  else
    let s := s.wb (Reg.PLL_STATUS k) 9 on
    if on && decide (3 ≤ k ∧ k ≤ 6) then s.linkDown (k - 3) true false else s

/-! ### Frequency and reference (R312, R315 to R317) -/

/-- The target against nominal for the state behind SLEWING. -/
def State.pllGoal (s : State) (k : Nat) : Int :=
  let p := s.pll k
  let off := s.pllOffset k
  if p.base = lsLocked then s.refPpm (s.pllRef k - 1) + off else if p.base = lsHoldover then p.word + off else off

/-- A new target, and a phase to slew: LSTATE is SLEWING until both are reached. -/
def State.retarget (s : State) (k : Nat) : State :=
  if !s.pllRuns k then s
  else
    let p := { s.pll k with goal := s.pllGoal k }
    let s := s.setPll k p
    s.toLstate k (if p.cur = p.goal ∧ p.phase = 0 then p.base else lsSlewing)

/-- The reference that REF_SEL asks for (R312): 1 REFIN_A, 2 REFIN_B, 3 XTAL, 0 none that is VALID. -/
def State.refWant (s : State) (k : Nat) : Nat :=
  let a := s.refValid 0
  let b := s.refValid 1
  match s.rf (Reg.PLL_CTRL k) 1 0 with
  | 0 => if a && b then (if s.pllRef k = 2 ∧ !s.rb (Reg.PLL_CTRL k) 2 then 2 else 1) else if a then 1 else if b then 2 else 0
  | 1 => if a then 1 else 0
  | 2 => if b then 2 else 0
  | _ => 3

/-- R316: the PLL takes reference `w`, whose phase lies `d` ps away. -/
def State.refReturn (s : State) (k w : Nat) (d : Int) : State :=
  let p := s.pll k
  let s := (s.wf (Reg.PLL_STATUS k) 5 4 w).evt (1825 + 2 * k)
  let realign := s.rb (Reg.PLL_CTRL k) 4
  let s := if realign then s else
    s.wn (Reg.PLL_REF_OFFSET k) (unsgn 32 (clampI (-0x80000000) 0x7FFFFFFF (sgn 32 (s.rn (Reg.PLL_REF_OFFSET k)) + d)))
  let s := s.setPll k { p with base := lsLocked, everLocked := true, phase := if realign then p.phase + d else p.phase }
  s.retarget k

/-- The mean word of the last 1.0 s in LOCKED (R315), from the 10 ms windows that ended in it; where none has, the word that is in force. -/
def State.meanWord (s : State) (k : Nat) : Int :=
  let p := s.pll k
  if p.hist.isEmpty then p.cur - s.pllOffset k else rdiv p.hist.sum p.hist.length

/-- PLL `k` follows the references as they now stand (R312, R315, R316). -/
def State.pllFollow (s : State) (k : Nat) (d : Int) : State :=
  if !s.pllRuns k then s
  else
    let w := s.refWant k
    let p := s.pll k
    if w = 3 then
      if p.base = lsFreerun then s
      else ((s.wf (Reg.PLL_STATUS k) 5 4 3).setPll k { p with base := lsFreerun, phase := 0, command := false }).evt (1825 + 2 * k) |>.retarget k
    else if w = 0 then
      if p.base = lsLocked then
        let s := (s.wf (Reg.PLL_STATUS k) 5 4 0).setPll k { p with base := lsHoldover, word := s.meanWord k, phase := 0, command := false }
        ((s.retarget k).toLstate k (if (s.pll k).cur = s.pllGoal k then lsHoldover else lsSlewing)).notice 472
      else s
    else if p.base = lsLocked ∧ s.pllRef k = w then s
    else s.refReturn k w d

/-- A phase hit on a reference (R310). -/
def State.phaseHit (s : State) (k r : Nat) (d : Int) : State :=
  if s.pllRuns k && (s.pll k).base == lsLocked && s.pllRef k == r + 1 then s.refReturn k (r + 1) d else s

/-- The state of a reference input changes (R309). -/
def State.toRef (s : State) (r v : Nat) (d : Int) : State :=
  let old := s.refState r
  if old = v then s
  else
    let s := s.wf Reg.CLK_REF_STATUS (8 * r + 2) (8 * r) v
    let s := s.when (old == 4 || v == 4) fun s => s.evt (1840 + r)
    let s := s.when (old == 4) fun s => s.notice (469 + r)
    s.each 8 fun k s => s.pllFollow k d

def State.refOn (s : State) (r : Nat) : Bool := s.rb Reg.CLK_REF_CTRL (8 * r)

/-- REF_LOS (R309). -/
def State.refLos (s : State) (r : Nat) (d : Int) : State := if s.refOn r then s.toRef r 1 d else s

/-- REF_FREQ_WINDOW (R309, R310): the frequency over a window in units of 2^-8 ppm, and how far the phase moved in it, in ps. -/
def State.refWindow (s : State) (r : Nat) (ppm move : Int) : State :=
  if !s.refOn r then s
  else
    let s := s.wn (if r = 0 then Reg.CLK_REF_A_PPM else Reg.CLK_REF_B_PPM) (unsgn 32 ppm)
    let ok := decide (ppm.natAbs ≤ s.rf Reg.CLK_REF_TOL 11 0 * 256)
    if !ok then s.toRef r 2 move
    else if s.refState r ≠ 4 then s.toRef r 3 0
    else
      let s := s.each 8 fun k s =>
        let p := s.pll k
        if s.pllRuns k && p.base == lsLocked && s.pllRef k == r + 1 then
          let s := s.setPll k (if s.lstate k = lsLocked then { p with hist := (ppm :: p.hist).take 100, cur := ppm + s.pllOffset k } else p)
          s.retarget k
        else s
      if s.rf Reg.CLK_PHASE_HIT 13 0 * 1000 < move.natAbs then s.each 8 fun k s => s.phaseHit k r move else s

/-- REF_QUALIFIED (R309). -/
def State.refQualified (s : State) (r : Nat) (d : Int) : State := if s.refOn r && s.refState r == 3 then s.toRef r 4 d else s

/-- PLL_SLEW_DONE (R317). -/
def State.slewDone (s : State) (k : Nat) : State :=
  if s.lstate k ≠ lsSlewing then s
  else
    let p := s.pll k
    let s := s.when p.command fun s => s.wn (Reg.PLL_REF_OFFSET k) (unsgn 32 (clampI (-0x80000000) 0x7FFFFFFF (sgn 32 (s.rn (Reg.PLL_REF_OFFSET k)) - p.out)))
    (s.setPll k { p with cur := p.goal, phase := 0, command := false, out := 0 }).toLstate k p.base

/-- One millisecond of every slew: at most 20 ppm, and phase at PLL_REALIGN ppm (R316, R317). -/
def State.clkTick (s : State) : State :=
  s.each 8 fun k s =>
    let p := s.pll k
    if s.lstate k = lsSlewing then
      let r : Int := s.rf (Reg.PLL_REALIGN k) 6 0 * 1000
      s.setPll k { p with cur := p.cur + clampI (-5120) 5120 (p.goal - p.cur), phase := p.phase - clampI (-r) r p.phase }
    else s

/-! ### Lock (R318, R321) -/

/-- The analog loop is disturbed: RELOCK, domains on bypass. -/
def State.pllRelock (s : State) (k : Nat) : State × Bool :=
  let s := (s.setPll k { s.pll k with base := lsFreerun, phase := 0, command := false, out := 0, hist := [] }).toLstate k lsRelock
  (s.bypass k true).coreUpdate

/-- PLL `k` has locked: FREERUN, or LOCKED to the reference that REF_SEL gives. -/
def State.pllLocked (s : State) (k : Nat) : State :=
  let p := s.pll k
  let s := s.setPll k { p with base := lsFreerun, cur := s.pllOffset k, goal := s.pllOffset k }
  let s := s.wf (Reg.PLL_STATUS k) 5 4 3
  let w := s.refWant k
  if w = 1 ∨ w = 2 then
    let s := s.wf (Reg.PLL_STATUS k) 5 4 w
    let s := s.setPll k { s.pll k with base := lsLocked, everLocked := true }
    let s := s.setPll k { s.pll k with cur := s.pllGoal k, goal := s.pllGoal k }
    s.toLstate k lsLocked
  else s.toLstate k lsFreerun

/-- The MEM loop of a core PLL that runs has locked: the controller domain leaves bypass (R318). -/
def State.memRelease (s : State) : State :=
  let s := { s with clk := { s.clk with memBypass := false } }
  s.each 2 fun k s => s.wb (Reg.PLL_STATUS k) 9 (s.coreActive == 2)

/-- BYPASS_RELEASE (R318): locked for 100 µs, in service. -/
def State.bypassRelease (s : State) (k : Nat) : State :=
  if s.coreActive = k ∧ s.clk.memBypass then s.memRelease
  else if s.lstate k ≠ lsRelock ∨ !s.inService (pllPage k) then s
  else (((s.pllLocked k).bypass k false).coreUpdate).1

/-- Loss of lock: counted, and the PLL re-locks. -/
def State.lockLoss (s : State) (k : Nat) : State × Bool := (s.cntSat (Reg.PLL_LOCKS k) 32 1).pllRelock k

/-- The lost fault of a PLL (R320, R324). -/
def lostSource (k : Nat) : Nat := if k < 2 then 460 + k else if k = 7 then 468 else 461 + k

/-- The page's ENABLE goes to 1, or to 0. -/
def State.pllEnable (s : State) (k : Nat) (on : Bool) : State × Bool :=
  if on then s.pllRelock k
  else
    let s := ((s.setPll k { Pll.reset with lfsr := (s.pll k).lfsr }).toLstate k lsOff).wf (Reg.PLL_STATUS k) 5 4 0
    (s.bypass k true).coreUpdate

/-- The PLL is fenced: its domains leave it (R321). -/
def State.pllFence (s : State) (k : Nat) : State × Bool :=
  (((s.toState (pllPage k) stFenced none).bypass k true)).coreUpdate

/-- The PLL is back (R321). -/
def State.pllJoin (s : State) (k : Nat) : State :=
  let s := s.toState (pllPage k) (if s.enabled (pllPage k) then stRun else stOff) none
  if s.enabled (pllPage k) then (((s.pllLocked k).bypass k false).coreUpdate).1 else s

/-! ### Outputs (R323 to R325) -/

/-- The frequency of an output's setting, in units of 1/16 Hz. -/
def State.outFreq (s : State) (n : Nat) : Nat :=
  let d := clampN 2 65536 (s.rf (Reg.OUT_DIV n) 16 0)
  match s.rf (Reg.OUT_CTRL n) 7 4 with
  | 1 => 25000000 * 16
  | 2 => (if s.rb Reg.CLK_REF_CTRL 1 then 25000000 else 10000000) * 16
  | 3 => (if s.rb Reg.CLK_REF_CTRL 9 then 25000000 else 10000000) * 16
  | 4 => 12890625000 * 16 / d | 5 => 12890625000 * 16 / d | 6 => 12890625000 * 16 / d | 7 => 12890625000 * 16 / d | 8 => 12890625000 * 16 / d
  | 9 => 10000000000 * 16 / d
  | 10 => s.rn (Reg.OUT_FREQ n)
  | _ => 0

/-- An output setting is applied or refused (R323). -/
def State.outSet (s : State) (n : Nat) : State :=
  let f := s.rf (Reg.OUT_CTRL n) 1 0
  let d := clampN 2 65536 (s.rf (Reg.OUT_DIV n) 16 0)
  let c := s.rf (Reg.OUT_CTRL n) 7 4
  let limit := if f = 3 then 200000000 else 800000000
  -- compared exactly: a divided clock is too fast where VCO > limit × D
  let fast : Bool := if 4 ≤ c ∧ c ≤ 8 then decide (limit * d < 12890625000) else if c = 9 then decide (limit * d < 10000000000) else decide (limit * 16 < s.outFreq n)
  let bad := f != 0 && fast
  if bad then (s.wb (Reg.OUT_STATUS n) 30 true).evt 1844 else s.wb (Reg.OUT_STATUS n) 30 false

/-- The PLL an output takes its clock from. -/
def outPll (src : Nat) : Option Nat := if 4 ≤ src ∧ src ≤ 8 then some (src - 2) else if src = 9 ∨ src = 10 then some 7 else none

/-- OUT_STATUS.RUNNING: the output drives a clock (R323, R324). -/
def State.outRuns (s : State) (n : Nat) : Bool :=
  let c := s.rf (Reg.OUT_CTRL n) 7 4
  s.rf (Reg.OUT_CTRL n) 1 0 != 0 && !s.rb (Reg.OUT_STATUS n) 30 && decide (1 ≤ c ∧ c ≤ 10) &&
    (if c = 2 then s.refValid 0 else if c = 3 then s.refValid 1 else true) &&
    (match outPll c with
     | some k =>
       if s.lstate k = lsOff then false
       else if s.lstate k = lsRelock then decide (1 ≤ s.rf (Reg.OUT_CTRL n) 9 8 ∧ s.rf (Reg.OUT_CTRL n) 9 8 ≤ 2) else true
     | none => true)

/-- CLK_OUT_SYNC written (R325): SYNCED of the armed outputs clears. -/
def State.outArm (s : State) : State :=
  let m := s.rf Reg.CLK_OUT_SYNC 1 0
  if m = 1 ∨ m = 2 then s.each 8 fun n s => s.when (s.rb Reg.CLK_OUT_SYNC (8 + n)) fun s => s.wb (Reg.OUT_STATUS n) 29 false else s

/-- The event of R325 that MODE `m` names. -/
def State.outSync (s : State) (m : Nat) : State :=
  if s.rf Reg.CLK_OUT_SYNC 1 0 ≠ m then s
  else
    let s := s.each 8 fun n s => s.when (s.rb Reg.CLK_OUT_SYNC (8 + n)) fun s => s.wb (Reg.OUT_STATUS n) 29 true
    (s.wf Reg.CLK_OUT_SYNC 1 0 0).evt 1843

/-- OUT_SYNC_LAPSE (R325). -/
def State.outLapse (s : State) : State := s.wf Reg.CLK_OUT_SYNC 1 0 0

/-! ### Registers -/

/-- PLL_OFFSET written (R314): limited; one value for both core PLLs. -/
def State.offsetWritten (s : State) (k : Nat) : State :=
  let v := unsgn 20 (clampI (-(offsetBound k)) (offsetBound k) (s.pllOffset k))
  let s := s.wf (Reg.PLL_OFFSET k) 19 0 v
  if k < 2 then ((s.wf (Reg.PLL_OFFSET (1 - k)) 19 0 v).retarget 0).retarget 1 else s.retarget k

/-- PLL_DITHER written (R322). -/
def State.ditherWritten (s : State) (k : Nat) : State := s.setPll k { s.pll k with lfsr := max 1 (s.rf (Reg.PLL_DITHER k) 30 0) }

/-- PLL_CMD written (R316, R318). -/
def State.pllCmd (s : State) (k v : Nat) : State :=
  match v % 16 with
  | 1 =>
    let o := sgn 32 (s.rn (Reg.PLL_REF_OFFSET k))
    let p := s.pll k
    let left := if p.command then o - p.out else o
    if !s.pllRuns k || o == 0 then s
    else (s.setPll k { p with phase := p.phase - left, command := true, out := o }).toLstate k lsSlewing
  | 2 => if s.lstate k = lsOff then s else (s.pllRelock k).1
  | _ => s

/-- CLK_REF_CTRL written (R309). -/
def State.refCtrlWritten (s : State) : State :=
  s.each 2 fun r s => if s.refOn r then (if s.refState r = 0 then s.toRef r 1 0 else s) else s.toRef r 0 0

/-- What writing a CLK register does beyond storing it. -/
def State.clkWritten (s : State) (a : Nat) (v : Word) : State :=
  if a = Reg.CLK_REF_CTRL then s.refCtrlWritten
  else if a = Reg.CLK_CORE_SEL then s.coreUpdate.1
  else if a = Reg.CLK_OUT_SYNC then s.outArm
  else match (List.range 8).find? (fun n => a == Reg.OUT_CTRL n || a == Reg.OUT_DIV n || a == Reg.OUT_FREQ n) with
  | some n => s.outSet n
  | none =>
    match (List.range 8).find? (fun k => pllPage k ≤ a && decide (a < pllPage k + 0x1000)) with
    | none => s
    | some k =>
      if a = Reg.PLL_CTRL k then s.pllFollow k 0
      else if a = Reg.PLL_OFFSET k then s.offsetWritten k
      else if a = Reg.PLL_DITHER k then s.ditherWritten k
      else if a = Reg.PLL_CMD k then s.pllCmd k v.toNat
      else s

/-- What a CLK register reads as where that is computed. -/
def State.clkView (s : State) (a : Nat) : Option Word :=
  match (List.range 8).find? (fun k => a == Reg.PLL_FREQ_PPM k || a == Reg.OUT_STATUS k) with
  | some k => if a = Reg.PLL_FREQ_PPM k then some (wd (unsgn 32 (s.pll k).cur)) else some (setBit (s.rd a) 31 (s.outRuns k))
  | none => none

/-! ### The commands -/

/-- REF_LOS (R309); `d` is the phase difference of the reference the PLLs move to, in ps. -/
def execRefLos (r : Fin 2) (d : Int) (s : State) : Host.Outcome State Fault Refusal := done (s.refLos r d)

/-- REF_FREQ_WINDOW (R309). -/
def execRefFreqWindow (r : Fin 2) (ppm move : Int) (s : State) : Host.Outcome State Fault Refusal := done (s.refWindow r ppm move)

/-- REF_QUALIFIED (R309). -/
def execRefQualified (r : Fin 2) (d : Int) (s : State) : Host.Outcome State Fault Refusal := done (s.refQualified r d)

/-- PLL_OFFSET_WRITE (R314). -/
def execPllOffsetWrite (p : Party) (k : Fin 8) (v : Word) (s : State) : Host.Outcome State Fault Refusal :=
  done (s.regWrite p (Reg.PLL_OFFSET k) v fun s => s.offsetWritten k)

/-- REALIGN (R316). -/
def execRealign (p : Party) (k : Fin 8) (s : State) : Host.Outcome State Fault Refusal := done (s.regWrite p (Reg.PLL_CMD k) 1 fun s => s.pllCmd k 1)

/-- PLL_SLEW_DONE (R317). -/
def execPllSlewDone (k : Fin 8) (s : State) : Host.Outcome State Fault Refusal := done (s.slewDone k)

/-- PLL_DITHER_SEED (R322). -/
def execPllDitherSeed (p : Party) (k : Fin 8) (v : Word) (s : State) : Host.Outcome State Fault Refusal :=
  done (s.regWrite p (Reg.PLL_DITHER k) v fun s => s.ditherWritten k)

/-- OUT_CTRL_WRITE (R323): `j` is 0 for OUT_CTRL, 1 for OUT_DIV, 2 for OUT_FREQ. -/
def execOutCtrlWrite (p : Party) (n : Fin 8) (j : Fin 3) (v : Word) (s : State) : Host.Outcome State Fault Refusal :=
  done (s.regWrite p (Reg.OUT_CTRL n + 4 * j) v fun s => s.outSet n)

/-- CLK_OUT_SYNC (R325). -/
def execClkOutSync (p : Party) (v : Word) (s : State) : Host.Outcome State Fault Refusal := done (s.regWrite p Reg.CLK_OUT_SYNC v fun s => s.outArm)

/-- OUT_SYNC_LAPSE (R325). -/
def execOutSyncLapse (s : State) : Host.Outcome State Fault Refusal := done s.outLapse

end Sys2Proof.Machine
end

