-- ==== Sys2Proof/Machine/Svc.lean ====
section
/-! DEFINITION. The service die: status panel, retained store, sensors, SMBus (spec/16_service_die_and_status_panel.md). What needs a
register access, a power transition or the reaction to a FENCE fault stands in later files. -/
namespace Sys2Proof.Machine

abbrev panelPage : Nat := Reg.page 17 1
abbrev storePage : Nat := Reg.page 17 2

/-! ### Images (R360) -/

/-- An image of 30 bytes with its CRC-16. -/
def withCrc16 (img : List Byte) : List Byte := img ++ leBytes 2 (crc16 img)

def imageOk (img : List Byte) : Bool := withCrc16 (img.take 30) == img

/-- SVC_SEG as an image (R360). -/
def State.segImage (s : State) : List Byte := withCrc16 (((List.range 8).flatMap fun w => leBytes 4 (s.rn (Reg.SVC_SEG w))).take 30)

/-- The postcard image (R358). -/
def State.postcard (s : State) : List Byte := s.storeRd 0xA0 32

/-! ### The panel driver (R361 to R371) -/

/-- The panel band in force (R361). -/
def State.band (s : State) : Nat := s.rf Reg.SVC_PANEL_STATUS 2 0

/-- The panel takes updates: enabled, IDLE or RUN. -/
def State.panelOn (s : State) : Bool := s.takesWork panelPage

/-- The driver may start: the die is up, and VHOLD carries it. -/
def State.panelFree (s : State) : Bool := s.svc.run.isNone && s.svc.powered && !s.svc.powerFail && !s.svc.waitVhold

/-- STATE of the panel page, IDLE or RUN. -/
def State.panelState (s : State) : State := s.idleRun panelPage s.svc.run.isSome (some 1892)

/-- The power-up rewrite runs, beside which only the rail monitors and the fault pair work (R365). -/
def State.restoring (s : State) : Bool := match s.svc.run with | some r => r.kind == .restore | none => false

/-- The service die does its work (R357, R365): it is powered, and no power-up rewrite runs. -/
def State.svcRuns (s : State) : Bool := s.svc.powered && !s.restoring

/-- A NOTICE fault of the service die: while the compute die is off, and after COMPUTE_LOST, no collector takes it, and the copies of the
fault records are kept as they are (R357). -/
def State.svcNotice (s : State) (src : Nat) : State := s.when (s.computeOn && !s.svc.computeLost) fun s => s.notice src

def State.startRun (s : State) (kind : PanelKind) (image : List Byte) (todo : List Nat) : State :=
  { s with svc := { s.svc with run := some ⟨kind, image, s.svc.drive, todo, false, s.band, []⟩ } }.panelState

/-- An update starts (R363): the target image, then the update record. -/
def State.startUpdate (s : State) (image : List Byte) : State :=
  let s := (s.storeWr 0x60 image).storeWr 0x80 [1, 0]
  (s.wf Reg.SVC_PANEL_STATUS 13 8 0).startRun .update image (List.range 6)

/-- The next work of the driver: a queued update, the rewrite after a failed check, the fault pixel's common, a refresh; while the page drains, a queued update only (R26). -/
def State.panelKick (s : State) : State :=
  if !s.panelFree then s
  else if s.pgState panelPage = stDraining && !s.discarding panelPage then
    match s.svc.queued with
    | some img => ({ s with svc := { s.svc with queued := none } }).startUpdate img
    | none => s
  else if !s.panelOn then s
  else
    match s.svc.queued with
    | some img => ({ s with svc := { s.svc with queued := none } }).startUpdate img
    | none =>
      if s.svc.reloadDue then ({ s with svc := { s.svc with reloadDue := false } }).startRun .reload s.svc.drive (List.range 6)
      else if s.svc.pixelDue then ({ s with svc := { s.svc with pixelDue := false } }).startRun .faultPixel s.svc.drive [s.rf Reg.SVC_PANEL_CTRL 18 16]
      else if s.svc.refreshDue then
        ({ s with svc := { s.svc with refreshDue := false, refreshNext := (s.svc.refreshNext + 1) % 6 } }).startRun .refresh s.svc.drive [s.svc.refreshNext]
      else s

/-- An update asked for (R363): refused while the page is FENCED or disabled, queued while the driver runs. -/
def State.panelUpdate (s : State) (image : List Byte) : State :=
  if !s.panelOn then s.wb Reg.SVC_PANEL_STATUS 29 true
  else
    let s := { s with svc := { s.svc with queued := some image } }.wb Reg.SVC_PANEL_STATUS 29 false
    s.panelKick

/-- A panel command (R363, R368). -/
def State.panelCmd (s : State) (v : Nat) : State :=
  match v % 16 with
  | 1 => s.panelUpdate s.segImage
  | 2 => (s.storeWr 0xA0 s.segImage).wb Reg.SVC_PANEL_STATUS 29 false
  | 3 => s.panelUpdate s.postcard
  | _ => s

/-- SVC_PANEL_CMD written through SVC page 1: after COMPUTE_LOST, updates come from SMBus only (R357). -/
def State.pagePanelCmd (s : State) (v : Nat) : State := if s.svc.computeLost then s else s.panelCmd v

/-- The Postcard is shown by itself (R368). -/
def State.postcardAuto (s : State) : State :=
  if s.rb Reg.SVC_PANEL_CTRL 3 && imageOk s.postcard && s.panelOn then s.panelUpdate s.postcard else s

/-- The five bytes of a common in an image, the fault pixel forced (R368). -/
def State.commonBytes (s : State) (img : List Byte) (k : Nat) : List Byte :=
  let row := (img.drop (5 * k)).take 5
  if s.rb Reg.SVC_PANEL_CTRL 15 ∧ s.rf Reg.SVC_PANEL_CTRL 18 16 = k then
    let g := s.rf Reg.SVC_PANEL_CTRL 29 24
    updWith row (g / 8) fun b => if s.svc.pairFaulted then b ||| BitVec.ofNat 8 (2 ^ (g % 8)) else b &&& ~~~(BitVec.ofNat 8 (2 ^ (g % 8)))
  else row

/-- The image shown from now on: drive memory and store (R360). -/
def State.showImage (s : State) (img : List Byte) : State := { s.storeWr 0x40 img with svc := { (s.storeWr 0x40 img).svc with drive := img } }

def State.endRun (s : State) : State := { s with svc := { s.svc with run := none } }.panelState

/-- The driver's run ends. -/
def State.runDone (s : State) (r : PanelRun) : State :=
  match r.kind with
  | .update => (((s.showImage r.image).storeWr 0x80 [0]).evt 1888).endRun.panelKick
  | .restore =>
    let s := ((s.showImage r.image).storeWr 0x80 [0]).endRun
    ({ s with svc := { s.svc with owedRestored := true } }.wb Reg.SVC_STATUS 30 true).panelKick
  | .join => ((s.endRun).toState panelPage (if s.enabled panelPage then stIdle else stOff) (some 1892)).panelKick
  | .reload => s.endRun.panelKick
  | .refresh => s.endRun.panelKick
  | .faultPixel => s.endRun.panelKick

/-- The band each common was last written in. -/
def bandOf (l : List (Nat × Nat)) (k : Nat) : Nat := match l.find? (fun e => e.1 == k) with | some e => e.2 | none => 0

/-- All commons of a run are written: the rewrites of R362, or the end. The rewrites come before step 4 of R363, so they take the image that
the update shows (log 62). -/
def State.commonsDone (s : State) (r : PanelRun) (last : Nat) : State :=
  let re := if r.kind = .update ∧ !r.rewriting then
      (List.range 6).filter fun k => decide (2 ≤ (bandOf r.bands k - bandOf r.bands last) + (bandOf r.bands last - bandOf r.bands k)) else []
  if re.isEmpty then s.runDone r
  else { s.evt 1891 with svc := { (s.evt 1891).svc with run := some { r with rewriting := true, todo := re, band := s.band } } }

/-- The image a discarded update leaves (R364): the target for the commons done. -/
def mixImage (new old : List Byte) (doneMask : Nat) : List Byte :=
  withCrc16 ((List.range 6).flatMap fun k => (((if doneMask.testBit k then new else old)).drop (5 * k)).take 5)

/-- COMMON_DONE (R363). -/
def State.commonDone (s : State) : State :=
  match s.svc.run with
  | none => s
  | some r =>
    match r.todo with
    | [] => s.runDone r
    | k :: t =>
      let px := s.svc.pixels.take (5 * k) ++ s.commonBytes r.image k ++ s.svc.pixels.drop (5 * k + 5)
      let s := { s with svc := { s.svc with pixels := px } }
      if s.svc.powerFail then s.endRun
      else
        let r := { r with bands := (k, r.band) :: r.bands.filter (fun e => e.1 != k), todo := t }
        let upd := r.kind == .update && !r.rewriting
        let mask := if upd then s.rf Reg.SVC_PANEL_STATUS 13 8 ||| 2 ^ k else s.rf Reg.SVC_PANEL_STATUS 13 8
        let s := s.when upd fun s =>
          ((s.wf Reg.SVC_PANEL_STATUS 13 8 mask).storeWr 0x81 [BitVec.ofNat 8 mask]).storeWr (0x82 + k) [BitVec.ofNat 8 r.band]
        let st := s.pgState panelPage
        if st == stFenced || st == stTest || (st == stReturning && r.kind != .join) then s.endRun
        else if s.pgState panelPage = stDraining ∧ s.discarding panelPage then
          let s := if r.kind = .update then ((s.showImage (mixImage r.image r.old (s.rf Reg.SVC_PANEL_STATUS 13 8))).storeWr 0x80 [0]) else s
          ({ s with svc := { s.svc with queued := none } }).endRun
        else if t.isEmpty then s.commonsDone r k
        else { s with svc := { s.svc with run := some { r with band := s.band } } }

/-- PANEL_REFRESH (R367). -/
def State.panelRefresh (s : State) : State :=
  if s.rf Reg.SVC_REFRESH 15 0 = 0 ∨ !s.panelOn ∨ !s.svcRuns then s
  else ({ s with svc := { s.svc with refreshDue := true } }).panelKick

/-- Drive memory reloaded from the store (R370, R371): every pixel OFF where the store's copy fails too. -/
def State.reloadDrive (s : State) : State :=
  let img := s.storeRd 0x40 32
  { s with svc := { s.svc with drive := if imageOk img then img else withCrc16 (List.replicate 30 0) } }

/-- SEG_CRC_CHECK (R370): `upset` names the bits of drive memory that have flipped since the last check. -/
def State.segCheck (s : State) (upset : BitVec 256) : State :=
  if !s.rb Reg.SVC_PANEL_CTRL 1 || !s.panelOn || !s.svcRuns then s
  else
    let d := (List.range 32).map fun i => nth 0 s.svc.drive i ^^^ BitVec.ofNat 8 (upset.toNat >>> (8 * i))
    let s := { s with svc := { s.svc with drive := d } }
    if imageOk d then s
    else
      let s := (s.svcNotice 482).reloadDrive
      ({ s with svc := { s.svc with reloadDue := true } }).panelKick

/-- The panel is fenced (R371). -/
def State.panelFence (s : State) : State := s.toState panelPage stFenced (some 1892)

/-- RETURNING ends for the panel (R371): drive memory is reloaded, and the panel joins by rewriting all six commons. -/
def State.panelJoin (s : State) : State :=
  let s := s.reloadDrive
  if s.panelFree then s.startRun .join s.svc.drive (List.range 6) else s

/-! ### The retained store through SVC page 2 (R359) -/

/-- The area of a unit's byte offset belongs to a party (R358). -/
def areaOf (p : Party) (off : Nat) : Bool :=
  match p with
  | .mgt => decide (0x400 ≤ off ∧ off < 0x800)
  | .bmc => decide (0x800 ≤ off ∧ off < 0xC00)
  | .dbg => false
  | p => decide (0xC00 + 0x100 * partyCode p ≤ off ∧ off < 0xD00 + 0x100 * partyCode p)

/-- SVC_STORE_CMD (R359). -/
def State.storeCmd (s : State) (p : Party) (v : Nat) : State :=
  let off := s.rf Reg.SVC_STORE_ADDR 11 4 * 16
  if s.svc.storeOp.isSome then s
  else if v % 16 = 1 then
    ({ s with svc := { s.svc with storeOp := some ⟨false, off, []⟩ } }.wb Reg.SVC_STORE_STATUS 31 true).wf Reg.SVC_STORE_STATUS 30 29 0
  else if v % 16 = 2 then
    if !areaOf p off then (s.wb Reg.SVC_STORE_STATUS 30 true).ownViol p Reg.SVC_STORE_CMD
    else
      let d := (List.range 4).flatMap fun i => leBytes 4 (s.rn (Reg.SVC_STORE_DATA i))
      ({ s with svc := { s.svc with storeOp := some ⟨true, off, d⟩ } }.wb Reg.SVC_STORE_STATUS 31 true).wf Reg.SVC_STORE_STATUS 30 29 0
  else s

/-- A GRAVE fault of the device's own (R344): it fences nothing. -/
def State.grave (s : State) (src : Nat) (lo hi : Word := 0) : State := s.raiseWith noReact [⟨src, lo, hi, [], false⟩]

/-- `n` bytes of the store as a reader sees them (R359): an uncorrectable unit among them raises SVC_STORE_UNCORR, and reads as zero. -/
def State.storeSee (s : State) (off n : Nat) : State × List Byte :=
  let d := s.storeRd off n
  match s.svc.storeBad.find? fun u => decide (off / 16 ≤ u ∧ u * 16 < off + n) with
  | some u => (s.grave 481 (wd u), d)
  | none => (s, d)

/-- STORE_OP_END (R376). -/
def State.storeEnd (s : State) : State :=
  match s.svc.storeOp with
  | none => s
  | some o =>
    let s := { s with svc := { s.svc with storeOp := none } }.wb Reg.SVC_STORE_STATUS 31 false
    let s := if o.write then s.storeWr o.unit o.data
      else
        let r := s.storeSee o.unit 16
        (r.1.wb Reg.SVC_STORE_STATUS 29 (s.svc.storeBad.contains (o.unit / 16))).each 4 fun i s => s.wn (Reg.SVC_STORE_DATA i) (leWordAt r.2 (4 * i))
    s.evt 1889

/-! ### Sensors (R372) -/

/-- A reading's register: VALID, age, value. -/
def readingWord (valid : Bool) (age val : Nat) : Word := wd (b2n valid * 2 ^ 31 + min 32767 age * 65536 + val % 65536)

/-- A resistance that the bridge reads, as a ratio: the bias resistor times v / (1.8 V − v), in ohms; `v` in µV, with the
ADC's gain trim (R377). -/
def State.ntcRatio (s : State) (v : Nat) : Nat × Nat := (s.rf Reg.SVC_NTC_BIAS 15 0 * 10 * (v * s.svc.gain / 32768), 1800000 - v * s.svc.gain / 32768)

def ntcValid (r : Nat × Nat) : Bool := decide (0 < r.2) && decide (50 * r.2 ≤ r.1) && decide (r.1 ≤ 2000000 * r.2)

/-- The temperature in Q9.6 (R372); none where the parameters give the formula no value. -/
def ntcTemp (r : Nat × Nat) (r25 beta : Nat) : Option Int :=
  if r25 = 0 ∨ beta = 0 then none
  else
    let inv := Fixed.ofRat 100 29815 + Fixed.ln (Fixed.ofRat r.1 (r.2 * r25 * 10)) / beta
    if inv ≤ 0 then none else some (Fixed.round (Fixed.div Fixed.one inv - Fixed.ofRat 27315 100) 64)

/-- An NTC input converted: a reading that is not valid keeps its age growing. -/
def State.ntcRead (s : State) (reg par v : Nat) : State :=
  let r := s.ntcRatio v
  let was := s.rb reg 31
  if ntcValid r then
    let (t, s) : Nat × State := match ntcTemp r (s.rf par 15 0) (s.rf par 31 16) with
      | some t => (unsgn 16 t, s)
      | none => let f := s.free 16; (f.1.toNat, f.2)
    (s.wr reg (readingWord true 0 t)).when (!was) fun s => s.evt 1894
  else ((s.wb reg 31 false).svcNotice 484).when was fun s => s.evt 1894

/-- The band for a reading in Q9.6 (R361): up at a boundary, down 1.0 °C below it. -/
def bandStep (b : Nat) (t : Int) : Nat :=
  let up := ((List.range 7).filter fun (k : Nat) => decide (640 * (k : Int) ≤ t)).length
  let down := ((List.range 7).filter fun (k : Nat) => decide (640 * (k : Int) - 64 < t)).length
  if b < up then up else if down < b then down else b

/-- The panel band brought up to date. -/
def State.bandUpdate (s : State) : State :=
  let b := if s.rb Reg.SVC_NTC_0 31 then bandStep s.band (sgn 16 (s.rf Reg.SVC_NTC_0 15 0)) else 0
  if b = s.band then s else (s.wf Reg.SVC_PANEL_STATUS 2 0 b).evt 1896

/-- PWR_RAIL bits set or cleared, with their event (R439, R433). -/
def State.railBits (s : State) (mask v : Nat) : State :=
  let old := s.rf Reg.PWR_RAIL 8 0
  let new := old &&& (511 ^^^ mask) ||| (v &&& mask)
  if new = old then s else (s.wf Reg.PWR_RAIL 8 0 new).evt 1939

/-- A die diode converted: its reading is valid from now on. -/
def State.dieRead (s : State) (reg : Nat) (t : BitVec 16) : State :=
  (s.wr reg (readingWord true 0 t.toNat)).when (!s.rb reg 31) fun s => s.evt 1894

/-- NTC_CONVERSION (R372): the voltages of the two NTC inputs in µV, the die readings in Q9.6, VHOLD in
mV; the ADC's gain applies to every voltage (R377), and while the power-up rewrite runs only the rail monitor's input counts (R365). -/
def State.ntcConversion (s : State) (v0 v1 : Nat) (tc ts : BitVec 16) (vhold : Nat) : State :=
  let vhold := vhold * s.svc.gain / 32768
  let rail (s : State) : State := (s.wn Reg.SVC_VHOLD (min 65535 vhold)).railBits 256 (if vhold < 11000 then 256 else 0)
  if !s.svc.powered then s
  else if s.restoring then rail s
  else
    let s := (s.ntcRead Reg.SVC_NTC_0 Reg.SVC_NTC_PARAM_0 v0).ntcRead Reg.SVC_NTC_1 Reg.SVC_NTC_PARAM_1 v1
    rail ((s.dieRead Reg.SVC_TDIE_COMPUTE tc).dieRead Reg.SVC_TDIE_SERVICE ts).bandUpdate

/-- VREF_CONVERSION (R372). -/
def State.vrefConversion (s : State) (uv : Nat) : State :=
  if !s.svcRuns then s else
  let was := s.rb Reg.SVC_VREF 31
  let uv := uv * s.svc.gain / 32768
  (s.wn Reg.SVC_VREF (2 ^ 31 + min (2 ^ 21 - 1) uv)).when (!was) fun s => s.evt 1894

/-- A millisecond of the readings' ages. -/
def State.svcTick (s : State) : State :=
  s.eachOf [Reg.SVC_NTC_0, Reg.SVC_NTC_1, Reg.SVC_TDIE_COMPUTE, Reg.SVC_TDIE_SERVICE] fun a s => s.wf a 30 16 (satAdd 15 (s.rf a 30 16) 1)

/-! ### COMPUTE_LOST (R352) -/

/-- The service die's own record of COMPUTE_LOST. -/
def lostRec (seq n : Nat) : FRec := ⟨⟨479, 0, 0, [], false⟩, 3, 0, false, false, 0, seq, n⟩

/-- The collector logs COMPUTE_LOST after the next reset of the compute die (R352). -/
def State.logLost (s : State) : State :=
  if !s.svc.owedLost then s
  else { s.logRec (lostRec s.fltSeq 0) with svc := { (s.logRec (lostRec s.fltSeq 0)).svc with owedLost := false } }

/-- Page 1 is enabled by the service die (R369). -/
def State.panelEnable (s : State) : State :=
  if s.pgState panelPage = stFenced then s
  else
    let s := s.wb (Reg.PAGE_CTRL panelPage) 0 true
    if s.pgState panelPage = stOff ∨ s.pgState panelPage = stDraining then
      s.toState panelPage (if s.svc.run.isSome then stRun else stIdle) (some 1892)
    else s

/-- COMPUTE_LOST (R352, R368, R369). -/
def State.computeLost (s : State) : State :=
  if !s.computeOn || s.svc.computeLost then s
  else
    let s := s.storeWr 0x140 (leBytes 4 (nextSeq s.fltSeq))
    let ws := wordBytes (s.recWords (lostRec s.fltSeq 0))
    let s := if s.storeFlag 0 then s else (s.storeWr 0xC0 ws).setStoreFlag 0 true
    let s := if s.storeFlag 1 then s else (s.storeWr 0xE0 ws).setStoreFlag 1 true
    let bits := s.storeByte (0x100 + 59) ||| 0x80
    let s := (s.storeWr (0x100 + 59) [bits]).setStoreFlag 2 true
    let s := { s with svc := { s.svc with computeLost := true, owedLost := true } }
    ((s.panelEnable).postcardAuto).pairUpdate.panelKick

/-! ### SMBus (R373, R374) -/

/-- The port answers: the die is powered, and no power-up rewrite runs (R365). -/
def State.smbUp (s : State) : Bool := s.svcRuns && !s.svc.waitVhold

/-- A transaction with its packet error code, absent or right or wrong, is taken (R373). -/
def State.pecOk (s : State) (pec : Option Bool) : Bool := s.smbUp && (match pec with | some b => b | none => !s.rb Reg.SVC_SMB_CTRL 0)

def State.smbReply (s : State) (r : Reply) : State := s.answer (if s.smbUp then r else .noAnswer)

/-- SMBus command 0x01. -/
def State.smbStatus (s : State) : Nat :=
  s.pwr.state % 4 + b2n s.svc.pairFaulted * 4 + b2n s.graveLatched * 8 + b2n (s.rb Reg.SVC_STATUS 30) * 16 + b2n s.svc.run.isSome * 32

/-- The service die has answered the alert: with its queue empty it releases SMB_ALERT_N (R374). -/
def State.alertRelease (s : State) : State :=
  { s with svc := { s.svc with pairAlert := s.svc.pairAlert && !s.svc.events.isEmpty } }.alertUpdate

/-- Store bytes as SMBus reads them (R373). -/
def State.smbStore (s : State) (off n : Nat) : State :=
  if s.smbUp then let r := s.storeSee off n; r.1.answer (.bytes r.2) else s.answer .noAnswer

/-- The oldest routed event is removed (R374). -/
def State.eventPop (s : State) : State :=
  match s.svc.events with
  | [] => s.answer (.word 0)
  | e :: t =>
    let s := ({ s with svc := { s.svc with events := t } }.wf Reg.SVC_BMC_EVT 5 0 t.length).alertRelease
    s.answer (.word (wd (32768 + e % 2048)))

/-- The SMBus address (R373). -/
def State.smbAddr (s : State) : Nat := if s.rf Reg.SVC_STATUS 22 16 = 0 then 0x4C else s.rf Reg.SVC_STATUS 22 16

/-- What an SVC register reads as where that is computed (R375). -/
def State.svcView (s : State) (a : Nat) : Option Word :=
  if a = Reg.SVC_PANEL_STATUS then
    let w := s.rd a
    let r := s.svc.run
    let w := setBit (setBit w 31 r.isSome) 30 s.svc.queued.isSome
    some (match r with | some x => setFld (setFld w 22 20 (x.todo.headD 0)) 18 16 x.band | none => w)
  else if a = Reg.SVC_STATUS then some (setFld (s.rd a) 22 16 s.smbAddr)
  else match (List.range 8).find? (fun w => a == Reg.SVC_SHOWN w) with
  | some w => some (wd (leWordAt (s.svc.drive.take 30) (4 * w)))
  | none => none

/-- What writing an SVC register by a party does beyond storing it. -/
def State.svcWritten (s : State) (p : Party) (a : Nat) (v : Word) : State :=
  if a = Reg.SVC_PANEL_CMD then s.pagePanelCmd v.toNat
  else if a = Reg.SVC_STORE_CMD then s.storeCmd p v.toNat
  else if a = Reg.SVC_SMB_CTRL then s.alertUpdate
  else s

/-! ### The commands -/

/-- UPDATE (R363). -/
def execPanelUpdate (p : Party) (s : State) : Host.Outcome State Fault Refusal := done (s.regWrite p Reg.SVC_PANEL_CMD 1 fun s => s.pagePanelCmd 1)

/-- STORE_POSTCARD (R368). -/
def execStorePostcard (p : Party) (s : State) : Host.Outcome State Fault Refusal := done (s.regWrite p Reg.SVC_PANEL_CMD 2 fun s => s.pagePanelCmd 2)

/-- SHOW_POSTCARD (R368). -/
def execShowPostcard (p : Party) (s : State) : Host.Outcome State Fault Refusal := done (s.regWrite p Reg.SVC_PANEL_CMD 3 fun s => s.pagePanelCmd 3)

/-- PANEL_REFRESH (R367). -/
def execPanelRefresh (s : State) : Host.Outcome State Fault Refusal := done s.panelRefresh

/-- SEG_CRC_CHECK (R370). -/
def execSegCrcCheck (upset : BitVec 256) (s : State) : Host.Outcome State Fault Refusal := done (s.segCheck upset)

/-- NTC_CONVERSION (R372). -/
def execNtcConversion (v0 v1 : Nat) (tc ts : BitVec 16) (vhold : Nat) (s : State) : Host.Outcome State Fault Refusal :=
  done (s.ntcConversion v0 v1 tc ts vhold)

/-- VREF_CONVERSION (R372). -/
def execVrefConversion (uv : Nat) (s : State) : Host.Outcome State Fault Refusal := done (s.vrefConversion uv)

/-- STORE_READ (R359). -/
def execStoreRead (p : Party) (s : State) : Host.Outcome State Fault Refusal := done (s.regWrite p Reg.SVC_STORE_CMD 1 fun s => s.storeCmd p 1)

/-- STORE_WRITE (R359). -/
def execStoreWrite (p : Party) (s : State) : Host.Outcome State Fault Refusal := done (s.regWrite p Reg.SVC_STORE_CMD 2 fun s => s.storeCmd p 2)

/-- STORE_OP_END (R376). -/
def execStoreOpEnd (s : State) : Host.Outcome State Fault Refusal := done s.storeEnd

/-- COMPUTE_LOST (R352). -/
def execComputeLost (s : State) : Host.Outcome State Fault Refusal := done s.computeLost

/-- HEARTBEAT (R352). -/
def execHeartbeat (s : State) : Host.Outcome State Fault Refusal := done (if s.computeOn then { s with sent := s.sent ++ [Output.heartbeat] } else s)

/-- SMB_STATUS (R373). -/
def execSmbStatus (s : State) : Host.Outcome State Fault Refusal := done (s.smbReply (.word (wd s.smbStatus)))

/-- SMB_PANEL_IMAGE (R373, R369). -/
def execSmbPanelImage (img : BitVec 240) (pec : Option Bool) (s : State) : Host.Outcome State Fault Refusal :=
  let load (s : State) : State := s.each 8 fun w s => s.wn (Reg.SVC_SEG w) (img.toNat / 2 ^ (32 * w))
  done (if !s.pecOk pec then s.answer .noAnswer
    else if s.computeOn && !s.svc.computeLost then
      (s.writeBy .bmc Reg.SVC_PANEL_CMD 1 fun _ s => (load s).panelCmd 1).evt 1895
    else ((load s).panelCmd 1).evt 1895)

/-- SMB_SHOWN_IMAGE (R373). -/
def execSmbShownImage (s : State) : Host.Outcome State Fault Refusal := done (s.smbReply (.bytes s.svc.drive))

/-- SMB_STORE_READ (R373): a length outside 1 to 32 is not acknowledged. -/
def execSmbStoreRead (off : BitVec 16) (len : BitVec 8) (s : State) : Host.Outcome State Fault Refusal :=
  done (if len.toNat = 0 ∨ 32 < len.toNat then s.answer .noAnswer else s.smbStore off.toNat len.toNat)

/-- SMB_STORE_WRITE (R373): one unit of the BMC area. -/
def execSmbStoreWrite (off : BitVec 16) (data : BitVec 128) (pec : Option Bool) (s : State) : Host.Outcome State Fault Refusal :=
  done (if s.pecOk pec && areaOf .bmc off.toNat && decide (off.toNat % 16 = 0) then s.storeWr off.toNat (leBytes 16 data.toNat) else s)

/-- SMB_FF_COPY (R373). -/
def execSmbFfCopy (s : State) : Host.Outcome State Fault Refusal := done (s.smbStore 0xC0 32)

/-- SMB_FG_COPY (R373). -/
def execSmbFgCopy (s : State) : Host.Outcome State Fault Refusal := done (s.smbStore 0xE0 32)

/-- SMB_EVENT_POP (R374). -/
def execSmbEventPop (s : State) : Host.Outcome State Fault Refusal := done (if s.smbUp then s.eventPop else s.answer .noAnswer)

/-- SMB_SENSORS (R373). -/
def execSmbSensors (s : State) : Host.Outcome State Fault Refusal :=
  done (s.smbReply (.bytes ((List.range 6).flatMap fun i => leBytes 4 (s.rn (Reg.SVC_NTC_0 + 4 * i)))))

/-- SMB_ALERT_RESPONSE (R374). -/
def execSmbAlertResponse (s : State) : Host.Outcome State Fault Refusal :=
  done (if s.smbUp && s.svc.alert then
      s.alertRelease.answer (.bytes [BitVec.ofNat 8 (2 * s.smbAddr)])
    else s.answer .noAnswer)

end Sys2Proof.Machine
end

