-- ==== Sys2Proof/Machine/Cal.lean ====
section
/-! DEFINITION. Calibration and wear (spec/17_calibration_and_wear.md). -/
namespace Sys2Proof.Machine

abbrev calPage : Nat := Reg.page 18 0

/-- The active management pair works: it is neither halted nor fenced (R425, R429). -/
def State.mgtRuns (s : State) : Bool :=
  let a := s.rf Reg.MGT_PAIR 0 0
  s.computeOn && !s.rb Reg.PWR_DBG (2 * a) && (if a = 0 then s.rf Reg.MGT_PAIR 6 4 else s.rf Reg.MGT_PAIR 10 8) != stFenced

def State.setCalRun (s : State) (r : Option CalRun) : State := { s with cal := { s.cal with run := r } }

def State.calState (s : State) (v : Nat) : State := s.wf Reg.CAL_STATUS 2 0 v

/-! ### Doses (R390, R391) -/

/-- A cell's number: region, row, column, colour. -/
def doseCell (t gj gi c : Nat) : Nat := ((t * 34 + gj) * 40 + gi) * 3 + c

def State.doseAddr (s : State) (i : Nat) : Nat := (s.addr40 Reg.CAL_DOSE_ADDR_LO + 4 * i) % 2 ^ 40

/-- The last saved dose of a cell, or 0 (R392). -/
def State.savedDose (s : State) (i : Nat) : Nat := match s.cal.saved with | some l => Sparse.get (fun _ => 0) l i | none => 0

def State.doseWrite (s : State) (i v : Nat) : State := (s.writeMem none (s.doseAddr i) (leBytes 4 v)).1

/-- A dose read; one that comes uncorrectable is put back from the saved doses (R392). -/
def State.doseRead (s : State) (i : Nat) : State × Nat :=
  let (s, r) := s.readMem none (s.doseAddr i) 4
  if r.uncorr then ((s.doseWrite i (s.savedDose i)).notice 491, s.savedDose i) else (s, leNat r.data)

/-- The cells that touch grid point (gi, gj). -/
def pointCells (t gi gj c : Nat) : List Nat :=
  ((List.range 2).flatMap fun a => (List.range 2).filterMap fun b =>
    if 1 ≤ gi + a ∧ gi + a ≤ 40 ∧ 1 ≤ gj + b ∧ gj + b ≤ 34 then some (doseCell t (gj + b - 1) (gi + a - 1) c) else none)

/-- The dose of a grid point, as a sum and a count whose quotient is the mean (R390). -/
def State.pointDose (s : State) (t gi gj c : Nat) : State × Nat × Nat :=
  (pointCells t gi gj c).foldl (fun (acc : State × Nat × Nat) i =>
    let (s, v) := acc.1.doseRead i
    (s, acc.2.1 + v, acc.2.2 + 1)) (s, 0, 0)

/-- Emitters of a cell in a layout (R390). -/
def cellEmitters (lay gj : Nat) : Nat := 32 * min 32 (geoLensH lay - 32 * gj) * geoNu lay * geoNv

/-- The dose area is mapped: it is shorter than a unit of the map, so its two ends say so. -/
def State.dosesMapped (s : State) : Bool := (s.locate (s.doseAddr 0)).isSome && (s.locate (s.doseAddr 24479)).isSome

/-- The firmware restores the doses, and accounting begins (R391, R392): once the area is mapped, for before that there is nowhere to
restore them to (log 66). -/
def State.doseRestore (s : State) : State :=
  if s.cal.counting || !s.mgtRuns || !s.dosesMapped then s
  else
    let s := match s.cal.saved with
      | some _ => s.each 24480 fun i s => s.doseWrite i (s.savedDose i)
      | none => (s.each 24480 fun i s => s.doseWrite i 0).notice 491
    { s with cal := { s.cal with counting := true } }

/-- DOSE_UPDATE (R390): the light of the oldest ended frame that has not been counted; doses that could not be restored before are restored
first. -/
def State.doseUpdate (s : State) : State :=
  let s := s.doseRestore
  match s.syn.frames.find? (fun f => f.ended && !f.light.isEmpty) with
  | none => s
  | some f =>
    let r := rateOf s.cmtRate
    let s0 := s.setFrame { f with light := [] }
    if !s.cal.counting || !s.mgtRuns then s0
    else s0.eachOf f.light fun e s =>
      let (s, v) := s.doseRead e.1
      let add := (rdiv ((e.2 * 16 * r.2 : Nat) : Int) ((1023 * cellEmitters f.layout (e.1 / 120 % 34) * r.1 : Nat) : Int)).toNat
      s.doseWrite e.1 (min (2 ^ 32 - 1) (v + add))

/-- Entry `i` of a colour's wear curve (R394). -/
def State.wearEntry (s : State) (c i : Nat) : Nat := s.rf (Reg.CAL_WEAR c (i / 2)) (16 * (i % 2) + 15) (16 * (i % 2))

/-- The wear gain for `n / d` dose units since the baseline (R391). -/
def State.wearGain (s : State) (c n d : Nat) : Nat :=
  let step := 4096 * 57600 * d
  let i := n / step
  if 15 ≤ i then s.wearEntry c 15
  else
    let a : Int := s.wearEntry c i
    let b : Int := s.wearEntry c (i + 1)
    (rdiv (a * step + (b - a) * (n % step : Nat)) step).toNat

/-- WEAR_UPDATED (R391): the gains go into the inactive wear bank. -/
def State.wearUpdate (s : State) : State :=
  if !s.cal.counting || !s.mgtRuns then s
  else
    let b := 1 - s.wearActive
    let (s, w) := (List.range 6).foldl (fun (acc : State × List (Nat × Nat)) t =>
      (List.range 1435).foldl (fun (acc : State × List (Nat × Nat)) pt =>
        (List.range 3).foldl (fun (acc : State × List (Nat × Nat)) c =>
          let (s, sum, cnt) := acc.1.pointDose t (pt % 41) (pt / 41) c
          let k := t * 4305 + pt * 3 + c
          let base := Sparse.get (fun _ => 0) s.cal.base k
          (s, Sparse.set wearDefault acc.2 k (s.wearGain c (sum - cnt * base) cnt))) acc) acc) (s, [])
    let s := s.setWear b w
    ({ s with ton := { s.ton with wearReady := true } }).evt 1909

/-- DOSE_SAVED (R392). -/
def State.doseSave (s : State) : State :=
  if !s.cal.counting || !s.mgtRuns then s
  else
    let (s, l) := (List.range 24480).foldl (fun (acc : State × List (Nat × Nat)) i =>
      let (s, v) := acc.1.doseRead i
      (s, if v = 0 then acc.2 else acc.2 ++ [(i, v)])) (s, [])
    ({ s with cal := { s.cal with saved := some l } }).evt 1910

/-! ### Images (R55, R150) -/

/-- The image of a bank with all six tiles. -/
def bankImage (k : TabKind) (b : Bank) : List Byte :=
  let sec (t : Nat) : List Byte :=
    match k with
    | .geo =>
      let w (i : Nat) : List Byte := leBytes 4 (b.word .geo t i)
      ((List.range 10).flatMap w) ++ List.replicate 24 0 ++ ((List.range 128).flatMap fun i => w (16 + i)) ++ ((List.range 1435).flatMap fun i => w (144 + i))
        ++ List.replicate 20 0
    | .ton => (List.range 8448).flatMap fun i => leBytes 2 (b.word .ton t i)
  let body := leBytes 8 b.ident ++ leBytes 2 (if k = .geo then b.trefWord else 0) ++ List.replicate 38 0 ++ (List.range 6).flatMap sec
  leBytes 4 k.magic ++ leBytes 2 1 ++ [0x3F, BitVec.ofNat 8 (if k = .geo then b.layout else 0)] ++ leBytes 4 (64 + 6 * k.section_)
    ++ leBytes 4 (crc32c body) ++ body

/-- A bank with the substitutes of its damaged words in place. -/
def Bank.mended (b : Bank) : Bank := { b with words := Sparse.dropKeys (fun i => b.damaged.contains i) b.words, damaged := [] }

/-! ### Runs (R378 to R381) -/

/-- A COMMAND block's bits [55:8] (R157, R379): CODE and ARGS numbered as in the payload. -/
def calBlock (code args : Nat) : Nat := code + args / 256

def State.calRunByte (s : State) : Nat := s.rf Reg.CAL_RUN_CNT 7 0

/-- The outstanding MEASURE of a run is sent (R379). -/
def State.sendMeasure (s : State) (r : CalRun) : State :=
  match r.left with
  | [] => s
  | t :: _ =>
    let pt := if r.kind = 1 then r.count else r.count / 3
    let col := if r.kind = 1 then 3 else r.count % 3
    s.panelCommand t (calBlock 0x41 (pt % 41 * 2 ^ 16 + pt / 41 * 2 ^ 22 + col * 2 ^ 28 + r.seq % 65536 * 2 ^ 32 + s.calRunByte * 2 ^ 48))

/-- A region's measurement begins. -/
def State.beginRegion (s : State) (r : CalRun) : State :=
  match r.left with
  | [] => s
  | t :: _ => (((s.wf Reg.CAL_STATUS 26 24 t).wf Reg.CAL_STATUS 15 3 0).panelCommand t (calBlock 0x40 (r.kind * 2 ^ 16 + s.calRunByte * 2 ^ 48))).sendMeasure r

def State.calEnd (s : State) (t : Nat) (abort : Bool) : State := s.panelCommand t (calBlock 0x42 (b2n abort * 2 ^ 16 + s.calRunByte * 2 ^ 48))

/-- The run ends with a result (R385, R386). -/
def State.runEnd (s : State) (result : Nat) : State :=
  let s := (s.setCalRun none).storeWr 0x209 [0]
  let s := ((s.wf Reg.CAL_STATUS 23 20 result).calState 0).toState calPage stIdle none
  s.evt 1905

/-- The run ends with nothing applied; the panel is told (R386). -/
def State.runAbort (s : State) (result : Nat) : State :=
  match s.cal.run with
  | none => s
  | some r =>
    let s := if r.phase = 0 ∧ r.kind ≤ 2 then (match r.left with | t :: _ => s.calEnd t true | [] => s) else s
    s.runEnd result

/-- A result outside the limits (R384). -/
def State.runReject (s : State) (t : Nat) : State := ((s.wf Reg.CAL_STATUS 26 24 t).notice 488).runEnd 2

/-- A region can be measured (R378). -/
def State.regionReady (s : State) (t : Nat) : Bool :=
  s.enabled (Reg.page 3 (1 + t)) && s.stage t == stageData && s.rb (Reg.PLK_GRP_BC_STATUS t) 31

/-- The regions of a mask. -/
def maskRegions (mask : Nat) : List Nat := (List.range 6).filter fun t => mask.testBit t

/-- A run of a kind over the regions of a mask is accepted (R378). -/
def State.calOk (s : State) (kind mask : Nat) : Bool :=
  s.enabled calPage && s.rb Reg.CAL_CTRL 0 && s.pgState calPage == stIdle && s.cal.run.isNone && decide (1 ≤ kind ∧ kind ≤ 4)
    && (decide (3 ≤ kind) || (maskRegions mask).all fun t => s.regionReady t)

/-- RUN (R378). -/
def State.calStart (s : State) (kind mask : Nat) : State :=
  let regions := maskRegions mask
  let ok := s.calOk kind mask
  let s := s.wb Reg.CAL_STATUS 31 (!ok)
  if !ok then s
  else
    let s := s.storeWr 0x209 [BitVec.ofNat 8 (1 + 2 * kind)]
    let s := (s.cntWrap Reg.CAL_RUN_CNT).evt 1904
    let s := ((s.wf Reg.CAL_STATUS 19 16 kind).wf Reg.CAL_STATUS 15 3 0).calState 1
    let s := s.toState calPage stRun none
    let frozen := (List.range 6).map fun t =>
      let e := geoEffective (s.tabBase .geo) t (s.rf (Reg.GEO_T_EFF t) 15 0)
      (s.rf (Reg.GEO_T_EFF t) 15 0, [e.ox, e.oy, e.px, e.py])
    let r : CalRun := ⟨kind, regions, if kind ≤ 2 then regions else [], 0, 0, false, 0, frozen, [], [], [], if kind ≤ 2 ∧ regions.isEmpty then 1 else 0, false, none, none⟩
    (s.setCalRun (some r)).beginRegion r

/-- A trigger (R381): a run that R378 accepts is TRIGGERED and starts; one that it does not accept yet is looked at again at the next latch
point, and is no refused CAL_CMD (log 65). -/
def State.calTrigger (s : State) (kind mask : Nat) : State := if s.calOk kind mask then (s.evt 1906).calStart kind mask else s

/-- A region of the run's mask has been lost (R386): seen at the run's next step or latch point. -/
def State.calWatch (s : State) : State :=
  match s.cal.run with
  | some r => if r.kind ≤ 2 ∧ !(r.mask.all fun t => s.regionReady t) then s.runAbort 5 else s
  | none => s

/-- Measures in a region. -/
def regionMeasures (kind : Nat) : Nat := if kind = 1 then 1435 else 4305

/-- The outstanding MEASURE is answered or has failed; the next one goes out (R379, R380). -/
def State.measured (s : State) (r : CalRun) (failed : Bool) : State :=
  match r.left with
  | [] => s
  | t :: rest =>
    let r := { r with count := r.count + 1, seq := r.seq + 1, resent := false, misses := r.misses + b2n failed }
    let s := s.wf Reg.CAL_STATUS 15 3 (if r.kind = 1 then r.count else r.count / 3)
    if s.rf Reg.CAL_MISS_MAX 7 0 < r.misses then (s.calEnd t true).runReject t
    else if r.count < regionMeasures r.kind then (s.setCalRun (some r)).sendMeasure r
    else
      let s := s.calEnd t false
      let r := { r with left := rest, count := 0, misses := 0, phase := if rest.isEmpty then 1 else 0 }
      (s.setCalRun (some r)).beginRegion r

/-- An answer of group `g` with SEQ bits [7:0] matches the outstanding MEASURE of a run of `kind` (R380). -/
def State.answerFor (s : State) (g seq kind : Nat) : Option CalRun :=
  match s.cal.run with
  | some r => if r.phase = 0 ∧ r.kind = kind ∧ r.left.head? = some g ∧ r.seq % 256 = seq ∧ s.mgtRuns then some r else none
  | none => none

/-- REG_RESULT (R379). -/
def State.regResult (s : State) (g : Nat) (mx my : BitVec 16) (seq : Nat) : State :=
  let s := s.calWatch
  s.bcMessage g fun s =>
    match s.answerFor g seq 1 with
    | none => s
    | some r =>
      if mx = 0x8000 then s.measured r true
      else s.measured { r with reg := r.reg ++ [(g * 1435 + r.count, (sgn 16 mx.toNat, sgn 16 my.toNat))] } false

/-- PHOTO_RESULT (R379). -/
def State.photoResult (s : State) (g : Nat) (v : BitVec 16) (seq : Nat) : State :=
  let s := s.calWatch
  s.bcMessage g fun s =>
    match s.answerFor g seq 2 with
    | none => s
    | some r =>
      if v = 0 then s.measured r true
      else
        let pt := r.count / 3
        let c := r.count % 3
        let k := g * 4305 + r.count
        let gw := Sparse.get wearDefault (s.wearBank s.wearActive) k
        let (s, sum, cnt) := s.pointDose g (pt % 41) (pt / 41) c
        s.measured { r with photo := r.photo ++ [(k, (v.toNat, gw))], base := r.base ++ [(k, (rdiv (sum : Int) (cnt : Int)).toNat)] } false

/-- MEASURE_TIMEOUT (R380). -/
def State.measureTimeout (s : State) : State :=
  let s := s.calWatch
  match s.cal.run with
  | some r =>
    if r.phase ≠ 0 ∨ 2 < r.kind ∨ !s.mgtRuns then s
    else if r.resent then s.measured r true
    else (s.setCalRun (some { r with resent := true })).sendMeasure r
  | none => s

/-! ### Results (R382 to R384) -/

/-- The ident of a run's image. -/
def State.calIdent (s : State) : Nat := 0x4341 * 2 ^ 48 + s.rn Reg.CAL_RUN_CNT

/-- Saturation to 16 signed bits. -/
def sat16 (x : Int) : Int := clampI (-32768) 32767 x

/-- One measured point of a registration (R382): the new grid word, and whether it meets the limits of R384. -/
def State.regPoint (s : State) (act : Bank) (lay t pt : Nat) (e : List Int) (m : Int × Int) : Nat × Bool :=
  let llx : Int := 32 * (pt % 41 : Nat)
  let lly : Int := 32 * (pt / 41 : Nat)
  let nom (i : Nat) : Int := sgn 32 (geoNominal lay i)
  let p (i : Nat) : Int := nth 0 e i
  let mx := nom 0 + llx * (geoNominal lay 2 : Int) + m.1 * 4096
  let my := nom 1 + lly * (geoNominal lay 3 : Int) + m.2 * 4096
  let lx := p 0 + llx * p 2 + lly * sgn 32 (act.word .geo t 5)
  let ly := p 1 + lly * p 3 + llx * sgn 32 (act.word .geo t 4)
  let dx := rnd (mx - lx) 12
  let dy := rnd (my - ly) 12
  let old := act.word .geo t (144 + pt)
  let lim : Nat := s.rf Reg.CAL_REG_LIMIT 13 0
  let step : Nat := s.rf Reg.CAL_REG_STEP 14 0
  (unsgn 16 (sat16 dx) + unsgn 16 (sat16 dy) * 65536,
    decide (m.1.natAbs ≤ lim) && decide (m.2.natAbs ≤ lim) && decide (sat16 dx = dx) && decide (sat16 dy = dy)
      && decide ((dx - sgn 16 old).natAbs ≤ step) && decide ((dy - sgn 16 (old / 65536)).natAbs ≤ step))

/-- The new ray map of a registration run, and the first region that fails a limit (R382, R384). -/
def State.regBank (s : State) (r : CalRun) : Bank × Option Nat :=
  let act := s.tabBase .geo
  let lay := s.geo.layout
  let tref := (nth (0, []) r.frozen (r.mask.headD 0)).1
  let b : Bank := { act.mended with ident := s.calIdent, tref := tref, layout := lay }
  let b := (List.range 6).foldl (fun (b : Bank) t =>
    let tt := if r.mask.contains t then (nth (0, []) r.frozen t).1 else s.rf (Reg.GEO_T_EFF t) 15 0
    let e := if r.mask.contains t then (nth (0, []) r.frozen t).2 else (let g := geoEffective act t tt; [g.ox, g.oy, g.px, g.py])
    let dt := sgn 16 tt - sgn 16 tref
    let tcp := act.word .geo t 8
    let tco := act.word .geo t 9
    let o (i tc : Nat) : Nat := unsgn 32 (nth 0 e i - 4 * (sgn 16 tc * dt))
    let p (i tc : Nat) : Nat := unsgn 32 (nth 0 e i - rnd (nth 0 e i * sgn 16 tc * dt) 30)
    (((b.setWord .geo t 0 (o 0 tco)).setWord .geo t 1 (o 1 (tco / 65536))).setWord .geo t 2 (p 2 tcp)).setWord .geo t 3 (p 3 (tcp / 65536))) b
  r.reg.foldl (fun (acc : Bank × Option Nat) m =>
    let t := m.1 / 1435
    let w := s.regPoint act lay t (m.1 % 1435) (nth (0, []) r.frozen t).2 m.2
    (acc.1.setWord .geo t (144 + m.1 % 1435) w.1, if w.2 || acc.2.isSome then acc.2 else some t)) (b, none)

/-- CAL_ANCHOR of a region and colour; 0 acts as 0x8000 (R394). -/
def State.anchor (s : State) (t c : Nat) : Nat :=
  let v := if c = 2 then s.rf (Reg.CAL_ANCHOR_HI t) 15 0 else s.rf (Reg.CAL_ANCHOR_LO t) (16 * c + 15) (16 * c)
  if v = 0 then 0x8000 else v

/-- The new tables of a photometry run, and the first region that fails a limit (R383, R384). -/
def State.photoBank (s : State) (r : CalRun) : Bank × Option Nat :=
  let act := s.bank .ton (s.tabActive .ton)
  let b : Bank := { act.mended with ident := s.calIdent }
  r.photo.foldl (fun (acc : Bank × Option Nat) m =>
    let t := m.1 / 4305
    let i := m.1 % 4305
    let den := (rnd ((m.2.1 * s.anchor t (i % 3) : Nat) : Int) 15).toNat
    let gc := act.word .ton t (3744 + i)
    let new := (gc * m.2.2 + den / 2) / den
    let ok := decide (0 < den) && decide (0x4000 ≤ new) && decide (new ≤ 0xFFFF)
      && decide (((new : Int) - gc).natAbs * 32768 ≤ gc * s.rf Reg.CAL_PHOTO_STEP 15 0)
    (if ok then acc.1.setWord .ton t (3744 + i) new else acc.1, if ok || acc.2.isSome then acc.2 else some t)) (b, none)

def calKind (kind : Nat) : TabKind := if kind = 1 then .geo else .ton

/-- A write of the device as party MGT into a table unit's register: it counts in SEQ (R385). -/
def State.calPut (s : State) (a v : Nat) : State := (s.seqInc a).wn a v

/-- The image is loaded and armed (R385 step 2); a refused command is tried again at the next latch point. -/
def State.calApply (s : State) (r : CalRun) (b : Bank) : State :=
  let k := calKind r.kind
  let a := s.addr40 Reg.CAL_WORK_ADDR_LO
  let img := bankImage k b
  let s := (s.writeMem none a img).1
  let s := ((s.calPut k.loadAddr (a % 2 ^ 32)).calPut (k.loadAddr + 4) (a / 2 ^ 32)).calPut k.loadLen img.length
  let s := (s.seqInc k.cmd).tabCmd k .mgt 1
  let refused := s.rb k.status 16
  let s := if refused then s else ((s.calPut k.arm 0).seqInc k.cmd).tabCmd k .mgt 2
  s.setCalRun (some { r with phase := 2, again := s.rb k.status 16, bank := some b })

/-- CAL_RESULT_CHECK (R384, R385). -/
def State.calCheck (s : State) : State :=
  let s := s.calWatch
  match s.cal.run with
  | some r =>
    if r.phase ≠ 1 ∨ !s.mgtRuns then s
    else
      let x := if r.kind = 1 then s.regBank r else s.photoBank r
      match x.2 with
      | some t => s.runReject t
      | none => (s.calState 2).calApply r x.1
  | none => s

/-- CAL's part of a latch point: a refused load is tried again; triggers (R381, R385). -/
def State.calLatch (s : State) : State :=
  let s := s.calWatch
  match s.cal.run with
  | some r => if r.phase = 2 ∧ r.again ∧ s.mgtRuns then (match r.bank with | some b => s.calApply r b | none => s) else s
  | none =>
    if !s.rb Reg.CAL_CTRL 0 || !s.mgtRuns then s
    else
      let delta := max 1 (s.rf Reg.CAL_DELTA 9 0)
      let due (en hi lo : Nat) : Nat := (List.range 6).foldl (fun (m : Nat) t =>
        if s.rb Reg.CAL_CTRL en && s.enabled (Reg.page 3 (1 + t)) && s.geoFresh t &&
          decide (delta ≤ (sgn 16 (s.rf (Reg.GEO_T_EFF t) 15 0) - sgn 16 (s.rf (Reg.CAL_T_RUN t) hi lo)).natAbs) then m + 2 ^ t else m) 0
      let m1 := due 1 15 0
      let m2 := due 2 31 16
      let hours := s.rf Reg.CAL_PERIOD 15 0
      let all := (List.range 6).foldl (fun (m : Nat) t => if s.enabled (Reg.page 3 (1 + t)) then m + 2 ^ t else m) 0
      let timed := hours != 0 && (match s.cal.lastPhoto with | some t => decide (t + 3600 * hours ≤ s.clock.sec) | none => false)
      if m1 ≠ 0 then s.calTrigger 1 m1
      else if m2 ≠ 0 then s.calTrigger 2 m2
      else if timed then s.calTrigger 2 all
      else s

/-- The record of a run whose image is in force (R385 step 4, R387): the temperatures are those that the run's end sets; SEQ follows when it is
stored. -/
def State.calRecord (s : State) (r : CalRun) (base : List (Nat × Nat)) : CalRecord :=
  let temp (kind hi lo t : Nat) : Nat := if r.kind = kind ∧ r.mask.contains t then (nth (0, []) r.frozen t).1 else s.rf (Reg.CAL_T_RUN t) hi lo
  { kind := r.kind, seq := 0, time := s.clock.sec
    anchors := (List.range 18).map fun i => s.anchor (i / 3) (i % 3)
    tPhoto := (List.range 6).map (temp 2 31 16), tReg := (List.range 6).map (temp 1 15 0)
    ray := s.tabBase .geo, tables := s.bank .ton (s.tabActive .ton), base := base }

/-- CAL_APPLY_SWITCHED (R385 step 4): the record is built. The dose baselines of a photometry go into force with its tables (R383). -/
def State.calSwitched (s : State) : State :=
  let s := s.calWatch
  match s.cal.run with
  | some r =>
    if r.phase = 2 ∧ s.mgtRuns ∧ s.pair64 (calKind r.kind).ident = s.calIdent then
      let base := if r.kind = 2 then r.base.foldl (fun l e => Sparse.set (fun _ => 0) l e.1 e.2) s.cal.base else s.cal.base
      ({ s with cal := { s.cal with base := base, run := some { r with phase := 3, record := some (s.calRecord r base) } } }).calState 3
    else s
  | none => s

/-- CAL_APPLY_TIMEOUT (R385 step 3). -/
def State.calApplyTimeout (s : State) : State :=
  match s.cal.run with
  | some r => if r.phase = 2 ∧ s.mgtRuns then s.runEnd 7 else s
  | none => s

/-- SEQ of a flash slot as the directory has it (R388). -/
def State.dirSeq (s : State) (slot : Nat) : Nat := leNat (s.storeRd (0x200 + 4 * slot) 4)

/-- A slot is valid: its SEQ equals the directory's (R389). -/
def State.slotValid (s : State) (slot : Nat) : Bool :=
  match nth none s.cal.slots slot with
  | some r => r.seq == s.dirSeq slot || s.svc.storeBad.contains 0x20
  | none => false

def slotSeq (r : Option CalRecord) : Nat := match r with | some x => x.seq | none => 0

/-- The valid slot with the later SEQ. -/
def State.bestSlot (s : State) : Option Nat :=
  let a := s.slotValid 0
  let b := s.slotValid 1
  if a && b then (if slotSeq (nth none s.cal.slots 0) < slotSeq (nth none s.cal.slots 1) then some 1 else some 0)
  else if a then some 0 else if b then some 1 else none

/-- The slot that a new record goes to: the one not named ACTIVE, A where none is (R387, R388). -/
def State.freeSlot (s : State) : Nat := if s.storeByte 0x208 = 0 then 1 else 0

/-- RECORD_STORED (R385 steps 5 and 6): `ok` says that the flash write held. -/
def State.recordStored (s : State) (ok : Bool) : State :=
  let s := s.calWatch
  match s.cal.run with
  | some r =>
    if r.phase ≠ 3 ∨ !s.mgtRuns then s
    else if !ok then (s.notice 490).runEnd 8
    else
      let best := s.bestSlot
      let seq := match best with | some b => (let q := slotSeq (nth none s.cal.slots b); if q = 2 ^ 32 - 1 then 1 else q + 1) | none => 1
      let slot := s.freeSlot
      let s := s.each 6 fun t s => s.when (r.mask.contains t) fun s =>
        s.wf (Reg.CAL_T_RUN t) (if r.kind = 1 then 15 else 31) (if r.kind = 1 then 0 else 16) (nth (0, []) r.frozen t).1
      let rec_ := r.record.map fun x => { x with seq := seq }
      let s := { s with cal := { s.cal with slots := upd s.cal.slots slot rec_, lastPhoto := if r.kind = 2 then some s.clock.sec else s.cal.lastPhoto } }
      let s := (s.storeWr (0x200 + 4 * slot) (leBytes 4 seq)).storeWr 0x208 [BitVec.ofNat 8 slot]
      let s := (s.wn Reg.CAL_RECORD (slot * 256 + r.kind)).wn Reg.CAL_RECORD_SEQ seq
      (s.evt 1907).runEnd 1
  | none => s

/-! ### Sensor and oscillator runs (R377, R388) -/

/-- A trim copy of the store is valid, with its SEQ. -/
def State.trimCopy (s : State) (i : Nat) : Option Nat :=
  let d := s.storeRd (0x210 + 16 * i) 16
  if leAt d 14 2 = crc16 (d.take 14) then some (leAt d 8 2) else none

/-- The copy with the later SEQ; SEQ wraps. -/
def State.trimNew (s : State) : Option (Nat × Nat) :=
  match s.trimCopy 0, s.trimCopy 1 with
  | some a, some b => if (b + 65536 - a) % 65536 < 32768 then some (1, b) else some (0, a)
  | some a, none => some (0, a)
  | none, some b => some (1, b)
  | none, none => none

/-- The trims are written to the older copy (R388). -/
def State.trimWrite (s : State) : State :=
  let (i, seq) : Nat × Nat := match s.trimNew with | some (i, q) => (1 - i, (q + 1) % 65536) | none => (0, 1)
  let d := leBytes 2 s.svc.gain ++ leBytes 2 (unsgn 16 s.svc.oscTrim) ++ leBytes 4 (s.rn Reg.CAL_XTAL_PPM) ++ leBytes 2 seq ++ List.replicate 4 0
  s.storeWr (0x210 + 16 * i) (d ++ leBytes 2 (crc16 d))

/-- The oscillator trim that brings an untrimmed error, in ppm, within ±0.1 %, in steps of 500 ppm from the trim in force (R377). -/
def trimFor (err trim : Int) : Int :=
  let e := err + 500 * trim
  if 1000 < e then trim - (e - 1000 + 499) / 500 else if e < -1000 then trim + (-e - 1000 + 499) / 500 else trim

/-- SENSOR_RUN_END (R377, R384): the mean of VREF_CAL in µV; the oscillator's untrimmed error in ppm; XTAL against the reference, in units of
2^-8 ppm. -/
def State.sensorEnd (s : State) (mean : Nat) (osc xtal : Int) : State :=
  match s.cal.run with
  | some r =>
    if !s.mgtRuns then s
    else if r.kind = 3 then
      if !s.rb Reg.SVC_VREF 31 ∨ mean = 0 then s.runEnd 6
      else
        let gain := (rdiv ((s.rf Reg.CAL_VREF_NOMINAL 20 0 * 32768 : Nat) : Int) (mean : Int)).toNat
        if 32768 < ((gain : Int) - 32768).natAbs * 50 then s.runReject 0
        else (({ s with svc := { s.svc with gain := gain } }).trimWrite).runEnd 1
    else if r.kind = 4 then
      if 30000 < osc.natAbs then s.runReject 0
      else
        let s := { s with svc := { s.svc with oscTrim := trimFor osc s.svc.oscTrim } }
        let s := if s.refValid 0 || s.refValid 1 then s.wn Reg.CAL_XTAL_PPM (unsgn 32 xtal) else s
        s.trimWrite.runEnd 1
    else s
  | none => s

/-! ### Power-up (R389, R392) -/

/-- The record chosen at power-up goes into force, with the trims and the doses (R389, R392). -/
def State.calBoot (s : State) : State :=
  let s := if (s.storeByte 0x209).getLsbD 0 then (s.storeWr 0x209 [0]).wf Reg.CAL_STATUS 23 20 4 else s
  let s := match s.bestSlot with
    | none => (s.wn Reg.CAL_RECORD 0xFF00).notice 489
    | some i =>
      match nth none s.cal.slots i with
      | none => s
      | some r =>
        let s := (s.setBank .geo (s.tabActive .geo) r.ray).setBank .ton (s.tabActive .ton) r.tables
        let s := (s.wr64 Reg.GEO_MAP_ID_LO r.ray.ident).wr64 Reg.TON_TABLE_ID_LO r.tables.ident
        let s := s.each 6 fun t s =>
          let s := s.wn (Reg.CAL_T_RUN t) (nth 0 r.tPhoto t * 65536 + nth 0 r.tReg t)
          (s.wn (Reg.CAL_ANCHOR_LO t) (nth 0 r.anchors (3 * t + 1) * 65536 + nth 0 r.anchors (3 * t))).wn (Reg.CAL_ANCHOR_HI t) (nth 0 r.anchors (3 * t + 2))
        let s := (s.wn Reg.CAL_RECORD (i * 256 + r.kind)).wn Reg.CAL_RECORD_SEQ r.seq
        { s with cal := { s.cal with base := r.base, lastPhoto := if r.kind = 2 then some r.time else none } }
  let s := match s.trimNew with
    | some (i, _) =>
      let d := s.storeRd (0x210 + 16 * i) 16
      { s with svc := { s.svc with gain := leAt d 0 2, oscTrim := sgn 16 (leAt d 2 2) } }.wn Reg.CAL_XTAL_PPM (leAt d 4 4)
    | none => s
  (s.evt 1908).doseRestore

/-- CAL_CMD (R378, R386). -/
def State.calCmd (s : State) (v : Word) : State :=
  match fld v 3 0 with
  | 1 => s.calStart (fld v 7 4) (fld v 21 16)
  | 2 => (s.wb Reg.CAL_STATUS 31 false).runAbort 3
  | _ => s

/-! ### The commands -/

/-- CAL_RUN (R378). -/
def execCalRun (p : Party) (kind : Fin 16) (mask : Fin 64) (s : State) : Host.Outcome State Fault Refusal :=
  let v := wd (1 + kind * 16 + mask * 65536)
  done (s.regWrite p Reg.CAL_CMD v fun s => s.calCmd v)

/-- CAL_ABORT (R386). -/
def execCalAbort (p : Party) (s : State) : Host.Outcome State Fault Refusal := done (s.regWrite p Reg.CAL_CMD 2 fun s => s.calCmd 2)

/-- REG_RESULT (R379). -/
def execRegResult (g : Fin 6) (mx my : BitVec 16) (seq : BitVec 8) (s : State) : Host.Outcome State Fault Refusal := done (s.regResult g mx my seq.toNat)

/-- PHOTO_RESULT (R379). -/
def execPhotoResult (g : Fin 6) (r : BitVec 16) (seq : BitVec 8) (s : State) : Host.Outcome State Fault Refusal := done (s.photoResult g r seq.toNat)

/-- MEASURE_TIMEOUT (R380). -/
def execMeasureTimeout (s : State) : Host.Outcome State Fault Refusal := done s.measureTimeout

/-- CAL_RESULT_CHECK (R384). -/
def execCalResultCheck (s : State) : Host.Outcome State Fault Refusal := done s.calCheck

/-- CAL_APPLY_SWITCHED (R385). -/
def execCalApplySwitched (s : State) : Host.Outcome State Fault Refusal := done s.calSwitched

/-- CAL_APPLY_TIMEOUT (R385). -/
def execCalApplyTimeout (s : State) : Host.Outcome State Fault Refusal := done s.calApplyTimeout

/-- RECORD_STORED (R385). -/
def execRecordStored (ok : Bool) (s : State) : Host.Outcome State Fault Refusal := done (s.recordStored ok)

/-- SENSOR_RUN_END (R377). -/
def execSensorRunEnd (mean : Nat) (osc xtal : Int) (s : State) : Host.Outcome State Fault Refusal := done (s.sensorEnd mean osc xtal)

/-- DOSE_UPDATE (R390). -/
def execDoseUpdate (s : State) : Host.Outcome State Fault Refusal := done s.doseUpdate

/-- WEAR_UPDATED (R391). -/
def execWearUpdated (s : State) : Host.Outcome State Fault Refusal := done s.wearUpdate

/-- DOSE_SAVED (R392). -/
def execDoseSaved (s : State) : Host.Outcome State Fault Refusal := done s.doseSave

end Sys2Proof.Machine
end

