-- ==== Sys2Proof/Machine/Sha.lean ====
section
/-! DEFINITION. SHA-512 (FIPS 180-4) and ECDSA on curve P-521 (FIPS 186), which spec/18_boot_identity_attestation.md R396 to R410 names. -/
namespace Sys2Proof.Machine

/-- Round constants of SHA-512. -/
def shaK : List (BitVec 64) :=
  [ 0x428A2F98D728AE22, 0x7137449123EF65CD, 0xB5C0FBCFEC4D3B2F, 0xE9B5DBA58189DBBC, 0x3956C25BF348B538
     , 0x59F111F1B605D019, 0x923F82A4AF194F9B, 0xAB1C5ED5DA6D8118, 0xD807AA98A3030242, 0x12835B0145706FBE
     , 0x243185BE4EE4B28C, 0x550C7DC3D5FFB4E2, 0x72BE5D74F27B896F, 0x80DEB1FE3B1696B1, 0x9BDC06A725C71235
     , 0xC19BF174CF692694, 0xE49B69C19EF14AD2, 0xEFBE4786384F25E3, 0x0FC19DC68B8CD5B5, 0x240CA1CC77AC9C65 ]
  ++ [ 0x2DE92C6F592B0275, 0x4A7484AA6EA6E483, 0x5CB0A9DCBD41FBD4, 0x76F988DA831153B5, 0x983E5152EE66DFAB
     , 0xA831C66D2DB43210, 0xB00327C898FB213F, 0xBF597FC7BEEF0EE4, 0xC6E00BF33DA88FC2, 0xD5A79147930AA725
     , 0x06CA6351E003826F, 0x142929670A0E6E70, 0x27B70A8546D22FFC, 0x2E1B21385C26C926, 0x4D2C6DFC5AC42AED
     , 0x53380D139D95B3DF, 0x650A73548BAF63DE, 0x766A0ABB3C77B2A8, 0x81C2C92E47EDAEE6, 0x92722C851482353B ]
  ++ [ 0xA2BFE8A14CF10364, 0xA81A664BBC423001, 0xC24B8B70D0F89791, 0xC76C51A30654BE30, 0xD192E819D6EF5218
     , 0xD69906245565A910, 0xF40E35855771202A, 0x106AA07032BBD1B8, 0x19A4C116B8D2D0C8, 0x1E376C085141AB53
     , 0x2748774CDF8EEB99, 0x34B0BCB5E19B48A8, 0x391C0CB3C5C95A63, 0x4ED8AA4AE3418ACB, 0x5B9CCA4F7763E373
     , 0x682E6FF3D6B2B8A3, 0x748F82EE5DEFB2FC, 0x78A5636F43172F60, 0x84C87814A1F0AB72, 0x8CC702081A6439EC ]
  ++ [ 0x90BEFFFA23631E28, 0xA4506CEBDE82BDE9, 0xBEF9A3F7B2C67915, 0xC67178F2E372532B, 0xCA273ECEEA26619C
     , 0xD186B8C721C0C207, 0xEADA7DD6CDE0EB1E, 0xF57D4F7FEE6ED178, 0x06F067AA72176FBA, 0x0A637DC5A2C898A6
     , 0x113F9804BEF90DAE, 0x1B710B35131C471B, 0x28DB77F523047D84, 0x32CAAB7B40C72493, 0x3C9EBE0A15C9BEBC
     , 0x431D67C49C100D4C, 0x4CC5D4BECB3E42B6, 0x597F299CFC657E2A, 0x5FCB6FAB3AD6FAEC, 0x6C44198C4A475817 ]

/-- The initial hash value of SHA-512. -/
def shaInit : List (BitVec 64) :=
  [ 0x6A09E667F3BCC908, 0xBB67AE8584CAA73B, 0x3C6EF372FE94F82B, 0xA54FF53A5F1D36F1
  , 0x510E527FADE682D1, 0x9B05688C2B3E6C1F, 0x1F83D9ABFB41BD6B, 0x5BE0CD19137E2179 ]

/-- The working variables of SHA-512. -/
structure ShaVars where
  a : BitVec 64
  b : BitVec 64
  c : BitVec 64
  d : BitVec 64
  e : BitVec 64
  f : BitVec 64
  g : BitVec 64
  h : BitVec 64

/-- One round with its constant and schedule word. -/
def ShaVars.round (v : ShaVars) (k w : BitVec 64) : ShaVars :=
  let s1 := v.e.rotateRight 14 ^^^ v.e.rotateRight 18 ^^^ v.e.rotateRight 41
  let ch := (v.e &&& v.f) ^^^ (~~~v.e &&& v.g)
  let t1 := v.h + s1 + ch + k + w
  let s0 := v.a.rotateRight 28 ^^^ v.a.rotateRight 34 ^^^ v.a.rotateRight 39
  let mj := (v.a &&& v.b) ^^^ (v.a &&& v.c) ^^^ (v.b &&& v.c)
  ⟨t1 + (s0 + mj), v.a, v.b, v.c, v.d + t1, v.e, v.f, v.g⟩

/-- The rounds over the constants, with the last 16 schedule words, oldest first. -/
def shaRounds (v : ShaVars) : List (BitVec 64) → List (BitVec 64) → ShaVars
  | [], _ => v
  | k :: ks, ws =>
    let w := nth 0 ws 0
    let w1 := nth 0 ws 1
    let w14 := nth 0 ws 14
    let s0 := w1.rotateRight 1 ^^^ w1.rotateRight 8 ^^^ (w1 >>> 7)
    let s1 := w14.rotateRight 19 ^^^ w14.rotateRight 61 ^^^ (w14 >>> 6)
    shaRounds (v.round k w) ks (ws.drop 1 ++ [w + s0 + nth 0 ws 9 + s1])

/-- One block of 128 bytes. -/
def shaBlock (h : List (BitVec 64)) (blk : List Byte) : List (BitVec 64) :=
  let x := fun i => nth 0 h i
  let ws := (List.range 16).map fun i => BitVec.ofNat 64 (beNat ((blk.drop (8 * i)).take 8))
  let v := shaRounds ⟨x 0, x 1, x 2, x 3, x 4, x 5, x 6, x 7⟩ shaK ws
  [x 0 + v.a, x 1 + v.b, x 2 + v.c, x 3 + v.d, x 4 + v.e, x 5 + v.f, x 6 + v.g, x 7 + v.h]

def shaBlocks (h : List (BitVec 64)) : Nat → List Byte → List (BitVec 64)
  | 0, _ => h
  | n + 1, m => shaBlocks (shaBlock h (m.take 128)) n (m.drop 128)

/-- SHA-512 of a message: 64 bytes. -/
def sha512 (m : List Byte) : List Byte :=
  let n := m.length
  let p := m ++ [0x80] ++ List.replicate ((239 - n % 128) % 128) 0 ++ beBytes 16 (8 * n)
  (shaBlocks shaInit (p.length / 128) p).flatMap fun w => beBytes 8 w.toNat

/-! ### P-521 -/

def p521P : Nat := 2 ^ 521 - 1

def p521B : Nat := 0x51953EB9618E1C9A1F929A21A0B68540EEA2DA725B99B315F3B8B489918EF109E156193951EC7E937B1652C0BD3BB1BF073573DF883D2C34F1EF451FD46B503F00

def p521N : Nat := 0x1FFFFFFFFFFFFFFFFFFFFFFFFFFFFFFFFFFFFFFFFFFFFFFFFFFFFFFFFFFFFFFFFFA51868783BF2F966B7FCC0148F709A5D03BB5C9B8899C47AEBB6FB71E91386409

def p521Gx : Nat := 0xC6858E06B70404E9CD9E3ECB662395B4429C648139053FB521F828AF606B4D3DBAA14B5E77EFE75928FE1DC127A2FFA8DE3348B3C1856A429BF97E7E31C2E5BD66

def p521Gy : Nat := 0x11839296A789A3BC0045C8A5FB42C7D1BD998F54449579B446817AFBD17273E662C97EE72995EF42640C550B9013FAD0761353C7086A272C24088BE94769FD16650

/-- `b ^ e mod m`, by the bits of `e` from the lowest. -/
def powMod (m : Nat) : Nat → Nat → Nat → Nat → Nat
  | 0, _, _, acc => acc
  | k + 1, b, e, acc => powMod m k (b * b % m) (e / 2) (if e % 2 = 1 then acc * b % m else acc)

/-- The inverse modulo a prime of at most 521 bits. -/
def invMod (m x : Nat) : Nat := powMod m 521 (x % m) (m - 2) 1

/-- A point of the curve: none is the point at infinity. -/
abbrev Point := Option (Nat × Nat)

/-- The sum of two points of P-521. -/
def ptAdd : Point → Point → Point
  | none, q => q
  | p, none => p
  | some (x1, y1), some (x2, y2) =>
    if x1 = x2 ∧ (y1 + y2) % p521P = 0 then none
    else
      let l := if x1 = x2 then (3 * x1 * x1 + (p521P - 3)) * invMod p521P (2 * y1) % p521P
        else (y2 + p521P - y1) * invMod p521P (x2 + p521P - x1) % p521P
      let x := (l * l + 2 * p521P - x1 - x2) % p521P
      some (x, (l * (x1 + p521P - x) + p521P - y1) % p521P)

/-- `k` times a point, by the bits of `k` from the lowest. -/
def ptMul : Nat → Nat → Point → Point → Point
  | 0, _, _, acc => acc
  | n + 1, k, p, acc => ptMul n (k / 2) (ptAdd p p) (if k % 2 = 1 then ptAdd acc p else acc)

/-- `k` times the base point. -/
def p521Base (k : Nat) : Point := ptMul 521 k (some (p521Gx, p521Gy)) none

/-- The point that a public key of 133 bytes names, where it names one (R396). -/
def keyPoint (key : List Byte) : Option (Nat × Nat) :=
  let x := beNat ((key.drop 1).take 66)
  let y := beNat ((key.drop 67).take 66)
  if key.length = 133 ∧ nth 0 key 0 = 4 ∧ x < p521P ∧ y < p521P ∧ y * y % p521P = (x * x * x + (p521P - 3) * x + p521B) % p521P then some (x, y) else none

/-- (r, s) is a signature of `m` under `key` (R400). -/
def ecdsaOk (key m : List Byte) (r s : Nat) : Bool :=
  match keyPoint key with
  | none => false
  | some q =>
    if 0 < r ∧ r < p521N ∧ 0 < s ∧ s < p521N then
      let w := invMod p521N s
      match ptAdd (p521Base (beNat (sha512 m) * w % p521N)) (ptMul 521 (r * w % p521N) (some q) none) with
      | none => false
      | some (x, _) => x % p521N == r
    else false

/-- The signature of `m` under private key `d` with the secret number `k`. -/
def ecdsaSign (d k : Nat) (m : List Byte) : Nat × Nat :=
  let r := match p521Base k with | some (x, _) => x % p521N | none => 0
  (r, invMod p521N k * (beNat (sha512 m) + r * d) % p521N)

/-- The 133 bytes of the public key of a private key (R396, R406). -/
def publicKey (d : Nat) : List Byte :=
  match p521Base d with
  | some (x, y) => 4 :: (beBytes 66 x ++ beBytes 66 y)
  | none => List.replicate 133 0

end Sys2Proof.Machine
end

