-- ==== Sys2Proof/Machine/Sec.lean ====
section
/-! DEFINITION. Fuses, signed images, updates, attestation and the debug unlock (spec/18_boot_identity_attestation.md). The boot chain
itself is in `Boot.lean`, because it writes registers. -/
namespace Sys2Proof.Machine

/-! ### Signed images (R400) -/

/-- `n` bytes of a flash region from its first byte; beyond what is programmed it is erased. -/
def regionRd (l : List Byte) (n : Nat) : List Byte := (l ++ List.replicate (n - l.length) 0xFF).take n

/-- The SHA-512 digest of bytes as a little-endian number, as the fuses hold one (R396). -/
def digestOf (m : List Byte) : Nat := leNat (sha512 m)

/-- A public key matches a slot (R396). -/
def keyMatches (key : List Byte) (slot : Nat) : Bool := slot != 0 && digestOf key == slot

/-- Bytes `[i, i + n)` are zero. -/
def zeroAt (l : List Byte) (i n : Nat) : Bool := ((l.drop i).take n).all fun b => b == 0

/-- PAYLOAD_LEN of a header. -/
def payloadLen (img : List Byte) : Nat := leAt img 16 4

/-- The format checks of a header, for TYPE `ty` (1 FIRMWARE, 2 CONFIG). -/
def headerOk (img : List Byte) (ty : Nat) : Bool :=
  let n := payloadLen img
  decide (512 ≤ img.length) && leAt img 0 4 == 0x474D4F58 && leAt img 4 2 == 1 && leAt img 6 1 == ty
    && zeroAt img 20 4 && zeroAt img 221 3 && zeroAt img 356 156
    && (if ty = 1 then decide (leAt img 7 1 ≤ 3) && decide (leAt img 12 4 ≤ 64) && decide (1 ≤ n) && decide (n ≤ 1572864)
        else leAt img 7 1 == 0 && leAt img 12 4 == 0 && decide (8 ≤ n) && decide (n ≤ 65024) && n % 8 == 0)

/-- How an image verifies: 0, or the status of R403 that says why not. -/
def imageStatus (fz : Fuses) (ty : Nat) (img : List Byte) : Nat :=
  let key := (img.drop 88).take 133
  let slot := leAt img 7 1
  if !headerOk img ty || decide (img.length < 512 + payloadLen img) then 3
  else if !(if ty = 1 then keyMatches key (nth 0 fz.root slot) && !fz.rootRevoke.testBit slot else keyMatches key fz.integrator) then 4
  else if !ecdsaOk key (img.take 224) (beNat ((img.drop 224).take 66)) (beNat ((img.drop 290).take 66)) then 5
  else if sha512 ((img.drop 512).take (payloadLen img)) ≠ (img.drop 24).take 64 then 5
  else if ty = 1 ∧ leAt img 12 4 < fz.svn then 6
  else 0

/-- What runs, from an image in a slot of a flash. -/
def runningOf (slot flash : Nat) (img : List Byte) : BootImage :=
  ⟨slot, flash, sha512 (img.take 224), leAt img 8 4, leAt img 12 4, leAt img 7 1⟩

/-! ### The flashes (R399) -/

/-- SEQ, ACTIVE_FW and ACTIVE_CFG of a directory copy, where it is valid. -/
def dirOf (l : List Byte) : Option (Nat × Nat × Nat) :=
  let d := regionRd l 64
  if leAt d 0 4 = 0x52494447 ∧ zeroAt d 10 50 ∧ leAt d 60 4 = crc32c (d.take 60) ∧ leAt d 8 1 ≤ 1 ∧ leAt d 9 1 ≤ 1 then
    some (leAt d 4 4, leAt d 8 1, leAt d 9 1) else none

/-- The directory of one flash: the valid copy with the larger SEQ. -/
def flashDir (f : FlashImage) : Option (Nat × Nat × Nat) :=
  match dirOf f.dir0, dirOf f.dir1 with
  | some a, some b => if a.1 < b.1 then some b else some a
  | some a, none => some a
  | none, b => b

/-- Flash `f` as it stands. -/
def State.flash (s : State) (f : Nat) : FlashImage := nth FlashImage.erased s.sec.flash f

/-- The directory in force: of flash 0, and where it has none, of flash 1 (R402). -/
def State.directory (s : State) : Option (Nat × Nat × Nat) :=
  match flashDir (s.flash 0) with
  | some d => some d
  | none => flashDir (s.flash 1)

/-- A slot of a flash: firmware or configuration, A or B. -/
def flashSlot (f : FlashImage) (config : Bool) (i : Nat) : List Byte :=
  if config then (if i = 0 then f.cfgA else f.cfgB) else if i = 0 then f.fwA else f.fwB

def flashSetSlot (f : FlashImage) (config : Bool) (i : Nat) (l : List Byte) : FlashImage :=
  if config then (if i = 0 then { f with cfgA := l } else { f with cfgB := l }) else if i = 0 then { f with fwA := l } else { f with fwB := l }

/-- The image in a slot: its header says how long it is. -/
def flashImage (f : FlashImage) (config : Bool) (i : Nat) : List Byte :=
  let l := flashSlot f config i
  let h := regionRd l 512
  regionRd l (512 + min (payloadLen h) (if config then 65024 else 1572864))

/-- The 64 bytes of a directory copy. -/
def dirBytes (seq fw cfg : Nat) : List Byte :=
  let d := leBytes 4 0x52494447 ++ leBytes 4 seq ++ leBytes 1 fw ++ leBytes 1 cfg ++ List.replicate 50 0
  d ++ leBytes 4 (crc32c d)

/-- A directory written over the older copy of a flash. -/
def flashSetDir (f : FlashImage) (d : List Byte) : FlashImage :=
  match dirOf f.dir0, dirOf f.dir1 with
  | some a, some b => if a.1 < b.1 then { f with dir0 := d } else { f with dir1 := d }
  | some _, none => { f with dir1 := d }
  | none, _ => { f with dir0 := d }

/-! ### Updates (R403) -/

/-- SEC_UPD_CMD applied with `v` by party `p`: 1 STAGE, 2 STAGE_CONFIG. -/
def State.updCmd (s : State) (p : Party) (v : Nat) : State :=
  let s := s.wr Reg.SEC_UPD_CMD 0
  if v % 16 = 1 ∨ v % 16 = 2 then
    match s.sec.upd with
    | some _ => s
    | none =>
      let s := { s with sec := { s.sec with upd := some ⟨partyCode p, v % 16 == 2, s.addr40 Reg.SEC_UPD_ADDR_LO, s.rn Reg.SEC_UPD_LEN⟩ } }
      (s.wf Reg.SEC_UPD_STATUS 3 0 1).wf Reg.SEC_UPD_STATUS 10 8 (partyCode p)
  else s

/-- An update ends with a status. -/
def State.updEnd (s : State) (st : Nat) : State :=
  let s := { s with sec := { s.sec with upd := none } }
  let s := s.wf Reg.SEC_UPD_STATUS 3 0 st
  if st = 2 then s.evt 1921 else (s.evt 1922).notice 494

/-- The image of an update, read with the rights of its party, and the status where it is refused: 7 for a denied read, else as R400 and
R403 say; 0 where it may be written. -/
def State.updImage (s : State) (u : UpdJob) : State × List Byte × Nat :=
  let ty := if u.config then 2 else 1
  if u.len < 512 ∨ u.len > 512 + 1572864 then (s, [], 3)
  else
    let (s, r) := s.readMem (partyPort (partyOf u.party)) u.addr u.len
    if r.denied then (s, r.data, 7)
    else if r.data.length ≠ 512 + payloadLen r.data then (s, r.data, 3)
    else (s, r.data, imageStatus s.sec.fuses ty r.data)

/-- The image in the inactive slot of both flashes, and the directory that names it; a failed write leaves the slot without an image. -/
def State.updWrite (s : State) (u : UpdJob) (img : List Byte) (written : Bool) : State × Nat :=
  let (seq, fw, cfg) := s.directory.getD (0, 0, 0)
  let act := if u.config then cfg else fw
  let fs := s.sec.flash.map fun (f : FlashImage) => flashSetSlot f u.config (1 - act) (if written then img else [])
  if written then
    let d := dirBytes (seq + 1) (if u.config then fw else 1 - act) (if u.config then 1 - act else cfg)
    ({ s with sec := { s.sec with flash := fs.map fun (f : FlashImage) => flashSetDir f d } }, 2)
  else ({ s with sec := { s.sec with flash := fs } }, 8)

/-- UPDATE_END (R403). -/
def State.updFinish (s : State) (written : Bool) : State :=
  match s.sec.upd with
  | none => s
  | some u =>
    let (s, img, st) := s.updImage u
    if st ≠ 0 then s.updEnd st
    else
      let (s, st) := s.updWrite u img written
      s.updEnd st

/-! ### Fuses (R396 to R398, R404, R405) -/

/-- A burn starts, or is refused while another runs (R398). -/
def State.burnStart (s : State) (ok : Bool) (b : Burn) : State :=
  if !ok || s.sec.burn.isSome then s.wb Reg.SEC_FUSE_STATUS 29 true
  else
    let s := { s with sec := { s.sec with burn := some b } }
    ((s.wb Reg.SEC_FUSE_STATUS 31 true).wb Reg.SEC_FUSE_STATUS 30 false).wb Reg.SEC_FUSE_STATUS 29 false

/-- SEC_SVN_COMMIT written with `n` (R404). -/
def State.svnCommit (s : State) (n : Nat) : State :=
  s.burnStart (decide (n ≤ s.rn Reg.SEC_FW_SVN) && decide (s.sec.fuses.svn ≤ n)) (.svn n)

/-- SEC_REVOKE written (R405). -/
def State.revokeCmd (s : State) (v : Word) : State :=
  let r := fld v 3 0
  let mine := match s.sec.fw with | some f => r.testBit f.root | none => false
  s.burnStart (!mine && !((s.sec.fuses.rootRevoke ||| r) == 15 && r != 0)) (.revoke r (fld v 5 4))

/-- The digest in SEC_PROV_DIGEST, as a little-endian number (R412). -/
def State.provDigest (s : State) : Nat := leNat (wordBytes ((List.range 16).map fun w => s.rd (Reg.SEC_PROV_DIGEST w)))

/-- SEC_PROVISION written (R396, R397). -/
def State.provision (s : State) (v : Nat) : State :=
  let fz := s.sec.fuses
  match v % 16 with
  | 1 => s.burnStart (!fz.field) (.integrator s.provDigest)
  | 2 => s.burnStart (!fz.field) (.debug 0 s.provDigest)
  | 3 => s.burnStart (!fz.field) (.debug 1 s.provDigest)
  | 4 => s.burnStart (!fz.field && fz.integrator != 0) .field
  | _ => s

/-- The fuses with a burn made in full: a blown bit never returns to 0. -/
def Fuses.blow (fz : Fuses) : Burn → Fuses
  | .svn n => { fz with svn := max fz.svn (min n 64) }
  | .revoke r d => { fz with rootRevoke := fz.rootRevoke ||| r, debugRevoke := fz.debugRevoke ||| d }
  | .integrator v => { fz with integrator := fz.integrator ||| v }
  | .debug k v => { fz with debug := updWith fz.debug k (· ||| v) }
  | .field => { fz with field := true }

/-- The part of a burn that a failed or broken burn makes: which bits are blown is free (R398). -/
def State.burnPart (s : State) (b : Burn) : State × Burn :=
  let (x, s) := s.free 512
  let m := x.toNat
  let fz := s.sec.fuses
  (s, match b with
    | .svn n => .svn (fz.svn + m % (n - fz.svn + 1))
    | .revoke r d => .revoke (r &&& m) (d &&& (m >>> 4))
    | .integrator v => .integrator (v &&& m)
    | .debug k v => .debug k (v &&& m)
    | .field => if m % 2 = 1 then .field else .svn fz.svn)

/-- The read-back finds the field as it was to be. -/
def Fuses.holds (fz : Fuses) : Burn → Bool
  | .svn n => fz.svn == n
  | .revoke r d => fz.rootRevoke &&& r == r && fz.debugRevoke &&& d == d
  | .integrator v => fz.integrator == v
  | .debug k v => nth 0 fz.debug k == v
  | .field => fz.field

/-- FUSE_DONE (R398): the burn ends, in full or in part, and is read back. -/
def State.fuseDone (s : State) (ok : Bool) : State :=
  match s.sec.burn with
  | none => s
  | some b =>
    let (s, b') := if ok then (s, b) else s.burnPart b
    let fz := s.sec.fuses.blow b'
    let s := { s with sec := { s.sec with fuses := fz, burn := none } }
    let s := (s.wb Reg.SEC_FUSE_STATUS 31 false).evt 1926
    if ok && fz.holds b then s else (s.wb Reg.SEC_FUSE_STATUS 30 true).notice 496

/-! ### Identity and attestation (R406 to R408) -/

/-- The private key of the device (R406). -/
def State.identityKey (s : State) : Nat := 1 + Config.identity s.sec.fuses.seed % (p521N - 1)

/-- The page bases of the present pages with a header, in ascending order. -/
def State.ownedPages (s : State) : List Nat :=
  ((List.range 5632).filter fun k => hasHeader (k / 256) (k % 256) && s.present (k * 0x1000)).map fun k => k * 0x1000

/-- OWNER_DIGEST (R408). -/
def State.ownerDigest (s : State) : List Byte :=
  sha512 (wordBytes (((List.range 64).flatMap fun j => [s.rd (Reg.PH_BASE j), s.rd (Reg.PH_LIMIT j), s.rd (Reg.PH_RIGHTS j)])
    ++ s.ownedPages.map fun a => s.rd (Reg.PAGE_OWNER a)))

/-- Bytes 0 to 327 of a report for a party (R408). -/
def State.reportBody (s : State) (p : Party) : List Byte :=
  let t := s.enabled (Reg.page 14 0)
  let fw := s.sec.fw
  let cfg := s.sec.cfg
  leBytes 4 0x54544147 ++ leBytes 2 1 ++ leBytes 2 460 ++ leBytes 8 s.sec.fuses.serial
    ++ wordBytes ((List.range 16).map fun w => s.rd (Reg.SEC_ATT_NONCE w))
    ++ (match fw with | some f => f.digest | none => List.replicate 64 0) ++ (match cfg with | some f => f.digest | none => List.replicate 64 0)
    ++ leBytes 4 (s.rn Reg.SEC_FW_VERSION) ++ leBytes 4 (s.rn Reg.SEC_FW_SVN) ++ leBytes 4 s.sec.fuses.svn
    ++ leBytes 1 (b2n s.sec.fuses.field + 2 * b2n s.sealed + 4 * b2n s.graveLatched + 8 * b2n (s.rb Reg.SEC_BOOT_STATUS 8) + 16 * s.dbgLevel)
    ++ leBytes 1 (partyCode p)
    ++ leBytes 1 (match fw with
        | some f => f.slot + 2 * (match cfg with | some c => c.slot | none => 0) + 4 * f.root
        | none => 0)
    ++ [0] ++ leBytes 6 (if t then s.clock.sec else 0) ++ [0, 0] ++ leBytes 4 (if t then s.clock.ns else 0)
    ++ leBytes 8 (s.pair64 Reg.GEO_MAP_ID_LO) ++ leBytes 8 (s.pair64 Reg.TON_TABLE_ID_LO) ++ leBytes 8 (s.pair64 Reg.PLK_EQ_ID_LO)
    ++ leBytes 4 s.fltSeq ++ s.ownerDigest

/-- SEC_ATT_CMD written (R407): a report is taken and signed in this cycle; the signature's secret number is free. -/
def State.attCmd (s : State) (p : Party) (v : Word) : State :=
  if !bit v 0 then s
  else if s.sec.att.isSome then s.wb Reg.SEC_ATT_STATUS 30 true
  else
    let body := s.reportBody p
    let (k, s) := s.free 521
    let (r, sg) := ecdsaSign s.identityKey (1 + k.toNat % (p521N - 1)) body
    let s := { s with sec := { s.sec with att := some (body ++ beBytes 66 r ++ beBytes 66 sg) } }
    s.wr Reg.SEC_ATT_STATUS 0x80000000

/-- ATTEST_DONE (R407). -/
def State.attDone (s : State) : State :=
  match s.sec.att with
  | none => s
  | some b =>
    let s := { s with sec := { s.sec with att := none } }
    let s := s.each 115 fun i s => s.wn (Reg.SEC_ATT_DATA i) (leAt b (4 * i) 4)
    (s.wr Reg.SEC_ATT_STATUS (setBit (setBit (s.rd Reg.SEC_ATT_STATUS) 31 false) 29 true)).evt 1923

/-! ### Debug unlock (R409 to R411) -/

/-- The debug level set; DBG_LEVEL where it changes, or where `always`. -/
def State.setLevel (s : State) (n : Nat) (always : Bool) : State :=
  let old := s.dbgLevel
  (s.wf Reg.SEC_DBG_STATUS 1 0 n).when (always || old != n) fun s => s.evt 1924

/-- SEC_DBG_POLICY.ALLOW, in which 3 acts as 2 (R413). -/
def State.dbgAllow (s : State) : Nat := min 2 (s.rf Reg.SEC_DBG_POLICY 1 0)

/-- The response as written is one that R410 accepts. -/
def State.responseOk (s : State) : Bool :=
  let r := s.sec.resp
  let k := leAt r 73 1
  let key := (r.drop 80).take 133
  s.rb Reg.SEC_DBG_STATUS 16 && r.take 64 == wordBytes ((List.range 16).map fun i => s.rd (Reg.SEC_DBG_CHAL i))
    && leAt r 64 8 == s.sec.fuses.serial && (leAt r 72 1 == 1 || leAt r 72 1 == 2) && zeroAt r 74 6 && zeroAt r 213 3
    && decide (k ≤ 1) && keyMatches key (nth 0 s.sec.fuses.debug k) && !s.sec.fuses.debugRevoke.testBit k
    && ecdsaOk key (r.take 216) (beNat ((r.drop 216).take 66)) (beNat ((r.drop 282).take 66))

/-- SEC_DBG_CMD written: 1 CHALLENGE, 2 RESPONSE, 3 RELOCK (R410, R411). -/
def State.dbgCmd (s : State) (v : Nat) : State :=
  match v % 4 with
  | 1 =>
    if s.rf Reg.SEC_DBG_STATUS 9 8 = 3 then s
    else
      let (b, s) := s.freeBytes 64
      let s := s.each 16 fun i s => s.wn (Reg.SEC_DBG_CHAL i) (leAt b (4 * i) 4)
      s.wb Reg.SEC_DBG_STATUS 16 true
  | 2 =>
    if s.responseOk then (s.wb Reg.SEC_DBG_STATUS 16 false).setLevel (min (leAt s.sec.resp 72 1) s.dbgAllow) true
    else ((s.wf Reg.SEC_DBG_STATUS 9 8 (min 3 (s.rf Reg.SEC_DBG_STATUS 9 8 + 1))).evt 1925).notice 495
  | 3 => s.setLevel 0 false
  | _ => s

/-- SEC_DBG_POLICY changed (R411). -/
def State.policyWritten (s : State) : State := if s.dbgAllow < s.dbgLevel then s.setLevel s.dbgAllow false else s

/-! ### Registers -/

/-- What writing a SEC register by a party does beyond storing it. -/
def State.secWritten (s : State) (p : Party) (a : Nat) (v : Word) : State :=
  if a = Reg.SEC_UPD_CMD then s.updCmd p v.toNat
  else if a = Reg.SEC_SVN_COMMIT then s.svnCommit (fld v 6 0)
  else if a = Reg.SEC_REVOKE then s.revokeCmd v
  else if a = Reg.SEC_PROVISION then s.provision v.toNat
  else if a = Reg.SEC_ATT_CMD then s.attCmd p v
  else if a = Reg.SEC_DBG_CMD then s.dbgCmd v.toNat
  else if a = Reg.SEC_DBG_POLICY then s.policyWritten
  else if Reg.SEC_DBG_RESP 0 ≤ a ∧ a ≤ Reg.SEC_DBG_RESP 86 then
    let i := a - Reg.SEC_DBG_RESP 0
    { s with sec := { s.sec with resp := s.sec.resp.take i ++ leBytes 4 v.toNat ++ s.sec.resp.drop (i + 4) } }
  else s

/-- What a SEC register reads as where that is no stored word: the fuses, and the identity key (R396, R406, R412). -/
def State.secView (s : State) (a : Nat) : Option Word :=
  let fz := s.sec.fuses
  if a = Reg.SEC_LIFECYCLE then some (if fz.field then 2 else 1)
  else if a = Reg.SEC_SERIAL_LO then some (wd fz.serial)
  else if a = Reg.SEC_SERIAL_HI then some (wd (fz.serial / 2 ^ 32))
  else if a = Reg.SEC_FUSE_SVN then some (wd fz.svn)
  else if a = Reg.SEC_KEY_STATUS then
    some (wd (fz.rootRevoke % 16 + 16 * (fz.debugRevoke % 4) + 256 * b2n (fz.integrator != 0) + 512 * b2n (nth 0 fz.debug 0 != 0)
      + 1024 * b2n (nth 0 fz.debug 1 != 0)))
  else if Reg.SEC_ID_PUB 0 ≤ a ∧ a ≤ Reg.SEC_ID_PUB 33 then
    some (wd (beNat (((publicKey s.identityKey ++ [0, 0, 0]).drop (a - Reg.SEC_ID_PUB 0)).take 4)))
  else none

/-- What every reset other than a port reset does to SEC beside its registers (R398, R403, R407, R409): an update ends ABORTED_BY_RESET, and
whether it had begun to write its slot is free; a burn leaves its bits open, a report is dropped, the debug level is the lifecycle's. -/
def State.secReset (s : State) : State :=
  let s := match s.sec.burn with
    | none => s
    | some b =>
      let (s, b) := s.burnPart b
      { s with sec := { s.sec with fuses := s.sec.fuses.blow b, burn := none } }
  let s := match s.sec.upd with
    | none => s
    | some u =>
      let d := s.directory.getD (0, 0, 0)
      let act := if u.config then d.2.2 else d.2.1
      let (x, s) := s.free 1
      let fs := if x = 0 then s.sec.flash else s.sec.flash.map fun (f : FlashImage) => flashSetSlot f u.config (1 - act) []
      let s := { s with sec := { s.sec with upd := none, flash := fs } }
      s.wf Reg.SEC_UPD_STATUS 3 0 9
  let s := { s with sec := { s.sec with att := none, fw := none, cfg := none, resp := List.replicate 348 0, halted := false } }
  s.wr Reg.SEC_DBG_STATUS (if s.sec.fuses.field then 0 else 2)

/-! ### The commands -/

/-- STAGE (R403): SEC_UPD_CMD written with 1. -/
def execSecStage (p : Party) (s : State) : Host.Outcome State Fault Refusal := done (s.regWrite p Reg.SEC_UPD_CMD 1 fun s => s.updCmd p 1)

/-- STAGE_CONFIG (R403). -/
def execStageConfig (p : Party) (s : State) : Host.Outcome State Fault Refusal := done (s.regWrite p Reg.SEC_UPD_CMD 2 fun s => s.updCmd p 2)

/-- UPDATE_END (R403): `written` says whether both flashes took the image and read back. -/
def execUpdateEnd (written : Bool) (s : State) : Host.Outcome State Fault Refusal := done (s.updFinish written)

/-- SVN_COMMIT (R404). -/
def execSvnCommit (p : Party) (v : Word) (s : State) : Host.Outcome State Fault Refusal :=
  done (s.regWrite p Reg.SEC_SVN_COMMIT v fun s => s.svnCommit (fld v 6 0))

/-- REVOKE (R405). -/
def execRevoke (p : Party) (v : Word) (s : State) : Host.Outcome State Fault Refusal :=
  done (s.regWrite p Reg.SEC_REVOKE v fun s => s.revokeCmd v)

/-- PROVISION_INTEGRATOR_KEY (R396). -/
def execProvisionIntegratorKey (p : Party) (s : State) : Host.Outcome State Fault Refusal :=
  done (s.regWrite p Reg.SEC_PROVISION 1 fun s => s.provision 1)

/-- PROVISION_DEBUG_KEY (R396). -/
def execProvisionDebugKey (p : Party) (k : Fin 2) (s : State) : Host.Outcome State Fault Refusal :=
  done (s.regWrite p Reg.SEC_PROVISION (wd (2 + k)) fun s => s.provision (2 + k))

/-- PROVISION_FIELD (R397). -/
def execProvisionField (p : Party) (s : State) : Host.Outcome State Fault Refusal := done (s.regWrite p Reg.SEC_PROVISION 4 fun s => s.provision 4)

/-- FUSE_DONE (R398). -/
def execFuseDone (ok : Bool) (s : State) : Host.Outcome State Fault Refusal := done (s.fuseDone ok)

/-- ATTEST (R407). -/
def execAttest (p : Party) (s : State) : Host.Outcome State Fault Refusal := done (s.regWrite p Reg.SEC_ATT_CMD 1 fun s => s.attCmd p 1)

/-- ATTEST_DONE (R407). -/
def execAttestDone (s : State) : Host.Outcome State Fault Refusal := done s.attDone

/-- CHALLENGE (R410). -/
def execDbgChallenge (p : Party) (s : State) : Host.Outcome State Fault Refusal := done (s.regWrite p Reg.SEC_DBG_CMD 1 fun s => s.dbgCmd 1)

/-- RESPONSE (R410). -/
def execDbgResponse (p : Party) (s : State) : Host.Outcome State Fault Refusal := done (s.regWrite p Reg.SEC_DBG_CMD 2 fun s => s.dbgCmd 2)

/-- RELOCK_DEBUG (R411). -/
def execRelockDebug (p : Party) (s : State) : Host.Outcome State Fault Refusal := done (s.regWrite p Reg.SEC_DBG_CMD 3 fun s => s.dbgCmd 3)

/-- DBG_POLICY_WRITE (R411). -/
def execDbgPolicyWrite (p : Party) (v : Word) (s : State) : Host.Outcome State Fault Refusal :=
  done (s.regWrite p Reg.SEC_DBG_POLICY v State.policyWritten)

end Sys2Proof.Machine
end

