-- ==== Sys2Proof/Machine/Fencing.lean ====
section
/-! DEFINITION. The reactions of R342 to R344 (spec/15_faults_and_fencing.md): how each unit leaves service for a fault, the raise of
faults with those reactions, and the conditions under which a clear is accepted. -/
namespace Sys2Proof.Machine

/-! ### Units -/

/-- Lane `l` is lost (R172): counted, fenced, LOST raised, HOLD set for a data lane. -/
def State.laneLoss (s : State) (l : Nat) : State :=
  let data := s.role l == roleData
  let s := s.cntSat (Reg.PLK_LANE_LOSSES l) 32 1
  let s := (s.setRole l roleFenced).laneState l stFenced
  let s := s.setLane l { s.lane l with byLoss := true, ready := false, leaving := false, clean := 0 }
  let s := s.when data fun s => s.setGrp (l / 16) { s.grp (l / 16) with hold := true }
  s.evt (785 + 2 * l)

/-- Channel `c` leaves service FENCED (R271, R272). -/
def State.chanFence (s : State) (c : Nat) : State := ((s.chanOut c).toChState c stFenced).cntSat (Reg.DMC_CH_FENCES c) 32 1

/-- STATE of management pair `i` in MGT_PAIR (R431). -/
def State.mgtState (s : State) (i : Nat) : Nat := if i = 0 then s.rf Reg.MGT_PAIR 6 4 else s.rf Reg.MGT_PAIR 10 8

def State.setMgtState (s : State) (i v : Nat) : State := if i = 0 then s.wf Reg.MGT_PAIR 6 4 v else s.wf Reg.MGT_PAIR 10 8 v

/-- The active management pair. -/
def State.mgtActive (s : State) : Nat := s.rf Reg.MGT_PAIR 0 0

/-- Both management pairs are fenced (R422). -/
def State.mgtLost (s : State) : Bool := s.mgtState 0 == stFenced && s.mgtState 1 == stFenced

/-- Management pair `i` stops (R422): the other takes over from the checkpoint where it stands by; what the firmware received since is
answered again. -/
def State.mgtStop (s : State) (i : Nat) : State :=
  let s := s.setMgtState i stFenced
  if s.mgtActive = i ∧ s.mgtState (1 - i) = stIdle then
    let s := (s.wf Reg.MGT_PAIR 0 0 (1 - i)).setMgtState (1 - i) stRun
    { s with mgt := { s.mgt with again := s.mgt.again ++ s.mgt.since, since := [] } }
  else s

/-- The active table bank is at fault (R62, R151): a repair waits where AUTO is set. -/
def State.bankFault (s : State) (k : TabKind) : State :=
  if s.rb k.repair 0 ∧ (s.tab k).repair = .none then s.setRepair k .waiting else s

/-- Reel sub-array `i` waits for its repair at the next band boundary (R107). -/
def State.subFault (s : State) (i : Nat) : State :=
  { s with syn := { s.syn with failed := s.syn.failed.filter (· ≠ i) ++ [i] } }

/-! ### The reaction (R342, R343) -/

/-- A unit with a page leaves service by `f`, with FENCE_REQ set by the device; a unit already FENCED is left alone. -/
def State.fencePage (s : State) (pg : Nat) (f : State → State) : State × Bool :=
  if s.pgState pg = stFenced then (s, false) else (f (s.wb (Reg.PAGE_CTRL pg) 3 true), true)

/-- The reaction of a FENCE fault on a unit. -/
def fenceUnit : React := fun lasting u s =>
  match u with
  | .port p => if s.portFenced p then (s, false) else (s.setPgState (Reg.page 0 (1 + p)) stFenced, true)
  | .geoBank =>
    if s.fltPending 33 && !s.flt.geoSwitched then (s, false)
    else (({ s with flt := { s.flt with geoSwitched := false } }).bankFault .geo, true)
  | .tonBank =>
    if s.fltPending 141 && !s.flt.tonSwitched then (s, false)
    else (({ s with flt := { s.flt with tonSwitched := false } }).bankFault .ton, true)
  | .slice n => s.fencePage (slicePage n) fun s => s.sliceFault n
  | .subarray i => if s.syn.failed.contains i.val || s.syn.dead.contains i.val then (s, false) else (s.subFault i, true)
  | .reelSpares => (s, !s.fltPending 134)
  | .lane l => s.fencePage (lanePage l) fun s => s.laneLoss l
  | .group g => (s.wb (Reg.PAGE_CTRL (grpPage g)) 3 true, true)
  | .dcp e => s.fencePage (dcpPage e) fun s => s.dcpFence e
  | .cmp e => s.fencePage (cmpPage e) fun s => if lasting then s.cmpLasting e else s.cmpFence e
  | .mover m => if s.moverState m = stFenced then (s, false) else ((if lasting then s.moverLeave m else s.moverFence m).wb Reg.BLK_MOVERS m true, true)
  | .channel c => s.fencePage (chPage c) fun s => s.chanFence c
  | .netPort p => s.fencePage (netPage p) fun s => s.netFenceReq p
  | .corePll k => s.fencePage (pllPage k) fun s => (s.pllFence k).1
  | .plkPll => s.fencePage (pllPage 2) fun s => (s.pllFence 2).1
  | .netPll p => s.fencePage (pllPage (3 + p)) fun s => (s.pllFence (3 + p)).1
  | .timePll => s.fencePage (pllPage 7) fun s => (s.pllFence 7).1
  | .panel => s.fencePage panelPage fun s => s.panelFence
  | .mgtPair i => if s.mgtState i = stFenced then (s, false) else (s.mgtStop i, true)
  | _ => (s, false)

/-- A report of source 133 that names no sub-array (an injected one, R353): which sub-array it is against is free (log 6). -/
def State.nameSub (s : State) (r : Report) : Report × State :=
  if r.src = 133 ∧ subArrayOf r = none then
    let x := s.free 9
    ({ r with origins := r.origins ++ [.subarray (finOf 512 (by decide) x.1.toNat)] }, x.2)
  else (r, s)

/-- Every report of source 133 names its sub-array. -/
def State.nameSubs (s : State) : List Report → List Report × State
  | [] => ([], s)
  | r :: t =>
    let x := s.nameSub r
    let y := State.nameSubs x.2 t
    (x.1 :: y.1, y.2)

/-- The reports of one fabric cycle with their reactions; then CORE_LOST where neither core PLL is usable any more (R320), MGT_BOTH_LOST
where both pairs are fenced (R422), and the fault pixel (R368). -/
def State.fault (s : State) (reps : List Report) : State :=
  let was := s.coreActive
  let lost := s.mgtLost
  let named := s.nameSubs reps
  let s := named.2.raiseWith fenceUnit named.1
  let s := s.when (was != 2 && s.coreActive == 2) fun s => s.grave 462
  let s := s.when (!lost && s.mgtLost) fun s => s.grave 506
  s.panelKick

/-- One fault of the device's own. -/
def State.faultOne (s : State) (src : Nat) (lo hi : Word := 0) (origins : List FUnit := []) : State :=
  let d := s.detail src lo hi
  d.2.fault [⟨src, d.1, hi, origins, false⟩]

/-- CORE_LOST after a change that is no fault (R320): `was` is the clock of the core domains before it. -/
def State.coreLost (s : State) (was : Nat) : State := if was ≠ 2 ∧ s.coreActive = 2 then s.grave 462 else s

/-! ### Clears (R342, R348) -/

/-- The condition under which the host's clear of a source is accepted, on its unit's present state. -/
def State.clearOk (s : State) (src : Nat) : Bool :=
  if src = 133 then s.rb Reg.SYN_REEL_MAP 31 || s.flt.subarrays.all fun i => s.syn.remapped.contains i && !s.syn.failed.contains i
  else if src = 134 then true
  else match srcDetector src with
  | some (.port p) => s.rb (Reg.HIF_PORT_STATUS p) 0 && !s.portFenced p
  | some .geoBank => s.flt.geoSwitched
  | some .tonBank => s.flt.tonSwitched
  | some (.lane l) => s.role l == roleData || s.role l == roleStandin || s.pgState (lanePage l) == stOff
  | some (.group g) => s.grpMode g == 0
  | some (.mover m) => decide (s.moverState m ≤ stRun)
  | some .panel => s.inService panelPage && decide (s.rf Reg.SVC_CRACK_OHMS 15 0 ≤ s.rf Reg.SVC_CRACK_LIMIT 15 0)
  | some (.mgtPair i) => s.mgtState i == stIdle
  | some u => match unitPage u with | some pg => s.inService pg | none => true
  | none => true

end Sys2Proof.Machine
end

