-- ==== Sys2Proof/Machine/FaultCmds.lean ====
section
/-! DEFINITION. The commands of the fault collector (spec/15_faults_and_fencing.md R333 to R356), and the commands of other blocks that raise
FENCE, CORRECTED or GRAVE faults. -/
namespace Sys2Proof.Machine

/-! ### Clears, injections and first-fault records (R339, R348, R353) -/

/-- One bit of a clear (R348): the state after it, and whether it was refused, accepted. -/
def State.clearBit (s : State) (src : Nat) : State × Bool × Bool :=
  let f := s.fltSrc src
  if !s.fltPending src then (s, false, false)
  else if f.cls = 3 then (s, false, false)
  else if f.cls = 2 then
    if f.noUnit || s.clearOk src then
      let s := (s.setPending src false).wb (Reg.FLT_LASTING (src / 32)) (src % 32) false
      let s := s.setFltSrc src { f with n := 0, pairCause := false }
      (if src = 133 then { s with flt := { s.flt with subarrays := [] } } else s, false, true)
    else (s, true, false)
  else (s.setPending src false, false, true)

/-- FAULT_CLEAR of word `w` (R348). -/
def State.faultClear (s : State) (w : Nat) (v : Word) : State :=
  let r := (List.range 32).foldl (fun (acc : State × Bool × Bool) i =>
    if bit v i then
      let x := acc.1.clearBit (32 * w + i)
      (x.1, acc.2.1 || x.2.1, acc.2.2 || x.2.2)
    else acc) (s, false, false)
  let s := r.1
  let s := if r.2.1 then (s.wb Reg.FLT_STATUS 31 true).evt 1864 else if r.2.2 then s.wb Reg.FLT_STATUS 31 false else s
  s.pairUpdate.panelKick

/-- FLT_INJECT (R353). -/
def State.faultInject (s : State) (p : Party) (v : Word) : State :=
  let src := fld v 8 0
  if !bit v 31 then s
  else
    match baseClass src with
    | none => s.wb Reg.FLT_STATUS 29 true
    | some c =>
      if c = 3 ∧ p ≠ .dbg then s.wb Reg.FLT_STATUS 29 true
      else
        let d := (s.wb Reg.FLT_STATUS 29 false).detail src 0 0
        d.2.fault [⟨src, d.1, 0, [], true⟩]

/-- FLT_READY set by the firmware at the end of boot (R351; BOOTED of spec/18_boot_identity_attestation.md). -/
def State.readySet (s : State) (v : Word) : State :=
  if bit v 0 && !s.rb Reg.FLT_READY 0 then (((s.wb Reg.FLT_READY 0 true).evt 1920).pairUpdate).panelKick else s

/-- The window at place `i`, oldest first, closes (R345). -/
def State.windowClose (s : State) (i : Nat) : State := { s with flt := { s.flt with windows := s.flt.windows.eraseIdx i } }

/-- What writing an FLT register does beyond storing it. -/
def State.fltWritten (s : State) (p : Party) (a : Nat) (v : Word) : State :=
  if a = Reg.FLT_INJECT then s.faultInject p v
  else if a = Reg.FLT_FF_VALID then (if bit v 0 then s.setStoreFlag 0 false else s)
  else if a = Reg.FLT_PAIR_MASK ∨ a = Reg.FLT_PAIR_CTRL then s.pairUpdate.panelKick
  else s

/-- FLT_LOG_W_i of the record that FLT_LOG_RD selects (R338, R355). -/
def State.logWord (s : State) (i : Nat) : Word :=
  let k := s.rn Reg.FLT_LOG_RD
  let e := Sparse.get (fun _ => (0, [])) s.flt.log (k % 1024)
  if e.2.isEmpty ∨ e.1 ≠ k then 0xFFFFFFFF else nth 0xFFFFFFFF e.2 i

/-- FENCE pending bits set (R353). -/
def State.fencesPending (s : State) : Nat := (s.flt.src.filter fun e => e.2.cls == 2 && s.fltPending e.1).length

/-- FLT_SRC_INFO (R354). -/
def State.srcInfo (s : State) (src : Nat) : Word :=
  let f := s.fltSrc src
  wd ((baseClass src).getD 0 * 2 ^ 30 + f.cls * 2 ^ 28 + b2n (s.fltPending src) * 2 ^ 27 + b2n (s.fltLasting src) * 2 ^ 26 + min 255 f.n * 2 ^ 16 + f.raises)

/-- What an FLT register reads as where that is computed (R338, R351, R353 to R355). -/
def State.fltView (s : State) (a : Nat) : Option Word :=
  if a = Reg.FLT_PAIR_STATUS then
    some (wd (b2n (!s.rb Reg.FLT_READY 0) * 16 + b2n (s.rb Reg.FLT_PAIR_CTRL 0) * 8 + b2n s.pairFence * 4 + b2n s.graveLatched * 2 + b2n s.svc.pairFaulted))
  else if a = Reg.FLT_STATUS then
    some (wd (b2n (s.rb a 31) * 2 ^ 31 + b2n s.graveLatched * 2 ^ 30 + b2n (s.rb a 29) * 2 ^ 29 + s.flt.windows.length * 2 ^ 16 + s.fencesPending))
  else if a = Reg.FLT_SEQ then some (wd s.fltSeq)
  else if a = Reg.FLT_FF_VALID then some (wd (b2n (s.storeFlag 0) + 2 * b2n (s.storeFlag 1)))
  else if Reg.FLT_FF 0 ≤ a ∧ a < Reg.FLT_FF 0 + 32 then some (wd (leNat (s.storeRd (0xC0 + (a - Reg.FLT_FF 0)) 4)))
  else if Reg.FLT_FG 0 ≤ a ∧ a < Reg.FLT_FG 0 + 32 then some (wd (leNat (s.storeRd (0xE0 + (a - Reg.FLT_FG 0)) 4)))
  else if a = Reg.FLT_SRC_INFO then some (s.srcInfo (s.rf Reg.FLT_SRC_IDX 8 0))
  else if a = Reg.FLT_SRC_T0 then some (wd (s.fltSrc (s.rf Reg.FLT_SRC_IDX 8 0)).t0)
  else if Reg.FLT_LOG_W 0 ≤ a ∧ a < Reg.FLT_LOG_W 0 + 32 then some (s.logWord ((a - Reg.FLT_LOG_W 0) / 4))
  else none

/-- A reset of the compute die other than a port reset (R349): GRAVE bits come back from the retained store; a power-on reset clears the
log. -/
def State.fltReset (s : State) (powerOn : Bool) : State :=
  let s := s.each 16 fun w s => (s.wn (Reg.FLT_PEND w) (leNat (s.storeRd (0x100 + 4 * w) 4))).wr (Reg.FLT_LASTING w) 0
  let graves := (List.range 512).filter fun i => s.fltPending i
  let f := s.flt
  let srcs := graves.map fun i => (i, { FltSrc.zero with cls := 3 })
  let s := { s with flt := { f with src := srcs, windows := [], subarrays := [], geoSwitched := false, tonSwitched := false, log := if powerOn then [] else f.log } }
  let s := (s.wr Reg.FLT_READY 0).wf Reg.FLT_STATUS 31 29 0
  if powerOn then s.wr Reg.FLT_LOG_WR 0 else s

/-! ### Meanings: the collector -/

/-- An uncorrectable word of ingest state fails the context that it belongs to, or the parcel in reassembly, and no other (source 261 of
spec/09_ingest_and_decompression.md). -/
def State.ctxUncorr (s : State) (parcel : Bool) (i : Nat) : State :=
  if parcel then
    match s.ing.parcels[i]? with
    | some p => ({ s with ing := { s.ing with parcels := s.ing.parcels.eraseIdx i } }).ringFree p.alloc
    | none => s
  else
    match s.ing.ctxs[i]? with
    | some c => s.ctxFail c.id jsMemUncorr 0
    | none => s

/-- FAULT_ARRIVAL (R333, R341 to R346). A report of an uncorrectable unit of the retained store marks that unit (R359); one of
source 261 names the context by bits [9:0] of its detail, or the parcel where bit 31 is set (log 35). -/
def execFaultArrival (reports : List Report) (s : State) : Host.Outcome State Fault Refusal :=
  let bad := (reports.filter fun r => r.src = 481).map fun r => r.lo.toNat % 256
  let s := s.eachOf bad fun u s => s.storeLose u
  let s := s.eachOf (reports.filter fun r => r.src = 261) fun r s => s.ctxUncorr (bit r.lo 31) (fld r.lo 9 0)
  done (s.fault reports)

/-- SECONDARY_WINDOW_CLOSE (R345). -/
def execSecondaryWindowClose (i : Fin 16) (s : State) : Host.Outcome State Fault Refusal := done (s.windowClose i)

/-- FAULT_CLEAR (R348). -/
def execFaultClear (p : Party) (w : Fin 16) (v : Word) (s : State) : Host.Outcome State Fault Refusal :=
  done (s.writeBy p (Reg.FLT_PEND w) v fun _ s => s.faultClear w v)

/-- FAULT_INJECT (R353). -/
def execFaultInject (p : Party) (v : Word) (s : State) : Host.Outcome State Fault Refusal :=
  done (s.regWrite p Reg.FLT_INJECT v fun s => s.faultInject p v)

/-- FF_RELEASE (R339). -/
def execFfRelease (p : Party) (v : Word) (s : State) : Host.Outcome State Fault Refusal :=
  done (s.regWrite p Reg.FLT_FF_VALID v fun s => s.fltWritten p Reg.FLT_FF_VALID v)

/-- LOG_SELECT (R338). -/
def execLogSelect (p : Party) (v : Word) (s : State) : Host.Outcome State Fault Refusal := done (s.regWrite p Reg.FLT_LOG_RD v id)

/-- FLT_READY (R351). -/
def execFltReady (p : Party) (v : Word) (s : State) : Host.Outcome State Fault Refusal :=
  done (s.writeBy p Reg.FLT_READY v fun _ s => s.readySet v)

/-! ### Meanings: tables, the Reel and bands -/

/-- GEO_ACTIVE_UNCORR (R62). -/
def execGeoActiveUncorr (t : Fin 6) (word : Fin 1580) (s : State) : Host.Outcome State Fault Refusal :=
  done ((s.tabDamage .geo t word).faultOne 33)

/-- TON_ACTIVE_UNCORR (R151). -/
def execTonActiveUncorr (t : Fin 6) (word : Fin 8448) (s : State) : Host.Outcome State Fault Refusal :=
  done ((s.tabDamage .ton t word).faultOne 141)

/-- BAND_START (R92, R104, R107). -/
def execBandStart (s : State) : Host.Outcome State Fault Refusal :=
  let n := s.syn.dead.length
  let s := s.bandStart
  done (if n < s.syn.dead.length then s.faultOne 134 else s)

/-- A row of the Reel holds the cell of unit slot `slot`, row buffer `buf` and column index `c` (R75, R94). -/
def State.rowHolds (s : State) (slot buf c : Nat) (r : ReelRow) : Bool :=
  match s.syn.frames.find? (fun f => f.num = r.frame) with
  | some f => f.buffer r.row == buf && (f.slots r.layer).contains slot && decide (r.first ≤ (c : Int) - 32)
  | none => false

/-- A row with the cell of unit slot `slot`, row buffer `buf` and column index `c` blanked, where it holds that cell. -/
def State.rowDamage (s : State) (slot buf c : Nat) (r : ReelRow) : ReelRow :=
  if s.rowHolds slot buf c r then { r with cells := upd r.cells ((c : Int) - 32 - r.first).toNat none } else r

/-- The cell of unit slot `slot`, row buffer `buf` and column index `c` is damaged: it reads transparent in whatever row the buffer holds (R107). -/
def State.cellDamage (s : State) (slot buf c : Nat) : State :=
  { s with syn := { s.syn with reel := s.syn.reel.map (s.rowDamage slot buf c) } }

/-- A staged pixel of view `v` is damaged before its band is written: the spec does not say what is written then, so it is a free value (log 42). -/
def State.stagedDamage (s : State) (v half row c : Nat) : State :=
  let (w, s) := s.free 30
  s.eachOf s.syn.frames fun f s =>
    let keys := (f.pvPix.map (·.1)).filter fun k =>
      k / 2 ^ 24 == v && k % 4096 == c &&
        (List.range f.bands.length).any fun i => i % 2 == half && (bandRows f.layout (f.band i)).1 + row == k / 4096 % 4096
    s.setFrame { f with pvPix := keys.foldl (fun l k => Sparse.insert k w.toNat l) f.pvPix }

/-- Sub-array of a word of the Reel (R95). -/
def reelSub : ReelPlace → Nat
  | .cell slot buf col => subArray slot buf col
  | .staged v half row col => pvSub v half row col
  | .control i => if i = 0 then 443 else 473 + i

/-- An uncorrectable word of the Reel (R107): what it holds is damaged, and its sub-array is at fault. -/
def State.reelUncorr (s : State) (w : ReelPlace) : State :=
  let s := match w with
    | .cell slot buf col => s.cellDamage slot buf col
    | .staged v half row col => s.stagedDamage v half row col
    | .control _ => s
  s.faultOne 133 0 0 [.subarray (finOf 512 (by decide) (reelSub w))]

/-- REEL_UNCORR (R107). -/
def execReelUncorr (w : ReelPlace) (s : State) : Host.Outcome State Fault Refusal := done (s.reelUncorr w)

/-! ### Meanings: the panel link -/

/-- LINK_RELEASE (R161, R173): every group, at the release of the latched frame. -/
def execLinkRelease (s : State) : Host.Outcome State Fault Refusal :=
  match s.cmt.latched with
  | none => done s
  | some e =>
    let r := (List.range 6).foldl (fun (acc : State × List Report) g =>
      let x := acc.1.releaseGroup g e.count
      (x.1, if x.2 then acc.2 ++ [⟨244 + 2 * g, 0, 0, [], false⟩] else acc.2)) (s, [])
    done (if r.2.isEmpty then r.1 else r.1.fault r.2)

/-- A data or stand-in lane is lost (R172); a loss reported for any other lane changes nothing. -/
def State.lossReport (s : State) (l : Nat) : State := if s.role l = roleData ∨ s.role l = roleStandin then s.faultOne (148 + l) else s

/-- A LANE_REPORT for logical lane `k` (R167, R169, R172). -/
def State.laneReport (s : State) (g k rx status errs : Nat) : State :=
  let l := s.phys g k
  let s := s.reportIn g k rx status errs
  if status < 4 ∨ max 1 (s.rf Reg.PLK_LOSS_ERRS 15 0) ≤ errs then s.lossReport l else s

/-- LANE_REPORT (R167, R169, R172) for logical lane `k`. -/
def execLaneReport (g : Fin 6) (k : Fin 16) (rxInput : Fin 16) (status : Fin 16) (errs : Fin 65536) (s : State) : Host.Outcome State Fault Refusal :=
  done (s.bcMessage g fun s => s.laneReport g k rxInput status errs)

/-- LANE_LOST (R172). -/
def execLaneLost (g : Fin 6) (k : Fin 16) (s : State) : Host.Outcome State Fault Refusal := done (s.bcMessage g fun s => s.lossReport (s.phys g k))

/-- A valid MESSAGE of group `g` by its CODE and ARGS (R167, R380); other codes are discarded, and it is a valid message all the same. -/
def State.message (s : State) (g code a : Nat) : State :=
  if code = 0x40 then s.regResult g (BitVec.ofNat 16 a) (BitVec.ofNat 16 (a / 2 ^ 16)) (a / 2 ^ 32)
  else if code = 0x41 then s.photoResult g (BitVec.ofNat 16 a) (a / 2 ^ 32)
  else s.bcMessage g fun s =>
    if code = 2 then s.laneReport g (a % 16) (a / 16 % 16) (a / 256 % 16) (a / 2 ^ 16 % 65536)
    else if code = 3 then s.lossReport (s.phys g (a % 16))
    else if code = 4 then s.setGrp g { s.grp g with deskew := a.testBit 0 }
    else if code = 5 then s.setGrp g { s.grp g with rate := true }
    else if code = 6 then s.mapAck g (a % 16)
    else if code = 7 then s.frameReport g (a.testBit 0) (a / 2 % 2 ^ 21)
    else if code = 8 then s.bcTemp g (a % 65536)
    else if code = 9 then s.setGrp g { s.grp g with repFrame := a % 65536 }
    else if code = 0x0A ∨ 0x80 ≤ code then s.bcQueue g code a
    else s

/-- INVALID_CONTROL_BLOCK (R157, R165): the receiver checks the CRC and the type of what it gets and discards a block where one is not valid; a
payload that is a valid MESSAGE is received. -/
def execInvalidControlBlock (g : Fin 6) (payload : BitVec 64) (s : State) : Host.Outcome State Fault Refusal :=
  let p := payload.toNat
  done (if p = controlBlock 0x33 (p / 256) then s.message g (p / 256 % 256) (p / 2 ^ 16 % 2 ^ 40) else s)

/-- TX_DETECT_FAIL (R172). -/
def execTxDetectFail (l : Fin 96) (s : State) : Host.Outcome State Fault Refusal := done (s.lossReport l)

/-- SYNC_IN_EDGE (R115, R325). -/
def execSyncInEdge (rising : Bool) (t : Nat) (s : State) : Host.Outcome State Fault Refusal :=
  let s := s.syncEdge rising t
  done (if rising = s.rb Reg.SYNC_IN_CTRL 1 then s else s.outSync 1)

/-! ### Meanings: engines and memory -/

/-- DCP_UNCORR (R201). -/
def execDcpUncorr (e : Fin 24) (s : State) : Host.Outcome State Fault Refusal := done (s.faultOne (293 + 2 * e))

/-- CMP_VERIFY_FAIL (R215). -/
def execCmpVerifyFail (e : Fin 4) (s : State) : Host.Outcome State Fault Refusal :=
  done (if (s.cmpEng e).job.isSome ∨ (s.cmpEng e).capture.isSome then (s.cmpFault e csVerifyFailed).faultOne (348 + e) else s)

/-- CMP_UNCORR (R217). -/
def execCmpUncorr (e : Fin 4) (s : State) : Host.Outcome State Fault Refusal := done ((s.cmpFault e csEngineFault).faultOne (341 + 2 * e))

/-- BLK_UNCORR (R241). -/
def execBlkUncorr (m : Fin 2) (s : State) : Host.Outcome State Fault Refusal := done (s.faultOne (357 + 2 * m))

/-- Training of channel `c` fails (R248). -/
def State.trainOver (r : State × Bool) (c : Nat) : State := if r.2 then r.1.faultOne (366 + 8 * c) else r.1

/-- TRAIN_STAGE_DONE (R248). -/
def execTrainStageDone (c : Fin 6) (pass : Bool) (dimms : List Dimm) (osc : List Nat) (s : State) : Host.Outcome State Fault Refusal :=
  done (State.trainOver (s.trainStage c pass dimms osc) c)

/-- TRAIN_STAGE_TIMEOUT (R248). -/
def execTrainStageTimeout (c : Fin 6) (s : State) : Host.Outcome State Fault Refusal :=
  done (if (s.chan c).training then (s.trainFail c).faultOne (366 + 8 * c) else s)

/-- DMC_READ_RETURN (R266, R267). -/
def execDmcReadReturn (c : Fin 6) (sub : Bool) (ecc : Ecc) (s : State) : Host.Outcome State Fault Refusal :=
  let r := s.readReturn c sub ecc
  done (if r.2 then r.1.faultOne (364 + 8 * c) (r.1.rd (Reg.DMC_CH_LAST_LO c)) (r.1.rd (Reg.DMC_CH_LAST_HI c)) else r.1)

/-- CA_PARITY (R267): the commands are replayed; a channel whose RCD answers none of 16 replays is lost (R271). -/
def execCaParity (c : Fin 6) (lost : Bool) (s : State) : Host.Outcome State Fault Refusal :=
  if !s.chLive c && s.pgState (chPage c) != stFenced then done s
  else
    let n := if lost then (s.chan c).replays + 1 else 0
    let s := (s.setChan c { s.chan c with replays := n % 16 }).faultOne (371 + 8 * c)
    done (if 16 ≤ n then s.faultOne (366 + 8 * c) else s)

/-- SCRUB_BATCH (R268). -/
def execScrubBatch (c : Fin 6) (corrected uncorrectable : List Nat) (behind : Bool) (s : State) : Host.Outcome State Fault Refusal :=
  let r := s.scrubBatch c corrected uncorrectable behind
  done (r.1.each r.2 fun _ s => s.faultOne (364 + 8 * c) (s.rd (Reg.DMC_CH_LAST_LO c)) (s.rd (Reg.DMC_CH_LAST_HI c)))

/-! ### Meanings: clocks and the service die -/

/-- XTAL_FAIL (R309). -/
def execXtalFail (s : State) : Host.Outcome State Fault Refusal := done (s.grave 471)

/-- RELOCK of PLL `k` (R318). -/
def execPllRelock (p : Party) (k : Fin 8) (s : State) : Host.Outcome State Fault Refusal :=
  done (s.regWrite p (Reg.PLL_CMD k) 2 fun s => (s.pllCmd k 2).coreLost s.coreActive)

/-- The panel-link PLL is back: the panel has lost lock, and each group that was trained or in training repeats its bring-up (R319). -/
def State.plkBack (s : State) : State :=
  s.each 6 fun g s => s.when (s.enabled (Reg.page 7 0) && s.enabled (grpPage g) && s.stage g != 0 && s.stage g != stageFailed) fun s => s.bringupStart g

/-- The domains of PLL `k` are back from bypass. -/
def State.domainsOn (s : State) (k : Nat) (was : Bool) : State := if k = 2 ∧ was ∧ !s.rb (Reg.PLL_STATUS 2) 9 then s.plkBack else s

/-- BYPASS_RELEASE (R318). -/
def execBypassRelease (k : Fin 8) (s : State) : Host.Outcome State Fault Refusal :=
  done ((s.bypassRelease k).domainsOn k (s.rb (Reg.PLL_STATUS 2) 9))

/-- PLL_LOCK_LOSS (R318, R320): a core PLL's lost fault is raised at once. -/
def execPllLockLoss (k : Fin 8) (s : State) : Host.Outcome State Fault Refusal :=
  if !s.pllRuns k then done s
  else
    let was := s.coreActive
    let s := (s.lockLoss k).1.coreLost was
    done (if k.val < 2 then s.faultOne (lostSource k) else s)

/-- PLL_LOCK_TIMEOUT (R318, R324). -/
def execPllLockTimeout (k : Fin 8) (s : State) : Host.Outcome State Fault Refusal :=
  done (if s.lstate k = lsRelock ∧ s.inService (pllPage k) then s.faultOne (lostSource k) else s)

/-- CRACK_CHECK (R364, R371): the crack loop reads `ohms`; a fenced panel's loop is measured too, so that its fault can be cleared. -/
def execCrackCheck (ohms : Nat) (s : State) : Host.Outcome State Fault Refusal :=
  if !(s.svcRuns && s.rb Reg.SVC_PANEL_CTRL 2 && s.enabled panelPage) then done s
  else
    let s := s.wf Reg.SVC_CRACK_OHMS 15 0 (min 65535 ohms)
    done (if s.rf Reg.SVC_CRACK_LIMIT 15 0 < min 65535 ohms then s.faultOne 483 else s)

/-- PANEL_DRIVE (R371). -/
def execPanelDrive (s : State) : Host.Outcome State Fault Refusal := done (if s.svc.powered then s.faultOne 486 else s)

end Sys2Proof.Machine
end

