-- ==== Sys2Proof/Machine/Pages.lean ====
section
/-! DEFINITION. The common page header at work (spec/02_register_pages_and_hosts.md R24 to R26, R454, R455): ENABLE, drains and discards,
self-tests, fence requests and returns, page by page as the chapters say. -/
namespace Sys2Proof.Machine

/-! ### Pages by function -/

/-- What a page is the page of. -/
inductive PageFn where
  | evt | cmt | geo | geoTile | layer (n : Nat) | syn | slice (n : Nat) | ton | tonTile (t : Nat) | group (g : Nat) | lane (l : Nat)
  | rx (r : Nat) | tray (p : Nat) | dcp (e : Nat) | print | cmp (e : Nat) | blk | blkQ (p : Nat) | dmc | chan (c : Nat) | net (p : Nat)
  | tim | domain (d : Nat) | pll (k : Nat) | clk | flt | panel | cal | sec | pwr | other
  deriving DecidableEq, Repr

/-- The function of a page, by its base. -/
def pageFn (pg : Nat) : PageFn :=
  let b := pg / 0x100000
  let p := pg / 0x1000 % 256
  match b with
  | 1 => if p = 0 then .evt else .other
  | 2 => if p = 0 then .cmt else .other
  | 3 => if p = 0 then .geo else .geoTile
  | 4 => if p = 0 then .other else .layer (p - 1)
  | 5 => if p = 0 then .syn else .slice (p - 1)
  | 6 => if p = 0 then .ton else .tonTile (p - 1)
  | 7 => if p = 0 then .other else if p ≤ 6 then .group (p - 1) else .lane (p - 8)
  | 8 => if p = 0 then .other else if p ≤ 4 then .rx (p - 1) else .tray (p - 5)
  | 9 => if p = 0 then .other else .dcp (p - 1)
  | 10 => if p = 0 then .print else .cmp (p - 1)
  | 11 => if p = 0 then .blk else .blkQ (p - 1)
  | 12 => if p = 0 then .dmc else .chan (p - 1)
  | 13 => if p = 0 then .other else .net (p - 1)
  | 14 => if p = 0 then .tim else .domain (p - 1)
  | 15 => if p = 0 then .clk else if p ≤ 8 then .pll (p - 1) else .other
  | 16 => .flt
  | 17 => if p = 1 then .panel else .other
  | 18 => if p = 0 then .cal else .other
  | 19 => if p = 0 then .sec else .other
  | 20 => if p = 0 then .pwr else .other
  | _ => .other

/-- The event of a change of STATE, where the page's chapter has one. -/
def stateEvt (pg : Nat) : Option Nat :=
  match pageFn pg with
  | .slice n => some (544 + 4 * n)
  | .lane l => some (784 + 2 * l)
  | .dcp e => some (1248 + 4 * e)
  | .cmp e => some (1344 + 4 * e)
  | .chan c => some (1440 + 32 * c)
  | .net p => some (1632 + 32 * p)
  | .panel => some 1892
  | _ => none

def State.toPage (s : State) (pg v : Nat) : State := s.toState pg v (stateEvt pg)

/-- The page's SELFTEST event (R455), where its chapter names one. -/
def testEvts (pg : Nat) : List Nat :=
  match pageFn pg, pg / 0x100000 with
  | .evt, _ => [32]
  | _, 2 => [53]
  | .slice n, _ => [545 + 4 * n]
  | .syn, _ => [662]
  | .dcp e, _ => [1249 + 4 * e]
  | .cmp e, _ => [1347 + 4 * e]
  | .print, _ => [1363]
  | .blk, _ => [1409, 1413]
  | .chan c, _ => [1441 + 32 * c]
  | .net p, _ => [1633 + 32 * p]
  | .clk, _ => [1845]
  | _, 3 => [358]
  | _, 6 => [710]
  | .group _, _ => [976]
  | .lane _, _ => [976]
  | .rx _, _ => [1120]
  | .tray _, _ => [1120]
  | _, 14 => [1769]
  | _, 16 => [1866]
  | _, 17 => [1893]
  | _, 18 => [1911]
  | _, 19 => [1927]
  | _, 20 => [1941]
  | _, _ => []

/-- The gate of a unit's page in PWR page 1 (R419): register and bit. -/
def gateOf (pg : Nat) : Option (Nat × Nat) :=
  match pageFn pg with
  | .slice n => some (0, n)
  | .dcp e => some (1, e)
  | .cmp e => some (2, e)
  | .net p => some (2, 4 + p)
  | .group g => some (2, 8 + g)
  | .lane l => some (2, 8 + l / 16)
  | .chan c => some (2, 16 + c)
  | _ => none

def State.gateBit (s : State) (k i : Nat) : Bool := s.rb (Reg.PWR_GATE_SLICE + 4 * k) i

/-- The page's unit is gated. -/
def State.gated (s : State) (pg : Nat) : Bool := match gateOf pg with | some (k, i) => s.gateBit k i | none => false

/-! ### Work in flight (R26) -/

/-- Work that a drain of the page waits for. -/
def State.pageBusy (s : State) (pg : Nat) : Bool :=
  match pageFn pg with
  | .cmt => s.cmt.latched.isSome
  | .geo => (s.tab .geo).load.isSome
  | .ton => (s.tab .ton).load.isSome
  | .layer _ => true
  | .syn => s.syn.frames.any fun f => !f.ended
  | .slice n => (s.slice n).running.isSome || (s.slice n).queued.isSome
  | .group g => (s.grp g).frame.isSome
  | .lane l => (s.lane l).leaving
  | .rx r => s.rxBusy r
  | .tray p => s.trayBusy p || (!s.trayStopped p && s.rf (Reg.TRAY_HEAD p) 16 0 != (s.tray p).limit)
  | .dcp e => !(s.dcp e).jobs.isEmpty
  | .cmp e => (s.cmpEng e).job.isSome || (s.cmpEng e).capture.isSome
  | .blk => (s.mover 0).run.isSome || (s.mover 1).run.isSome
  | .blkQ p => s.queueRuns p || !(s.bqueue p).ops.isEmpty || (!s.blkStopped p && s.rf (Reg.BLK_Q_HEAD p) 15 0 != (s.bqueue p).limit)
  | .dmc => s.dmc.chans.any fun (c : DmcChan) => !c.requests.isEmpty
  | .chan c => !(s.chan c).requests.isEmpty
  | .net p => let n := s.netPort p; n.sending.isSome || !n.items.isEmpty || !n.mgt.isEmpty || s.netReturns p
  | .panel => s.svc.run.isSome || (s.svc.queued.isSome && !s.discarding pg)
  | .cal => s.cal.run.isSome
  | _ => false

/-- STATE of a page whose drain has ended: OFF where its chapter says so, else IDLE (R26). -/
def drainedState (pg : Nat) : Nat :=
  match pageFn pg with
  | .cmt => stOff
  | .slice _ => stOff
  | .layer _ => stOff
  | .lane _ => stOff
  | .chan _ => stOff
  | .pll _ => stOff
  | _ => stIdle

/-- The draining or discarding work of a disabled page has ended (R26). -/
def State.drainEnd (s : State) (pg : Nat) : State :=
  if s.enabled pg ∨ s.pgState pg ≠ stDraining ∨ s.pageBusy pg then s
  else
    let s := match pageFn pg with
      | .cmt => s.cmtDrained
      | .slice n => s.setSlice n { s.slice n with leaving := false }
      | .chan c => s.chanOut c
      | .dmc => s.mapOff
      | _ => s
    (s.setDiscard pg false).toPage pg (drainedState pg)

/-- Synthesis is to stop at the next band boundary (R106), where a frame still has one. -/
def State.synStopping (s : State) : State :=
  { s with syn := { s.syn with stopping := s.syn.frames.any fun (f : Frame) => decide (f.started < f.bands.length) } }

/-- A drain becomes, or is, a discard: what stops, and what gets receipts (R26). -/
def State.pageDiscard (s : State) (pg : Nat) : State :=
  let s := s.setDiscard pg true
  match pageFn pg with
  | .syn => s.synStopping
  | .slice n => s.setSlice n { s.slice n with leaving := true }
  | .group g => if (s.grp g).frame.isSome then s.sendEnd g true else s
  | .rx r => (s.rxDiscard r).ingStates
  | .tray p => (s.trayDiscard p).ingStates
  | .dcp e => (s.dcpDiscard e (fun _ => true) false).ingStates
  | .cmp e => (s.stripAbandon e).cmpDrop e
  | .blk => s.blkDiscard
  | .blkQ p => s.blkQDiscard p
  | .chan c => s.chanOut c
  | .net p => s.netDiscard p
  | .panel => if s.svc.run.isNone then { s with svc := { s.svc with queued := none } } else s
  | .cal => s.runAbort 3
  | _ => s

/-! ### ENABLE (R26) -/

/-- ENABLE goes from 0 to 1. A unit that is FENCED, in TEST or RETURNING keeps its STATE. -/
def State.pageStart (s : State) (pg : Nat) : State :=
  let s := (s.wb (Reg.PAGE_STATUS pg) 8 false).setDiscard pg false
  if stFenced ≤ s.pgState pg then s
  else
    match pageFn pg with
    | .cmt =>
      let s := s.cmtStart s.timLocked
      if s.pwr.state = 0 ∧ s.pwr.move = .none then s else { s with cmt := { s.cmt with next := none, waitLock := false, waitEdge := false } }
    | .geoTile => (s.geoLayoutLatch pg).toPage pg stIdle
    | .syn => ({ s with syn := { s.syn with stopping := false } }).toPage pg (if s.pageBusy pg then stRun else stIdle)
    | .layer n => if s.rb (Reg.LYR_STATUS n) 0 then s else s.toPage pg (if s.pgState pg = stOff then stIdle else s.lyrIdleRun n)
    | .slice n =>
      if s.pgState pg = stDraining then (s.setSlice n { s.slice n with leaving := false }).sliceState n stRun
      else s.setSlice n { s.slice n with joining := true, leaving := false }
    | .group g => (s.setGrp g { s.grp g with stopped := false }).toPage pg (if s.pageBusy pg then stRun else stIdle)
    | .lane _ => s
    | .tray p => ((s.trayEnable p).toPage pg stIdle).ingStates
    | .cmp e => ((s.toPage pg stIdle).cmpState e).assignStrips
    | .blk => ((s.blkEnable.toPage pg stIdle).each 4 fun p s => s.queueOn p).blkStates
    | .blkQ p => ((s.blkQEnable p).toPage pg stIdle).blkStates
    | .dmc => let r := s.mapEnable; r.1.toPage pg (if r.2 then stIdle else stOff)
    | .chan _ => if s.pgState pg = stDraining then s.toPage pg stIdle else s
    | .net p => ((s.netEnable p).toPage pg stIdle).netState p
    | .tim => s.timEnable.toPage pg stIdle
    | .domain d => (s.tdEnable d true).toPage pg stIdle
    | .pll k => ((s.pllEnable k true).1.coreLost s.coreActive).toPage pg stRun
    | .clk => s
    | .flt => s
    | .panel => (s.toPage pg (if s.svc.run.isSome then stRun else stIdle)).panelKick
    | _ => s.toPage pg (if s.pageBusy pg then stRun else stIdle)

/-- ENABLE goes from 1 to 0: a drain, or a discard where DRAIN_MODE is DISCARD. A unit that is FENCED, in TEST or RETURNING keeps its
STATE. -/
def State.pageStop (s : State) (pg : Nat) : State :=
  if stFenced ≤ s.pgState pg then
    (match pageFn pg with
      | .slice n => s.setSlice n { s.slice n with joining := false }
      | .lane l =>
        let s := s.setLane l { s.lane l with failed := true, ready := false }
        if s.pgState pg = stReturning then s.toPage pg stFenced else s
      | _ => s)
  else
    let disc := s.rf (Reg.PAGE_CTRL pg) 2 1 == 1
    match pageFn pg with
    | .cmt => s.cmtStop
    | .layer n => if s.rb (Reg.LYR_STATUS n) 0 ∨ s.pgState pg = stOff then s else s.toPage pg stDraining
    | .lane l =>
      if s.role l = roleData then (s.setLane l { s.lane l with leaving := true }).toPage pg stDraining
      else if s.role l = roleStandin then (s.setRole l roleFenced).toPage pg stOff
      else s.toPage pg stOff
    | .pll k => ((s.pllEnable k false).1.coreLost s.coreActive).toPage pg stOff
    | .tim => s.timMode.toPage pg stIdle
    | .domain d => (s.tdEnable d false).toPage pg stIdle
    | .clk => s
    | .flt => s
    | f =>
      let s := match f with
        | .slice n => (s.setSlice n { s.slice n with joining := false })
        | .group g => s.setGrp g { s.grp g with stopped := true }
        | .tray p => s.setTray p { s.tray p with limit := s.rf (Reg.TRAY_TAIL p) 16 0 }
        | .blkQ p => s.setBqueue p { s.bqueue p with limit := s.rf (Reg.BLK_Q_TAIL p) 15 0 }
        | _ => s
      if s.pgState pg = stOff then s
      else
        let s := s.toPage pg stDraining
        let s := match f with | .slice _ => s.proofCut | _ => s
        (if disc then s.pageDiscard pg else s).drainEnd pg

/-! ### FENCE_REQ (R24, R347) -/

/-- FENCE_REQ goes to 1: the unit leaves service at its chapter's boundary; pages of no fenceable unit are left alone. -/
def State.fenceReq (s : State) (pg : Nat) : State :=
  if s.pgState pg = stFenced then s
  else
    match pageFn pg with
    | .slice n =>
      if s.pgState pg = stTest ∨ s.pgState pg = stReturning then (s.setSlice n { s.slice n with joining := false }).sliceState n stFenced
      else s.setSlice n { s.slice n with leaving := true }
    | .lane l =>
      if s.role l = roleData then s.setLane l { s.lane l with leaving := true }
      else ((s.setRole l roleFenced).setLane l { s.lane l with ready := false }).toPage pg stFenced
    | .dcp e => s.dcpFenceReq e
    | .cmp e => s.cmpFenceReq e
    | .chan c => s.chanFence c
    | .net p => s.netFenceReq p
    | .pll k => (s.pllFence k).1.coreLost s.coreActive
    | .panel => s.panelFence
    | _ => s

/-- FENCE_REQ goes to 0: a fenced unit starts its return with TEST; a fence that still waits for its boundary is withdrawn. -/
def State.fenceClear (s : State) (pg : Nat) : State :=
  if s.pgState pg = stFenced then
    match pageFn pg with
    | .slice n => s.sliceState n stTest
    | .pll k => ((s.pllRelock k).1).toPage pg stTest
    | .lane l => if s.laneReturns l then (s.toPage pg stTest).seedLane l 3 else s
    | .dcp _ => s.toPage pg stTest
    | .cmp _ => s.toPage pg stTest
    | .chan _ => s.toPage pg stTest
    | .net _ => s.toPage pg stTest
    | .panel => s.toPage pg stTest
    | _ => s
  else
    match pageFn pg with
    | .slice n => if s.pgState pg = stDraining then s else s.setSlice n { s.slice n with leaving := false }
    | .lane l => if s.enabled pg then s.setLane l { s.lane l with leaving := false } else s
    | .dcp e => s.setDcp e { s.dcp e with leaving := false }
    | .cmp e => s.setCmpEng e { s.cmpEng e with leaving := false }
    | _ => s

/-! ### TEST (R455) -/

/-- The chapter's limits on TEST. -/
def State.testOk (s : State) (pg : Nat) : Bool :=
  !s.gated pg && decide (s.pgState pg ≠ stTest ∧ s.pgState pg ≠ stReturning) &&
  match pageFn pg, pg / 0x100000 with
  | .tonTile t, _ => !s.enabled (Reg.page 3 (1 + t))
  | .group g, _ => !s.enabled pg && (s.stage g == 0 || s.stage g == stageFailed)
  | .lane l, _ => s.role l == roleNone || s.role l == roleFenced
  | .print, _ => !s.rb Reg.CMP_PRINT_CTRL 0
  | .blk, _ => !s.enabled pg
  | .chan _, _ => s.pgState pg == stFenced || s.pgState pg == stOff
  | .clk, _ => (List.range 8).all fun n => s.rf (Reg.OUT_CTRL n) 1 0 == 0
  | .flt, _ => s.flt.windows.isEmpty
  | .cal, _ => s.cal.run.isNone
  | .sec, _ => s.sec.upd.isNone && s.sec.att.isNone && !s.rb Reg.SEC_DBG_STATUS 16
  | .pwr, _ => s.pwr.state == 1
  | _, 2 => !s.enabled pg
  | _, _ => true

/-- The key of a page in a list. -/
def State.testPrev (s : State) (pg : Nat) : Nat := Sparse.get (fun _ => 0) s.hif.testPrev pg

def State.setTestPrev (s : State) (pg v : Nat) : State :=
  { s with hif := { s.hif with testPrev := Sparse.set (fun _ => 0) s.hif.testPrev pg v } }

/-- A self-test starts. -/
def State.testStart (s : State) (pg : Nat) : State :=
  let s := (s.setTestPrev pg (s.pgState pg)).wf (Reg.PAGE_STATUS pg) 7 6 0
  let s := s.toPage pg stTest
  match pageFn pg with
  | .syn => s.synStopping
  | .slice _ => s.proofCut
  | .lane l => s.seedLane l 3
  | _ => s

/-! ### Writes of PAGE_CTRL -/

/-- The change of ENABLE and FENCE_REQ from `old` to what PAGE_CTRL holds now. -/
def State.ctrlAct (s : State) (pg : Nat) (old : Word) : State :=
  let v := s.rd (Reg.PAGE_CTRL pg)
  let s := if bit v 0 && !bit old 0 then s.pageStart pg else if !bit v 0 && bit old 0 then s.pageStop pg else s
  if bit v 3 && !bit old 3 then s.fenceReq pg else if !bit v 3 && bit old 3 then s.fenceClear pg else s

/-- A change that waits (R419): for the gate to open, or for the page's self-test to end; the earliest value waits. -/
def State.storeCtrl (s : State) (pg : Nat) (old : Word) : State :=
  if s.pwr.stored.any fun e => e.1 == pg then s else { s with pwr := { s.pwr with stored := Sparse.insert pg old s.pwr.stored } }

/-- A change that waited acts. -/
def State.releaseCtrl (s : State) (pg : Nat) : State :=
  match s.pwr.stored.find? (fun e => e.1 == pg) with
  | none => s
  | some e =>
    let s := { s with pwr := { s.pwr with stored := s.pwr.stored.filter fun x => x.1 != pg } }
    s.ctrlAct pg e.2

/-- What a write of PAGE_CTRL does; `old` is what it held. Where one write changes ENABLE or FENCE_REQ and sets TEST, the spec gives no order:
the change acts first, then the test starts (log 17). -/
def State.ctrlWritten (s : State) (pg : Nat) (old : Word) : State :=
  let a := Reg.PAGE_CTRL pg
  let want := s.rb a 4
  let s := s.wb a 4 (bit old 4)
  let s := if bit old 4 || s.gated pg then
      (if s.rd a &&& 9 = old &&& 9 then s else s.storeCtrl pg old) else s.ctrlAct pg old
  if want && !bit old 4 && s.testOk pg then (s.wb a 4 true).testStart pg else s

/-- A self-test under PAGE_CTRL.TEST ends (R455); `second` is what mover 1 gives where the test is that of the BLK common page, whose movers are
tested together (R243). -/
def State.testEnd (s : State) (pg : Nat) (pass second : Bool) : State :=
  let a := Reg.PAGE_CTRL pg
  if !s.rb a 4 then s
  else
    let both := pass && (second || !(pageFn pg matches .blk))
    let s := (s.wb a 4 false).wf (Reg.PAGE_STATUS pg) 7 6 (2 + b2n both)
    let s := match pageFn pg with
      | .blk => (s.wf Reg.BLK_MOVER_TEST 1 0 (1 + 2 * b2n pass)).wf Reg.BLK_MOVER_TEST 3 2 (1 + 2 * b2n second)
      | .chan c => s.wf (Reg.DMC_CH_SELFTEST c) 31 30 (2 + b2n pass)
      | .syn => { s with syn := { s.syn with stopping := s.syn.stopping && !s.enabled pg } }
      | .lane l => if pass then s else s.badBits l
      | _ => s
    let s := if s.pgState pg = stTest then s.toPage pg (s.testPrev pg) else s
    let s := (s.setTestPrev pg 0).eachOf (testEvts pg) fun e s => s.evt e
    let s := match pageFn pg with
      | .evt =>
        let held := s.hif.routerHeld
        ({ s with hif := { s.hif with routerHeld := [] } }).eachOf held fun e s => s.routeEvt e
      | _ => s
    s.releaseCtrl pg

/-! ### Returns (R347) -/

/-- The page of a unit that returns by FENCE_REQ. -/
def returnPage : FUnit → Option Nat
  | .port _ => none
  | .group _ => none
  | u => unitPage u

/-- The isolated self-test of a return ends (R347). -/
def State.returnTest (s : State) (u : FUnit) (pass : Bool) : State :=
  let res := 2 + b2n pass
  let goal := if pass then stReturning else stFenced
  match u with
  | .mover m =>
    if s.moverState m ≠ stTest then s
    else ((s.wf Reg.BLK_MOVER_TEST (2 * m + 1) (2 * m) (1 + 2 * b2n pass)).toMoverState m goal).evt (1409 + 4 * m)
  | .mgtPair i => if s.mgtState i ≠ stTest then s else s.setMgtState i goal
  | u =>
    match returnPage u with
    | none => s
    | some pg =>
      if s.rb (Reg.PAGE_CTRL pg) 4 ∨ !(s.pgState pg = stTest ∨ (s.pgState pg = stReturning ∧ !pass)) then s
      else
        match u with
        | .slice n =>
          let (sig, s) := s.free 16
          let s := s.wn (Reg.SLC_SELFTEST n) (res * 2 ^ 30 + sig.toNat)
          (s.sliceState n goal).evt (545 + 4 * n)
        | .lane l => (s.laneTested l pass).evt 976
        | .dcp e => (((s.wf (Reg.DCP_SELFTEST e) 31 30 res).toPage pg goal).when (!pass) fun s => s.cntSat (Reg.DCP_FENCES e) 32 1).evt (1249 + 4 * e)
        | .cmp e => (((s.wf (Reg.CMP_SELFTEST e) 31 30 res).toPage pg goal).when (!pass) fun s => s.cntSat (Reg.CMP_FENCES e) 32 1).evt (1347 + 4 * e)
        | .channel c => (((s.wf (Reg.DMC_CH_SELFTEST c) 31 30 res).toPage pg goal).when (!pass) fun s => s.cntSat (Reg.DMC_CH_FENCES c) 32 1).evt (1441 + 32 * c)
        | .netPort p => (((s.wf (Reg.NET_SELFTEST p) 31 30 res).toPage pg goal).when (!pass) fun s => s.cntSat (Reg.NET_FENCES p) 32 1).evt (1633 + 32 * p)
        | .panel => let s := s.toPage pg goal; if pass then s.reloadDrive else s
        | _ => s.toPage pg goal

/-- A returning unit joins (R347). -/
def State.unitJoin (s : State) (u : FUnit) : State :=
  match u with
  | .mover m => if s.moverState m ≠ stReturning then s else (s.toMoverState m (if s.enabled blkPage then stIdle else stOff)).blkStates
  | .mgtPair i => if s.mgtState i ≠ stReturning then s else s.setMgtState i stIdle
  | u =>
    match returnPage u with
    | none => s
    | some pg =>
      if s.pgState pg ≠ stReturning then s
      else
        match u with
        | .slice n => if s.enabled pg then s.setSlice n { s.slice n with joining := true } else s.sliceState n stOff
        | .lane l => if s.laneQualified l then s.setLane l { s.lane l with ready := true } else s
        | .dcp _ => (s.toPage pg (if s.enabled pg then stIdle else stOff)).ingStates
        | .cmp _ => (s.toPage pg (if s.enabled pg then stIdle else stOff)).assignStrips
        | .channel c => s.chanJoin c
        | .netPort p => s.netJoin p
        | .panel => s.panelJoin
        | .corePll k => s.pllJoin k
        | .plkPll => (s.pllJoin 2).domainsOn 2 (s.rb (Reg.PLL_STATUS 2) 9)
        | .netPll p => s.pllJoin (3 + p)
        | .timePll => s.pllJoin 7
        | _ => s

/-! ### Drain timeouts (R26) -/

/-- The NOTICE sources of a page, else of its block's common page, else of any page of the block, else of the device. R26 says that a page raises
a NOTICE fault and names no source (log 7). -/
def pageNotices (pg : Nat) : List Nat :=
  let b := pg / 0x100000
  let f (p : Nat) : List Nat :=
    let r := pageSrc fltRanges b p
    (List.range r.2).filterMap fun i => if baseClass (r.1 + i) = some 0 then some (r.1 + i) else none
  let own := f (pg / 0x1000 % 256)
  let block := (List.range 104).flatMap f
  if !own.isEmpty then own
  else if !(f 0).isEmpty then f 0
  else if !block.isEmpty then block
  else (List.range 512).filter fun i => baseClass i == some 0

/-- A drain is still running after DRAIN_TIMEOUT. -/
def State.drainTimeout (s : State) (pg : Nat) : State :=
  if s.enabled pg ∨ s.pgState pg ≠ stDraining ∨ s.discarding pg then s
  else
    let s := s.wb (Reg.PAGE_STATUS pg) 8 true
    let l := pageNotices pg
    let (x, s) := s.free 16
    let s := s.notice (nth 0 l (x.toNat % l.length))
    (s.pageDiscard pg).drainEnd pg

/-! ### Meanings -/

/-- A write of PAGE_CTRL by a party, as the value `f` makes of what it holds. -/
def State.writeCtrl (s : State) (p : Party) (pg : Nat) (f : Word → Word) : State :=
  let old := s.rd (Reg.PAGE_CTRL pg)
  s.regWrite p (Reg.PAGE_CTRL pg) (f old) fun s => s.ctrlWritten pg old

/-- PAGE_ENABLE (R26). -/
def execPageEnable (p : Party) (pg : Fin 5632) (s : State) : Host.Outcome State Fault Refusal :=
  done (s.writeCtrl p (pg.val * 0x1000) fun w => w ||| 1)

/-- PAGE_DISABLE (R26). -/
def execPageDisable (p : Party) (pg : Fin 5632) (mode : Fin 4) (s : State) : Host.Outcome State Fault Refusal :=
  done (s.writeCtrl p (pg.val * 0x1000) fun w => setBit (setFld w 2 1 mode) 0 false)

/-- DRAIN_END (R26). -/
def execDrainEnd (pg : Fin 5632) (s : State) : Host.Outcome State Fault Refusal := done (s.drainEnd (pg.val * 0x1000))

/-- DRAIN_TIMEOUT_EXPIRY (R26). -/
def execDrainTimeoutExpiry (pg : Fin 5632) (s : State) : Host.Outcome State Fault Refusal := done (s.drainTimeout (pg.val * 0x1000))

/-- PAGE_TEST (R455). -/
def execPageTest (p : Party) (pg : Fin 5632) (s : State) : Host.Outcome State Fault Refusal :=
  done (s.writeCtrl p (pg.val * 0x1000) fun w => setBit w 4 true)

/-- SELFTEST_END (R455). -/
def execSelftestEnd (pg : Fin 5632) (pass second : Bool) (s : State) : Host.Outcome State Fault Refusal := done (s.testEnd (pg.val * 0x1000) pass second)

/-- FENCE_REQ_SET (R24). -/
def execFenceReqSet (p : Party) (pg : Fin 5632) (s : State) : Host.Outcome State Fault Refusal :=
  done (s.writeCtrl p (pg.val * 0x1000) fun w => setBit w 3 true)

/-- FENCE_REQ_CLEAR (R347). -/
def execFenceReqClear (p : Party) (pg : Fin 5632) (s : State) : Host.Outcome State Fault Refusal :=
  done (s.writeCtrl p (pg.val * 0x1000) fun w => setBit w 3 false)

/-- UNIT_JOIN (R347). -/
def execUnitJoin (u : FUnit) (s : State) : Host.Outcome State Fault Refusal := done (s.unitJoin u)

/-- RETURN_TEST_END (R347). -/
def execReturnTestEnd (u : FUnit) (pass : Bool) (s : State) : Host.Outcome State Fault Refusal := done (s.returnTest u pass)

end Sys2Proof.Machine
end

