-- ==== Sys2Proof/Machine/Latch.lean ====
section
/-! DEFINITION. The latch point and the frame epoch (spec/06_epochs_flips_takes.md R112 to R118, R123, R127, R129), with the steps other
chapters take at them. -/
namespace Sys2Proof.Machine

/-- The frame and epoch of the latest latched frame shown (R130). -/
def State.showEpoch (s : State) (e : Epoch) : State :=
  let sec := e.time / nsUnit / 1000000000
  let s := (s.wn Reg.CMT_FRAME_LO e.count).wf Reg.CMT_FRAME_HI 15 0 (e.count / 2 ^ 32)
  ((s.wn Reg.CMT_EPOCH_SEC_LO sec).wf Reg.CMT_EPOCH_SEC_HI 15 0 (sec / 2 ^ 32)).wf Reg.CMT_EPOCH_NSEC 29 0 (e.time / nsUnit % 1000000000)

/-- Steps 2 to 6 of R118 for the frame with count `frame`: the state they leave, and what they are to raise. -/
def State.latchSteps (s : State) (frame : Nat) : State × LatchEv :=
  let takes := s.takeApplies frame
  let groups := s.takeGroups frame
  let (s, ev, taken) := s.lyrTakes takes LatchEv.none
  let (s, ev) := s.lyrFlips ev taken
  let s := s.lyrEnables.lyrClaims.lyrStates
  let s := s.prtLatch (s.lyrScalers ev).1 ev.flipped
  let (s, ev) := s.lyrScalers ev
  let s := s.lyrUnits.prtCandidates
  let (s, ev) := s.lyrStale ev
  let s := s.showIndicators.tabLatch .geo frame (takes (Reg.page 3 0))
  let lost := (List.range 6).filter fun t => s.geoStale t
  let s := s.each 6 fun t s => s.geoTempLatch t
  let s := s.each 6 fun t s => s.geoModelLatch t
  let s := ((s.tonLatchRegs takes).tabLatch .ton frame (takes (Reg.page 6 0))).wearSwap frame
  (s.takesDone frame, { ev with takes := groups, reps := ev.reps ++ lost.map fun _ => (⟨34, 0, 0, [], false⟩ : Report) })

/-- Step 7 of R118: LATCH, then the events of the latch point; the NOTICE faults of the cycle in one group. -/
def State.latchRaise (s : State) (ev : LatchEv) : State :=
  let s := s.evt 49
  let s := s.eachOf ev.flipped fun n s => s.evt (384 + 4 * n)
  let s := s.eachOf ev.stale fun n s => s.evt (385 + 4 * n)
  let s := s.eachOf ev.limit fun n s => s.evt (386 + 4 * n)
  let s := s.eachOf ev.refused fun n s => s.evt (387 + 4 * n)
  let s := s.eachOf ev.takes fun g s => s.evt (320 + g)
  if ev.reps.isEmpty then s else s.raiseWith noReact ev.reps

/-- CMT runs from its first latch point on (R113). -/
def State.cmtRun (s : State) : State :=
  let s := s.when (s.pgState cmtPage == stIdle) fun s => s.setPgState cmtPage stRun
  s.when (s.tstate == tsWaiting) fun s => s.toTstate tsAligned

/-- The cue registers in force from this latch point (R133). -/
def State.cueLatch (s : State) : State :=
  { s with cmt := { s.cmt with cues := (List.range 4).map fun c => (s.rn (Reg.CUE_CTRL c), s.rn (Reg.CUE_OFFSET c)) } }

/-- LATCH_POINT (R117, R118): of the next frame, `lead` before its epoch, while none is latched whose epoch is still to come. -/
def State.latchPoint (s : State) : State :=
  match s.cmt.next, s.cmt.latched with
  | some e, none =>
    let s := s.reachTime (e.time - s.cmt.lead * 1000 * nsUnit)
    let s := ({ s with cmt := { s.cmt with next := none, latched := some e } }).cmtRun.cueLatch
    let (s, ev) := s.latchSteps e.count
    let s := (s.showEpoch e).synLatch e.count e.time (s.enabled synPage && s.pgState synPage != stTest)
    (s.latchRaise ev).calLatch.rowCues
  | _, _ => s

/-- FRAME_EPOCH (R112): the epoch of the latched frame; the one before ends (R91, R127), the old banks are free (R58), the lead written
since applies (R117), and the next epoch is set. -/
def State.frameEpoch (s : State) : State :=
  match s.cmt.latched with
  | none => s
  | some e =>
    let s := s.reachTime e.time
    let s := ({ s with cmt := { s.cmt with latched := none, last := some e, lead := s.rf Reg.CMT_LEAD 12 0, cueFired := [] } }).evt 48
    let s := ((s.synEpoch e.count).captureSweep.tabEpoch .geo).tabEpoch .ton
    let s := s.outSync 2
    if s.cmtRuns then
      let r := s.followEpoch e
      { r.1 with cmt := { r.1.cmt with next := some r.2 } }
    else s

/-! ### Meanings -/

/-- CMT_LOCK_WAIT_END (R113): the time unit's steering domain is locked. -/
def execCmtLockWaitEnd (s : State) : Host.Outcome State Fault Refusal := done (if s.cmt.waitLock && s.timLocked then s.cmtBegin else s)

/-- LATCH_POINT (R117, R118). -/
def execLatchPoint (s : State) : Host.Outcome State Fault Refusal := done s.latchPoint

/-- FRAME_EPOCH (R112). -/
def execFrameEpoch (s : State) : Host.Outcome State Fault Refusal := done s.frameEpoch

end Sys2Proof.Machine
end

