-- ==== Sys2Proof/Machine/Power.lean ====
section
/-! DEFINITION. Power states, gates and rails, management pairs and the Postbox (spec/19_power_reset_debug.md R415 to R425,
spec/20_package_and_electrical.md R439 to R442). The resets themselves are in Reset.lean. -/
namespace Sys2Proof.Machine

/-! ### Power states (R415 to R417) -/

def State.setMove (s : State) (m : PwrMove) : State := { s with pwr := { s.pwr with move := m } }

/-- The power state changes (event 1936). -/
def State.setPower (s : State) (v : Nat) : State := ({ s with pwr := { s.pwr with state := v } }).evt 1936

/-- PWR_STATUS.REFUSED (R416): set with its event where a command names no transition or comes during one, cleared by the next accepted one. -/
def State.pwrRefuse (s : State) : State := (s.wb Reg.PWR_STATUS 9 true).evt 1937

/-- Channel `c` has been trained: it holds DIMMs in use. -/
def State.trained (s : State) (c : Nat) : Bool := !(s.chan c).dimms.isEmpty

/-- Every trained channel's ranks enter self-refresh once their requests are complete, or leave it (R265, R417). -/
def State.allSelfRefresh (s : State) (on : Bool) : State := s.each 6 fun c s => s.when (s.trained c) fun s =>
  if on then s.selfRefreshSoon c else (s.setChan c { s.chan c with srDue := false }).selfRefresh c false

/-- PWR_CMD (R415, R416): 1 RUN, 2 HOLD. -/
def State.pwrCmd (s : State) (v : Nat) : State :=
  match v % 16 with
  | 1 =>
    if s.pwr.state = 1 ∧ s.pwr.move = .none ∧ s.rb Reg.FLT_READY 0 then
      let s := ((s.wb Reg.PWR_STATUS 9 false).setPower 0).allSelfRefresh false
      if s.enabled cmtPage then s.cmtStart s.timLocked else s
    else s.pwrRefuse
  | 2 =>
    if s.pwr.state = 0 ∧ s.pwr.move = .none then
      let s := (s.wb Reg.PWR_STATUS 9 false).setMove .toHold
      if s.enabled cmtPage then s.cmtStop else s
    else s.pwrRefuse
  | _ => s

/-- Entry to P1 is complete once the epoch of the last latched frame, plus T, has passed (R415, R417). -/
def State.holdEnd (s : State) : State :=
  if s.pwr.move ≠ .toHold ∨ s.cmt.latched.isSome then s
  else
    let s := ((s.when (s.pgState cmtPage == stDraining) fun s => s.cmtDrained).setMove .none).setPower 1
    let s := s.when (s.pgState cmtPage == stDraining) fun s => s.setPgState cmtPage stOff
    if s.rb Reg.PWR_CTRL 0 then s.allSelfRefresh true else s

/-- SR_IDLE_EXPIRY (R417). -/
def State.srIdle (s : State) : State :=
  if s.pwr.state = 1 ∧ s.pwr.move = .none ∧ s.rb Reg.PWR_CTRL 0 then s.allSelfRefresh true else s

/-- PWR_STATUS.SR: in P1 with HOLD_SR, a trained channel's ranks are in self-refresh. -/
def State.inSelfRefresh (s : State) : Bool :=
  s.pwr.state == 1 && s.rb Reg.PWR_CTRL 0 && (List.range 6).any fun c => s.trained c && (s.chan c).ranks.any fun r => r.selfRefresh

/-- What a PWR register reads as where that is computed (R430): PWR_STATUS and PWR_DBG. -/
def State.pwrView (s : State) (a : Nat) : Option Word :=
  if a = Reg.PWR_STATUS then
    let w := setBit (setBit (s.rd a) 17 (s.rb Reg.FLT_READY 0)) 16 s.inSelfRefresh
    some (setFld (setBit w 8 (decide (s.pwr.move ≠ .none))) 1 0 s.pwr.state)
  else if a = Reg.PWR_DBG then some (setFld (s.rd a) 9 8 s.dbgLevel)
  else none

/-! ### Power gates (R419) -/

/-- Bits of PWR_GATE register `k` that gate a unit. -/
def gateBits (k : Nat) : List Nat :=
  if k = 0 then List.range 26 else if k = 1 then List.range 24 else (List.range 14) ++ (List.range 6).map (· + 16) ++ [24, 25]

/-- STATE of the unit of a gate. -/
def State.gateState (s : State) (k i : Nat) : Nat :=
  if k = 0 then s.pgState (slicePage i)
  else if k = 1 then s.pgState (dcpPage i)
  else if i < 4 then s.pgState (cmpPage i)
  else if i < 8 then s.pgState (netPage (i - 4))
  else if i < 14 then s.pgState (grpPage (i - 8))
  else if i < 22 then s.pgState (chPage (i - 16))
  else s.moverState (i - 24)

/-- The pages of the unit of a gate. -/
def gatePages (k i : Nat) : List Nat :=
  if k = 0 then [slicePage i]
  else if k = 1 then [dcpPage i]
  else if i < 4 then [cmpPage i]
  else if i < 8 then [netPage (i - 4)]
  else if i < 14 then grpPage (i - 8) :: (List.range 16).map fun l => lanePage (16 * (i - 8) + l)
  else if i < 22 then [chPage (i - 16)]
  else []

def gateReg (k : Nat) : Nat := Reg.PWR_GATE_SLICE + 4 * k

/-- A write of PWR_GATE register `k`: gates close at once, where the unit is OFF or FENCED; gates that are to open take their time. -/
def State.gateWrite (s : State) (k : Nat) (v : Word) : State :=
  let bits := gateBits k
  let old := s.rd (gateReg k)
  let may (i : Nat) : Bool := let x := s.gateState k i; x == stOff || x == stFenced
  let close := bits.filter fun i => bit v i && !bit old i && may i
  let refused := bits.any fun i => bit v i && !bit old i && !may i
  let opens := bits.filter fun i => !bit v i && bit old i
  let s := s.eachOf close fun i s => s.wb (gateReg k) i true
  let keep := s.pwr.gatesOpening.filter fun e => !(e.1 == k && bit v e.2)
  let new := (opens.map fun i => (k, i)).filter fun e => !keep.contains e
  let s := { s with pwr := { s.pwr with gatesOpening := keep ++ new } }
  let s := (s.wb Reg.PWR_GATE_STATUS 31 (!s.pwr.gatesOpening.isEmpty)).wb Reg.PWR_GATE_STATUS 30 refused
  let s := s.when (!close.isEmpty) fun s => s.evt 1938
  s.when refused fun s => s.evt 1937

/-- A gate has opened: writes stored meanwhile act. -/
def State.gateOpened (s : State) (k i : Nat) : State :=
  if !s.pwr.gatesOpening.contains (k, i) then s
  else
    let s := { s with pwr := { s.pwr with gatesOpening := s.pwr.gatesOpening.filter fun e => e != (k, i) } }
    let s := ((s.wb (gateReg k) i false).wb Reg.PWR_GATE_STATUS 31 (!s.pwr.gatesOpening.isEmpty)).evt 1938
    let s := s.eachOf (gatePages k i) fun pg s => s.releaseCtrl pg
    s.when (k == 2 && decide (24 ≤ i) && s.moverState (i - 24) == stFenced && !s.rb Reg.BLK_MOVERS (i - 24)) fun s => s.toMoverState (i - 24) stTest

/-! ### Rails (R439) -/

/-- The enable that a rail hangs on (R440); none for VDD_SVC and VHOLD. -/
def railEnable (r : Nat) : Option Nat :=
  if r = 5 ∨ r = 6 then some 0 else if r = 0 ∨ r = 1 then some 1 else if r = 3 ∨ r = 4 then some 2 else if r = 2 then some 3 else none

/-- The sequencing step under way (R439). -/
def State.seqStep (s : State) : Nat :=
  match s.pwr.move with
  | .powerUp k => if k ≤ 4 then k else 0
  | .powerDown k => k + 1
  | _ => 0

/-- RAIL_MONITOR: `out` the rails outside their warning band, `fail` those beyond ±8 %, `drop` the power-good inputs that have fallen. RAIL_WARN
goes to the collector, so none is raised while the compute die is off (log 73). -/
def State.railMonitor (s : State) (out fail drop : Nat) : State :=
  if !s.svc.powered then s else
  let old := s.rf Reg.PWR_RAIL 8 0
  let s := s.railBits 511 out
  let warn := (List.range 8).filter fun r => s.computeOn && out.testBit r && !old.testBit r
  let up (e : Nat) : Bool := s.pwr.enables.testBit e && s.pwr.good.testBit e
  let bad := (List.range 8).filter fun r => fail.testBit r && (match railEnable r with | some e => up e | none => true)
  let pg := (List.range 4).filter fun e => drop.testBit e && up e && !bad.any fun r => railEnable r == some e
  let lost := ((List.range 4).filter fun e => drop.testBit e && s.pwr.good.testBit e).foldl (fun a e => a + 2 ^ e) 0
  let det := s.rd Reg.PWR_RAIL
  let step := wd s.seqStep
  let s := { s with pwr := { s.pwr with good := s.pwr.good - lost } }
  let reps := warn.map (fun _ => (⟨500, 0, 0, [], false⟩ : Report)) ++ (bad ++ pg).map fun _ => (⟨501, det, step, [], false⟩ : Report)
  if reps.isEmpty then s else s.fault reps

/-! ### Standby and the power-up order (R418, R440 to R442) -/

/-- The power-up order starts (R440). -/
def State.powerUp (s : State) : State := { s with pwr := { s.pwr with move := .powerUp 1, enables := 1, good := 0 } }

/-- A PWR_PG rises in its step; after the last one only the release of compute reset is left. -/
def State.powerGood (s : State) (k : Nat) : State :=
  if s.pwr.move ≠ .powerUp (k + 1) then s
  else
    let good := s.pwr.good + (if s.pwr.good.testBit k then 0 else 2 ^ k)
    if k < 3 then { s with pwr := { s.pwr with good := good, enables := s.pwr.enables + 2 ^ (k + 1), move := .powerUp (k + 2) } }
    else { s with pwr := { s.pwr with good := good, move := .powerUp 5 } }

/-- A PWR_PG has not risen in its time (R441): RAIL_FAIL, and the device stays in P2. -/
def State.powerGoodTimeout (s : State) : State :=
  match s.pwr.move with
  | .powerUp k =>
    if k ≤ 4 then
      let s := { s with pwr := { s.pwr with move := .none, enables := 0, good := 0 } }
      (s.grave 501 (s.rd Reg.PWR_RAIL) (wd k)).panelKick
    else s
  | _ => s

/-- The retirement tables saved in the boot flash (R270). -/
def State.retireSave (s : State) : State :=
  s.each 6 fun c s => let x := s.chan c; s.setChan c { x with saved := x.retired.map RetEntry.page }

/-! ### Management pairs and the Postbox (R422 to R425) -/

/-- CHECKPOINT (R422). -/
def State.checkpoint (s : State) : State := if s.mgtRuns then { s with mgt := { s.mgt with ckpt := some s.clock, since := [] } } else s

/-- MGT_PAIR_CMD (R422): RETURN starts the return of a fenced pair. -/
def State.pairCmd (s : State) (v : Word) : State :=
  let i := b2n (bit v 8)
  if fld v 3 0 = 1 ∧ s.mgtState i = stFenced then s.setMgtState i stTest else s

/-- A write of MGT_RING_q (R424): each bit that party `p` may ring makes one rising edge; other bits are dropped under R28. -/
def State.ring (s : State) (p : Party) (q : Nat) (v : Word) : State :=
  let may := ringBits p q v.toNat
  let s := s.eachOf ((List.range 4).filter fun i => may.testBit i) fun i s =>
    let s := s.evt (1952 + 4 * q + i)
    if i ≤ 1 then { s with mgt := { s.mgt with since := s.mgt.since ++ [4 * q + i] } } else s
  if v.toNat % 16 = may then s else s.ownViol p (Reg.MGT_RING q)

/-- MGT_POSTBOX_ADDR. -/
def State.postbox (s : State) : Nat := s.addr40 Reg.MGT_POSTBOX_LO

/-- What a port may do at an offset of the Postbox (R423). -/
inductive PbRight where
  | free | readOnly | readsZero | denied
  deriving DecidableEq, Repr

def pbRight (port off : Nat) : PbRight :=
  if off < 0x20000 then .readOnly
  else if 0xA0000 ≤ off then .readsZero
  else if (off - 0x20000) / 0x20000 ≠ port then .denied
  else if (off - 0x20000) % 0x20000 < 0x10000 then .free
  else .readOnly

/-- A Postbox violation (R423). -/
def State.pbViol (s : State) : State := (s.cntSat Reg.MGT_PB_VIOL 32 1).notice 509

/-- A read of BAR4 by a port. -/
def State.postboxRead (s : State) (port off len : Nat) : State :=
  if !s.reaches (partyOf port) then s.answer .unsupportedRequest
  else match pbRight port off with
  | .denied => s.pbViol.answer (.bytes (List.replicate len 0))
  | .readsZero => s.answer (.bytes (List.replicate len 0))
  | _ =>
    let r := s.readMem none (s.postbox + off) len
    r.1.answer (if r.2.uncorr then .completerAbort else .bytes r.2.data)

/-- A write of BAR4 by a port. -/
def State.postboxWrite (s : State) (port off : Nat) (data : List Byte) : State :=
  if !s.reaches (partyOf port) then s
  else match pbRight port off with
  | .free => (s.writeMem none (s.postbox + off) data).1
  | _ => s.pbViol

/-- DAILY_WRITE (R425): the body into the buffer that does not hold the latest daily, then the header, then MGT_DAILY. -/
def State.dailyWrite (s : State) (body : List Byte) : State :=
  if !s.mgtRuns then s
  else
    let buf := if s.rb Reg.MGT_DAILY 31 then 1 - s.rf Reg.MGT_DAILY 16 16 else 0
    let seq := s.mgt.daily
    let hdr := leBytes 4 0x594C4944 ++ leBytes 4 seq ++ leBytes 6 s.clock.sec ++ [0, 0] ++ leBytes 4 s.clock.ns ++ leBytes 4 (32 + body.length)
      ++ leBytes 4 (crc32c body) ++ leBytes 4 0
    let a := s.postbox + 65536 * buf
    let s := (s.writeMem none (a + 32) body).1
    let s := (s.writeMem none a hdr).1
    let s := s.wn Reg.MGT_DAILY (2 ^ 31 + buf * 2 ^ 16 + seq % 65536)
    { s with mgt := { s.mgt with daily := (seq + 1) % 2 ^ 32 } }

/-! ### Meanings -/

/-- HOLD (R417). -/
def execPwrHold (p : Party) (s : State) : Host.Outcome State Fault Refusal := done (s.regWrite p Reg.PWR_CMD 2 fun s => s.pwrCmd 2)

/-- RUN (R415). -/
def execPwrRun (p : Party) (s : State) : Host.Outcome State Fault Refusal := done (s.regWrite p Reg.PWR_CMD 1 fun s => s.pwrCmd 1)

/-- HOLD_TRANSITION_END (R417). -/
def execHoldTransitionEnd (s : State) : Host.Outcome State Fault Refusal := done s.holdEnd

/-- SR_IDLE_EXPIRY (R417). -/
def execSrIdleExpiry (s : State) : Host.Outcome State Fault Refusal := done s.srIdle

/-- GATE_WRITE (R419). -/
def execGateWrite (p : Party) (k : Fin 3) (v : Word) (s : State) : Host.Outcome State Fault Refusal :=
  done (s.writeBy p (gateReg k) v fun _ s => s.gateWrite k v)

/-- GATE_OPENED (R419). -/
def execGateOpened (k : Fin 3) (i : Fin 26) (s : State) : Host.Outcome State Fault Refusal := done (s.gateOpened k i)

/-- RAIL_MONITOR (R439). -/
def execRailMonitor (out : BitVec 9) (fail : BitVec 8) (pgDrop : BitVec 4) (s : State) : Host.Outcome State Fault Refusal :=
  done (s.railMonitor out.toNat fail.toNat pgDrop.toNat)

/-- POWER_GOOD (R440). -/
def execPowerGood (k : Fin 4) (s : State) : Host.Outcome State Fault Refusal := done (s.powerGood k)

/-- POWER_GOOD_TIMEOUT (R441). -/
def execPowerGoodTimeout (s : State) : Host.Outcome State Fault Refusal := done s.powerGoodTimeout

/-- CHECKPOINT (R422). -/
def execCheckpoint (s : State) : Host.Outcome State Fault Refusal := done s.checkpoint

/-- LOCKSTEP_MISMATCH (R422). -/
def execLockstepMismatch (i : Fin 2) (s : State) : Host.Outcome State Fault Refusal := done (s.faultOne (504 + i))

/-- PAIR_RETURN (R422). -/
def execPairReturn (p : Party) (i : Fin 2) (s : State) : Host.Outcome State Fault Refusal :=
  let v := wd (1 + 256 * i)
  done (s.regWrite p Reg.MGT_PAIR_CMD v fun s => s.pairCmd v)

/-- POSTBOX_READ (R423). -/
def execPostboxRead (port : Fin 4) (off : Fin 1048576) (len : Fin 4097) (s : State) : Host.Outcome State Fault Refusal :=
  done (s.postboxRead port off len)

/-- POSTBOX_WRITE (R423). -/
def execPostboxWrite (port : Fin 4) (off : Fin 1048576) (data : List Byte) (s : State) : Host.Outcome State Fault Refusal :=
  done (s.postboxWrite port off data)

/-- DOORBELL_RING (R424). -/
def execDoorbellRing (p : Party) (q : Fin 5) (v : Word) (s : State) : Host.Outcome State Fault Refusal :=
  done (s.regWrite p (Reg.MGT_RING q) v fun s => s.ring p q v)

/-- DAILY_WRITE (R425). -/
def execDailyWrite (body : List Byte) (s : State) : Host.Outcome State Fault Refusal := done (s.dailyWrite body)

end Sys2Proof.Machine
end

