-- ==== Sys2Proof/Machine/Reset.lean ====
section
/-! DEFINITION. Resets and the loss of power (spec/19_power_reset_debug.md R418, R420, R421, spec/20 R442, and the reset rules of the
chapters). -/
namespace Sys2Proof.Machine

/-! ### Port resets (R21, R420) -/

/-- STATE of a countersign slot changes (R35). -/
def State.toCs (s : State) (k v : Nat) : State := if s.csState k = v then s else (s.wf (Reg.CS_STATUS k) 3 0 v).evt (2 + k)

/-- A slot closes: the staged words of every party are discarded, and no window is left (R34, R35). -/
def State.csClose (s : State) (k v : Nat) : State :=
  let s := { s with hif := { s.hif with csSign := Sparse.dropKeys (fun i => i / 128 == k) s.hif.csSign } }
  (s.wn (Reg.CS_REMAIN k) 0).toCs k v

/-- Every register of a page from 0x040 on returns to its reset value. -/
def State.clearPage (s : State) (pg : Nat) : State :=
  { s with regs := Sparse.dropKeys (fun a => a / 0x1000 == pg / 0x1000 && decide (0x40 ≤ a % 0x1000)) s.regs }

/-- Every register of a page, its header's included, returns to its reset value. -/
def State.clearWhole (s : State) (pg : Nat) : State := { s with regs := Sparse.dropKeys (fun a => a / 0x1000 == pg / 0x1000) s.regs }

/-- A port reset returns every register of the port's own page to its reset value (R202, R242), but for PAGE_OWNER, EVT_EN and EVT_PEND, which R44
leaves on every page. -/
def State.clearPort (s : State) (pg : Nat) : State :=
  { s with regs := Sparse.dropKeys (fun a => a / 0x1000 == pg / 0x1000 && !(a % 0x1000 == 8 || a % 0x1000 == 0x18 || a % 0x1000 == 0x1C)) s.regs }

/-- MSI-X table and PBA cleared, route entries disabled (R44); the function's configuration is reset (log 4). -/
def State.msixReset (s : State) (p : Nat) : State :=
  let s := (s.clearWhole (Reg.page 0 (16 + p))).clearWhole (Reg.page 0 (20 + p))
  let s := ({ s with hif := { s.hif with msix := upd s.hif.msix p (false, false) } }).wb (Reg.HIF_PORT_STATUS p) 12 false
  { s with regs := s.regs.filterMap fun e =>
      if e.1 / 0x1000 = 0x101 + 2 * p ∨ e.1 / 0x1000 = 0x102 + 2 * p then
        (if 0x40 ≤ e.1 % 0x1000 then (if e.2 &&& 0x00FF00FF = 0 then none else some (e.1, e.2 &&& 0x00FF00FF)) else some e)
      else some e }

/-- A port reset of Hp (R420): what the rules that R21 names assign to it. -/
def State.portReset (s : State) (p : Nat) : State :=
  let s := s.when (s.csState p == 1) fun s => s.csClose p 5
  let s := s.msixReset p
  let s := (s.tabPortReset .geo p).tabPortReset .ton p
  let s := (s.synPortReset p).cmtPortReset p
  let s := ((s.trayDrop p).setTray p Tray.reset).clearPort (Reg.page 8 (5 + p)) |>.ingStates
  let s := s.cmpPortReset p
  let s := (s.blkPortReset p).clearPort (Reg.page 11 (1 + p)) |>.blkStates
  let s := s.netPortReset p
  let pg := Reg.page 0 (1 + p)
  s.when (s.portFenced p) fun s => s.setPgState pg (if s.enabled pg then stIdle else stOff)

/-- FUNCTION_LEVEL_RESET. -/
def State.flr (s : State) (p : Nat) : State :=
  if !s.computeOn ∨ s.ports ≤ p then s
  else ((s.portReset p).cntWrap (Reg.HIF_PORT_FLR_CNT p)).evt (12 + p)

/-- LINK_RESET: the link goes down. -/
def State.linkReset (s : State) (p : Nat) : State :=
  if !s.computeOn ∨ s.ports ≤ p then s
  else
    let was := s.rb (Reg.HIF_PORT_STATUS p) 0
    let s := (s.portReset p).wr (Reg.HIF_PORT_STATUS p) 0
    s.when was fun s => s.evt (8 + p)

/-- PCIE_LINK_UP: width as log2 of the lanes, speed 1 to 5, and the function's configuration; vectors that may send now and are pending do
(R43). -/
def State.pcieUp (s : State) (p width speed : Nat) (cfg : PcieCfg) : State :=
  if !s.computeOn ∨ s.ports ≤ p then s
  else
    let was := s.rb (Reg.HIF_PORT_STATUS p) 0
    let s := s.wn (Reg.HIF_PORT_STATUS p) (1 + width * 16 + speed * 256 + b2n cfg.busMaster * 4096)
    let s : State := { s with hif := { s.hif with msix := upd s.hif.msix p (cfg.msixEnable, cfg.functionMask) } }
    let s := s.each 256 fun v s => s.sendPending p v
    s.when (!was) fun s => s.evt (8 + p)

/-! ### Resets of the compute die (R420) -/

/-- The service die's own state behind its window, and its rail monitors (R357, R369, R375, R439). -/
def keepService (a : Nat) : Bool :=
  a == Reg.PWR_RAIL || a == Reg.PAGE_CTRL panelPage || a == Reg.PAGE_STATUS panelPage ||
    (a / 0x100000 == 17 && decide (0x40 ≤ a % 0x1000) && (match regRow a with | some r => r.acc == .ro | none => false))

/-- What a warm reset keeps beside: RWS registers, the log's count, the straps (R8, R20, R349). -/
def keepWarm (a : Nat) : Bool :=
  keepService a || a == Reg.FLT_LOG_WR || a == Reg.HIF_BIFUR || (match regRow a with | some r => r.acc == .rws | none => false)

/-- What stands while the compute die has no power: the service die's window whole. -/
def keepOff (a : Nat) : Bool := keepService a || a / 0x100000 == 17

/-- A channel across a warm reset (R249, R270): its retirement table, counts and contents stay; the ranks of a channel that is trained, in service or
not, are held in self-refresh. -/
def State.chanWarm (s : State) (c : Nat) : DmcChan :=
  let x := s.chan c
  let held := !x.dimms.isEmpty && !x.training
  { DmcChan.reset with retired := x.retired, corr := x.corr, bad := x.bad, saved := x.saved, held := held
                       ranks := List.replicate 4 { Rank.fresh with selfRefresh := held } }

/-- A channel whose power has gone: only what the boot flash holds stays. -/
def State.chanCold (s : State) (c : Nat) : DmcChan := { DmcChan.reset with saved := (s.chan c).saved }

/-- The compute die's state returns to its reset values, but for the registers that `keep` names; `warm` keeps DRAM contents. -/
def State.wipe (s : State) (warm : Bool) (keep : Nat → Bool) : State :=
  let panel (l : List (Nat × Nat)) := l.filter fun e => e.1 == panelPage
  let d : Dmc := ⟨(List.range 6).map fun c => if warm then s.chanWarm c else s.chanCold c, []⟩
  { s with
    regs := Sparse.dropKeys (fun a => !keep a) s.regs
    mem := if warm then s.mem else []
    hif := ⟨[], [], [], [], [], panel s.hif.testPrev, s.hif.discard.filter fun e => e.1 == panelPage, s.hif.cycleVecs, List.replicate 4 (false, false)⟩
    dmc := d
    pwr := { s.pwr with gatesOpening := [], stored := s.pwr.stored.filter fun e => e.1 == panelPage }
    clock := ⟨0, 0, 0⟩
    geo := Geo.reset, ton := Ton.reset, lyr := Lyr.reset, syn := Syn.reset, cmt := Cmt.reset, prt := Prt.reset, plk := Plk.reset
    ing := Ing.reset, cmp := List.replicate 4 ⟨none, none, false⟩, blk := Blk.reset, tim := Tim.reset, net := Net.reset, clk := Clk.reset
    cal := { Cal.reset with slots := s.cal.slots, saved := s.cal.saved }
    mgt := Mgt.reset, dbg := Dbg.reset }

/-- The compute die comes out of a reset of kind `kind` (R430) in P1, a standby that the service die has begun going on: the collector has its GRAVE bits back (R349), and logs COMPUTE_LOST
where that is owed (R352). -/
def State.resetEnd (s : State) (kind : Nat) (powerOn : Bool) : State :=
  let move := if s.pwr.move = .toStandby then .toStandby else .none
  let s := { s with pwr := { s.pwr with state := 1, move := move } }
  let s := s.wf Reg.PWR_STATUS 31 28 kind
  let s := (({ s with svc := { s.svc with computeLost := false } }).fltReset powerOn).logLost
  s.pairUpdate.alertUpdate.panelKick

/-- A warm reset (R420). -/
def State.warmReset (s : State) (kind : Nat) : State :=
  if !s.computeOn then s
  else
    let s := s.runAbort 4
    let res := s.rf Reg.CAL_STATUS 23 20
    let n := s.rd Reg.PWR_RESET_CNT
    let s := (s.wipe true keepWarm).secReset
    let s := (s.wf Reg.CAL_STATUS 23 20 res).wr Reg.PWR_RESET_CNT (n + 1)
    s.resetEnd kind false

/-- The compute die loses its power (R418, R442). -/
def State.computeOff (s : State) : State := ((s.wipe false keepOff).secReset).fltReset true

/-- SEC_UPD_STATUS of an update that a loss of power ended (R403). -/
def State.updLost (s : State) : Bool := s.rf Reg.SEC_UPD_STATUS 3 0 == 9

/-- COMPUTE_POWER_ON (R420, R440): the straps are sampled, and VHOLD_LOW is raised where it is owed (R366). -/
def State.computePowerOn (s : State) (strap : Nat) : State :=
  if s.pwr.move ≠ .powerUp 5 then s
  else
    let lost := s.updLost
    let s := (s.wipe false keepService).secReset
    let s := (s.when lost fun s => s.wf Reg.SEC_UPD_STATUS 3 0 9).wn Reg.HIF_BIFUR strap
    let s := s.resetEnd 1 true
    if s.svc.owedLow then ({ s with svc := { s.svc with owedLow := false } }).notice 485 else s

/-! ### Standby (R418, R442) -/

/-- P2 is entered: the panel page is enabled (R369), the Postcard shown (R368), and the pair follows its causes (R351). -/
def State.enterStandby (s : State) : State :=
  ({ s with pwr := { s.pwr with state := 2, move := .none } }).panelEnable.postcardAuto.pairUpdate.panelKick

/-- One PWR_EN is dropped. -/
def State.dropEnable (s : State) (k : Nat) : State :=
  let low (n : Nat) : Nat := if n.testBit k then n - 2 ^ k else n
  { s with pwr := { s.pwr with enables := low s.pwr.enables, good := low s.pwr.good } }

/-- The compute rails begin to go (R418 step 2): a calibration run ends, and the compute die's state is lost. The run flag stays in the store, for
the next power-up sets RESULT by it (R389; log 65). -/
def State.powerDown (s : State) : State :=
  let run := s.storeRd 0x209 1
  let s := ((s.runAbort 4).storeWr 0x209 run).computeOff
  (s.dropEnable 3).setMove (.powerDown 2)

/-- POWER_DOWN_STEP: the next PWR_EN is dropped; P2 follows the last. -/
def State.powerDownStep (s : State) : State :=
  match s.pwr.move with
  | .powerDown k =>
    let s := s.dropEnable k
    if k = 0 then s.enterStandby else s.setMove (.powerDown (k - 1))
  | _ => s

/-- SMBus command 0x04 (R373, R415, R416): 1 to P2, 2 to P1. -/
def State.smbPower (s : State) (v : Nat) : State :=
  let grave := s.svc.computeLost || s.graveLatched
  if s.pwr.move ≠ .none then s
  else if v = 1 ∧ (s.pwr.state = 1 ∨ (s.pwr.state = 0 ∧ grave)) then
    if s.svc.computeLost then s.powerDown else (s.setMove .toStandby).evt 1942
  else if v = 2 ∧ s.pwr.state = 2 then s.powerUp
  else s

/-- STBY_ACK (R418): doses and retirement tables are saved, and the rails go. -/
def State.stbyAck (s : State) : State :=
  if s.pwr.move ≠ .toStandby ∨ !s.mgtRuns then s else (s.doseSave.retireSave).powerDown

/-- STBY_TIMEOUT (R418). -/
def State.stbyTimeout (s : State) : State := if s.pwr.move ≠ .toStandby then s else (s.notice 502).powerDown

/-! ### The service die's power (R357, R358, R365, R421) -/

/-- The power-fail warning: a unit write under way completes, PWR_EN drops, the compute die is lost; a common in drive goes on, on VHOLD. -/
def State.powerFail (s : State) : State :=
  let s := match s.svc.storeOp with
    | some o => if o.write then s.storeWr o.unit o.data else s
    | none => s
  let s := match s.svc.run with
    | some r => s.storeWr 8 [BitVec.ofNat 8 (r.todo.headD 0)]
    | none => s
  let s := s.computeOff
  { s with
    pwr := { s.pwr with state := 3, move := .none, enables := 0, good := 0 }
    svc := { s.svc with powerFail := true, powered := false, storeOp := none, queued := none } }

/-- SERVICE_POWER_ON (R357, R420, R421): both dies start anew; the retained store, the fuses, the flashes and the panel's pixels stay; FG,
the GRAVE bits and FLT_SEQ do not. The straps SMB_ADDR_SEL and PWR_AUTO_ON are sampled. -/
def State.servicePowerOn (s : State) (addrSel autoOn : Bool) : State :=
  let s := s.computeOff
  let lost := s.updLost
  let old := s.svc
  let chans := s.dmc.chans
  let z := State.reset
  let s := { z with
    pending := s.pending, freeCtr := s.freeCtr, reply := s.reply, sent := s.sent, sec := s.sec, cal := s.cal
    dmc := ⟨chans, []⟩
    svc := { Svc.reset with store := old.store, storeBad := old.storeBad, pixels := old.pixels, waitVhold := true, pairFaulted := old.pairFaulted }
    pwr := ⟨3, .none, 0, 0, [], [], autoOn⟩ }
  let n := (leNat (s.storeRd 4 4) + 1) % 2 ^ 32
  let s := ((s.storeWr 0 (leBytes 4 0x54534356)).storeWr 4 (leBytes 4 n)).storeWr 0x100 (List.replicate 64 0)
  let s := ((s.storeWr 0x140 (leBytes 4 0)).setStoreFlag 1 false).setStoreFlag 2 false
  let s := (s.wn Reg.SVC_STATUS (n % 65536)).wf Reg.SVC_STATUS 22 16 (if addrSel then 0x4D else 0x4C)
  let s := s.wr Reg.SEC_DBG_STATUS (if s.sec.fuses.field then 0 else 2)
  let s := s.when lost fun s => s.wf Reg.SEC_UPD_STATUS 3 0 9
  (s.reloadDrive.fltReset true).pairUpdate

/-- P2 begins once the power-up rewrite, if any, is done; the strap may start the compute die (R421). -/
def State.serviceReady (s : State) : State :=
  let s := { s with pwr := { s.pwr with state := 2, move := .none } }
  let s := if s.pwr.autoOn then s.powerUp else s
  s.pairUpdate.panelKick

/-- VHOLD_READY (R365): VHOLD has reached 11.0 V, or 2 s have passed. -/
def State.vholdReady (s : State) (ok : Bool) : State :=
  if !s.svc.waitVhold then s
  else
    let s := ({ s with svc := { s.svc with waitVhold := false, owedLow := !ok } }).wb Reg.SVC_STATUS 31 ok
    if (s.storeByte 0x80).getLsbD 0 then s.startRun .restore (s.storeRd 0x60 32) (List.range 6) else s.serviceReady

/-- COMMON_DONE (R363, R365): after the power-up rewrite, all other work starts. -/
def State.commonEnd (s : State) : State :=
  let was := s.restoring
  let s := s.commonDone
  if was && !s.restoring && s.pwr.state == 3 && !s.svc.powerFail then s.serviceReady else s

/-! ### Meanings -/

/-- FUNCTION_LEVEL_RESET (R420). -/
def execFunctionLevelReset (port : Fin 4) (s : State) : Host.Outcome State Fault Refusal := done (s.flr port)

/-- LINK_RESET (R420). -/
def execLinkReset (port : Fin 4) (s : State) : Host.Outcome State Fault Refusal := done (s.linkReset port)

/-- PCIE_LINK_UP (R420). -/
def execPcieLinkUp (port : Fin 4) (width : Fin 5) (speed : Fin 6) (cfg : PcieCfg) (s : State) : Host.Outcome State Fault Refusal :=
  done (s.pcieUp port width speed cfg)

/-- SYS_RESET_PIN (R420). -/
def execSysResetPin (s : State) : Host.Outcome State Fault Refusal := done (s.warmReset 2)

/-- PWR_RESET_WARM (R420): a write of PWR_RESET with WARM by a party; after sealing, only a countersigned one applies (R31). -/
def execPwrResetWarm (p : Party) (s : State) : Host.Outcome State Fault Refusal := done (s.writeBy p Reg.PWR_RESET 1 fun _ s => s.warmReset 3)

/-- DM_WARM_RESET (R420, R432): only at level FULL. -/
def execDmWarmReset (s : State) : Host.Outcome State Fault Refusal := done (if s.dbgLevel = 2 then s.warmReset 4 else s)

/-- COMPUTE_POWER_ON (R420). -/
def execComputePowerOn (strap : Fin 4) (s : State) : Host.Outcome State Fault Refusal := done (s.computePowerOn strap)

/-- STBY_ACK (R418). -/
def execStbyAck (s : State) : Host.Outcome State Fault Refusal := done s.stbyAck

/-- STBY_TIMEOUT (R418). -/
def execStbyTimeout (s : State) : Host.Outcome State Fault Refusal := done s.stbyTimeout

/-- POWER_DOWN_STEP (R442). -/
def execPowerDownStep (s : State) : Host.Outcome State Fault Refusal := done s.powerDownStep

/-- SMB_STANDBY (R418). -/
def execSmbStandby (pec : Option Bool) (s : State) : Host.Outcome State Fault Refusal := done (if s.pecOk pec then (s.smbPower 1).evt 1895 else s)

/-- SMB_WAKE (R415). -/
def execSmbWake (pec : Option Bool) (s : State) : Host.Outcome State Fault Refusal := done (if s.pecOk pec then (s.smbPower 2).evt 1895 else s)

/-- POWER_FAIL_WARNING (R365, R442). -/
def execPowerFailWarning (s : State) : Host.Outcome State Fault Refusal := done s.powerFail

/-- SERVICE_POWER_ON (R365). -/
def execServicePowerOn (addrSel autoOn : Bool) (s : State) : Host.Outcome State Fault Refusal := done (s.servicePowerOn addrSel autoOn)

/-- VHOLD_READY (R365). -/
def execVholdReady (ok : Bool) (s : State) : Host.Outcome State Fault Refusal := done (s.vholdReady ok)

/-- COMMON_DONE (R363). -/
def execCommonDone (s : State) : Host.Outcome State Fault Refusal := done s.commonEnd

end Sys2Proof.Machine
end

