-- ==== Sys2Proof/Machine/Regs.lean ====
section
/-! DEFINITION. Register reads and writes of every page, countersign, BAR2, and the SMBus register commands
(spec/02_register_pages_and_hosts.md R4 to R44). -/
namespace Sys2Proof.Machine

/-! ### What a register reads as -/

/-- EVT_RAW of a fence page (R121); every other event condition is a moment and reads 0. -/
def State.evtRaw (s : State) (pg : Nat) : Word :=
  if 0x201000 ≤ pg ∧ pg < 0x209000 then
    let k := (pg - 0x201000) / 0x1000
    wd ((List.range 32).foldl (fun (m : Nat) i => if s.fenceRaw (32 * k + i) then m + 2 ^ i else m) 0)
  else 0

/-- EVT_SUM_w (R44): the EVT_PEND state of sources 32w to 32w + 31. -/
def State.evtSum (s : State) (w : Nat) : Word :=
  wd ((List.range 32).foldl (fun (m : Nat) b =>
    match srcLoc evtRanges (32 * w + b) with
    | some (pg, i) => if s.rb (Reg.EVT_PEND pg) i then m + 2 ^ b else m
    | none => m) 0)

/-- GEO registers that show the active bank and the readings (R63, R64). -/
def State.geoView (s : State) (a : Nat) : Option Word :=
  if a = Reg.GEO_TREF then some (wd (s.bank .geo (s.tabActive .geo)).trefWord)
  else if 0x301000 ≤ a ∧ a < 0x307000 then
    let t := (a - 0x301000) / 0x1000
    let off := a % 0x1000
    if off = 0x48 then some (s.geoReadingWord t)
    else if 0x60 ≤ off ∧ off < 0x88 then some (s.geoModelWord t ((off - 0x60) / 4))
    else none
  else none

/-- PLK_GRP_BC_LO and HI (R178). -/
def State.plkView (s : State) (a : Nat) : Option Word :=
  match (List.range 6).find? (fun g => a == Reg.PLK_GRP_BC_LO g || a == Reg.PLK_GRP_BC_HI g) with
  | some g => some (wd (if a = Reg.PLK_GRP_BC_LO g then s.bcOldest g else s.bcOldest g / 2 ^ 32))
  | none => none

/-- DMC_CH_RET_ENTRY (R276). -/
def State.dmcView (s : State) (a : Nat) : Option Word :=
  match (List.range 6).find? (fun c => a == Reg.DMC_CH_RET_ENTRY c) with
  | some c => some (s.retEntry c)
  | none => none

/-- What a register reads as where that is computed, by block. -/
def State.regView (s : State) (a : Nat) : Option Word :=
  let b := a / 0x100000
  if hasHeader b (a / 0x1000 % 256) ∧ a % 0x1000 < 0x40 then (if a % 0x1000 = 0x14 then some (s.evtRaw (a / 0x1000 * 0x1000)) else none)
  else match b with
  | 1 => if a / 0x1000 = 0x100 then some (s.evtSum ((a % 0x1000 - 0x40) / 4)) else none
  | 3 => s.geoView a
  | 7 => s.plkView a
  | 8 => s.ingView a
  | 9 => s.ingView a
  | 12 => s.dmcView a
  | 13 => s.netView a
  | 14 => s.timView a
  | 15 => s.clkView a
  | 16 => s.fltView a
  | 17 => s.svcView a
  | 19 => s.secView a
  | 20 => s.pwrView a
  | _ => none

/-- The word at a BAR0 offset as party `p` reads it (R7, R8, R23, R27). -/
def State.regValue (s : State) (p : Party) (a : Nat) : Word :=
  let pg := a / 0x1000
  if !s.present a then 0
  else if 16 ≤ pg ∧ pg ≤ 23 ∧ partyPort p ≠ some ((pg - 16) % 4) then 0
  else match regRow a with
  | none => 0
  | some r => if r.acc = .wo then 0 else (s.regView a).getD (s.rd a)

/-- A register read by a party: pairs latch (R5, R130, R291), RC registers clear (R8), SYN_SLACK_MIN starts anew (R108), PLK_GRP_BC_HI takes its
message (R178). -/
def State.readReg (s : State) (p : Party) (a : Nat) : State × Word :=
  if !s.present a then (s, 0)
  else match regRow a with
  | none => (s, 0)
  | some r =>
    let pop (s : State) : State := match (List.range 6).find? (fun g => a == Reg.PLK_GRP_BC_HI g) with | some g => s.bcPop g | none => s
    match s.latched p a with
    | some w => (pop (s.setLatched p a none), w)
    | none =>
      let v := s.regValue p a
      let s := r.lat.foldl (fun (s : State) o => s.setLatched p (a + o) (some (s.regValue p (a + o)))) s
      let s := if a = Reg.SYN_SLACK_MIN then { s with syn := { s.syn with slackRead := true } } else s
      (pop (if r.acc = .rc then s.wr a 0 else s), v)

/-- A read by a party as a command: a port that is fenced or does not exist, and any party while the compute die is off, gets no answer. -/
def State.readCmd (s : State) (p : Party) (a : Nat) : State :=
  if !s.reaches p then s.answer .noAnswer
  else
    let r := s.readReg p a
    r.1.answer (.word r.2)

/-! ### What a write does -/

/-- EVT_FORCE (R41): one rising edge of each condition written 1. -/
def State.evtForce (s : State) (pg : Nat) (v : Word) : State :=
  let r := pageSrc evtRanges (pg / 0x100000) (pg / 0x1000 % 256)
  s.each r.2 fun i s => s.when (bit v i) fun s => s.evt (r.1 + i)

/-- EVT_EN written: RESTORED is raised once its routing is enabled (R365). -/
def State.evtEnabled (s : State) (pg : Nat) : State :=
  if s.svc.owedRestored ∧ pg = Reg.page 17 0 ∧ s.rb (Reg.EVT_EN pg) 2 then
    ({ s with svc := { s.svc with owedRestored := false } }).evt 1890
  else s

/-- A countersigned write of PH_RIGHTS_j (R40, R272): SUSPENDED clears unless a channel recorded for the pigeonhole is still out. -/
def State.phAdmit (s : State) (j : Nat) : State :=
  let m := Sparse.get (fun _ => 0) s.hif.phChannels j
  if (List.range 6).any fun c => m.testBit c && !s.chInService c then s
  else { s.wr (Reg.PH_STATUS j) 0 with hif := { s.hif with phChannels := Sparse.set (fun _ => 0) s.hif.phChannels j 0 } }

/-- What writing a register of HIF or EVT beyond its page header does; `cs` says that the write is countersigned. -/
def State.hifWritten (s : State) (p : Party) (a : Nat) (v : Word) (cs : Bool) : State :=
  let pg := a / 0x1000
  let off := a % 0x1000
  if 16 ≤ pg ∧ pg ≤ 19 then (if off % 16 = 12 then s.sendPending (pg - 16) (off / 16) else s)
  else if 6 ≤ pg ∧ pg ≤ 11 ∧ 0x140 ≤ off ∧ off < 0x180 then
    { s with hif := { s.hif with csSign := Sparse.set (fun _ => none) s.hif.csSign (((pg - 6) * 8 + partyCode p) * 16 + (off - 0x140) / 4) (some v) } }
  else if pg = 5 ∧ cs ∧ off % 16 = 8 then s.phAdmit ((off - 0x48) / 16)
  else s

/-- What writing a header register does beyond storing it; `old` is what it held. -/
def State.headerWritten (s : State) (a : Nat) (v old : Word) : State :=
  let pg := a / 0x1000 * 0x1000
  match a % 0x1000 with
  | 0xC => s.ctrlWritten pg old
  | 0x18 => s.evtEnabled pg
  | 0x20 => s.evtForce pg v
  | _ => s

/-- What writing a register does beyond storing it, by block. -/
def State.regEffect (s : State) (p : Party) (a : Nat) (v old : Word) (cs : Bool) : State :=
  let b := a / 0x100000
  if hasHeader b (a / 0x1000 % 256) ∧ a % 0x1000 < 0x40 then s.headerWritten a v old
  else match b with
  | 0 => s.hifWritten p a v cs
  | 2 => s.cmtWritten a v
  | 3 => s.geoWritten p a v
  | 4 => s.lyrWritten a
  | 6 => s.tonWritten p a v
  | 7 => s.plkWritten a v old
  | 8 => s.ingWritten a
  | 10 => s.cmpWritten p a v
  | 11 => s.blkWritten a old
  | 12 => s.dmcWritten a v
  | 13 => s.netWritten a
  | 14 => s.timWritten a v
  | 15 => (s.clkWritten a v).coreLost s.coreActive
  | 16 => s.fltWritten p a v
  | 17 => s.svcWritten p a v
  | 18 => if a = Reg.CAL_CMD then s.calCmd v else s
  | 19 => s.secWritten p a v
  | 20 => if a = Reg.PWR_CMD then s.pwrCmd v.toNat else s
  | 21 =>
    if a = Reg.MGT_PAIR_CMD then s.pairCmd v
    else if Reg.MGT_RING 0 ≤ a ∧ a ≤ Reg.MGT_RING 4 then s.ring p ((a - Reg.MGT_RING 0) / 4) v
    else s
  | _ => s

/-- An applied write acts: the registers whose writing is not a plain store, and the rest. PWR_RESET acts last of all (R420). -/
def State.applied (s : State) (p : Party) (a : Nat) (r : RegRow) (v : Word) (cs : Bool) : State :=
  if Reg.FLT_PEND 0 ≤ a ∧ a ≤ Reg.FLT_PEND 15 then s.faultClear ((a - Reg.FLT_PEND 0) / 4) v
  else if a = Reg.FLT_READY then s.readySet v
  else if gateReg 0 ≤ a ∧ a ≤ gateReg 2 then s.gateWrite ((a - gateReg 0) / 4) v
  else if a = Reg.PWR_RESET then s
  else
    let old := s.rd a
    (s.store a r v).regEffect p a v old cs

/-! ### Countersign (R31 to R36) -/

/-- An RWK register as a proposal may name it (R33): PAGE_OWNER counts, fixed ones included. -/
def State.csTarget (s : State) (a : Nat) : Bool :=
  a % 4 == 0 && s.present a && (match regRow a with | some r => r.acc == .rwk | none => false)

def State.csEntries (s : State) (k : Nat) : List (Nat × Word) :=
  (List.range (s.rf (Reg.CS_COUNT k) 3 0)).map fun i => (s.rn (Reg.CS_OFFSET k i), s.rd (Reg.CS_VALUE k i))

/-- The digest of R33, as 16 words. -/
def State.csDigest (s : State) (k : Nat) : List Word :=
  let m := [BitVec.ofNat 8 k, BitVec.ofNat 8 (s.rn (Reg.CS_SIGNERS k)), BitVec.ofNat 8 (s.rf (Reg.CS_COUNT k) 3 0), 0] ++ leBytes 4 (s.rn (Reg.CS_NONCE k)) ++
    (s.csEntries k).flatMap fun e => leBytes 4 e.1 ++ leBytes 4 e.2.toNat
  let d := sha512 m
  (List.range 16).map fun w => wd (leWordAt d (4 * w))

/-- PROPOSE (R33). -/
def State.csPropose (s : State) (k : Nat) : State :=
  let n := s.rf (Reg.CS_COUNT k) 3 0
  let ok := decide (1 ≤ n ∧ n ≤ 8) && (s.csEntries k).all (fun e => s.csTarget e.1) && !s.rb (Reg.CS_SIGNERS k) k
  if !ok then s.csClose k 7
  else
    let s := s.cntWrap (Reg.CS_NONCE k)
    let d := s.csDigest k
    let s := s.each 16 fun w s => s.wr (Reg.CS_DIGEST k w) (nth 0 d w)
    (s.wn (Reg.CS_REMAIN k) (s.rf Reg.HIF_CS_WINDOW 15 0)).toCs k 1

/-- Authority over one target at CONFIRM (R34), of a proposer and a confirmer. -/
def State.csAuthority (s : State) (x y a : Nat) : Bool :=
  let host (q j : Nat) : Bool := decide (q < 4) && s.rb (Reg.PH_RIGHTS j) (8 + q)
  if (x = 4 ∧ y = 5) ∨ (x = 5 ∧ y = 4) then true
  else if a / 0x1000 = 5 ∧ 0x40 ≤ a % 0x1000 then
    let j := (a % 0x1000 - 0x40) / 16
    !s.rb (Reg.PH_RIGHTS j) 31 || host x j || host y j
  else if a = Reg.HIF_CS_WINDOW then true
  else
    let o := Reg.PAGE_OWNER (a / 0x1000 * 0x1000)
    s.rb o x || s.rb o y

/-- The entries of a proposal applied in order, each counted in its page's SEQ; a fixed PAGE_OWNER ignores them. -/
def State.csApply (s : State) (p : Party) (es : List (Nat × Word)) : State :=
  es.foldl (fun (s : State) (e : Nat × Word) =>
    match regRow e.1 with
    | some r => if r.acc = .rwk ∧ !ownerFixed e.1 then (s.seqInc e.1).applied p e.1 r e.2 true else s
    | none => s) s

/-- The staged words of party `q` on slot `k` discarded. -/
def State.csDiscard (s : State) (k q : Nat) : State :=
  { s with hif := { s.hif with csSign := Sparse.dropKeys (fun i => i / 16 == k * 8 + q) s.hif.csSign } }

/-- A proposal granted at CONFIRM: its slot, which is its proposer's code, and its entries. -/
abbrev Grant := Nat × List (Nat × Word)

/-- CONFIRM by party `p` judged on the state as it stands (R34): a proposal that is granted closes its slot APPLIED, and has still to apply. -/
def State.csConfirm (s : State) (p : Party) (k : Nat) : State × List Grant :=
  let q := partyCode p
  let a := Reg.CS_CMD k
  let staged (w : Nat) : Option Word := Sparse.get (fun _ => none) s.hif.csSign ((k * 8 + q) * 16 + w)
  let signers := s.rf (Reg.CS_SIGNERS k) 5 0
  if s.csState k ≠ 1 ∨ !(signers = 0 ∨ signers.testBit q) then ((s.csDiscard k q).ownViol p a, [])
  else
    let same := (List.range 16).all fun w => staged w == some (s.rd (Reg.CS_DIGEST k w))
    let es := s.csEntries k
    let s := (s.seqInc a).wf (Reg.CS_STATUS k) 10 8 q
    if !same then ((s.csClose k 3).notice 2, [])
    else if !es.all (fun e => s.csAuthority k q e.1) then (s.csClose k 8, [])
    else (s.csClose k 2, [(k, es)])

/-- The order of the parties whose writes arrive in one fabric cycle (R29). -/
def cycleOrder : List Party := [.h3, .h2, .h1, .h0, .bmc, .mgt, .dbg]

/-- The proposals granted in one fabric cycle apply in the order of R29 by proposing party (R36); a warm reset among their entries follows. -/
def State.csGrant (s : State) (gs : List Grant) : State :=
  let s := s.eachOf (cycleOrder.flatMap fun p => gs.filter fun g => g.1 = partyCode p) fun g s => s.csApply (partyOf g.1) g.2
  if gs.any fun g => g.2.any fun e => e.1 == Reg.PWR_RESET && bit e.2 0 then s.warmReset 3 else s

/-- A write of CS_CMD (R32 to R35): 1 PROPOSE and 2 WITHDRAW by the slot's party, 3 CONFIRM by another countersign party. The spec gives the
command no width: bits [3:0] are read and the rest ignored (log 78). -/
def State.csCmd (s : State) (p : Party) (k v : Nat) : State × List Grant :=
  let a := Reg.CS_CMD k
  let own := partyCode p == k
  if !s.reaches p then (s, [])
  else if v % 16 = 3 ∧ !own ∧ p ≠ .dbg then s.csConfirm p k
  else if !own ∨ v % 16 = 3 then (s.ownViol p a, [])
  else if v % 16 = 1 then (if s.csState k = 1 then s.ownViol p a else (s.seqInc a).csPropose k, [])
  else if v % 16 = 2 then (if s.csState k = 1 then (s.seqInc a).csClose k 6 else s.ownViol p a, [])
  else (s.seqInc a, [])

/-! ### A write by a party -/

/-- An allowed write of register `a` by a party: the low word of a pair is held, its high word applies both (R5). -/
def State.putWord (s : State) (p : Party) (a : Nat) (r : RegRow) (v : Word) : State :=
  if isPairLow r then s.setHeld p a (some v)
  else if isPairHigh a then
    let lo := a - 4
    let w := (s.held p lo).getD (s.rd lo)
    let s := match regRow lo with
      | some rl => (s.setHeld p lo none).applied p lo rl w false
      | none => s
    s.applied p a r v false
  else if a = Reg.PWR_RESET then (if bit v 0 then s.warmReset 3 else s)
  else s.applied p a r v false

/-- A register written by a party (R5, R27 to R32), with the proposals that the write grants. -/
def State.takeWrite (s : State) (p : Party) (a : Nat) (v : Word) : State × List Grant :=
  if 6 ≤ a / 0x1000 ∧ a / 0x1000 ≤ 11 ∧ a % 0x1000 = 0x40 then s.csCmd p (a / 0x1000 - 6) v.toNat
  else (s.writeBy p a v fun r s => s.putWord p a r v, [])

/-- A register written by a party, alone in its fabric cycle. -/
def State.writeWord (s : State) (p : Party) (a : Nat) (v : Word) : State :=
  let r := s.takeWrite p a v
  r.1.csGrant r.2

/-- The writes of one fabric cycle, by party, offset and value: one after the other in the order of R29, those of one party as listed; then
the proposals that they grant (R36; log 79). -/
def State.writeCycle (s : State) (ws : List (Party × Nat × Word)) : State :=
  let ordered := cycleOrder.flatMap fun p => ws.filter fun w => w.1 = p
  let r := ordered.foldl (fun (acc : State × List Grant) w =>
    let x := acc.1.takeWrite w.1 w.2.1 w.2.2
    (x.1, acc.2 ++ x.2)) (s, [])
  r.1.csGrant r.2

/-! ### Memory through BAR2 (R21, R37 to R39) -/

/-- A BAR2 read. -/
def State.bar2Read (s : State) (port addr len : Nat) : State :=
  if !s.reaches (partyOf port) then s.answer .noAnswer
  else if !s.phAllows port addr false then (s.phViol port addr false).answer .unsupportedRequest
  else
    let r := s.readMem none addr len
    r.1.answer (if r.2.uncorr then .completerAbort else .bytes r.2.data)

/-- A BAR2 write. -/
def State.bar2Write (s : State) (port addr : Nat) (data : List Byte) : State :=
  if !s.reaches (partyOf port) then s
  else if !s.phAllows port addr true then s.phViol port addr true
  else (s.writeMem none addr data).1

/-! ### Meanings -/

/-- REGISTER_WRITE (R28, R29): register `reg` is the word at offset 4 × `reg`. -/
def execRegisterWrite (p : Party) (reg : Fin 16777216) (v : Word) (others : List CycleWrite) (s : State) : Host.Outcome State Fault Refusal :=
  done (s.writeCycle ((p, 4 * reg.val, v) :: others.map fun w => (w.party, 4 * w.reg.val, w.value)))

/-- PAIR_LOW_READ (R5). -/
def execPairLowRead (p : Party) (reg : Fin 16777216) (s : State) : Host.Outcome State Fault Refusal := done (s.readCmd p (4 * reg))

/-- PAIR_HIGH_READ (R5). -/
def execPairHighRead (p : Party) (reg : Fin 16777216) (s : State) : Host.Outcome State Fault Refusal := done (s.readCmd p (4 * reg))

/-- PAIR_LOW_WRITE (R5). -/
def execPairLowWrite (p : Party) (reg : Fin 16777216) (v : Word) (s : State) : Host.Outcome State Fault Refusal := done (s.writeWord p (4 * reg) v)

/-- PAIR_HIGH_WRITE (R5). -/
def execPairHighWrite (p : Party) (reg : Fin 16777216) (v : Word) (s : State) : Host.Outcome State Fault Refusal := done (s.writeWord p (4 * reg) v)

/-- RC_READ (R8). -/
def execRcRead (p : Party) (reg : Fin 16777216) (s : State) : Host.Outcome State Fault Refusal := done (s.readCmd p (4 * reg))

/-- EVT_FORCE (R41). -/
def execEvtForce (p : Party) (pg : Fin 5632) (v : Word) (s : State) : Host.Outcome State Fault Refusal :=
  done (s.writeWord p (Reg.EVT_FORCE (pg.val * 0x1000)) v)

/-- EVT_PEND_CLEAR (R41). -/
def execEvtPendClear (p : Party) (pg : Fin 5632) (v : Word) (s : State) : Host.Outcome State Fault Refusal :=
  done (s.writeWord p (Reg.EVT_PEND (pg.val * 0x1000)) v)

/-- MSIX_UNMASK (R43). -/
def execMsixUnmask (port : Fin 4) (vec : Fin 256) (s : State) : Host.Outcome State Fault Refusal :=
  done (s.writeWord (partyOf port) (Reg.MSIX port vec 3) 0)

/-- HIF_SEAL (R31). -/
def execHifSeal (p : Party) (v : Word) (s : State) : Host.Outcome State Fault Refusal := done (s.writeWord p Reg.HIF_SEAL v)

/-- CS_PROPOSE (R33). -/
def execCsPropose (p : Party) (slot : Fin 6) (s : State) : Host.Outcome State Fault Refusal := done (s.csCmd p slot 1).1

/-- CS_WITHDRAW (R35). -/
def execCsWithdraw (p : Party) (slot : Fin 6) (s : State) : Host.Outcome State Fault Refusal := done (s.csCmd p slot 2).1

/-- CS_CONFIRM (R34, R36). -/
def execCsConfirm (p : Party) (slot : Fin 6) (others : List (Party × Fin 6)) (s : State) : Host.Outcome State Fault Refusal :=
  done (s.writeCycle (((p, slot) :: others).map fun w => (w.1, Reg.CS_CMD w.2.val, 3)))

/-- CS_TIMEOUT (R35). -/
def execCsTimeout (slot : Fin 6) (s : State) : Host.Outcome State Fault Refusal := done (if s.csState slot = 1 then s.csClose slot 4 else s)

/-- BAR2_READ (R39). -/
def execBar2Read (port : Fin 4) (addr : BitVec 40) (len : Fin 4097) (s : State) : Host.Outcome State Fault Refusal :=
  done (s.bar2Read port addr.toNat len)

/-- BAR2_WRITE (R39). -/
def execBar2Write (port : Fin 4) (addr : BitVec 40) (data : List Byte) (s : State) : Host.Outcome State Fault Refusal :=
  done (s.bar2Write port addr.toNat data)

/-- BC_QUEUE_READ (R178). -/
def execBcQueueRead (p : Party) (g : Fin 6) (s : State) : Host.Outcome State Fault Refusal := done (s.readCmd p (Reg.PLK_GRP_BC_HI g))

/-- SMB_REG_READ (R373). -/
def execSmbRegRead (a : Word) (s : State) : Host.Outcome State Fault Refusal :=
  done (if !s.smbUp then s.answer .noAnswer else if !s.computeOn then s.answer (.word 0xFFFFFFFF) else s.readCmd .bmc a.toNat)

/-- SMB_REG_WRITE (R373). -/
def execSmbRegWrite (a v : Word) (pec : Option Bool) (s : State) : Host.Outcome State Fault Refusal :=
  done (if s.pecOk pec then (s.writeWord .bmc a.toNat v).evt 1895 else s)

end Sys2Proof.Machine
end

