-- ==== Sys2Proof/Machine/Boot.lean ====
section
/-! DEFINITION. The boot chain (spec/18_boot_identity_attestation.md R396, R399 to R402): fuses, directory, firmware and configuration
candidates, the configuration applied, and what the firmware does before FLT_READY. -/
namespace Sys2Proof.Machine

/-- What Goyth programs goes into fuses that are blank (R396). -/
def Fuses.program (fz : Fuses) (f : Factory) : Fuses :=
  if fz.serial == 0 && fz.root.all (· == 0) && fz.seed == 0 then
    { fz with serial := f.serial.toNat, root := [f.root0.toNat, f.root1.toNat, f.root2.toNat, f.root3.toNat], seed := f.seed }
  else fz

/-- A flash whose contents the command names. -/
def State.putFlash (s : State) (k : Nat) : Option FlashImage → State
  | none => s
  | some f => { s with sec := { s.sec with flash := upd s.sec.flash k f } }

/-- The candidates in order (R402): slot and flash. -/
def bootOrder (act : Nat) : List (Nat × Nat) := [(act, 0), (act, 1), (1 - act, 0), (1 - act, 1)]

/-- An entry of a configuration names a register that it may write (R401). -/
def configTarget (a : Nat) : Bool :=
  a % 4 == 0 && decide (a < 0x4000000) &&
    ((hasHeader (a / 0x100000) (a / 0x1000 % 256) && [0x8, 0xC, 0x28, 0x2C].contains (a % 0x1000)) ||
      (match regRow a with | some r => r.acc == .rwk | none => false))

/-- The entries of a configuration payload (R401). -/
def configEntries (payload : List Byte) : List (Nat × Word) :=
  (List.range (payload.length / 8)).map fun i => (leAt payload (8 * i) 4, wd (leAt payload (8 * i + 4) 4))

/-- The entries of the configuration image in a slot of a flash. -/
def imageEntries (img : List Byte) : List (Nat × Word) := configEntries ((img.drop 512).take (payloadLen img))

/-- The image of a candidate. -/
def State.candidate (s : State) (config : Bool) (c : Nat × Nat) : List Byte := flashImage (s.flash c.2) config c.1

/-- A firmware candidate verifies. -/
def State.fwOk (s : State) (c : Nat × Nat) : Bool := imageStatus s.sec.fuses 1 (s.candidate false c) == 0

/-- A configuration candidate verifies, and names only what it may write. -/
def State.cfgOk (s : State) (c : Nat × Nat) : Bool :=
  imageStatus s.sec.fuses 2 (s.candidate true c) == 0 && (imageEntries (s.candidate true c)).all fun e => configTarget e.1

/-- The ROM, or the firmware in FIELD, finds nothing that verifies (R402). -/
def State.bootFail (s : State) : State := (({ s with sec := { s.sec with halted := true } }).grave 493).pairUpdate.panelKick

/-- One entry applied as party MGT, whatever PAGE_OWNER holds (R401); an absent page, and a fixed PAGE_OWNER, ignore it. -/
def State.configWrite (s : State) (e : Nat × Word) : State :=
  match regRow e.1 with
  | some r => if s.present e.1 && !ownerFixed e.1 then (s.seqInc e.1).putWord .mgt e.1 r e.2 else s
  | none => s

/-- An entry that asks for a warm reset (R420). -/
def configResets (e : Nat × Word) : Bool := e.1 == Reg.PWR_RESET && bit e.2 0

/-- The configuration in force from a candidate. -/
def State.configUse (s : State) (c : Nat × Nat) : State :=
  let b := runningOf c.1 c.2 (s.candidate true c)
  let s := { s with sec := { s.sec with cfg := some b } }
  (s.wf Reg.SEC_BOOT_STATUS 4 4 c.1).wf Reg.SEC_BOOT_STATUS 5 5 c.2

/-- Step 5, from SEALED on: the equalisation table, training with KEEP, and the calibration record (R402). -/
def State.bootFinish (s : State) : State :=
  let s := s.wb Reg.HIF_SEAL 0 true
  let s := s.eqApply (regionRd (s.flash 0).eq 448)
  (s.each 6 fun c s => s.trainCmd c true).calBoot

/-- Steps 4 and 5, by the firmware (R402). A configuration that asks for a warm reset is applied up to there, and the reset follows. -/
def State.bootConfig (s : State) (act : Nat) : State :=
  match (bootOrder act).find? fun c => s.cfgOk c with
  | none => if s.sec.fuses.field then s.bootFail else s.bootFinish
  | some c =>
    let es := imageEntries (s.candidate true c)
    let s := (s.configUse c).eachOf (es.takeWhile fun e => !configResets e) fun e s => s.configWrite e
    if es.any configResets then s.warmReset 3 else s.bootFinish

/-- The firmware of a candidate runs on the active pair (R402): `first` says that it is the first in the order. -/
def State.bootRun (s : State) (c : Nat × Nat) (first : Bool) : State :=
  let b := runningOf c.1 c.2 (s.candidate false c)
  let s := { s with sec := { s.sec with fw := some b } }
  let s := s.setMgtState s.mgtActive stRun
  let s := (s.wn Reg.SEC_FW_VERSION b.version).wn Reg.SEC_FW_SVN b.svn
  let s := s.wn Reg.SEC_BOOT_STATUS (c.1 + 2 * c.2 + 256 * b2n (!first) + 65536 * b.root)
  if first then s else s.notice 492

/-- BOOT_ROM (R402): once after each reset of the compute die, on a management pair that is not fenced. -/
def State.bootRom (s : State) (factory : Option Factory) (f0 f1 : Option FlashImage) : State :=
  if !s.computeOn || s.sec.fw.isSome || s.sec.halted || s.mgtLost then s
  else
    let s := match factory with
      | some f => { s with sec := { s.sec with fuses := s.sec.fuses.program f } }
      | none => s
    let s := (s.putFlash 0 f0).putFlash 1 f1
    match s.directory with
    | none => s.bootFail
    | some (_, fw, cfg) =>
      match (bootOrder fw).find? fun c => s.fwOk c with
      | none => s.bootFail
      | some c => (s.bootRun c (c == (fw, 0))).bootConfig cfg

/-- BOOT_ROM (R402). -/
def execBootRom (factory : Option Factory) (f0 f1 : Option FlashImage) (s : State) : Host.Outcome State Fault Refusal := done (s.bootRom factory f0 f1)

end Sys2Proof.Machine
end

