-- ==== Sys2Proof/Machine/Dbg.lean ====
section
/-! DEFINITION. The debug port (spec/19_power_reset_debug.md R426 to R429, R432): the test access port, the debug module, and the halts of
the management cores; and the scrubber of the on-chip arrays (spec/01_frame_to_light.md R13). -/
namespace Sys2Proof.Machine

/-! ### The test access port (R426) -/

/-- Instruction codes. -/
abbrev irExtest : Nat := 0
abbrev irIdcode : Nat := 1
abbrev irSample : Nat := 2
abbrev irDbgAccess : Nat := 0x20
abbrev irBypass : Nat := 0xFF

/-- The instruction that code `c` selects: every other code, and one that the level or the power state does not allow, acts as BYPASS. -/
def State.tapCode (s : State) (c : Nat) : Nat :=
  if c = irIdcode then irIdcode
  else if !s.computeOn then irBypass
  else if c = irExtest then (if s.dbgLevel = 2 then irExtest else irBypass)
  else if c = irSample ∨ c = irDbgAccess then c
  else irBypass

/-- An instruction shifted in: only EXTEST drives the boundary. -/
def State.tapSelect (s : State) (c : Nat) : State :=
  let k := s.tapCode c
  { s with dbg := { s.dbg with ir := k, drive := k == irExtest } }

/-- Bits as bytes, the first bit lowest. -/
def bitBytes (l : List Bool) : List Byte :=
  (List.range ((l.length + 7) / 8)).map fun i =>
    BitVec.ofNat 8 (((List.range 8).map fun j => if nth false l (8 * i + j) then 2 ^ j else 0).foldl (· + ·) 0)

/-- The service die keeps PWR_IDCODE's fuse value while the compute die is off (R426). -/
def State.tapIdcode (s : State) : State := (s.tapSelect irIdcode).answer (.word (s.rd Reg.PWR_IDCODE))

/-- SAMPLE/PRELOAD: the boundary register gives the pins' levels and takes what is shifted in. -/
def State.tapSample (s : State) (capture preload : List Bool) : State :=
  let s := s.tapSelect irSample
  if s.dbg.ir = irSample then { s.answer (.bytes (bitBytes capture)) with dbg := { s.dbg with boundary := preload } } else s

/-! ### Halts (R429) -/

/-- A debug-module register, in the register file beyond BAR0. -/
abbrev dmReg (a : Nat) : Nat := 0x5000000 + a

/-- Core `c`'s block (R432). -/
abbrev dmCore (c off : Nat) : Nat := dmReg (0x100 + 0x100 * c + off)

/-- Causes of DM_CORE_STATUS. -/
abbrev hcHalt : Nat := 1
abbrev hcStep : Nat := 2
abbrev hcBreak : Nat := 3
abbrev hcWatch : Nat := 4

/-- The pair of core `c` is halted. -/
def State.pairHalted (s : State) (c : Nat) : Bool := s.rb Reg.PWR_DBG (c / 2 * 2)

/-- Both cores of a pair, by any one of them. -/
def pairCores (c : Nat) : List Nat := [c / 2 * 2, c / 2 * 2 + 1]

/-- What is known of the core registers of a pair is forgotten: its cores have run. -/
def State.coreForget (s : State) (c : Nat) : State := { s with dbg := { s.dbg with regs := s.dbg.regs.filter fun e => e.1 / 256 != c / 2 } }

/-- The pair of core `c` halts for a cause; its program counter is the one given, or free. -/
def State.coreHalt (s : State) (c cause index : Nat) (pc : Option Word) : State :=
  let r := match pc with | some w => (w, s) | none => s.free 32
  let s := r.2.coreForget c
  let s := s.eachOf (pairCores c) fun k s =>
    ((s.wn (dmCore k 0x04) (2 ^ 31 + index * 2 ^ 8 + cause)).wr (dmCore k 0x08) r.1).wb Reg.PWR_DBG k true
  s.evt 1940

/-- The pair of core `c` runs again. -/
def State.coreRun (s : State) (c : Nat) : State :=
  (s.coreForget c).eachOf (pairCores c) fun k s => (s.wr (dmCore k 0x04) 0).wb Reg.PWR_DBG k false

/-- The cores answer the debug module: at level FULL, with the compute die on, and the pair not fenced (R422, R427). -/
def State.coreReach (s : State) (c : Nat) : Bool := s.computeOn && s.dbgLevel == 2 && s.mgtState (c / 2) != stFenced

/-- DM_CORE_CMD: 1 HALT, 2 RESUME, 3 STEP. -/
def State.coreCmd (s : State) (c v : Nat) : State :=
  if !s.coreReach c then s
  else match v % 4 with
  | 1 => if s.pairHalted c then s else s.coreHalt c hcHalt 0 none
  | 2 => if s.pairHalted c then s.coreRun c else s
  | 3 => if s.pairHalted c then s.coreHalt c hcStep 0 none else s
  | _ => s

/-- Breakpoint `i` of core `c` is reached. -/
def State.breakHit (s : State) (c i : Nat) : State :=
  let b := s.rd (dmCore c (0x20 + 4 * i))
  if s.coreReach c && !s.pairHalted c && bit b 0 then s.coreHalt c hcBreak i (some (b &&& 0xFFFFFFFC)) else s

/-- An access of address `a` matches watchpoint `j` of core `c`. -/
def State.watchMatch (s : State) (c j : Nat) (a : Word) (write : Bool) : Bool :=
  let k := s.rd (dmCore c (0x44 + 8 * j))
  let m := fld k 12 8
  bit k 0 && bit k (if write then 2 else 1) && a.toNat / 2 ^ m == s.rn (dmCore c (0x40 + 8 * j)) / 2 ^ m

def State.watchHit (s : State) (c j : Nat) (a : Word) (write : Bool) : State :=
  if s.coreReach c && !s.pairHalted c && s.watchMatch c j a write then s.coreHalt c hcWatch j none else s

/-! ### Debug-module registers (R427, R432) -/

abbrev dmCtrl : Nat := 0x000
abbrev dmSysLo : Nat := 0x010
abbrev dmSysHi : Nat := 0x014
abbrev dmSysData : Nat := 0x018
abbrev dmSysStatus : Nat := 0x01C

/-- Statuses of an operation and of DM_SYS. -/
abbrev dsOk : Nat := 0
abbrev dsBusy : Nat := 1
abbrev dsDenied : Nat := 2
abbrev dsError : Nat := 3

/-- DM_SYS names a register of SEC page 1. -/
def State.sysSec (s : State) : Bool := s.rb (dmReg dmSysHi) 31 && s.rf (dmReg dmSysHi) 7 0 == 0 && s.rn (dmReg dmSysLo) / 0x1000 == 0x1301

/-- A debug-module address of the system access. -/
def dmIsSys (a : Nat) : Bool := a == dmSysLo || a == dmSysHi || a == dmSysData || a == dmSysStatus

/-- Whether the level lets an operation through (R427): LOCKED reaches SEC page 1 through DM_SYS only; OBSERVE reads everything beside. -/
def State.dmAllowed (s : State) (a : Nat) (write : Bool) : Bool :=
  if s.dbgLevel = 2 then true
  else
    let sec := dmIsSys a && (a != dmSysData || s.sysSec)
    sec || (s.dbgLevel == 1 && !write)

/-- The core and the offset in its block that an address names. -/
def dmCoreOf (a : Nat) : Option (Nat × Nat) := if 0x100 ≤ a ∧ a < 0x500 ∧ a % 4 = 0 then some (a / 0x100 - 1, a % 0x100) else none

/-- A core register of a halted pair: known, or free, and then known (R429). -/
def State.coreReg (s : State) (c : Nat) : State × Word :=
  if !s.pairHalted c then (s, 0)
  else
    let k := c / 2 * 256 + s.rf (dmCore c 0x0C) 7 0
    match Sparse.get (fun _ => none) s.dbg.regs k with
    | some w => (s, w)
    | none =>
      let r := s.free 32
      ({ r.2 with dbg := { r.2.dbg with regs := Sparse.set (fun _ => none) r.2.dbg.regs k (some r.1) } }, r.1)

/-- A debug-module register read; a read of DM_SYS_DATA begins a fabric access, whose data comes with it. -/
def State.dmRead (s : State) (a : Nat) : State × Word :=
  if a = dmSysData then (({ s with dbg := { s.dbg with sys := some none } }).wn (dmReg dmSysStatus) dsBusy, 0)
  else match dmCoreOf a with
  | some (c, 0x08) => if s.pairHalted c then (s, s.rd (dmCore c 0x08)) else (s.free 32).swap
  | some (c, 0x10) => s.coreReg c
  | _ => (s, s.rd (dmReg a))

/-- The bits of a debug-module register that a write stores; none where a write stores nothing. -/
def dmMask (a : Nat) : Option Word :=
  if a = dmCtrl then some 1
  else if a = dmSysLo then some 0xFFFFFFFF
  else if a = dmSysHi then some 0x800000FF
  else match dmCoreOf a with
  | some (_, off) =>
    if off = 0x0C then some 0xFF
    else if 0x20 ≤ off ∧ off < 0x40 then some 0xFFFFFFFD
    else if 0x40 ≤ off ∧ off < 0x60 then some (if off % 8 = 0 then 0xFFFFFFFF else 0x1F07)
    else none
  | none => none

/-- The same register in the other core of the pair, where the address names a core's register: writes reach both (R429). -/
def dmTwins (a : Nat) : List Nat := match dmCoreOf a with | some (c, off) => (pairCores c).map fun k => 0x100 + 0x100 * k + off | none => [a]

/-- A debug-module register written; a write of DM_SYS_DATA begins a fabric access. -/
def State.dmWrite (s : State) (a : Nat) (v : Word) : State :=
  if a = dmSysData then ({ s with dbg := { s.dbg with sys := some (some v) } }).wn (dmReg dmSysStatus) dsBusy
  else
    let s := match dmMask a with
      | some m => s.eachOf (dmTwins a) fun x s => s.wr (dmReg x) (v &&& m)
      | none => s
    match dmCoreOf a with
    | some (c, 0x00) => s.coreCmd c v.toNat
    | some (c, 0x10) =>
      if s.pairHalted c then
        { s with dbg := { s.dbg with regs := Sparse.set (fun _ => none) s.dbg.regs (c / 2 * 256 + s.rf (dmCore c 0x0C) 7 0) (some v) } }
      else s
    | _ => if a = dmCtrl ∧ bit v 31 ∧ s.dbgLevel = 2 then s.warmReset 4 else s

/-! ### DBG_ACCESS (R427, R428) -/

/-- What Capture-DR returns: STATUS, address and data of the previous operation, as 9 bytes, bit 0 first. -/
def State.dbgCapture (s : State) : State :=
  s.answer (.bytes (leBytes 9 (s.dbg.status * 2 ^ 64 + s.dbg.addr.toNat * 2 ^ 32 + s.dbg.data.toNat)))

/-- The result of an operation. -/
def State.dbgResult (s : State) (st : Nat) (a v : Word) : State := { s with dbg := { s.dbg with status := st, addr := a, data := v } }

/-- One DBG_ACCESS: the previous result is captured, then the operation shifted in runs; one shifted in while an access is under way is
dropped, and one beyond the level's reach is denied. -/
def State.dbgAccess (s : State) (a : Word) (op : Option (Option Word)) : State :=
  let s := s.tapSelect irDbgAccess
  if s.dbg.ir ≠ irDbgAccess then s
  else
    let s := s.dbgCapture
    match op with
    | none => s
    | some w =>
      if s.dbg.sys.isSome then s
      else if !s.dmAllowed a.toNat w.isSome then s.dbgResult dsDenied a 0
      else match w with
      | some v =>
        let s := s.dmWrite a.toNat v
        if s.dbg.ir = irDbgAccess then s.dbgResult (if s.dbg.sys.isSome then dsBusy else dsOk) a 0 else s
      | none =>
        let r := s.dmRead a.toNat
        r.1.dbgResult (if r.1.dbg.sys.isSome then dsBusy else dsOk) a r.2

/-- The fabric access of DM_SYS_DATA ends (R428). -/
def State.dmSysEnd (s : State) : State :=
  match s.dbg.sys with
  | none => s
  | some w =>
    let space := s.rb (dmReg dmSysHi) 31
    let a := s.addr40 (dmReg dmSysLo)
    let s := ({ s with dbg := { s.dbg with sys := none } }).wn (dmReg dmSysStatus) dsOk
    let s := if s.rb (dmReg dmCtrl) 0 then
        let b := (a + 4) % 2 ^ 40
        (s.wn (dmReg dmSysLo) b).wf (dmReg dmSysHi) 7 0 (b / 2 ^ 32)
      else s
    let s := { s with dbg := { s.dbg with status := dsOk } }
    match w, space with
    | some v, true => s.writeWord .dbg a v
    | some v, false => (s.writeMem none a (leBytes 4 v.toNat)).1
    | none, true =>
      let r := s.readReg .dbg a
      { r.1 with dbg := { r.1.dbg with data := r.2 } }
    | none, false =>
      let r := s.readMem none a 4
      let s := { r.1 with dbg := { r.1.dbg with data := wd (leNat r.2.data) } }
      if r.2.uncorr then s.wn (dmReg dmSysStatus) dsError else s

/-! ### Scrub of the on-chip arrays (R13) -/

/-- The FENCE source of an uncorrectable word in a unit's own memory, where its block lists one. -/
def ownSource : FUnit → Option Nat
  | .slice n => some (80 + 2 * n + 1)
  | .dcp e => some (293 + 2 * e)
  | .mover m => some (357 + 2 * m)
  | .netPort p => some (413 + 8 * p)
  | _ => none

/-- SRAM_SCRUB: what the scrubber finds has the effect that a read of the word would have. -/
def State.sramFind (s : State) : ScrubFind → State
  | .clean => s
  | .corrected src => if baseClass src = some 1 then s.faultOne src else s
  | .reel w => s.reelUncorr w
  | .staging n y x => s.stagingUncorr n y x
  | .print x row => s.prtUncorr x row
  | .geoActive t w => (s.tabDamage .geo t w).faultOne 33
  | .geoInactive => s.tabInactive .geo
  | .tonActive t w => (s.tabDamage .ton t w).faultOne 141
  | .tonInactive => s.tabInactive .ton
  | .wear other t w => s.wearUncorr other t w
  | .plkQueue g w => s.queueUncorr g w
  | .ingContext parcel i => (s.ctxUncorr parcel i).faultOne 261
  | .ownMemory (.cmp e) => (s.cmpFault e csEngineFault).faultOne (341 + 2 * e)
  | .ownMemory u => match ownSource u with | some src => s.faultOne src | none => s
  | .lost src => if baseClass src = some 3 then s.faultOne src else s

/-! ### Meanings -/

/-- EXTEST (R426). -/
def execExtest (s : State) : Host.Outcome State Fault Refusal := done (s.tapSelect irExtest)

/-- IDCODE (R426). -/
def execIdcode (s : State) : Host.Outcome State Fault Refusal := done s.tapIdcode

/-- SAMPLE_PRELOAD (R426). -/
def execSamplePreload (capture preload : List Bool) (s : State) : Host.Outcome State Fault Refusal := done (s.tapSample capture preload)

/-- BYPASS (R426), by its own code or one of those that act as it. -/
def execJtagBypass (code : BitVec 8) (s : State) : Host.Outcome State Fault Refusal := done (s.tapSelect code.toNat)

/-- DBG_ACCESS_READ (R427). -/
def execDbgAccessRead (a : Word) (s : State) : Host.Outcome State Fault Refusal := done (s.dbgAccess a (some none))

/-- DBG_ACCESS_WRITE (R427). -/
def execDbgAccessWrite (a v : Word) (s : State) : Host.Outcome State Fault Refusal := done (s.dbgAccess a (some (some v)))

/-- DBG_ACCESS_NOP (R427). -/
def execDbgAccessNop (s : State) : Host.Outcome State Fault Refusal := done (s.dbgAccess 0 none)

/-- DM_SYS_ACCESS (R428). -/
def execDmSysAccess (s : State) : Host.Outcome State Fault Refusal := done s.dmSysEnd

/-- DM_HALT (R429). -/
def execDmHalt (c : Fin 4) (s : State) : Host.Outcome State Fault Refusal := done (s.coreCmd c 1)

/-- DM_RESUME (R429). -/
def execDmResume (c : Fin 4) (s : State) : Host.Outcome State Fault Refusal := done (s.coreCmd c 2)

/-- DM_STEP (R429). -/
def execDmStep (c : Fin 4) (s : State) : Host.Outcome State Fault Refusal := done (s.coreCmd c 3)

/-- BREAKPOINT_HIT (R429). -/
def execBreakpointHit (c : Fin 4) (i : Fin 8) (s : State) : Host.Outcome State Fault Refusal := done (s.breakHit c i)

/-- WATCHPOINT_HIT (R429). -/
def execWatchpointHit (c : Fin 4) (j : Fin 4) (a : Word) (write : Bool) (s : State) : Host.Outcome State Fault Refusal := done (s.watchHit c j a write)

/-- SRAM_SCRUB (R13). -/
def execSramScrub (found : ScrubFind) (s : State) : Host.Outcome State Fault Refusal := done (s.sramFind found)

end Sys2Proof.Machine
end

