-- ==== Sys2Proof/Machine/Dispatch.lean ====
section
/-! DEFINITION. One arm per command: a direct call of its meaning, or a rejection by name. -/
namespace Sys2Proof.Machine

/-- The effect of a command on everything but the queue of commands. -/
def exec (i : Instr) (s : State) : Host.Outcome State Fault Refusal :=
  match i with
  | .registerWrite p reg v others => Sys2Proof.Machine.execRegisterWrite p reg v others s
  | .pairLowRead p reg => Sys2Proof.Machine.execPairLowRead p reg s
  | .pairHighRead p reg => Sys2Proof.Machine.execPairHighRead p reg s
  | .pairLowWrite p reg v => Sys2Proof.Machine.execPairLowWrite p reg v s
  | .pairHighWrite p reg v => Sys2Proof.Machine.execPairHighWrite p reg v s
  | .rcRead p reg => Sys2Proof.Machine.execRcRead p reg s
  | .evtForce p pg v => Sys2Proof.Machine.execEvtForce p pg v s
  | .evtPendClear p pg v => Sys2Proof.Machine.execEvtPendClear p pg v s
  | .msixUnmask port vec => Sys2Proof.Machine.execMsixUnmask port vec s
  | .pageEnable p pg => Sys2Proof.Machine.execPageEnable p pg s
  | .pageDisable p pg mode => Sys2Proof.Machine.execPageDisable p pg mode s
  | .drainEnd pg => Sys2Proof.Machine.execDrainEnd pg s
  | .drainTimeoutExpiry pg => Sys2Proof.Machine.execDrainTimeoutExpiry pg s
  | .pageTest p pg => Sys2Proof.Machine.execPageTest p pg s
  | .selftestEnd pg pass second => Sys2Proof.Machine.execSelftestEnd pg pass second s
  | .fenceReqSet p pg => Sys2Proof.Machine.execFenceReqSet p pg s
  | .fenceReqClear p pg => Sys2Proof.Machine.execFenceReqClear p pg s
  | .unitJoin u => Sys2Proof.Machine.execUnitJoin u s
  | .hifSeal p v => Sys2Proof.Machine.execHifSeal p v s
  | .csPropose p slot => Sys2Proof.Machine.execCsPropose p slot s
  | .csWithdraw p slot => Sys2Proof.Machine.execCsWithdraw p slot s
  | .csConfirm p slot others => Sys2Proof.Machine.execCsConfirm p slot others s
  | .csTimeout slot => Sys2Proof.Machine.execCsTimeout slot s
  | .bar2Read port addr len => Sys2Proof.Machine.execBar2Read port addr len s
  | .bar2Write port addr data => Sys2Proof.Machine.execBar2Write port addr data s
  | .functionLevelReset port => Sys2Proof.Machine.execFunctionLevelReset port s
  | .linkReset port => Sys2Proof.Machine.execLinkReset port s
  | .pcieLinkUp port width speed cfg => Sys2Proof.Machine.execPcieLinkUp port width speed cfg s
  | .geoTHost p t v => Sys2Proof.Machine.execGeoTHost p t v s
  | .geoLoad p => Sys2Proof.Machine.execGeoLoad p s
  | .geoLoadReadDone => Sys2Proof.Machine.execGeoLoadReadDone s
  | .geoArm p => Sys2Proof.Machine.execGeoArm p s
  | .geoDisarm p => Sys2Proof.Machine.execGeoDisarm p s
  | .geoActiveUncorr t word => Sys2Proof.Machine.execGeoActiveUncorr t word s
  | .geoRepairStart => Sys2Proof.Machine.execGeoRepairStart s
  | .geoInactiveUncorr => Sys2Proof.Machine.execGeoInactiveUncorr s
  | .geoProbe p t v => Sys2Proof.Machine.execGeoProbe p t v s
  | .geoProbeDone t => Sys2Proof.Machine.execGeoProbeDone t s
  | .latchPoint => Sys2Proof.Machine.execLatchPoint s
  | .slateWrite p n idx v => Sys2Proof.Machine.execSlateWrite p n idx v s
  | .lyrSramUncorr n line x => Sys2Proof.Machine.execLyrSramUncorr n line x s
  | .band0FillStart => Sys2Proof.Machine.execBand0FillStart s
  | .reelBurstLands => Sys2Proof.Machine.execReelBurstLands s
  | .bandStart => Sys2Proof.Machine.execBandStart s
  | .dealFinish n => Sys2Proof.Machine.execDealFinish n s
  | .rayDone n lane => Sys2Proof.Machine.execRayDone n lane s
  | .runSend n => Sys2Proof.Machine.execRunSend n s
  | .proofBandWrite v => Sys2Proof.Machine.execProofBandWrite v s
  | .reelUncorr w => Sys2Proof.Machine.execReelUncorr w s
  | .frameEpoch => Sys2Proof.Machine.execFrameEpoch s
  | .cmtLockWaitEnd => Sys2Proof.Machine.execCmtLockWaitEnd s
  | .slewComplete => Sys2Proof.Machine.execSlewComplete s
  | .syncInEdge rising t => Sys2Proof.Machine.execSyncInEdge rising t s
  | .syncInMiss => Sys2Proof.Machine.execSyncInMiss s
  | .syncOutRise => Sys2Proof.Machine.execSyncOutRise s
  | .syncOutFall => Sys2Proof.Machine.execSyncOutFall s
  | .fenceValWrite p idx v => Sys2Proof.Machine.execFenceValWrite p idx v s
  | .fenceAddWrite p idx v => Sys2Proof.Machine.execFenceAddWrite p idx v s
  | .takeArm p q v => Sys2Proof.Machine.execTakeArm p q v s
  | .takeDisarm p q v => Sys2Proof.Machine.execTakeDisarm p q v s
  | .cueTimeFire c => Sys2Proof.Machine.execCueTimeFire c s
  | .tonLoad p => Sys2Proof.Machine.execTonLoad p s
  | .tonLoadReadDone => Sys2Proof.Machine.execTonLoadReadDone s
  | .tonArm p => Sys2Proof.Machine.execTonArm p s
  | .tonDisarm p => Sys2Proof.Machine.execTonDisarm p s
  | .tonCommit p v => Sys2Proof.Machine.execTonCommit p v s
  | .tonActiveUncorr t word => Sys2Proof.Machine.execTonActiveUncorr t word s
  | .tonRepairStart => Sys2Proof.Machine.execTonRepairStart s
  | .tonWearUncorr other t word => Sys2Proof.Machine.execTonWearUncorr other t word s
  | .linkRelease => Sys2Proof.Machine.execLinkRelease s
  | .streamRowSend g => Sys2Proof.Machine.execStreamRowSend g s
  | .alignSend g => Sys2Proof.Machine.execAlignSend g s
  | .commandCopySend g => Sys2Proof.Machine.execCommandCopySend g s
  | .groupEndSend g => Sys2Proof.Machine.execGroupEndSend g s
  | .invalidControlBlock g payload => Sys2Proof.Machine.execInvalidControlBlock g payload s
  | .hello g panelId version => Sys2Proof.Machine.execHello g panelId version s
  | .laneReport g k rxInput status errs => Sys2Proof.Machine.execLaneReport g k rxInput status errs s
  | .laneLost g k => Sys2Proof.Machine.execLaneLost g k s
  | .txDetectFail l => Sys2Proof.Machine.execTxDetectFail l s
  | .deskew g ok skew => Sys2Proof.Machine.execDeskew g ok skew s
  | .rateOk g => Sys2Proof.Machine.execRateOk g s
  | .mapAck g seq frame => Sys2Proof.Machine.execMapAck g seq frame s
  | .frameReport g held runs => Sys2Proof.Machine.execFrameReport g held runs s
  | .frameId g frame => Sys2Proof.Machine.execFrameId g frame s
  | .temp g t => Sys2Proof.Machine.execTemp g t s
  | .panelFault g code => Sys2Proof.Machine.execPanelFault g code s
  | .userMessage g code args => Sys2Proof.Machine.execUserMessage g code args s
  | .bcLost g => Sys2Proof.Machine.execBcLost g s
  | .bcQueueRead p g => Sys2Proof.Machine.execBcQueueRead p g s
  | .bringup p g => Sys2Proof.Machine.execBringup p g s
  | .restripe p g => Sys2Proof.Machine.execRestripe p g s
  | .sendMsg p g => Sys2Proof.Machine.execSendMsg p g s
  | .bringupStageDone g => Sys2Proof.Machine.execBringupStageDone g s
  | .bringupStageTimeout g failing => Sys2Proof.Machine.execBringupStageTimeout g failing s
  | .laneSlip p l v => Sys2Proof.Machine.execLaneSlip p l v s
  | .eqTableApply img => Sys2Proof.Machine.execEqTableApply img s
  | .laneAutoReturn l => Sys2Proof.Machine.execLaneAutoReturn l s
  | .laneReturnQualified l => Sys2Proof.Machine.execLaneReturnQualified l s
  | .plkQueueUncorr g word => Sys2Proof.Machine.execPlkQueueUncorr g word s
  | .frameReceive port frame => Sys2Proof.Machine.execFrameReceive port frame s
  | .parcelTimeout idx => Sys2Proof.Machine.execParcelTimeout idx s
  | .planeTimeout k => Sys2Proof.Machine.execPlaneTimeout k s
  | .planeDone k => Sys2Proof.Machine.execPlaneDone k s
  | .trayTail p port v => Sys2Proof.Machine.execTrayTail p port v s
  | .envelopeParcel port => Sys2Proof.Machine.execEnvelopeParcel port s
  | .envelopeInflate port => Sys2Proof.Machine.execEnvelopeInflate port s
  | .envelopeCopy port => Sys2Proof.Machine.execEnvelopeCopy port s
  | .envelopeFence port => Sys2Proof.Machine.execEnvelopeFence port s
  | .envelopeNop port => Sys2Proof.Machine.execEnvelopeNop port s
  | .rcptHead p port v => Sys2Proof.Machine.execRcptHead p port v s
  | .dispatch => Sys2Proof.Machine.execDispatch s
  | .dcpInputConsumed e => Sys2Proof.Machine.execDcpInputConsumed e s
  | .dcpJobEnd e points => Sys2Proof.Machine.execDcpJobEnd e points s
  | .dcpUncorr e => Sys2Proof.Machine.execDcpUncorr e s
  | .cmpStart p e => Sys2Proof.Machine.execCmpStart p e s
  | .cmpResume p e => Sys2Proof.Machine.execCmpResume p e s
  | .cmpDiscard p e => Sys2Proof.Machine.execCmpDiscard p e s
  | .cmpSuspend e => Sys2Proof.Machine.execCmpSuspend e s
  | .cmpJobEnd e => Sys2Proof.Machine.execCmpJobEnd e s
  | .cmpVerifyFail e => Sys2Proof.Machine.execCmpVerifyFail e s
  | .cmpUncorr e => Sys2Proof.Machine.execCmpUncorr e s
  | .printStripDone e => Sys2Proof.Machine.execPrintStripDone e s
  | .printStripAbandon e => Sys2Proof.Machine.execPrintStripAbandon e s
  | .invalidateAll p => Sys2Proof.Machine.execInvalidateAll p s
  | .printRetry p => Sys2Proof.Machine.execPrintRetry p s
  | .printUncorr x row => Sys2Proof.Machine.execPrintUncorr x row s
  | .blkQTail p port v => Sys2Proof.Machine.execBlkQTail p port v s
  | .blkCopy port => Sys2Proof.Machine.execBlkCopy port s
  | .blkFill port => Sys2Proof.Machine.execBlkFill port s
  | .blkBlend port => Sys2Proof.Machine.execBlkBlend port s
  | .blkFence port => Sys2Proof.Machine.execBlkFence port s
  | .blkNop port => Sys2Proof.Machine.execBlkNop port s
  | .moverTake => Sys2Proof.Machine.execMoverTake s
  | .blkBurstDone m => Sys2Proof.Machine.execBlkBurstDone m s
  | .deadTimeExpiry m => Sys2Proof.Machine.execDeadTimeExpiry m s
  | .blkOpEnd m => Sys2Proof.Machine.execBlkOpEnd m s
  | .blkRHead p port v => Sys2Proof.Machine.execBlkRHead p port v s
  | .moverFenceReq p v => Sys2Proof.Machine.execMoverFenceReq p v s
  | .blkUncorr m => Sys2Proof.Machine.execBlkUncorr m s
  | .train p c => Sys2Proof.Machine.execTrain p c s
  | .trainKeep p c => Sys2Proof.Machine.execTrainKeep p c s
  | .trainStageDone c pass dimms osc => Sys2Proof.Machine.execTrainStageDone c pass dimms osc s
  | .trainStageTimeout c => Sys2Proof.Machine.execTrainStageTimeout c s
  | .retire p c => Sys2Proof.Machine.execRetire p c s
  | .retireCopyDone c => Sys2Proof.Machine.execRetireCopyDone c s
  | .retrainCheck c counts => Sys2Proof.Machine.execRetrainCheck c counts s
  | .mr4Poll c codes => Sys2Proof.Machine.execMr4Poll c codes s
  | .refreshTick c rank => Sys2Proof.Machine.execRefreshTick c rank s
  | .memoryRequest rq => Sys2Proof.Machine.execMemoryRequest rq s
  | .dmcReadReturn c sub ecc => Sys2Proof.Machine.execDmcReadReturn c sub ecc s
  | .caParity c lost => Sys2Proof.Machine.execCaParity c lost s
  | .tsPoll c reading => Sys2Proof.Machine.execTsPoll c reading s
  | .scrubBatch c corrected uncorrectable behind => Sys2Proof.Machine.execScrubBatch c corrected uncorrectable behind s
  | .powerDownEntry c rank => Sys2Proof.Machine.execPowerDownEntry c rank s
  | .channelJoin c => Sys2Proof.Machine.execChannelJoin c s
  | .netLinkUp port => Sys2Proof.Machine.execNetLinkUp port s
  | .netLinkDown port localFault remoteFault => Sys2Proof.Machine.execNetLinkDown port localFault remoteFault s
  | .exceptionFrame port => Sys2Proof.Machine.execExceptionFrame port s
  | .netTxqTail p port v => Sys2Proof.Machine.execNetTxqTail p port v s
  | .txDescFetch port => Sys2Proof.Machine.execTxDescFetch port s
  | .txLaunch port => Sys2Proof.Machine.execTxLaunch port s
  | .txFrameSent port => Sys2Proof.Machine.execTxFrameSent port s
  | .netTxrHead p port v => Sys2Proof.Machine.execNetTxrHead p port v s
  | .psEnable p x v => Sys2Proof.Machine.execPsEnable p x v s
  | .psSlot x => Sys2Proof.Machine.execPsSlot x s
  | .psPacketLaunch x => Sys2Proof.Machine.execPsPacketLaunch x s
  | .portJoin port => Sys2Proof.Machine.execPortJoin port s
  | .ptpOffset d o mpd gm quality => Sys2Proof.Machine.execPtpOffset d o mpd gm quality s
  | .announceTimeout d => Sys2Proof.Machine.execAnnounceTimeout d s
  | .syncTimeout d => Sys2Proof.Machine.execSyncTimeout d s
  | .delayReqSend d => Sys2Proof.Machine.execDelayReqSend d s
  | .pdelayReq port measured => Sys2Proof.Machine.execPdelayReq port measured s
  | .timSet p => Sys2Proof.Machine.execTimSet p s
  | .timStep p => Sys2Proof.Machine.execTimStep p s
  | .set64 p => Sys2Proof.Machine.execSet64 p s
  | .timSwitch p => Sys2Proof.Machine.execTimSwitch p s
  | .reacquire p => Sys2Proof.Machine.execReacquire p s
  | .timRateWrite p inc v => Sys2Proof.Machine.execTimRateWrite p inc v s
  | .hostTimeout => Sys2Proof.Machine.execHostTimeout s
  | .ppsOutRise => Sys2Proof.Machine.execPpsOutRise s
  | .ppsOutFall => Sys2Proof.Machine.execPpsOutFall s
  | .ppsIn rising t => Sys2Proof.Machine.execPpsIn rising t s
  | .ppsInLost => Sys2Proof.Machine.execPpsInLost s
  | .refLos r d => Sys2Proof.Machine.execRefLos r d s
  | .refFreqWindow r ppm move => Sys2Proof.Machine.execRefFreqWindow r ppm move s
  | .refQualified r d => Sys2Proof.Machine.execRefQualified r d s
  | .xtalFail => Sys2Proof.Machine.execXtalFail s
  | .pllOffsetWrite p k v => Sys2Proof.Machine.execPllOffsetWrite p k v s
  | .realign p k => Sys2Proof.Machine.execRealign p k s
  | .pllRelock p k => Sys2Proof.Machine.execPllRelock p k s
  | .pllSlewDone k => Sys2Proof.Machine.execPllSlewDone k s
  | .pllLockLoss k => Sys2Proof.Machine.execPllLockLoss k s
  | .bypassRelease k => Sys2Proof.Machine.execBypassRelease k s
  | .pllLockTimeout k => Sys2Proof.Machine.execPllLockTimeout k s
  | .pllDitherSeed p k v => Sys2Proof.Machine.execPllDitherSeed p k v s
  | .outCtrlWrite p n j v => Sys2Proof.Machine.execOutCtrlWrite p n j v s
  | .clkOutSync p v => Sys2Proof.Machine.execClkOutSync p v s
  | .outSyncLapse => Sys2Proof.Machine.execOutSyncLapse s
  | .faultArrival reports => Sys2Proof.Machine.execFaultArrival reports s
  | .secondaryWindowClose idx => Sys2Proof.Machine.execSecondaryWindowClose idx s
  | .faultClear p w v => Sys2Proof.Machine.execFaultClear p w v s
  | .faultInject p v => Sys2Proof.Machine.execFaultInject p v s
  | .ffRelease p v => Sys2Proof.Machine.execFfRelease p v s
  | .logSelect p v => Sys2Proof.Machine.execLogSelect p v s
  | .fltReady p v => Sys2Proof.Machine.execFltReady p v s
  | .heartbeat => Sys2Proof.Machine.execHeartbeat s
  | .computeLost => Sys2Proof.Machine.execComputeLost s
  | .panelUpdate p => Sys2Proof.Machine.execPanelUpdate p s
  | .storePostcard p => Sys2Proof.Machine.execStorePostcard p s
  | .showPostcard p => Sys2Proof.Machine.execShowPostcard p s
  | .commonDone => Sys2Proof.Machine.execCommonDone s
  | .panelRefresh => Sys2Proof.Machine.execPanelRefresh s
  | .segCrcCheck upset => Sys2Proof.Machine.execSegCrcCheck upset s
  | .crackCheck ohms => Sys2Proof.Machine.execCrackCheck ohms s
  | .panelDrive => Sys2Proof.Machine.execPanelDrive s
  | .ntcConversion v0 v1 tc ts vhold => Sys2Proof.Machine.execNtcConversion v0 v1 tc ts vhold s
  | .vrefConversion uv => Sys2Proof.Machine.execVrefConversion uv s
  | .storeRead p => Sys2Proof.Machine.execStoreRead p s
  | .storeWrite p => Sys2Proof.Machine.execStoreWrite p s
  | .servicePowerOn addrSel autoOn => Sys2Proof.Machine.execServicePowerOn addrSel autoOn s
  | .vholdReady ok => Sys2Proof.Machine.execVholdReady ok s
  | .powerFailWarning => Sys2Proof.Machine.execPowerFailWarning s
  | .smbStatus => Sys2Proof.Machine.execSmbStatus s
  | .smbRegRead a => Sys2Proof.Machine.execSmbRegRead a s
  | .smbRegWrite a v pec => Sys2Proof.Machine.execSmbRegWrite a v pec s
  | .smbStandby pec => Sys2Proof.Machine.execSmbStandby pec s
  | .smbWake pec => Sys2Proof.Machine.execSmbWake pec s
  | .smbPanelImage img pec => Sys2Proof.Machine.execSmbPanelImage img pec s
  | .smbShownImage => Sys2Proof.Machine.execSmbShownImage s
  | .smbStoreRead off len => Sys2Proof.Machine.execSmbStoreRead off len s
  | .smbStoreWrite off data pec => Sys2Proof.Machine.execSmbStoreWrite off data pec s
  | .smbFfCopy => Sys2Proof.Machine.execSmbFfCopy s
  | .smbFgCopy => Sys2Proof.Machine.execSmbFgCopy s
  | .smbEventPop => Sys2Proof.Machine.execSmbEventPop s
  | .smbSensors => Sys2Proof.Machine.execSmbSensors s
  | .smbAlertResponse => Sys2Proof.Machine.execSmbAlertResponse s
  | .calRun p kind mask => Sys2Proof.Machine.execCalRun p kind mask s
  | .calAbort p => Sys2Proof.Machine.execCalAbort p s
  | .regResult g mx my seq => Sys2Proof.Machine.execRegResult g mx my seq s
  | .photoResult g r seq => Sys2Proof.Machine.execPhotoResult g r seq s
  | .measureTimeout => Sys2Proof.Machine.execMeasureTimeout s
  | .calResultCheck => Sys2Proof.Machine.execCalResultCheck s
  | .calApplySwitched => Sys2Proof.Machine.execCalApplySwitched s
  | .calApplyTimeout => Sys2Proof.Machine.execCalApplyTimeout s
  | .recordStored ok => Sys2Proof.Machine.execRecordStored ok s
  | .sensorRunEnd mean osc xtal => Sys2Proof.Machine.execSensorRunEnd mean osc xtal s
  | .doseUpdate => Sys2Proof.Machine.execDoseUpdate s
  | .wearUpdated => Sys2Proof.Machine.execWearUpdated s
  | .doseSaved => Sys2Proof.Machine.execDoseSaved s
  | .bootRom factory f0 f1 => Sys2Proof.Machine.execBootRom factory f0 f1 s
  | .secStage p => Sys2Proof.Machine.execSecStage p s
  | .stageConfig p => Sys2Proof.Machine.execStageConfig p s
  | .updateEnd written => Sys2Proof.Machine.execUpdateEnd written s
  | .svnCommit p v => Sys2Proof.Machine.execSvnCommit p v s
  | .revoke p v => Sys2Proof.Machine.execRevoke p v s
  | .provisionIntegratorKey p => Sys2Proof.Machine.execProvisionIntegratorKey p s
  | .provisionDebugKey p k => Sys2Proof.Machine.execProvisionDebugKey p k s
  | .provisionField p => Sys2Proof.Machine.execProvisionField p s
  | .fuseDone ok => Sys2Proof.Machine.execFuseDone ok s
  | .attest p => Sys2Proof.Machine.execAttest p s
  | .attestDone => Sys2Proof.Machine.execAttestDone s
  | .dbgChallenge p => Sys2Proof.Machine.execDbgChallenge p s
  | .dbgResponse p => Sys2Proof.Machine.execDbgResponse p s
  | .relockDebug p => Sys2Proof.Machine.execRelockDebug p s
  | .dbgPolicyWrite p v => Sys2Proof.Machine.execDbgPolicyWrite p v s
  | .pwrHold p => Sys2Proof.Machine.execPwrHold p s
  | .pwrRun p => Sys2Proof.Machine.execPwrRun p s
  | .srIdleExpiry => Sys2Proof.Machine.execSrIdleExpiry s
  | .stbyAck => Sys2Proof.Machine.execStbyAck s
  | .stbyTimeout => Sys2Proof.Machine.execStbyTimeout s
  | .powerGood k => Sys2Proof.Machine.execPowerGood k s
  | .powerGoodTimeout => Sys2Proof.Machine.execPowerGoodTimeout s
  | .powerDownStep => Sys2Proof.Machine.execPowerDownStep s
  | .computePowerOn strap => Sys2Proof.Machine.execComputePowerOn strap s
  | .sysResetPin => Sys2Proof.Machine.execSysResetPin s
  | .pwrResetWarm p => Sys2Proof.Machine.execPwrResetWarm p s
  | .dmWarmReset => Sys2Proof.Machine.execDmWarmReset s
  | .railMonitor out fail pgDrop => Sys2Proof.Machine.execRailMonitor out fail pgDrop s
  | .gateWrite p k v => Sys2Proof.Machine.execGateWrite p k v s
  | .gateOpened k idx => Sys2Proof.Machine.execGateOpened k idx s
  | .checkpoint => Sys2Proof.Machine.execCheckpoint s
  | .lockstepMismatch idx => Sys2Proof.Machine.execLockstepMismatch idx s
  | .pairReturn p idx => Sys2Proof.Machine.execPairReturn p idx s
  | .postboxRead port off len => Sys2Proof.Machine.execPostboxRead port off len s
  | .postboxWrite port off data => Sys2Proof.Machine.execPostboxWrite port off data s
  | .doorbellRing p q v => Sys2Proof.Machine.execDoorbellRing p q v s
  | .dailyWrite body => Sys2Proof.Machine.execDailyWrite body s
  | .extest => Sys2Proof.Machine.execExtest s
  | .idcode => Sys2Proof.Machine.execIdcode s
  | .samplePreload capture preload => Sys2Proof.Machine.execSamplePreload capture preload s
  | .jtagBypass code => Sys2Proof.Machine.execJtagBypass code s
  | .dbgAccessRead a => Sys2Proof.Machine.execDbgAccessRead a s
  | .dbgAccessWrite a v => Sys2Proof.Machine.execDbgAccessWrite a v s
  | .dbgAccessNop => Sys2Proof.Machine.execDbgAccessNop s
  | .dmSysAccess => Sys2Proof.Machine.execDmSysAccess s
  | .dmHalt c => Sys2Proof.Machine.execDmHalt c s
  | .dmResume c => Sys2Proof.Machine.execDmResume c s
  | .dmStep c => Sys2Proof.Machine.execDmStep c s
  | .breakpointHit c idx => Sys2Proof.Machine.execBreakpointHit c idx s
  | .watchpointHit c j a write => Sys2Proof.Machine.execWatchpointHit c j a write s
  | .returnTestEnd u pass => Sys2Proof.Machine.execReturnTestEnd u pass s
  | .backChannelLockLoss g => Sys2Proof.Machine.execBackChannelLockLoss g s
  | .backChannelLockGain g => Sys2Proof.Machine.execBackChannelLockGain g s
  | .rsFecCodeword port corrected => Sys2Proof.Machine.execRsFecCodeword port corrected s
  | .sramScrub found => Sys2Proof.Machine.execSramScrub found s
  | .dmcCommandSlot c sub => Sys2Proof.Machine.execDmcCommandSlot c sub s
  | .holdTransitionEnd => Sys2Proof.Machine.execHoldTransitionEnd s
  | .storeOpEnd => Sys2Proof.Machine.execStoreOpEnd s

end Sys2Proof.Machine
end

