-- ==== Sys2Proof/Machine/Tick.lean ====
section
/-! DEFINITION. One millisecond in which nothing is commanded: what the block does with an empty queue (DESIGN CHOICE, log 8). -/
namespace Sys2Proof.Machine

/-- A millisecond of an open countersign window (R35). -/
def State.csTick (s : State) (k : Nat) : State :=
  if s.csState k = 1 then
    let n := s.rn (Reg.CS_REMAIN k) - 1
    if n = 0 then s.csClose k 4 else s.wn (Reg.CS_REMAIN k) n
  else s

/-- A millisecond of the age of a group's latest TEMP (R178). -/
def State.tempTick (s : State) (g : Nat) : State :=
  let a := Reg.PLK_GRP_TEMP g
  if s.rb a 31 then s.wf a 30 16 (satAdd 15 (s.rf a 30 16) 1) else s

/-- One millisecond: the collector's counter (R340), the local clock (R291), windows, ages, slews and power-down counts. The service die's
readings age while the compute die is off, too. The fabric cycles are over at its end. -/
def State.tick (s : State) : State :=
  let s := s.when s.svc.powered State.svcTick
  if !s.computeOn then s.endCycle
  else
    let s := s.cntWrap Reg.FLT_MS
    let s := s.when (s.enabled (Reg.page 14 0)) fun s => s.clockTicks 500000
    let s := s.each 6 fun k s => s.csTick k
    let s := s.each 6 fun g s => s.tempTick g
    s.geoTick.clkTick.dmcTick.synTick.plkTick.endCycle

end Sys2Proof.Machine
end

