-- ==== Sys2Proof/WellFormed.lean ====
section
/-! DEFINITION. Which commands can come at all: the limits on operands that their types do not say. `step` does not ask; a command that breaks
them is one that no sender of the block can make. -/
namespace Sys2Proof

/-- A request of `n` bytes at `a` lies in one 4 KiB block of an aperture of `size` bytes (log 9). -/
def requestOk (size a n : Nat) : Bool := decide (1 ≤ n) && decide (a % 4096 + n ≤ 4096) && decide (a < size)

/-- A flash image fits the regions of its flash (spec/18_boot_identity_attestation.md R399). -/
def FlashImage.fits (f : FlashImage) : Bool :=
  decide (f.dir0.length ≤ 4096) && decide (f.dir1.length ≤ 4096) && decide (f.fwA.length ≤ 2097152) && decide (f.fwB.length ≤ 2097152) &&
    decide (f.cfgA.length ≤ 65536) && decide (f.cfgB.length ≤ 65536) && decide (f.eq.length ≤ 4096)

/-- A unit that a fence can take out of service and a return can bring back (spec/15_faults_and_fencing.md R347). -/
def FUnit.fenceable : FUnit → Bool
  | .slice _ | .lane _ | .dcp _ | .cmp _ | .mover _ | .channel _ | .netPort _ | .corePll _ | .plkPll | .netPll _ | .timePll | .panel | .mgtPair _ => true
  | _ => false

/-- The command can come. -/
def Instr.wellFormed : Instr → Bool
  | .bar2Read _ a n => requestOk 1099511627776 a.toNat n
  | .bar2Write _ a d => requestOk 1099511627776 a.toNat d.length
  | .postboxRead _ o n => requestOk 1048576 o n
  | .postboxWrite _ o d => requestOk 1048576 o d.length
  | .pcieLinkUp _ _ speed _ => speed != 0
  | .unitJoin u => u.fenceable
  | .returnTestEnd u _ => u.fenceable
  | .trainStageDone _ _ dimms osc => decide (dimms.length ≤ 2) && decide (osc.length ≤ 4)
  | .retrainCheck _ counts => decide (counts.length ≤ 4)
  | .faultArrival reports => reports.all fun r => decide (r.src < 512)
  | .dailyWrite body => decide (body.length ≤ 65504)
  | .bootRom _ f0 f1 => (match f0 with | some f => f.fits | none => true) && (match f1 with | some f => f.fits | none => true)
  | .samplePreload capture preload => capture.length == preload.length
  | .jtagBypass code => code != 0x00 && code != 0x01 && code != 0x02 && code != 0x20
  | .memoryRequest rq => match rq.write with | some d => decide (1 ≤ d.length ∧ d.length ≤ 64) | none => true
  | _ => true

end Sys2Proof
end

