-- ==== Sys2Proof/Safety.lean ====
section
/-! DEFINITION. The terms in which statements about the block are made: what a command leaves alone, when a command ends, and the invariant of
every state. -/
namespace Sys2Proof.Machine

/-- The fields of `State`. -/
inductive Fld where
  | pending | regs | mem | freeCtr | reply | hif | flt | dmc | svc | pwr | clock | sent | geo | ton | lyr | syn | cmt | prt | plk | ing | cmp | blk | tim | net | clk | cal | sec | mgt | dbg
  deriving DecidableEq, Repr

/-- A field holds in `t` what it holds in `s`. -/
def Fld.same (s t : State) : Fld → Prop
  | .pending => t.pending = s.pending
  | .regs => t.regs = s.regs
  | .mem => t.mem = s.mem
  | .freeCtr => t.freeCtr = s.freeCtr
  | .reply => t.reply = s.reply
  | .hif => t.hif = s.hif
  | .flt => t.flt = s.flt
  | .dmc => t.dmc = s.dmc
  | .svc => t.svc = s.svc
  | .pwr => t.pwr = s.pwr
  | .clock => t.clock = s.clock
  | .sent => t.sent = s.sent
  | .geo => t.geo = s.geo
  | .ton => t.ton = s.ton
  | .lyr => t.lyr = s.lyr
  | .syn => t.syn = s.syn
  | .cmt => t.cmt = s.cmt
  | .prt => t.prt = s.prt
  | .plk => t.plk = s.plk
  | .ing => t.ing = s.ing
  | .cmp => t.cmp = s.cmp
  | .blk => t.blk = s.blk
  | .tim => t.tim = s.tim
  | .net => t.net = s.net
  | .clk => t.clk = s.clk
  | .cal => t.cal = s.cal
  | .sec => t.sec = s.sec
  | .mgt => t.mgt = s.mgt
  | .dbg => t.dbg = s.dbg

/-- `t` differs from `s` in the listed fields only. -/
def SameBut (l : List Fld) (s t : State) : Prop := ∀ f, f ∈ l ∨ f.same s t

/-- Every register outside `p` reads in `t` as in `s`. -/
def RegsBut (p : Nat → Bool) (s t : State) : Prop := ∀ a, p a = true ∨ t.rd a = s.rd a

/-- `t` differs from `s` in the listed fields only, and among registers in those of `p` only. -/
def Within (l : List Fld) (p : Nat → Bool) (s t : State) : Prop := SameBut l s t ∧ RegsBut p s t

/-- The registers of a list. -/
def among (l : List Nat) (a : Nat) : Bool := l.contains a

/-- The cell with key `k` is one that a write of `n` bytes at address `a` stores to: the write goes burst by burst, each burst to the end of its
64-byte line, where its first byte lies (R38, R252). -/
def State.stores (s : State) (a n k : Nat) : Prop :=
  ∃ b c la i, a ≤ b ∧ b < a + n ∧ (b = a ∨ b % 64 = 0) ∧ s.locate b = some (c, la) ∧ b + i < a + n ∧ i < 64 - b % 64 ∧ k = cellKey c la + i

/-- The command ends in a next state of which `P` holds. -/
def Ends (c : Instr) (s : State) (P : State → Prop) : Prop := ∃ t, exec c s = .next t ∧ P t

/-- A write that applies. -/
def WriteFate.isApplied : WriteFate → Bool
  | .applied _ => true
  | _ => false

/-- A write of `v` to the register at `a` by party `p` passes the checks of R23, R27, R28 and R31. -/
abbrev Allowed (s : State) (p : Party) (a : Nat) (v : Word) : Prop := (s.writeFate p a v).isApplied = true

/-- The place of a party in the order of R29, in which the writes of one fabric cycle apply, each on what the ones before it left. -/
def cyclePlace (p : Party) : Nat := cycleOrder.findIdx fun q => q == p

/-- Party `p` confirms the open proposal of slot `k`, of the one register at `a`: its staged words are the digest's, it is one of the signers asked for, and
it has authority (R34). -/
structure State.Confirms (s : State) (p : Party) (k a : Nat) : Prop where
  party : p ≠ .dbg ∧ partyCode p ≠ k ∧ s.reaches p = true
  openSlot : s.csState k = 1
  signer : s.rf (Reg.CS_SIGNERS k) 5 0 = 0 ∨ (s.rf (Reg.CS_SIGNERS k) 5 0).testBit (partyCode p) = true
  target : s.rf (Reg.CS_COUNT k) 3 0 = 1 ∧ s.rn (Reg.CS_OFFSET k 0) = a
  digest : ∀ w < 16, Sparse.get (fun _ => none) s.hif.csSign ((k * 8 + partyCode p) * 16 + w) = some (s.rd (Reg.CS_DIGEST k w))
  authority : s.csAuthority k (partyCode p) a = true

/-- Registers that an event's way to its targets may write (R41 to R43, R374): pending bits, PBA bits, the service die's event count. -/
def evtReg (a : Nat) : Bool :=
  (hasHeader (a / 0x100000) (a / 0x1000 % 256) && a % 0x1000 == 0x1C) || (decide (0x14000 ≤ a) && decide (a < 0x18000)) || a == Reg.SVC_BMC_EVT

/-- Registers that the collector writes with a record: those of an event, the pending bits, the log's count (R333 to R338). -/
def faultReg (a : Nat) : Bool :=
  evtReg a || a == Reg.FLT_LOG_WR || (decide (Reg.FLT_PEND 0 ≤ a) && decide (a ≤ Reg.FLT_PEND 15))

/-- Registers that a fault of any class may write beside those of its reaction (R333 to R348, R368): the record's, the lasting bits, the panel's
driver where the fault pixel is due. -/
def fenceReg (a : Nat) : Bool :=
  faultReg a || (decide (Reg.FLT_LASTING 0 ≤ a) && decide (a ≤ Reg.FLT_LASTING 15)) || a == Reg.SVC_PANEL_STATUS || a == Reg.PAGE_STATUS panelPage

/-- The fields that raising an event may change (R41 to R43, R374, R454). -/
def evtFields : List Fld := [.regs, .hif, .svc, .sent]

/-- The fields that raising a NOTICE fault may change: those of an event, the collector's, and free values (R337). -/
def noticeFields : List Fld := [.regs, .hif, .svc, .sent, .flt, .freeCtr]

/-- Pages of no unit and no queue, whose ENABLE does nothing beyond STATE (R26): the work that a drain waits for there is a table load or a
calibration run, where there is any. -/
def plainPage (pg : Nat) : Bool :=
  hasHeader (pg / 0x100000) (pg / 0x1000 % 256) &&
  match pageFn pg with
  | .other => true
  | .evt => true
  | .geo => true
  | .ton => true
  | .tonTile _ => true
  | .print => true
  | .cal => true
  | .sec => true
  | .pwr => true
  | _ => false

/-- The commands of the two table units: the writes 1 LOAD, 2 ARM, 3 DISARM, a read of the load that lands, a damaged word of the active bank,
and the repair's start. -/
def tabWrite : TabKind → Nat → Party → Instr
  | .geo, 1, p => .geoLoad p
  | .geo, 2, p => .geoArm p
  | .geo, _, p => .geoDisarm p
  | .ton, 1, p => .tonLoad p
  | .ton, 2, p => .tonArm p
  | .ton, _, p => .tonDisarm p

def tabReadDone : TabKind → Instr
  | .geo => .geoLoadReadDone
  | .ton => .tonLoadReadDone

def tabRepairStart : TabKind → Instr
  | .geo => .geoRepairStart
  | .ton => .tonRepairStart

/-- The SELFTEST register of a unit that has one, whose bits [31:30] give the result. -/
def selftestReg : FUnit → Option Nat
  | .slice n => some (Reg.SLC_SELFTEST n)
  | .dcp e => some (Reg.DCP_SELFTEST e)
  | .cmp e => some (Reg.CMP_SELFTEST e)
  | .channel c => some (Reg.DMC_CH_SELFTEST c)
  | .netPort p => some (Reg.NET_SELFTEST p)
  | _ => none

/-- The register that counts how often a unit has been fenced. -/
def fencesReg : FUnit → Option Nat
  | .slice n => some (Reg.SLC_FENCES n)
  | .dcp e => some (Reg.DCP_FENCES e)
  | .cmp e => some (Reg.CMP_FENCES e)
  | .channel c => some (Reg.DMC_CH_FENCES c)
  | .netPort p => some (Reg.NET_FENCES p)
  | _ => none

/-- Every fuse bit blown in `a` is blown in `b` (R396). -/
def Fuses.le (a b : Fuses) : Prop :=
  (a.field = true → b.field = true) ∧ a.svn ≤ b.svn ∧ a.rootRevoke ||| b.rootRevoke = b.rootRevoke ∧
    a.debugRevoke ||| b.debugRevoke = b.debugRevoke ∧ a.integrator ||| b.integrator = b.integrator

/-- A state has the units that the spec gives the device: six channels of four ranks (R245), six tiles, 40 layers, 26 slices, six groups of
16 lanes, and so on. -/
structure State.Shape (s : State) : Prop where
  chans : s.dmc.chans.length = 6
  ranks : ∀ c ∈ s.dmc.chans, c.ranks.length = 4
  tiles : s.geo.tiles.length = 6
  layers : s.lyr.on.length = 40 ∧ s.lyr.refused.length = 40 ∧ s.lyr.noScaler.length = 40 ∧ s.lyr.flipped.length = 40
  slices : s.syn.slices.length = 26
  views : s.syn.pvNext.length = 4
  queues : s.syn.queues.length = 6
  cues : s.cmt.cues.length = 4 ∧ s.cmt.cueCount.length = 4
  entries : s.prt.entries.length = 8
  engines : s.cmp.length = 4 ∧ s.ing.engines.length = 24
  groups : s.plk.groups.length = 6
  lanes : s.plk.lanes.length = 96
  receivers : s.ing.ringPos.length = 4 ∧ s.ing.ready.length = 4
  trays : s.ing.trays.length = 4
  blk : s.blk.queues.length = 4 ∧ s.blk.movers.length = 2
  domains : s.tim.domains.length = 2
  net : s.net.ports.length = 4 ∧ s.net.senders.length = 4
  plls : s.clk.plls.length = 8

/-- What holds of the state at every moment: the register file and device memory are in canonical form; every unit is there; the service die's queue holds at
most 32 events (R374), an image that waits for the panel has 32 bytes (R360), and at most 16 windows are open (R346); the clock's nanoseconds and its fraction carry (R291); the fabric cycle of the command before is
over (R43). -/
structure State.Inv (s : State) : Prop where
  regs : Sparse.wf resetWord s.regs = true
  mem : Memory.wf s.mem
  shape : s.Shape
  events : s.svc.events.length ≤ 32
  windows : s.flt.windows.length ≤ 16
  clockSec : s.clock.sec < 2 ^ 48
  clockNs : s.clock.ns < 1000000000
  clockFrac : s.clock.frac < 2 ^ 46
  cycle : s.hif.cycleVecs = []
  panel : ∀ img, s.svc.queued = some img → img.length = 32

/-- Nothing changes the lanes of group `g` at the next release: no lane leaves or is ready to join, no restripe or change of map waits, the group is
NORMAL, its data lanes are those with role DATA and its mask names them (R173 to R175). -/
structure State.Settled (s : State) (g : Nat) : Prop where
  map : ∀ k < 16, nth 0 (s.grp g).map k < 16
  restripe : (s.grp g).restripe = false
  changed : (s.grp g).changed = false
  lanes : ∀ k < 16, (s.lane (s.phys g k)).leaving = false ∧ (s.lane (s.phys g k)).ready = false
  mode : s.grpMode g = 0
  data : (∀ k ∈ (s.grp g).data, k < 16 ∧ s.roleOf g k = roleData) ∧ ∀ k < 16, s.roleOf g k = roleData → k ∈ (s.grp g).data
  mask : maskOf (s.grp g).data = s.rf (Reg.PLK_GRP_MASK g) 15 0

/-- A row that carries the control block `f k` on every lane `k` of group `g` in service, on positions 0 to 126 (R157, R160): lanes that bring-up or
their return trains send FILLER, others what R171 has them send. -/
def State.blocks (s : State) (g : Nat) (f : Nat → Nat) : Output := .plkRow g (s.rowWords g (fun k => (true, f k)) fun _ => fillerBlock)

/-- The block time before a row on the positions 0 to 126: the reserved position, where that is next (R160). -/
def State.beforeRow (s : State) (g : Nat) : State := if (s.grp g).pos = 127 then s.reserved g else s

/-- Registers of group `g` that its releases, bring-up and lanes write beside its events (R169 to R178). -/
def grpReg (g a : Nat) : Bool :=
  among [Reg.PLK_GRP_STATUS g, Reg.PLK_GRP_MASK g, Reg.PLK_UP, Reg.PAGE_STATUS (grpPage g), Reg.SEQ (grpPage g)] a ||
    (List.range 16).any fun k => among [Reg.PLK_LANE_STATUS (16 * g + k), Reg.PAGE_STATUS (lanePage (16 * g + k))] a

/-- The map registers of group `g`, and the logical lanes that would take part in a bring-up (R169, R178). -/
def State.mapWritten (s : State) (g : Nat) : List Nat :=
  (List.range 16).map fun k => s.rf (if k < 8 then Reg.PLK_GRP_MAP_LO g else Reg.PLK_GRP_MAP_HI g) (4 * (k % 8) + 3) (4 * (k % 8))

def State.takers (s : State) (g : Nat) : List Nat := (List.range 16).filter fun k => s.laneTakes (16 * g + nth 0 (s.mapWritten g) k)

/-- A read of `n` bytes at `a` within one line, for requester `port`, gives `bs` (R38, R252, R257, R267); the line's bytes lie together. -/
def State.Reads (s : State) (port : Option Nat) (a n : Nat) (bs : List Byte) : Prop :=
  a % 64 + n ≤ 64 ∧ s.allowed port a false = true ∧
    ∃ c la, (∀ i < 64 - a % 64, s.locate (a + i) = some (c, la + i)) ∧ s.badLine c la = false ∧ bs = (List.range n).map fun i => s.byteAt c (la + i)

/-- Device memory of `t` and `s` reads alike, but for the cells whose keys `p` names. -/
def State.MemoryOutside (s t : State) (p : Nat → Prop) : Prop := ∀ c la, la < 2 ^ 37 → ¬ p (cellKey c la) → t.byteAt c la = s.byteAt c la

/-- Device memory of `t` and `s` reads alike, but for the bytes that writes of `n` bytes at the addresses `at_` store to (R38, R252). -/
def State.MemoryBut (s t : State) (at_ : Nat → Prop) (n : Nat) : Prop :=
  ∀ c la, la < 2 ^ 37 → (∀ a, at_ a → ¬ s.stores a n (cellKey c la)) → t.byteAt c la = s.byteAt c la

/-- The rows of walked band number `i` of view `pv` written, one after the other, to their places in the buffer at `base` (R103). -/
def State.putBand (s : State) (f : Frame) (pv : PView) (i base : Nat) : State :=
  let r := bandRows f.layout (f.band i)
  (List.range (r.2 + 1 - r.1)).foldl (fun (x : State) k =>
    (x.writeMem pv.port ((base + (r.1 + k) * pv.pitch) % 2 ^ 40) ((List.range 3840).flatMap fun c => leBytes 4 (s.staged f pv.view i (r.1 + k) c))).1) s

/-- A write of `n` bytes at `a` within one line, for requester `port`, reaches memory (R38, R252). -/
def State.Writable (s : State) (port : Option Nat) (a n : Nat) : Prop :=
  a % 64 + n ≤ 64 ∧ s.allowed port a true = true ∧ ∃ c la, s.locate a = some (c, la)

/-- Memory of `t` holds `bs` where address `a` of `s` lies. -/
def State.Stored (s t : State) (a : Nat) (bs : List Byte) : Prop :=
  ∃ c la, s.locate a = some (c, la) ∧ ∀ i < bs.length, t.byteAt c (la + i) = nth 0 bs i

/-- Registers that count the bytes of the memory channels (R276). -/
def memReg (a : Nat) : Bool := (List.range 6).any fun c => among [Reg.DMC_CH_RD_BYTES c, Reg.DMC_CH_WR_BYTES c] a

/-- Registers that show what ingest is doing (R24, R203 to R206). -/
def ingReg (a : Nat) : Bool :=
  ((List.range 4).any fun p => among [Reg.PAGE_STATUS (rxPage p), Reg.PAGE_STATUS (trayPage p), Reg.TRAY_STATUS p] a) ||
    (List.range 24).any fun e => among [Reg.PAGE_STATUS (dcpPage e), Reg.DCP_STATUS e] a

/-- The next envelope of tray `p` is `e`, fetched without a fault, and the tray takes it (R189, R191). -/
def State.Envelope (s : State) (p : Nat) (e : List Byte) : Prop :=
  s.trayFetches p = true ∧ envOk e = true ∧
    s.Reads (some p) (((s.tray p).base + 64 * (s.rf (Reg.TRAY_HEAD p) 16 0 % 2 ^ (s.tray p).size)) % 2 ^ 40) 64 e

/-- Engine `e` after it has taken job `j` (R199): its running job, or the one behind that. -/
def State.dcpWith (s : State) (e : Nat) (j : DJob) : Dcp :=
  if (s.dcp e).running.isNone then { s.dcp e with running := some j, consumed := false } else { s.dcp e with taken := some j }

/-- A job's queue is that of a receiver or of a tray, its rights are those of a host port or of MGT, and its fence counter is one of R120. -/
def DJob.ok (j : DJob) : Prop := j.unit < 4 ∧ (∀ p, j.port = some p → p < 4) ∧ ∀ f, j.fence = some f → f.1 < 256

/-- The address of the next receipt of tray `p` (R193). -/
def State.rcptAddr (s : State) (p : Nat) : Nat := ((s.tray p).rcpt + 32 * (s.rf (Reg.RCPT_TAIL p) 16 0 % 2 ^ (s.tray p).size)) % 2 ^ 40

/-- Registers of the compressors that show what they hold (R24, R224). -/
def cmpReg (a : Nat) : Bool := (List.range 4).any fun e => among [Reg.CMP_STATUS e, Reg.PAGE_STATUS (cmpPage e)] a

/-- A cell of one of the buffers of a compression job. -/
def State.inBuffer (s : State) (j : CJob) (k : Nat) : Prop :=
  ∃ b ∈ j.bufs, ∃ i < b.2, ∃ c la, s.locate ((b.1 + i) % 2 ^ 40) = some (c, la) ∧ k = cellKey c la

/-- Print pages that the strip of a capture needs (R221). -/
def State.stripPages (s : State) (c : Capture) : Nat :=
  let en := s.pEntry c.entry
  let bpp := if en.front ≠ en.last ∨ is16F (s.active en.front slFormat) then 8 else 4
  ((cmpStream (clampN 4 9 (s.rf Reg.CMP_PRINT_CTRL 11 8)) (stripBytes bpp c.strip (2 * geoLensH s.geo.layout) (s.stripRows c))).length + 4095) / 4096

/-- Registers that show what the block engine is doing (R24, R243). -/
def blkReg (a : Nat) : Bool :=
  among [Reg.BLK_MOVERS, Reg.PAGE_STATUS blkPage] a || (List.range 4).any fun p => among [Reg.BLK_Q_STATUS p, Reg.PAGE_STATUS (blkQPage p)] a

/-- Queue `p` fetches the descriptor `d` without a fault, its checks hold, and nothing is before it (R229, R231). -/
def State.Descriptor (s : State) (p : Nat) (d : List Byte) : Prop :=
  s.takesWork blkPage = true ∧ s.takesWork (blkQPage p) = true ∧ s.rf (Reg.BLK_Q_HEAD p) 15 0 ≠ s.rf (Reg.BLK_Q_TAIL p) 15 0 ∧ s.blkStopped p = false ∧ s.blkFull p = false ∧
    (s.bqueue p).ops = [] ∧ (s.bqueue p).held = [] ∧ s.queueRuns p = false ∧ (parseDesc p (s.rf (Reg.BLK_Q_HEAD p) 15 0) d).bad = false ∧
    s.Reads (some p) (((s.bqueue p).base + 64 * (s.rf (Reg.BLK_Q_HEAD p) 15 0 % 2 ^ (s.bqueue p).size)) % 2 ^ 40) 64 d

/-- The address of the next receipt of queue `p` (R227). -/
def State.blkRcpt (s : State) (p : Nat) : Nat := ((s.bqueue p).rcpt + 32 * (s.rf (Reg.BLK_R_TAIL p) 15 0 % 2 ^ (s.bqueue p).size)) % 2 ^ 40

/-- Frame `f` is of a length that R280 takes, its FCS is right, and it bears at most one tag. -/
def goodFrame (bytes : List Byte) : Prop :=
  64 ≤ bytes.length ∧ bytes.length ≤ 9216 ∧ withFcs (bytes.take (bytes.length - 4)) = bytes ∧ (ethParse (bytes.take (bytes.length - 4))).tags < 2 ∧
    (ethParse (bytes.take (bytes.length - 4))).etype ≠ 0x8808

/-- The host queue of port `p` can write a receipt, at address `a` (R283, R286). -/
def State.TxRing (s : State) (p a : Nat) : Prop :=
  s.txrFull p = false ∧ s.txStopped p = false ∧ a = ((s.netPort p).rcpt + 32 * (s.rf (Reg.NET_TXR_TAIL p) 15 0 % 2 ^ (s.netPort p).size)) % 2 ^ 40

end Sys2Proof.Machine
end

