-- ==== Sys2Proof/Certificates/Slice0/Obligations.lean ====
section
/-! DEFINITION. The statements for the provers. Each says what a family of commands, or the block as a whole, does; `Ends c s P` says that command
`c` completes in state `s` in a next state of which `P` holds. -/
open Sys2Proof Sys2Proof.Machine

/-! ### The block as a whole -/

/-- A step runs the command at the front of the queue on the state with the queue's rest (the model's own queue, log 8). -/
def Obligations.StepRunsFrontCommand : Prop :=
  ∀ (c : Instr) (rest : List Instr) (s : State), step { s with pending := c :: rest } = exec c { s with pending := rest }

/-- With an empty queue one millisecond passes (DESIGN CHOICE, log 8): the collector's counter moves on (R340), the clock advances by 500,000 ticks
of RATE where the time unit is enabled (R291), an open countersign window is a millisecond shorter (R35), and nothing is stored. -/
def Obligations.EmptyQueueIsOneMillisecond : Prop :=
  ∀ s : State, s.pending = [] → ∃ t, step s = .next t ∧ t.mem = s.mem ∧ t.sec = s.sec ∧ t.cal = s.cal ∧ t.pending = [] ∧
    t.rd Reg.FLT_MS = (if s.computeOn then s.rd Reg.FLT_MS + 1 else s.rd Reg.FLT_MS) ∧
    t.clock = (if s.computeOn && s.enabled (Reg.page 14 0) then s.clock.add (500000 * s.tim.rate) else s.clock) ∧
    ∀ k < 6, s.computeOn = true → s.csState k = 1 →
      (s.rn (Reg.CS_REMAIN k) ≤ 1 → t.csState k = 4) ∧ (2 ≤ s.rn (Reg.CS_REMAIN k) → t.csState k = 1 ∧ t.rn (Reg.CS_REMAIN k) + 1 = s.rn (Reg.CS_REMAIN k))

/-- Every command has its effect in every state: none stops the block; it leaves the queue of waiting commands alone, and takes back nothing that
the device has sent. -/
def Obligations.EveryCommandCompletes : Prop := ∀ (c : Instr) (s : State), Ends c s fun t => t.pending = s.pending ∧ s.sent <+: t.sent

/-- The state after reset has the invariant. -/
def Obligations.ResetHasInvariant : Prop := State.reset.Inv

/-- Every step keeps the invariant: canonical register file and memory, a service-die queue of at most 32 events, at most 16 windows, a clock
whose fields carry. -/
def Obligations.StepKeepsInvariant : Prop := ∀ s t : State, s.Inv → step s = .next t → t.Inv

/-- A blown fuse bit never returns to 0, whatever the step. -/
def Obligations.FuseBitsStayBlown : Prop := ∀ s t : State, step s = .next t → s.sec.fuses.le t.sec.fuses

/-! ### Registers, ownership and pairs (R5 to R8, R23, R27 to R32) -/

/-- Reads of an absent page or of an offset that no table defines return zero, writes there have no effect, and both complete (R7, R23); reserved BAR0 space is
absent, and so are the pages of a port that the straps do not create. -/
def Obligations.ReservedSpaceReadsZero : Prop :=
  ∀ s : State,
    (∀ a, 0x1600000 ≤ a → s.present a = false) ∧
    (∀ q < 4, s.ports ≤ q → ∀ off < 0x1000, s.present (Reg.page 0 (1 + q) + off) = false ∧ s.present (Reg.page 8 (5 + q) + off) = false ∧ s.present (Reg.page 11 (1 + q) + off) = false) ∧
    ∀ (p : Party) (reg : Fin 16777216) (v : Word) (c : Instr), s.present (4 * reg) = false ∨ regRow (4 * reg) = none →
      (c = .registerWrite p reg v [] ∨ c = .pairLowWrite p reg v ∨ c = .pairHighWrite p reg v → Ends c s fun t => Within [.hif] (fun _ => false) s t) ∧
      (c = .rcRead p reg ∨ c = .pairLowRead p reg ∨ c = .pairHighRead p reg → s.reaches p = true → Ends c s fun t => t.reply = .word 0 ∧ Within [.hif, .reply] (fun _ => false) s t)

/-- A write by a party without its bit in the page's PAGE_OWNER is dropped: HIF_OWN_VIOL counts it, HIF_OWN_LAST holds the party and the offset,
the page's registers and SEQ stay, and nothing is stored. DBG at level FULL, and MGT before sealing, are exempt (R28). -/
def Obligations.ForeignWriteIsDropped : Prop :=
  ∀ (p : Party) (reg : Fin 16777216) (v : Word) (r : RegRow) (s : State),
    s.reaches p = true → s.present (4 * reg) = true → regRow (4 * reg) = some r → s.partyRule p (4 * reg) v.toNat = none →
    hasHeader (4 * reg / 0x100000) (4 * reg / 0x1000 % 256) = true →
    s.rb (Reg.PAGE_OWNER (4 * reg / 0x1000 * 0x1000)) (partyCode p) = false → p ≠ .dbg → (p = .mgt → s.sealed = true) →
    Ends (.registerWrite p reg v []) s fun t =>
      t.rn Reg.HIF_OWN_VIOL = min (2 ^ 32 - 1) (s.rn Reg.HIF_OWN_VIOL + 1) ∧ t.rd Reg.HIF_OWN_LAST = wd (partyCode p * 2 ^ 28 + 4 * reg % 2 ^ 26) ∧
      t.mem = s.mem ∧ t.rd (Reg.PAGE_OWNER (4 * reg / 0x1000 * 0x1000)) = s.rd (Reg.PAGE_OWNER (4 * reg / 0x1000 * 0x1000)) ∧
      t.rd (Reg.SEQ (4 * reg / 0x1000 * 0x1000)) = s.rd (Reg.SEQ (4 * reg / 0x1000 * 0x1000)) ∧
      Within noticeFields (fun a => faultReg a || among [Reg.HIF_OWN_VIOL, Reg.HIF_OWN_LAST] a) s t

/-- After sealing, a direct write to an RWK register by any party whatever is dropped and counted (R31). -/
def Obligations.SealedProtectionIsDropped : Prop :=
  ∀ (p : Party) (reg : Fin 16777216) (v : Word) (r : RegRow) (s : State),
    s.sealed = true → s.reaches p = true → s.present (4 * reg) = true → regRow (4 * reg) = some r → r.acc = .rwk →
    Ends (.registerWrite p reg v []) s fun t =>
      t.rn Reg.HIF_OWN_VIOL = min (2 ^ 32 - 1) (s.rn Reg.HIF_OWN_VIOL + 1) ∧ t.rd Reg.HIF_OWN_LAST = wd (partyCode p * 2 ^ 28 + 4 * reg % 2 ^ 26) ∧
      t.rd (4 * reg) = s.rd (4 * reg) ∧ t.mem = s.mem

/-- An allowed write of ERR_WINDOW of any page with a header is limited to 1 to 3,600 (R452) and stored, counts in SEQ (R30), and changes no other
register and nothing else. Of two such writes in one fabric cycle, by two parties, the one of the party that comes later in R29's order stays. -/
def Obligations.HeaderWriteIsStored : Prop :=
  ∀ (p : Party) (pg : Fin 5632) (v : Word) (s : State),
    hasHeader (pg.val / 256) (pg.val % 256) = true → Allowed s p (Reg.ERR_WINDOW (pg.val * 0x1000)) v →
    (Ends (.registerWrite p ⟨(pg.val * 0x1000 + 0x28) / 4, by omega⟩ v []) s fun t =>
      t.rf (Reg.ERR_WINDOW (pg.val * 0x1000)) 15 0 = clampN 1 3600 (v.toNat % 65536) ∧
      t.rd (Reg.SEQ (pg.val * 0x1000)) = s.rd (Reg.SEQ (pg.val * 0x1000)) + 1 ∧
      Within [.regs, .hif] (fun a => a == Reg.ERR_WINDOW (pg.val * 0x1000) || a == Reg.SEQ (pg.val * 0x1000)) s t) ∧
    (∀ (q : Party) (w : Word), q ≠ p → Allowed s q (Reg.ERR_WINDOW (pg.val * 0x1000)) w →
      Ends (.registerWrite p ⟨(pg.val * 0x1000 + 0x28) / 4, by omega⟩ v [⟨q, ⟨(pg.val * 0x1000 + 0x28) / 4, by omega⟩, w⟩]) s fun t =>
        t.rf (Reg.ERR_WINDOW (pg.val * 0x1000)) 15 0 = clampN 1 3600 ((if cyclePlace p < cyclePlace q then w else v).toNat % 65536) ∧
        t.rd (Reg.SEQ (pg.val * 0x1000)) = s.rd (Reg.SEQ (pg.val * 0x1000)) + 2 ∧
        Within [.regs, .hif] (fun a => a == Reg.ERR_WINDOW (pg.val * 0x1000) || a == Reg.SEQ (pg.val * 0x1000)) s t)


/-- Pairs (R5). A read of the low word latches the high word for the reading party; the next read of the high word by that party returns the latched value and uses
it up; without one it returns what the register reads as. A write of the low word, here of GEO_LOAD_ADDR, is held for the writing party and nothing is
applied; the high word applies both, or, with no held low word, itself beside the present low word. -/
def Obligations.PairsReadAndWrite : Prop :=
  ∀ (p : Party) (s : State),
    (∀ (lo hi : Fin 16777216) (r rh : RegRow), hi.val = lo.val + 1 → s.reaches p = true → s.present (4 * lo) = true → s.present (4 * hi) = true →
      regRow (4 * lo) = some r → regRow (4 * hi) = some rh → r.lat = [4] → r.acc ≠ .rc → rh.lat = [] → rh.acc ≠ .rc → (∀ g < 6, 4 * hi.val ≠ Reg.PLK_GRP_BC_HI g) →
      (s.latched p (4 * lo) = none → Ends (.pairLowRead p lo) s fun t =>
        t.reply = .word (s.regValue p (4 * lo)) ∧ t.latched p (4 * hi) = some (s.regValue p (4 * hi)) ∧ Within [.reply, .hif] (fun _ => false) s t) ∧
      (∀ w, s.latched p (4 * hi) = some w → Ends (.pairHighRead p hi) s fun t =>
        t.reply = .word w ∧ t.latched p (4 * hi) = none ∧ Within [.reply, .hif] (fun _ => false) s t) ∧
      (s.latched p (4 * hi) = none → Ends (.pairHighRead p hi) s fun t =>
        t.reply = .word (s.regValue p (4 * hi)) ∧ Within [.reply, .hif] (fun _ => false) s t)) ∧
    (∀ v, Allowed s p Reg.GEO_LOAD_ADDR_LO v → Ends (.pairLowWrite p ⟨Reg.GEO_LOAD_ADDR_LO / 4, by decide⟩ v) s fun t =>
      t.held p Reg.GEO_LOAD_ADDR_LO = some v ∧ t.rd Reg.GEO_LOAD_ADDR_LO = s.rd Reg.GEO_LOAD_ADDR_LO ∧ Within [.regs, .hif] (fun a => a == Reg.SEQ (Reg.page 3 0)) s t) ∧
    (∀ v, Allowed s p Reg.GEO_LOAD_ADDR_HI v → Ends (.pairHighWrite p ⟨Reg.GEO_LOAD_ADDR_HI / 4, by decide⟩ v) s fun t =>
      t.held p Reg.GEO_LOAD_ADDR_LO = none ∧ t.rf Reg.GEO_LOAD_ADDR_HI 7 0 = v.toNat % 256 ∧
      (∀ w, s.held p Reg.GEO_LOAD_ADDR_LO = some w → t.rn Reg.GEO_LOAD_ADDR_LO / 64 = w.toNat / 64) ∧
      (s.held p Reg.GEO_LOAD_ADDR_LO = none → t.rn Reg.GEO_LOAD_ADDR_LO / 64 = s.rn Reg.GEO_LOAD_ADDR_LO / 64) ∧
      Within [.regs, .hif] (fun a => a == Reg.SEQ (Reg.page 3 0) || a == Reg.GEO_LOAD_ADDR_LO || a == Reg.GEO_LOAD_ADDR_HI) s t)

/-- A read of an RC register returns its value and then clears it to zero (R8), here each page's ERR_CNT. -/
def Obligations.ReadClears : Prop :=
  ∀ (p : Party) (pg : Fin 5632) (s : State), s.reaches p = true → s.present (pg.val * 0x1000) = true → hasHeader (pg.val / 256) (pg.val % 256) = true →
    s.latched p (Reg.ERR_CNT (pg.val * 0x1000)) = none →
    Ends (.rcRead p ⟨(pg.val * 0x1000 + 0x24) / 4, by omega⟩) s fun t =>
      t.reply = .word (s.rd (Reg.ERR_CNT (pg.val * 0x1000))) ∧ t.rd (Reg.ERR_CNT (pg.val * 0x1000)) = 0 ∧
      Within [.regs, .reply, .hif] (fun a => a == Reg.ERR_CNT (pg.val * 0x1000)) s t

/-! ### Events (R41 to R43, R454) -/

/-- A rising edge of an event condition (R41), made by EVT_FORCE: with EVT_EN set and PEND clear, PEND sets; with EN clear or PEND set already, no
PEND bit changes and nothing is sent. Device memory stays. -/
def Obligations.ForcedEdgePends : Prop :=
  ∀ (p : Party) (pg : Fin 5632) (i : Fin 32) (s : State),
    hasHeader (pg.val / 256) (pg.val % 256) = true → i.val < (pageSrc evtRanges (pg.val / 256) (pg.val % 256)).2 →
    Allowed s p (Reg.EVT_FORCE (pg.val * 0x1000)) (wd (2 ^ i.val)) →
    Ends (.evtForce p pg (wd (2 ^ i.val))) s fun t =>
      t.rb (Reg.EVT_PEND (pg.val * 0x1000)) i = (s.rb (Reg.EVT_PEND (pg.val * 0x1000)) i || s.rb (Reg.EVT_EN (pg.val * 0x1000)) i) ∧
      ((s.rb (Reg.EVT_EN (pg.val * 0x1000)) i = false ∨ s.rb (Reg.EVT_PEND (pg.val * 0x1000)) i = true) →
        Within [.regs, .hif] (fun a => a == Reg.SEQ (pg.val * 0x1000)) s t) ∧
      Within [.regs, .hif, .svc, .sent] (fun a => evtReg a || a == Reg.SEQ (pg.val * 0x1000)) s t

/-- Writing 1 to a bit of EVT_PEND clears it, and writing 0 leaves it (R8, R25); nothing else changes but SEQ. -/
def Obligations.PendClears : Prop :=
  ∀ (p : Party) (pg : Fin 5632) (v : Word) (s : State), hasHeader (pg.val / 256) (pg.val % 256) = true →
    Allowed s p (Reg.EVT_PEND (pg.val * 0x1000)) v →
    Ends (.evtPendClear p pg v) s fun t =>
      (∀ i < (pageSrc evtRanges (pg.val / 256) (pg.val % 256)).2,
        t.rb (Reg.EVT_PEND (pg.val * 0x1000)) i = (s.rb (Reg.EVT_PEND (pg.val * 0x1000)) i && !bit v i)) ∧
      Within [.regs, .hif] (fun a => a == Reg.EVT_PEND (pg.val * 0x1000) || a == Reg.SEQ (pg.val * 0x1000)) s t

/-- Unmasking a vector whose PBA bit is set (R43): where the function may send, one message goes out, of the vector's address and data, and the bit
clears; where it may not (MSI-X not enabled or masked whole, no bus mastering, the port fenced), the bit stays and nothing is sent. -/
def Obligations.UnmaskingSends : Prop :=
  ∀ (port : Fin 4) (vec : Fin 256) (s : State), Allowed s (partyOf port) (Reg.MSIX port vec 3) 0 →
    s.rb (Reg.PBA port (vec / 32)) (vec % 32) = true → s.hif.cycleVecs = [] →
    (s.msixReady port = true → Ends (.msixUnmask port vec) s fun t =>
      t.rb (Reg.MSIX port vec 3) 0 = false ∧ t.rb (Reg.PBA port (vec / 32)) (vec % 32) = false ∧
      t.sent = s.sent ++ [.msix port vec (s.rd (Reg.MSIX port vec 0)) (s.rd (Reg.MSIX port vec 1)) (s.rd (Reg.MSIX port vec 2))] ∧
      Within [.regs, .hif, .sent] (fun a => a == Reg.MSIX port vec 3 || a == Reg.PBA port (vec / 32)) s t) ∧
    (s.msixReady port = false → Ends (.msixUnmask port vec) s fun t =>
      t.rb (Reg.MSIX port vec 3) 0 = false ∧ Within [.regs, .hif] (fun a => a == Reg.MSIX port vec 3) s t)

/-! ### Pages at work: ENABLE, drains, self-tests, fences (R24, R26, R347, R455) -/

/-- ENABLE of a page of no unit and no queue (R26): set, STATE becomes IDLE, or RUN where its work is in flight, and DRAIN_TO clears; cleared with
DRAIN, STATE becomes DRAINING while the work lasts and else IDLE; DRAIN_END ends the drain; DRAIN_TIMEOUT_EXPIRY of a drain still running sets
DRAIN_TO and turns the drain into a discard. Nothing else changes, but for the NOTICE fault of the timeout. -/
def Obligations.PagesEnableAndDrain : Prop :=
  ∀ (p : Party) (k : Fin 5632) (pg : Nat) (s : State), pg = k.val * 0x1000 → plainPage pg = true →
    (∀ v, v = s.rd (Reg.PAGE_CTRL pg) ||| 1 → Allowed s p (Reg.PAGE_CTRL pg) v → s.rb (Reg.PAGE_CTRL pg) 0 = false → s.rb (Reg.PAGE_CTRL pg) 4 = false →
      s.pgState pg ≤ 3 → Ends (.pageEnable p k) s fun t =>
        t.rd (Reg.PAGE_CTRL pg) = v ∧ t.pgState pg = (if s.pageBusy pg then 2 else 1) ∧ t.rb (Reg.PAGE_STATUS pg) 8 = false ∧
        t.rd (Reg.SEQ pg) = s.rd (Reg.SEQ pg) + 1 ∧ Within [.regs, .hif] (among [Reg.PAGE_CTRL pg, Reg.PAGE_STATUS pg, Reg.SEQ pg]) s t) ∧
    (∀ (mode : Fin 4) v, v = setBit (setFld (s.rd (Reg.PAGE_CTRL pg)) 2 1 mode) 0 false → Allowed s p (Reg.PAGE_CTRL pg) v →
      s.rb (Reg.PAGE_CTRL pg) 0 = true → s.rb (Reg.PAGE_CTRL pg) 4 = false → 1 ≤ s.pgState pg → s.pgState pg ≤ 3 → mode.val ≠ 1 →
      Ends (.pageDisable p k mode) s fun t =>
        t.rb (Reg.PAGE_CTRL pg) 0 = false ∧ t.rf (Reg.PAGE_CTRL pg) 2 1 = mode ∧ t.pgState pg = (if s.pageBusy pg then 3 else 1) ∧
        t.rd (Reg.SEQ pg) = s.rd (Reg.SEQ pg) + 1 ∧ Within [.regs, .hif] (among [Reg.PAGE_CTRL pg, Reg.PAGE_STATUS pg, Reg.SEQ pg]) s t) ∧
    (s.enabled pg = false → s.pgState pg = 3 → s.pageBusy pg = false → Ends (.drainEnd k) s fun t =>
      t.pgState pg = 1 ∧ t.discarding pg = false ∧ Within [.regs, .hif] (among [Reg.PAGE_STATUS pg]) s t) ∧
    (s.enabled pg = false → s.pgState pg = 3 → s.pageBusy pg = true → s.discarding pg = false → pageFn pg ≠ .cal →
      Ends (.drainTimeoutExpiry k) s fun t =>
        t.rb (Reg.PAGE_STATUS pg) 8 = true ∧ t.pgState pg = 3 ∧ t.discarding pg = true ∧
        Within noticeFields (fun a => faultReg a || a == Reg.PAGE_STATUS pg) s t)

/-- Self-tests (R455): TEST set while the page's chapter allows it starts one, STATE reads TEST and the result none; its end clears TEST, gives
the result, 3 for a pass and 2 for a failure, and STATE goes back to what it was. The BLK common page tests both movers, and passes where both do (R243). -/
def Obligations.PagesTestThemselves : Prop :=
  ∀ (k : Fin 5632) (pg : Nat) (s : State), pg = k.val * 0x1000 → hasHeader (pg / 0x100000) (pg / 0x1000 % 256) = true →
    (∀ p, Allowed s p (Reg.PAGE_CTRL pg) (setBit (s.rd (Reg.PAGE_CTRL pg)) 4 true) → s.rb (Reg.PAGE_CTRL pg) 4 = false → s.testOk pg = true →
      Ends (.pageTest p k) s fun t =>
        t.rb (Reg.PAGE_CTRL pg) 4 = true ∧ t.pgState pg = 5 ∧ t.rf (Reg.PAGE_STATUS pg) 7 6 = 0 ∧ t.testPrev pg = s.pgState pg ∧
        t.rd (Reg.SEQ pg) = s.rd (Reg.SEQ pg) + 1 ∧
        Within [.regs, .hif, .svc, .sent, .syn, .plk, .freeCtr] (fun a => evtReg a || among [Reg.PAGE_CTRL pg, Reg.PAGE_STATUS pg, Reg.SEQ pg] a) s t) ∧
    (∀ pass second, s.rb (Reg.PAGE_CTRL pg) 4 = true → s.pgState pg = 5 → (∀ e ∈ s.pwr.stored, e.1 ≠ pg) →
      Ends (.selftestEnd k pass second) s fun t =>
        t.rb (Reg.PAGE_CTRL pg) 4 = false ∧ t.rf (Reg.PAGE_STATUS pg) 7 6 = (if pass = true ∧ (pg ≠ blkPage ∨ second = true) then 3 else 2) ∧
        (pg = blkPage → t.rf Reg.BLK_MOVER_TEST 3 0 = 5 + 2 * b2n pass + 8 * b2n second) ∧ t.pgState pg = s.testPrev pg % 8 ∧
        Within [.regs, .hif, .svc, .sent, .syn, .freeCtr] (fun a => evtReg a || among [Reg.PAGE_CTRL pg, Reg.PAGE_STATUS pg, Reg.BLK_MOVER_TEST] a ||
          ((List.range 6).any fun c => a == Reg.DMC_CH_SELFTEST c) || (List.range 96).any fun l => a == Reg.PLK_LANE_PRBS_ERR l) s t)

/-- Fence requests and returns (R24, R347): FENCE_REQ on a slice in service marks it to leave at its boundary; cleared on a fenced unit, it starts
the isolated test; the test's end gives the result, and RETURNING for a pass, FENCED, counted, for a failure; a returning slice, qualified lane or
management pair then joins. -/
def Obligations.UnitsFenceAndReturn : Prop :=
  ∀ s : State, s.Shape →
    (∀ (p : Party) (n : Fin 26), Allowed s p (Reg.PAGE_CTRL (slicePage n)) (setBit (s.rd (Reg.PAGE_CTRL (slicePage n))) 3 true) →
      s.rd (Reg.PAGE_CTRL (slicePage n)) &&& 0x18 = 0 → s.gated (slicePage n) = false → s.pgState (slicePage n) ≤ 3 →
      Ends (.fenceReqSet p ⟨slicePage n / 0x1000, by have := n.isLt; simp [slicePage, Reg.page]; omega⟩) s fun t =>
        t.rb (Reg.PAGE_CTRL (slicePage n)) 3 = true ∧ (t.slice n).leaving = true ∧ t.pgState (slicePage n) = s.pgState (slicePage n) ∧
        (∀ m < 26, m ≠ n.val → t.slice m = s.slice m) ∧
        Within [.regs, .hif, .syn] (among [Reg.PAGE_CTRL (slicePage n), Reg.SEQ (slicePage n)]) s t) ∧
    (∀ (p : Party) (u : FUnit) (a pg : Nat) (h : pg / 0x1000 < 5632), selftestReg u = some a → returnPage u = some pg →
      Allowed s p (Reg.PAGE_CTRL pg) (setBit (s.rd (Reg.PAGE_CTRL pg)) 3 false) → s.rd (Reg.PAGE_CTRL pg) &&& 0x18 = 8 → s.gated pg = false →
      s.pgState pg = 4 → Ends (.fenceReqClear p ⟨pg / 0x1000, h⟩) s fun t =>
        t.rb (Reg.PAGE_CTRL pg) 3 = false ∧ t.pgState pg = 5 ∧
        Within evtFields (fun b => evtReg b || among [Reg.PAGE_CTRL pg, Reg.PAGE_STATUS pg, Reg.SEQ pg] b) s t) ∧
    (∀ (u : FUnit) (a pg : Nat) (pass : Bool), selftestReg u = some a → returnPage u = some pg → s.rb (Reg.PAGE_CTRL pg) 4 = false →
      s.pgState pg = 5 → Ends (.returnTestEnd u pass) s fun t =>
        t.rf a 31 30 = 2 + b2n pass ∧ t.pgState pg = (if pass then 6 else 4) ∧ t.mem = s.mem ∧
        Within [.regs, .hif, .svc, .sent, .freeCtr] (fun b => evtReg b || b == a || b == Reg.PAGE_STATUS pg || fencesReg u == some b) s t) ∧
    (∀ (u : FUnit) (a b pg : Nat), selftestReg u = some a → fencesReg u = some b → returnPage u = some pg → s.rb (Reg.PAGE_CTRL pg) 4 = false →
      s.pgState pg = 5 → Ends (.returnTestEnd u false) s fun t => t.rn b = min (2 ^ 32 - 1) (s.rn b + 1)) ∧
    (∀ n : Fin 26, s.pgState (slicePage n) = 6 → s.enabled (slicePage n) = true → Ends (.unitJoin (.slice n)) s fun t =>
      (t.slice n).joining = true ∧ Within [.syn, .hif] (fun _ => false) s t) ∧
    (∀ l : Fin 96, s.laneQualified l = true → Ends (.unitJoin (.lane l)) s fun t =>
      (t.lane l).ready = true ∧ Within [.plk, .hif] (fun _ => false) s t) ∧
    (∀ i : Fin 2, s.mgtState i = 6 → Ends (.unitJoin (.mgtPair i)) s fun t =>
      t.mgtState i = 1 ∧ Within [.regs, .hif] (among [Reg.MGT_PAIR]) s t)

/-! ### Sealing and countersign (R31 to R36) -/

/-- Sealing (R31): MGT's write of 1 sets SEALED; its write of 0 leaves SEALED as it is; any other party's write is dropped and counted. -/
def Obligations.MgtAloneSeals : Prop :=
  ∀ (p : Party) (v : Word) (s : State), s.reaches p = true →
    (p = .mgt → bit v 0 = true → Ends (.hifSeal p v) s fun t =>
      t.sealed = true ∧ t.rd (Reg.SEQ 0) = s.rd (Reg.SEQ 0) + 1 ∧ Within [.regs, .hif] (among [Reg.HIF_SEAL, Reg.SEQ 0]) s t) ∧
    (p = .mgt → bit v 0 = false → Ends (.hifSeal p v) s fun t =>
      t.sealed = s.sealed ∧ t.rd (Reg.SEQ 0) = s.rd (Reg.SEQ 0) + 1 ∧ Within [.regs, .hif] (among [Reg.HIF_SEAL, Reg.SEQ 0]) s t) ∧
    (p ≠ .mgt → Ends (.hifSeal p v) s fun t =>
      t.sealed = s.sealed ∧ t.rn Reg.HIF_OWN_VIOL = min (2 ^ 32 - 1) (s.rn Reg.HIF_OWN_VIOL + 1) ∧
      t.rd Reg.HIF_OWN_LAST = wd (partyCode p * 2 ^ 28 + Reg.HIF_SEAL) ∧
      Within noticeFields (fun a => faultReg a || among [Reg.HIF_OWN_VIOL, Reg.HIF_OWN_LAST] a) s t)

/-- A slot's window (R33, R35): PROPOSE by its party opens it with the next NONCE, the digest of the proposal and HIF_CS_WINDOW milliseconds;
a proposal that is not well formed reads MALFORMED; WITHDRAW and the timeout close an open one. Protected registers stay. -/
def Obligations.SlotsOpenAndClose : Prop :=
  ∀ (p : Party) (k : Fin 6) (n : Nat) (s : State), p = partyOf k → n = s.rf (Reg.CS_COUNT k) 3 0 →
    (s.reaches p = true → s.csState k ≠ 1 → 1 ≤ n → n ≤ 8 → (∀ i < n, s.csTarget (s.rn (Reg.CS_OFFSET k i)) = true) → s.rb (Reg.CS_SIGNERS k) k = false →
      Ends (.csPropose p k) s fun t =>
        t.csState k = 1 ∧ t.rd (Reg.CS_NONCE k) = s.rd (Reg.CS_NONCE k) + 1 ∧ t.rn (Reg.CS_REMAIN k) = s.rf Reg.HIF_CS_WINDOW 15 0 ∧
        (∀ w < 16, t.rd (Reg.CS_DIGEST k w) = nth 0 ((s.cntWrap (Reg.CS_NONCE k)).csDigest k) w) ∧
        Within evtFields (fun a => evtReg a || among [Reg.CS_STATUS k, Reg.CS_NONCE k, Reg.CS_REMAIN k, Reg.SEQ (0x6000 + 0x1000 * k)] a ||
          (List.range 16).any fun w => a == Reg.CS_DIGEST k w) s t) ∧
    (s.reaches p = true → s.csState k ≠ 1 → (n = 0 ∨ 8 < n ∨ s.rb (Reg.CS_SIGNERS k) k = true) → Ends (.csPropose p k) s fun t =>
        t.csState k = 7 ∧ t.rd (Reg.CS_NONCE k) = s.rd (Reg.CS_NONCE k) ∧
        Within evtFields (fun a => evtReg a || among [Reg.CS_STATUS k, Reg.CS_REMAIN k, Reg.SEQ (0x6000 + 0x1000 * k)] a) s t) ∧
    (s.reaches p = true → s.csState k = 1 → Ends (.csWithdraw p k) s fun t =>
        t.csState k = 6 ∧ t.rn (Reg.CS_REMAIN k) = 0 ∧
        Within evtFields (fun a => evtReg a || among [Reg.CS_STATUS k, Reg.CS_REMAIN k, Reg.SEQ (0x6000 + 0x1000 * k)] a) s t) ∧
    (s.csState k = 1 → Ends (.csTimeout k) s fun t =>
        t.csState k = 4 ∧ t.rn (Reg.CS_REMAIN k) = 0 ∧ Within evtFields (fun a => evtReg a || among [Reg.CS_STATUS k, Reg.CS_REMAIN k] a) s t)

/-- CONFIRM (R34), here of a proposal of one PAGE_OWNER that is not fixed: with the digest's words staged by a party that has authority, the
owner is written, counted in its page's SEQ, and the slot reads APPLIED with the confirmer; a digest that differs reads MISMATCH and authority
that is missing reads NO_AUTHORITY, the owner as before. Of two proposals of one owner confirmed in one fabric cycle, that of the proposer later in
R29's order stays (R36). -/
def Obligations.ConfirmApplies : Prop :=
  ∀ (p : Party) (k : Fin 6) (pg : Nat) (s : State), p ≠ .dbg → partyCode p ≠ k.val → s.reaches p = true → s.csState k = 1 →
    (s.rf (Reg.CS_SIGNERS k) 5 0 = 0 ∨ (s.rf (Reg.CS_SIGNERS k) 5 0).testBit (partyCode p) = true) → s.rf (Reg.CS_COUNT k) 3 0 = 1 →
    pg % 0x1000 = 0 → s.rn (Reg.CS_OFFSET k 0) = Reg.PAGE_OWNER pg → s.present pg = true → hasHeader (pg / 0x100000) (pg / 0x1000 % 256) = true →
    fixedOwner (pg / 0x100000) (pg / 0x1000 % 256) = none →
    ((∀ w < 16, Sparse.get (fun _ => none) s.hif.csSign ((k * 8 + partyCode p) * 16 + w) = some (s.rd (Reg.CS_DIGEST k w))) →
      (s.csAuthority k (partyCode p) (Reg.PAGE_OWNER pg) = true → Ends (.csConfirm p k []) s fun t =>
        t.csState k = 2 ∧ t.rf (Reg.CS_STATUS k) 10 8 = partyCode p ∧
        t.rd (Reg.PAGE_OWNER pg) = (s.rd (Reg.PAGE_OWNER pg) &&& ~~~0x3F) ||| (s.rd (Reg.CS_VALUE k 0) &&& 0x3F) ∧
        t.rd (Reg.SEQ pg) = s.rd (Reg.SEQ pg) + 1 ∧
        Within evtFields (fun a => evtReg a || among [Reg.CS_STATUS k, Reg.CS_REMAIN k, Reg.SEQ (0x6000 + 0x1000 * k), Reg.PAGE_OWNER pg, Reg.SEQ pg] a) s t) ∧
      (s.csAuthority k (partyCode p) (Reg.PAGE_OWNER pg) = false → Ends (.csConfirm p k []) s fun t =>
        t.csState k = 8 ∧ Within evtFields (fun a => evtReg a || among [Reg.CS_STATUS k, Reg.CS_REMAIN k, Reg.SEQ (0x6000 + 0x1000 * k)] a) s t)) ∧
    (∀ w < 16, Sparse.get (fun _ => none) s.hif.csSign ((k * 8 + partyCode p) * 16 + w) ≠ some (s.rd (Reg.CS_DIGEST k w)) →
      Ends (.csConfirm p k []) s fun t =>
        t.csState k = 3 ∧ Within noticeFields (fun a => faultReg a || among [Reg.CS_STATUS k, Reg.CS_REMAIN k, Reg.SEQ (0x6000 + 0x1000 * k)] a) s t) ∧
    (∀ (p' : Party) (k' : Fin 6), k' ≠ k → s.Confirms p k (Reg.PAGE_OWNER pg) → s.Confirms p' k' (Reg.PAGE_OWNER pg) →
      Ends (.csConfirm p k [(p', k')]) s fun t =>
        t.csState k = 2 ∧ t.csState k' = 2 ∧ t.rd (Reg.SEQ pg) = s.rd (Reg.SEQ pg) + 2 ∧
        t.rd (Reg.PAGE_OWNER pg) = (s.rd (Reg.PAGE_OWNER pg) &&& ~~~0x3F) |||
          (s.rd (Reg.CS_VALUE (if cyclePlace (partyOf k) < cyclePlace (partyOf k') then k' else k) 0) &&& 0x3F))

/-! ### Memory through BAR2, and ports (R21, R37 to R39, R420) -/

/-- A BAR2 request within one 64-byte line (R37 to R39, R252): a read allowed by the pigeonholes returns the bytes that its channel-local
address reads as; after a write exactly its bytes read there and no other byte reads otherwise; one that is denied returns an unsupported request or
stores nothing, and is counted. -/
def Obligations.BarReadsAndWrites : Prop :=
  ∀ (port : Fin 4) (a : BitVec 40) (s : State), s.reaches (partyOf port) = true →
    (∀ (len : Fin 4097) (c la : Nat), 1 ≤ len.val → a.toNat % 64 + len ≤ 64 → s.phAllows port a.toNat false = true → s.locate a.toNat = some (c, la) →
      s.badLine c la = false → Ends (.bar2Read port a len) s fun t =>
        t.reply = .bytes ((List.range len).map fun i => s.byteAt c (la + i)) ∧
        Within [.regs, .reply, .dmc, .hif] (among [Reg.DMC_CH_RD_BYTES c]) s t) ∧
    (∀ (d : List Byte) (c la : Nat), d ≠ [] → a.toNat % 64 + d.length ≤ 64 → s.phAllows port a.toNat true = true → s.locate a.toNat = some (c, la) →
      Ends (.bar2Write port a d) s fun t =>
        (∀ i < d.length, t.byteAt c (la + i) = nth 0 d i) ∧
        (∀ c' la', la' < 2 ^ 37 → c' ≠ c ∨ la' < la ∨ la + d.length ≤ la' → t.byteAt c' la' = s.byteAt c' la') ∧
        Within [.regs, .mem, .dmc, .hif] (among [Reg.DMC_CH_WR_BYTES c]) s t) ∧
    (∀ len : Fin 4097, s.phAllows port a.toNat false = false → Ends (.bar2Read port a len) s fun t =>
      t.reply = .unsupportedRequest ∧ t.rn Reg.HIF_PH_VIOL = min (2 ^ 32 - 1) (s.rn Reg.HIF_PH_VIOL + 1) ∧
      t.rn Reg.HIF_PH_LAST_LO = a.toNat % 2 ^ 32 ∧ t.rf Reg.HIF_PH_LAST_HI 18 16 = port ∧
      Within (.reply :: noticeFields) (fun b => faultReg b || among [Reg.HIF_PH_VIOL, Reg.HIF_PH_LAST_LO, Reg.HIF_PH_LAST_HI] b) s t) ∧
    (∀ d : List Byte, s.phAllows port a.toNat true = false → Ends (.bar2Write port a d) s fun t =>
      t.rn Reg.HIF_PH_VIOL = min (2 ^ 32 - 1) (s.rn Reg.HIF_PH_VIOL + 1) ∧ t.rf Reg.HIF_PH_LAST_HI 20 20 = 1 ∧
      Within noticeFields (fun b => faultReg b || among [Reg.HIF_PH_VIOL, Reg.HIF_PH_LAST_LO, Reg.HIF_PH_LAST_HI] b) s t)

/-- Port resets (R21, R44, R420): a function-level reset is counted; it and a link reset close the port's open proposal as reset, return its
MSI-X table and PBA to their reset values and clear the enables of its route entries; a link reset clears HIF_PORT_STATUS; either ends the function's configuration,
so that no message goes out (R43); a link that comes up shows its width, speed and configuration. -/
def Obligations.PortsReset : Prop :=
  ∀ (p : Fin 4) (s : State), s.Shape → s.computeOn = true → p.val < s.ports →
    (∀ c, c = Instr.functionLevelReset p ∨ c = Instr.linkReset p → Ends c s fun t =>
      (s.csState p = 1 → t.csState p = 5) ∧ t.portFenced p = false ∧
      (∀ vec < 256, ∀ k < 4, t.rd (Reg.MSIX p vec k) = wd (b2n (k == 3))) ∧ (∀ w < 8, t.rd (Reg.PBA p w) = 0) ∧
      (∀ src < 2048, (t.route p src).1 = false) ∧ nth Tray.reset t.ing.trays p = Tray.reset ∧
      t.rn (Reg.HIF_PORT_FLR_CNT p) = (if c = Instr.functionLevelReset p then (s.rn (Reg.HIF_PORT_FLR_CNT p) + 1) % 2 ^ 32 else s.rn (Reg.HIF_PORT_FLR_CNT p)) ∧
      t.rd (Reg.HIF_PORT_STATUS p) = (if c = Instr.linkReset p then 0 else setBit (s.rd (Reg.HIF_PORT_STATUS p)) 12 false) ∧ t.msixReady p = false) ∧
    (∀ (width : Fin 5) (speed : Fin 6) (cfg : PcieCfg), Ends (.pcieLinkUp p width speed cfg) s fun t =>
      t.rn (Reg.HIF_PORT_STATUS p) = 1 + width * 16 + speed * 256 + b2n cfg.busMaster * 4096 ∧
      t.msixReady p = (cfg.msixEnable && !cfg.functionMask && cfg.busMaster && !s.portFenced p) ∧
      (s.rb (Reg.HIF_PORT_STATUS p) 0 = true → t.msixReady p = false → Within [.regs, .hif] (among [Reg.HIF_PORT_STATUS p]) s t) ∧
      Within evtFields (fun a => evtReg a || a == Reg.HIF_PORT_STATUS p) s t)

/-! ### Table banks of GEO and TON, temperatures, probes, wear (R50, R57 to R64, R151 to R153) -/

/-- GEO_CMD and TON_CMD (R60, R151) on an enabled page: LOAD starts reading the image at LOAD_ADDR under the writer's rights, ARM arms a switch
for the writer, DISARM disarms one; one whose condition does not hold is REFUSED and does nothing else. -/
def Obligations.TableCommands : Prop :=
  ∀ (k : TabKind) (p : Party) (n : Nat) (s : State), 1 ≤ n → n ≤ 3 → Allowed s p k.cmd (wd n) → s.enabled k.page = true →
    (n = 1 → s.tabState k ≠ 1 → s.tabArmed k = false → Ends (tabWrite k n p) s fun t =>
      t.tabState k = 1 ∧ t.rf k.status 30 28 = partyCode p ∧ t.rf k.status 15 8 = 0 ∧ t.rb k.status 16 = false ∧
      (t.tab k).load = some ⟨s.addr40 k.loadAddr, s.rn k.loadLen, if partyCode p < 4 then some (partyCode p) else none, [], false⟩ ∧
      (∀ i, t.bank k i = s.bank k i) ∧ Within [.regs, .hif, .geo, .ton] (among [k.status, Reg.PAGE_STATUS k.page, Reg.SEQ k.page]) s t) ∧
    (n = 2 → s.tabState k = 1 ∨ s.tabState k = 2 → s.tabArmed k = false → Ends (tabWrite k n p) s fun t =>
      t.tabArmed k = true ∧ t.rf k.status 26 24 = partyCode p ∧ t.tabState k = s.tabState k ∧
      Within [.regs, .hif] (among [k.status, Reg.SEQ k.page]) s t) ∧
    (n = 3 → s.tabArmed k = true → (s.tab k).repair ≠ .armed → Ends (tabWrite k n p) s fun t =>
      t.tabArmed k = false ∧ t.tabState k = s.tabState k ∧ Within [.regs, .hif] (among [k.status, Reg.SEQ k.page]) s t) ∧
    ((n = 1 ∧ (s.tabState k = 1 ∨ s.tabArmed k = true) ∨ n = 2 ∧ s.tabArmed k = true ∨ n = 3 ∧ s.tabArmed k = false) → Ends (tabWrite k n p) s fun t =>
      t.rb k.status 16 = true ∧ t.tabState k = s.tabState k ∧ t.tabArmed k = s.tabArmed k ∧
      Within [.regs, .hif] (among [k.status, Reg.SEQ k.page]) s t)

/-- A read of the image lands (R57, R38, R39): 64 good bytes that pass their checks join what has been read, and the banks stay; one that the
pigeonholes deny ends the load FAILED with 7; the last read of a checked image makes the inactive bank READY with the image's identifier. -/
def Obligations.TableReadsLand : Prop :=
  ∀ (k : TabKind) (ld : TLoad) (s : State), (s.tab k).load = some ld → s.tabState k = 1 → ¬(s.pgState k.page = 3 ∧ s.discarding k.page = true) →
    s.tabArmed k = false →
    (∀ c la : Nat, 64 ≤ ld.buf.length → ld.buf.length + 64 < ld.len → (ld.addr + ld.buf.length) % 64 = 0 → s.allowed ld.port (ld.addr + ld.buf.length) false = true →
      s.locate (ld.addr + ld.buf.length) = some (c, la) → s.badLine c la = false →
      tabBlockReserved k ((ld.buf.length - 64) % k.section_) ((List.range 64).map fun i => s.byteAt c (la + i)) = false →
      Ends (tabReadDone k) s fun t =>
        (t.tab k).load = some { ld with buf := ld.buf ++ (List.range 64).map fun i => s.byteAt c (la + i) } ∧ t.tabState k = 1 ∧
        (∀ i, t.bank k i = s.bank k i) ∧ Within [.regs, .hif, .geo, .ton, .dmc] (among [Reg.PAGE_STATUS k.page, Reg.DMC_CH_RD_BYTES c]) s t) ∧
    (∀ q, ld.port = some q → q < 4 → ld.allRead = false → (ld.addr + ld.buf.length) % 64 = 0 → s.phAllows q (ld.addr + ld.buf.length) false = false →
      (s.tab k).repair = .none → Ends (tabReadDone k) s fun t =>
        t.tabState k = 3 ∧ t.rf k.status 15 8 = 7 ∧ (t.tab k).load = none ∧ (∀ i, t.bank k i = s.bank k i) ∧
        t.rn Reg.HIF_PH_VIOL = min (2 ^ 32 - 1) (s.rn Reg.HIF_PH_VIOL + 1) ∧ t.mem = s.mem) ∧
    (ld.allRead = true → (s.tab k).frozen = false → ld.repair = false → Ends (tabReadDone k) s fun t =>
        t.tabState k = 2 ∧ (t.tab k).load = none ∧ t.bank k (s.tabActive k) = s.bank k (s.tabActive k) ∧
        t.bank k (1 - s.tabActive k) = tabBankOf k (s.tabBase k) ld.buf ∧ t.pair64 k.next = leAt ld.buf 16 8 ∧ t.rn k.lastLen = ld.len % 2 ^ 32 ∧
        t.mem = s.mem)

/-- Damaged words (R62, R151): an uncorrectable word of the active bank reads as its nominal value from then on, raises its FENCE source, and with
AUTO a repair waits; a waiting repair starts to load the image it last loaded, or, with no identifier, arms the nominal bank; one of the
inactive GEO bank fails a READY bank with 9; one of either wear bank reads 0x8000. Memory stays. -/
def Obligations.TableWordsFail : Prop :=
  ∀ s : State,
    (∀ (t : Fin 6) (w : Fin 1580), Ends (.geoActiveUncorr t w) s fun u =>
      (w.val < 1579 → (u.bank .geo (s.tabActive .geo)).word .geo t w = geoNominal (s.bank .geo (s.tabActive .geo)).layout w) ∧
      (w.val = 1579 → (u.bank .geo (s.tabActive .geo)).trefWord = 0) ∧ u.fltPending 33 = true ∧
      (s.rb Reg.GEO_REPAIR 0 = true → (s.tab .geo).repair = .none → (u.tab .geo).repair = .waiting) ∧ Within (.geo :: noticeFields) fenceReg s u) ∧
    (∀ (t : Fin 6) (w : Fin 8448), Ends (.tonActiveUncorr t w) s fun u =>
      (u.bank .ton (s.tabActive .ton)).word .ton t w = tonNominal w ∧ u.fltPending 141 = true ∧
      (s.rb Reg.TON_REPAIR 0 = true → (s.tab .ton).repair = .none → (u.tab .ton).repair = .waiting) ∧ Within (.ton :: noticeFields) fenceReg s u) ∧
    (∀ k : TabKind, (s.tab k).repair = .waiting → s.enabled k.page = true → s.tabArmed k = false → s.tabState k = 0 ∨ s.tabState k = 3 ∨ s.tabState k = 4 →
      (s.pair64 k.ident ≠ 0 → Ends (tabRepairStart k) s fun u =>
        u.tabState k = 1 ∧ (u.tab k).repair = .loading ∧
        (∃ ld, (u.tab k).load = some ld ∧ ld.addr = s.addr40 k.lastAddr ∧ ld.len = s.rn k.lastLen ∧ ld.repair = true) ∧
        (∀ i, u.bank k i = s.bank k i) ∧ Within [.regs, .hif, .geo, .ton] (among [k.status, Reg.PAGE_STATUS k.page]) s u) ∧
      (s.pair64 k.ident = 0 → (s.tab k).frozen = false → Ends (tabRepairStart k) s fun u =>
        u.tabState k = 2 ∧ u.tabArmed k = true ∧ (u.tab k).repair = .armed ∧
        u.bank k (1 - s.tabActive k) = Bank.nominal (if k = .geo then s.geo.layout else 0) ∧ u.bank k (s.tabActive k) = s.bank k (s.tabActive k) ∧
        Within [.regs, .hif, .svc, .sent, .geo, .ton] (fun a => evtReg a || among [k.status, k.next, k.next + 4] a) s u)) ∧
    (s.tabState .geo = 2 → s.tabArmed .geo = false → Ends .geoInactiveUncorr s fun u =>
      u.tabState .geo = 3 ∧ u.rf Reg.GEO_LOAD_STATUS 15 8 = 9 ∧ Within noticeFields (fun a => faultReg a || a == Reg.GEO_LOAD_STATUS) s u) ∧
    (∀ (other : Bool) (t : Fin 6) (w : Fin 4305) (b : Nat), b = (if other then 1 - s.wearActive else s.wearActive) → Ends (.tonWearUncorr other t w) s fun u =>
      Sparse.get wearDefault (u.wearBank b) (t.val * 4305 + w.val) = 0x8000 ∧
      (∀ i, i ≠ t.val * 4305 + w.val → Sparse.get wearDefault (u.wearBank b) i = Sparse.get wearDefault (s.wearBank b) i) ∧
      (∀ i, Sparse.get wearDefault (u.wearBank (1 - b)) i = Sparse.get wearDefault (s.wearBank (1 - b)) i) ∧
      Within (.ton :: noticeFields) faultReg s u)

/-- Temperatures, probes and commits (R50, R64, R153): GEO_T_HOST is a new reading of a tile whose source is HOST, at age 0; a probe clears DONE,
and its end shows the ray of R53 for the emitter, or 0 outside the region; TON_COMMIT marks its party for the next latch point. -/
def Obligations.ReadingsProbesCommits : Prop :=
  ∀ (p : Party) (t : Fin 6) (v : Word) (s : State), s.Shape →
    (Allowed s p (Reg.GEO_T_HOST t) v → s.rf (Reg.GEO_T_SRC t) 1 0 = 0 → Ends (.geoTHost p t v) s fun u =>
      u.geoReading t = (true, v.toNat % 65536, 0) ∧ (∀ i < 6, i ≠ t.val → u.geoTile i = s.geoTile i) ∧
      Within [.regs, .hif, .geo] (among [Reg.GEO_T_HOST t, Reg.SEQ (Reg.page 3 (1 + t))]) s u) ∧
    (Allowed s p (Reg.GEO_PROBE t) v → Ends (.geoProbe p t v) s fun u =>
      u.rb (Reg.GEO_PROBE_LENS t) 31 = false ∧ (u.geoTile t).probe = some v ∧
      Within [.regs, .hif, .geo] (among [Reg.GEO_PROBE t, Reg.GEO_PROBE_LENS t, Reg.SEQ (Reg.page 3 (1 + t))]) s u) ∧
    (∀ w r, (s.geoTile t).probe = some w → r = geoRay (s.bank .geo (s.tabActive .geo)) (s.geoEff t) s.geo.layout t (fld w 14 0) (fld w 29 16) →
      Ends (.geoProbeDone t) s fun u =>
        u.rb (Reg.GEO_PROBE_LENS t) 31 = true ∧ (u.geoTile t).probe = none ∧
        (fld w 14 0 < geoW s.geo.layout → fld w 29 16 < geoH s.geo.layout →
          u.rf (Reg.GEO_PROBE_UV t) 15 0 = unsgn 16 r.u ∧ u.rf (Reg.GEO_PROBE_UV t) 31 16 = unsgn 16 r.v ∧
          u.rf (Reg.GEO_PROBE_LENS t) 11 0 = r.lx ∧ u.rf (Reg.GEO_PROBE_LENS t) 27 16 = r.ly) ∧
        (geoW s.geo.layout ≤ fld w 14 0 ∨ geoH s.geo.layout ≤ fld w 29 16 → u.rd (Reg.GEO_PROBE_UV t) = 0 ∧ u.rn (Reg.GEO_PROBE_LENS t) = 2 ^ 31) ∧
        Within [.regs, .hif, .geo] (among [Reg.GEO_PROBE_UV t, Reg.GEO_PROBE_LENS t]) s u) ∧
    (Allowed s p Reg.TON_COMMIT v → bit v 0 = true → Ends (.tonCommit p v) s fun u =>
      (∀ q, q ∈ u.ton.commits ↔ q = partyCode p ∨ q ∈ s.ton.commits) ∧ Within [.regs, .hif, .ton] (among [Reg.SEQ (Reg.page 6 0)]) s u)

/-! ### Frame epochs, latch points, fences, Takes, cues (R112 to R133) -/

/-- A latch point (R117, R118, R122, R133): the next frame becomes the latched one, its count and epoch are shown, CMT runs, the cue registers
come into force, and its synthesis begins; with no Take armed, layer 0, enabled, waiting, its fence reached and its Slate good, flips: the
active Slate is the shadow, and the layer waits no more. Memory stays where no calibration runs. -/
def Obligations.LatchPointLatches : Prop :=
  ∀ (e : Epoch) (s : State), s.cmt.next = some e → s.cmt.latched = none → (∀ f ∈ s.syn.frames, f.num ≠ e.count) → Ends .latchPoint s fun t =>
    t.cmt.next = none ∧ t.cmt.latched = some e ∧ t.rn Reg.CMT_FRAME_LO = e.count % 2 ^ 32 ∧ t.rf Reg.CMT_FRAME_HI 15 0 = e.count / 2 ^ 32 % 2 ^ 16 ∧
    t.rf Reg.CMT_EPOCH_NSEC 29 0 = e.time / nsUnit % 1000000000 ∧ (s.pgState cmtPage = 1 → t.pgState cmtPage = 2) ∧ (s.tstate = 1 → t.tstate = 2) ∧
    t.cmt.cues = (List.range 4).map (fun c => (s.rn (Reg.CUE_CTRL c), s.rn (Reg.CUE_OFFSET c))) ∧
    (∃ f ∈ t.syn.frames, f.num = e.count ∧ f.epoch = e.time) ∧ (s.cal.run = none → t.mem = s.mem) ∧
    ((∀ q < 6, s.rd (Reg.TAKE_ARM q) = 0) → s.lyrEnabled 0 = true → s.lyrTest 0 = false → 0 ∉ s.lyr.hide → s.waiting 0 = true → s.fenceReady 0 = true →
      s.slateCheck 0 = 0 → (∀ i < 12, t.active 0 i = s.shadow 0 i) ∧ t.waiting 0 = false ∧ t.rd (Reg.LYR_FLIP_CNT 0) = s.rd (Reg.LYR_FLIP_CNT 0) + 1)

/-- Epochs (R112 to R114, R127): at the epoch of the latched frame no other frame is left in synthesis, and while CMT runs the next epoch is
that of the next count, moved by the frames of a clock step since, at its ideal time where OFFSET is 0; once the time unit is locked, the end of the
wait for that sets the lowest frame at least CMT_LEAD plus 1 ms ahead, or with SYNC_IN awaits the first edge; a slew ends with OFFSET at 0. -/
def Obligations.EpochsFollow : Prop :=
  ∀ s : State,
    (∀ e : Epoch, s.cmt.latched = some e → Ends .frameEpoch s fun t =>
      t.cmt.latched = none ∧ t.cmt.last = some e ∧ t.cmt.cueFired = [] ∧ (∀ f ∈ t.syn.frames, f.num = e.count) ∧ ((∀ f ∈ s.syn.frames, f.views = []) → t.mem = s.mem) ∧
      (s.cmtRuns = true → ∃ x, t.cmt.next = some x ∧ (x.count : Int) = ((e.count : Int) + 1 + s.cmt.jump) % 2 ^ 48 ∧
        (s.rf Reg.CMT_SRC 1 0 ≠ 1 → s.cmt.offset = 0 → x.time = epochTime s.cmtRate x.count))) ∧
    (s.cmt.waitLock = true → s.timLocked = true → s.rf Reg.CMT_SRC 1 0 = 1 → Ends .cmtLockWaitEnd s fun t =>
      t.cmt.waitLock = false ∧ t.cmt.waitEdge = true ∧ Within [.cmt, .hif] (fun _ => false) s t) ∧
    (s.cmt.waitLock = true → s.timLocked = true → s.rf Reg.CMT_SRC 1 0 ≠ 1 → Ends .cmtLockWaitEnd s fun t =>
      t.cmt.waitLock = false ∧ Within [.cmt, .hif] (fun _ => false) s t ∧
      ∃ x, t.cmt.next = some x ∧ x.time = epochTime s.cmtRate x.count ∧ s.now + (s.rf Reg.CMT_LEAD 12 0 + 1000) * 1000 * nsUnit ≤ x.time ∧
        ∀ k < x.count, epochTime s.cmtRate k < s.now + (s.rf Reg.CMT_LEAD 12 0 + 1000) * 1000 * nsUnit) ∧
    (s.tstate = 3 → s.cmt.offset = 0 → Ends .slewComplete s fun t =>
      t.tstate = 2 ∧ Within evtFields (fun a => evtReg a || a == Reg.CMT_STATUS) s t)

/-- The sync pins and TIME cues (R115, R116, R127): the first active edge of FRAME_SYNC_IN sets an epoch a whole number of periods after its
timestamp, one or more and at least the lead, and an edge of the other polarity changes nothing; a miss is counted, and the one that reaches the limit begins FLYWHEEL;
FRAME_SYNC_OUT rises once per epoch at the first tick that reaches the epoch plus the offset, while it is enabled and CMT runs, and falls WIDTH
microseconds after its rise; a TIME cue fires once per frame and shows the frame. -/
def Obligations.PinsAndCues : Prop :=
  ∀ s : State,
    (∀ (rising : Bool) (t e : Nat), s.rf Reg.CMT_SRC 1 0 = 1 → s.enabled cmtPage = true → s.cmt.waitEdge = true → rising = !s.rb Reg.SYNC_IN_CTRL 1 →
      e = (s.reachTime t).now → Ends (.syncInEdge rising t) s fun u =>
        u.cmt.waitEdge = false ∧ u.cmt.edge = some e ∧ u.cmt.good = 1 ∧ u.rb Reg.SYNC_IN_STATUS 31 = true ∧
        (∃ x j, u.cmt.next = some x ∧ 1 ≤ j ∧ x.time = e + epochTime s.cmtRate j ∧ s.rf Reg.CMT_LEAD 12 0 * 1000 * nsUnit ≤ x.time - e) ∧ u.mem = s.mem) ∧
    (∀ (rising : Bool) (t : Nat), rising = s.rb Reg.SYNC_IN_CTRL 1 → Ends (.syncInEdge rising t) s fun u => Within [.hif] (fun _ => false) s u) ∧
    (s.rf Reg.CMT_SRC 1 0 = 1 → s.cmtRuns = true → s.rf Reg.SYNC_IN_STATUS 23 16 < 255 → Ends .syncInMiss s fun u =>
      u.rf Reg.SYNC_IN_STATUS 23 16 = s.rf Reg.SYNC_IN_STATUS 23 16 + 1 ∧ u.cmt.good = 0 ∧
      (max 1 (s.rf Reg.SYNC_IN_CTRL 11 8) ≤ s.rf Reg.SYNC_IN_STATUS 23 16 + 1 → u.tstate = 4) ∧
      (s.rf Reg.SYNC_IN_STATUS 23 16 + 1 < max 1 (s.rf Reg.SYNC_IN_CTRL 11 8) → u.tstate = s.tstate) ∧
      Within (.cmt :: noticeFields) (fun a => faultReg a || among [Reg.SYNC_IN_STATUS, Reg.CMT_STATUS] a) s u) ∧
    (∀ e, s.syncEpoch = some e → s.cmtRuns = true → s.rb Reg.SYNC_OUT_CTRL 0 = true → s.cmt.syncFor ≠ some e.time → Ends .syncOutRise s fun u =>
      u.cmt.syncOut = true ∧ u.cmt.syncFor = some e.time ∧ u.clock = (s.reachTime ((e.time : Int) + sgn 32 (s.rn Reg.SYNC_OUT_OFFSET) * nsUnit).toNat).clock ∧
        u.cmt.syncRise = u.now ∧ Within [.cmt, .hif, .clock] (fun _ => false) s u) ∧
    (s.cmtRuns = false ∨ s.rb Reg.SYNC_OUT_CTRL 0 = false → Ends .syncOutRise s fun u => Within [.hif] (fun _ => false) s u) ∧
    (s.cmt.syncOut = true → Ends .syncOutFall s fun u =>
      u.cmt.syncOut = false ∧ u.clock = (s.reachTime (s.cmt.syncRise + max 1 (s.rf Reg.SYNC_OUT_CTRL 15 8) * 1000 * nsUnit)).clock ∧
        Within [.cmt, .hif, .clock] (fun _ => false) s u) ∧
    (∀ (c : Fin 4) (e : Epoch), s.Shape → s.cmt.last = some e → s.cmtRuns = true → s.cueMode c = 2 → c.val ∉ s.cmt.cueFired → Ends (.cueTimeFire c) s fun u =>
      u.rn (Reg.CUE_STATUS c) = e.count % 65536 ∧ nth 0 u.cmt.cueCount c = nth 0 s.cmt.cueCount c + 1 ∧ c.val ∈ u.cmt.cueFired ∧
      Within [.regs, .hif, .svc, .sent, .cmt, .blk, .clock] (fun a => evtReg a || a == Reg.CUE_STATUS c || (List.range 4).any fun p => a == Reg.BLK_Q_STATUS p) s u) ∧
    (∀ c : Fin 4, c.val ∈ s.cmt.cueFired → Ends (.cueTimeFire c) s fun u => Within [.hif] (fun _ => false) s u)

/-- Fences, Takes and Slates (R67, R119, R121 to R123): FENCE_VAL is written, FENCE_ADD adds modulo 2^32, TAKE_ARM sets and TAKE_DISARM clears the
arms of their bits, and a write of a shadow register makes its layer wait, the low word of an address only with its high word; no active Slate changes before a
latch point. -/
def Obligations.FencesTakesSlates : Prop :=
  ∀ (p : Party) (v : Word) (s : State),
    (∀ i : Fin 256, Allowed s p (Reg.FENCE_VAL (i / 32) (i % 32)) v → Ends (.fenceValWrite p i v) s fun t =>
      t.fenceVal i = v.toNat ∧
      Within (.cmt :: evtFields) (fun a => evtReg a || among [Reg.FENCE_VAL (i / 32) (i % 32), Reg.SEQ (Reg.page 2 (1 + i / 32))] a) s t) ∧
    (∀ i : Fin 256, Allowed s p (Reg.FENCE_ADD (i / 32) (i % 32)) v → Ends (.fenceAddWrite p i v) s fun t =>
      t.fenceVal i = (s.fenceVal i + v.toNat) % 2 ^ 32 ∧
      Within (.cmt :: evtFields) (fun a => evtReg a || among [Reg.FENCE_VAL (i / 32) (i % 32), Reg.SEQ (Reg.page 2 (1 + i / 32))] a) s t) ∧
    (∀ q : Fin 6, Allowed s p (Reg.TAKE_ARM q) v → Ends (.takeArm p q v) s fun t =>
      t.rd (Reg.TAKE_ARM q) = s.rd (Reg.TAKE_ARM q) ||| v ∧ Within [.regs, .hif] (among [Reg.TAKE_ARM q, Reg.SEQ (Reg.page 2 9)]) s t) ∧
    (∀ q : Fin 6, Allowed s p (Reg.TAKE_DISARM q) v → Ends (.takeDisarm p q v) s fun t =>
      t.rd (Reg.TAKE_ARM q) = s.rd (Reg.TAKE_ARM q) &&& ~~~v ∧ Within [.regs, .hif] (among [Reg.TAKE_ARM q, Reg.SEQ (Reg.page 2 9)]) s t) ∧
    (∀ (n : Fin 40) (i : Fin 12), 2 ≤ i.val → Allowed s p (lyrPage n + 0x40 + 4 * i) v → Ends (.slateWrite p n i v) s fun t =>
      (i.val = 11 → t.shadow n i = v.toNat) ∧ t.waiting n = true ∧ (∀ j < 12, t.active n j = s.active n j) ∧
      Within [.regs, .hif, .lyr] (among [lyrPage n + 0x40 + 4 * i, Reg.CMT_PENDING_LO + 4 * (n / 32), Reg.SEQ (lyrPage n)]) s t) ∧
    (∀ n : Fin 40, Allowed s p (lyrPage n + 0x40) v → Ends (.slateWrite p n 0 v) s fun t =>
      t.held p (lyrPage n + 0x40) = some v ∧ t.shadow n 0 = s.shadow n 0 ∧ Within [.regs, .hif] (among [Reg.SEQ (lyrPage n)]) s t) ∧
    (∀ n : Fin 40, Allowed s p (lyrPage n + 0x44) v → Ends (.slateWrite p n 1 v) s fun t =>
      t.held p (lyrPage n + 0x40) = none ∧ t.shadow n 1 = v.toNat % 256 ∧ (∀ w, s.held p (lyrPage n + 0x40) = some w → t.shadow n 0 / 64 = w.toNat / 64) ∧
      t.waiting n = true ∧ (∀ j < 12, t.active n j = s.active n j) ∧
      Within [.regs, .hif, .lyr] (among [lyrPage n + 0x40, lyrPage n + 0x44, Reg.CMT_PENDING_LO + 4 * (n / 32), Reg.SEQ (lyrPage n)]) s t)

/-! ### Layers and ray synthesis (R88 to R107) -/

/-- Fills and uncorrectable cells (R88, R94 to R96, R107): the newest frame's first fill asks for the rows of its first band's window; a row of a layer
that the Print serves is stored as the Print holds it, once its row buffer is free; a burst that lands gives its pixels to the line; an uncorrectable word of
the staging of the layer being filled loses its pixel, raises 41, and has the rows fetched afresh for the next band; one of the Reel makes its cell transparent
and raises 133. -/
def Obligations.ReelIsFilled : Prop :=
  ∀ s : State,
    (∀ f, s.syn.frames = [f] → f.filled = 0 → f.bands ≠ [] → (∀ c < 4, nth none f.rows c = none) → Ends .band0FillStart s fun t =>
      t.syn.frames = [{ f with filled := 1 }] ∧
      t.syn.fills = s.syn.fills ++ f.rowsToFill 0 (windowRows f.layout (f.band 0)).1 (windowRows f.layout (f.band 0)).2 (fun _ _ => false) ∧
      Within [.syn, .hif] (fun _ => false) s t) ∧
    (∀ fr rest f l r, s.syn.fills = fr :: rest → s.syn.frames.find? (fun x => decide (x.num = fr.frame)) = some f → f.layers.find? (fun x => decide (x.idx = fr.layer)) = some l →
      s.bufferBusy f fr = false → l.print = true → l.stored.find? (fun x => decide (x.row = fr.row)) = some r → (∀ g ∈ s.syn.frames, ∀ c < 4, nth none g.rows c = none) →
      Ends .reelBurstLands s fun t =>
        t.syn.fills = rest ∧ (⟨fr.frame, fr.layer, fr.row, r.first, r.cells⟩ : ReelRow) ∈ t.syn.reel ∧ Within [.syn, .cmp, .hif] (fun _ => false) s t) ∧
    (∀ fr rest f l y ys x a c la bpp k, s.syn.fills = fr :: rest → s.syn.frames.find? (fun x => decide (x.num = fr.frame)) = some f →
      f.layers.find? (fun x => decide (x.idx = fr.layer)) = some l → s.bufferBusy f fr = false → l.print = false → l.noSource = false →
      (l.sourceRows fr.row).filter (fun y => !s.syn.lines.any fun t => decide (t.row = y)) = y :: ys →
      bpp = pxBytes (nfld (nth 0 l.slate slFormat) 1 0) → x = l.sourceSpan.1 + s.syn.line.length →
      a = ((nth 0 l.slate slAddrLo + 2 ^ 32 * nfld (nth 0 l.slate slAddrHi) 7 0) + y * nth 0 l.slate slPitch + x * bpp) % 2 ^ 40 →
      k = min ((64 - a % 64) / bpp) (l.sourceSpan.2 + 1 - x) → s.allowed l.port (a - a % 64) false = true → s.locate (a - a % 64) = some (c, la) → s.badLine c la = false →
      s.syn.line.length + k < l.sourceSpan.2 + 1 - l.sourceSpan.1 → (∀ g ∈ s.syn.frames, ∀ c < 4, nth none g.rows c = none) → Ends .reelBurstLands s fun t =>
        t.syn.line = s.syn.line ++ burstPixels ((List.range 64).map fun i => s.byteAt c (la + i)) (a % 64) bpp k false ∧
        t.syn.fills = s.syn.fills ∧ t.syn.reel = s.syn.reel ∧ Within [.syn, .regs, .dmc, .hif] (among [Reg.DMC_CH_RD_BYTES c]) s t) ∧
    (∀ (n : Fin 40) (y : Fin 16384) (x : Fin 8192), Ends (.lyrSramUncorr n y x) s fun t =>
      t.syn.reel = s.syn.reel ∧ t.fltPending 41 = true ∧
      (∀ fr rest f l, s.syn.fills = fr :: rest → s.syn.frames.find? (fun g => decide (g.num = fr.frame)) = some f → f.layers.find? (fun g => decide (g.idx = fr.layer)) = some l →
        fr.layer = n.val → l.sourceSpan.1 ≤ x.val →
        (∀ q ∈ t.syn.lines, q.row = y.val → nth none q.px (x.val - l.sourceSpan.1) = none) ∧ (∀ q ∈ s.syn.lines, q.row ≠ y.val → q ∈ t.syn.lines) ∧
        (∃ q ∈ t.syn.spoilt, q.frame = fr.frame ∧ q.layer = n.val ∧ q.band = fr.band)) ∧
      ((∀ fr ∈ s.syn.fills.head?, fr.layer ≠ n.val) → t.syn = s.syn) ∧ Within (.syn :: noticeFields) faultReg s t) ∧
    (∀ w : ReelPlace, Ends (.reelUncorr w) s fun t =>
      t.fltPending 133 = true ∧ Within (.syn :: noticeFields) fenceReg s t ∧
      match w with
      | .cell slot buf col =>
        (∀ r ∈ t.syn.reel, s.rowHolds slot buf col r = true → nth none r.cells ((col.val : Int) - 32 - r.first).toNat = none) ∧
          (∀ r ∈ s.syn.reel, s.rowHolds slot buf col r = false → r ∈ t.syn.reel) ∧ t.syn.frames = s.syn.frames
      | .staged _ _ _ _ => t.syn.reel = s.syn.reel
      | .control _ => t.syn.reel = s.syn.reel ∧ t.syn.frames = s.syn.frames)

/-- Deals and rays (R92, R93, R98 to R101, R106): a band that is resident begins for the oldest frame with one left; a finished ray's colour is the
blend of the layers along R53's ray, and its lane takes the next one; a complete run goes into its group's queue, or waits where that is full; a
deal whose runs are all sent gives its slice the next; a stop ends every frame that has a band left at the band boundary. -/
def Obligations.DealsAndRays : Prop :=
  ∀ s : State, s.Shape →
    (∀ f, s.syn.stopping = false → s.syn.frames = [f] → f.started < f.bands.length → f.deals = [] → s.syn.failed = [] →
      (∃ n < 26, s.sliceActive n = true ∧ (s.slice n).leaving = false ∧ (s.slice n).queued = none) → s.resident f f.started = true →
      f.band f.started < 65536 → Ends .bandStart s fun t =>
        t.rn Reg.SYN_BAND = f.num % 65536 * 65536 + f.band f.started ∧ (∃ g, t.syn.frames = [g] ∧ g.num = f.num ∧ g.started = f.started + 1) ∧ t.mem = s.mem) ∧
    (s.syn.stopping = true → Ends .bandStart s fun t =>
      t.syn.stopping = false ∧ (∀ g ∈ t.syn.frames, g.bands.length ≤ g.started) ∧ t.syn.frames.length = s.syn.frames.length ∧ t.mem = s.mem ∧
      (∀ f, s.syn.frames = [f] → f.started < f.bands.length → ∃ g, t.syn.frames = [g] ∧ g.num = f.num ∧ g.ended = true ∧ g.stopped = true ∧ g.deals = [])) ∧
    (∀ (n : Fin 26) (k : Fin 64) f r i g, (s.slice n).running = some r → nth none r.lanes k = some i → r.deal.view = none → s.syn.frames = [f] → f.num = r.deal.frame →
      r.lanes.length = 64 →
      (∃ eff cell e ly llx, eff = nth [] f.eff r.deal.tile ∧ cell = i / r.deal.perCell f.layout ∧ e = i % r.deal.perCell f.layout ∧
        ly = (bandRows f.layout r.deal.band).1 + cell / 8 ∧ llx = r.deal.col + cell % 8 ∧
        g = geoRay (s.bank .geo f.geoBank) ⟨nth 0 eff 0, nth 0 eff 1, nth 0 eff 2, nth 0 eff 3⟩ f.layout r.deal.tile (llx * geoNu f.layout + e % geoNu f.layout)
          ((ly - geoLensH f.layout * (r.deal.tile / 3)) * geoNv + e / geoNu f.layout)) →
      Ends (.rayDone n k) s fun t => ∃ r', (t.slice n).running = some r' ∧
        r'.results.head? = some (i, ((s.ray f r.deal.band g.lx g.ly g.u g.v).c.r, (s.ray f r.deal.band g.lx g.ly g.u g.v).c.g, (s.ray f r.deal.band g.lx g.ly g.u g.v).c.b)) ∧
        nth none r'.lanes k = r.deal.nextRay f.layout 300 r.next ∧ (∀ m < 26, m ≠ n.val → t.slice m = s.slice m) ∧
        Within [.regs, .syn, .hif, .svc, .sent] (fun a => evtReg a || among [Reg.SLC_RAYS n, Reg.SLC_SAMPLES n, Reg.SLC_TERM n, Reg.GEO_SAT_CNT r.deal.tile] a) s t) ∧
    (∀ (n : Fin 26) f r cell rest, (s.slice n).running = some r → r.ready = cell :: rest → s.syn.frames = [f] → f.num = r.deal.frame →
      (s.queueRoom r.deal.tile (r.deal.perCell f.layout) = false → Ends (.runSend n) s fun t =>
        t.rb (Reg.SLC_STATUS n) 16 = true ∧ Within [.regs, .hif] (among [Reg.SLC_STATUS n]) s t) ∧
      (s.queueRoom r.deal.tile (r.deal.perCell f.layout) = true → r.deal.tile < 6 → Ends (.runSend n) s fun t =>
        (∃ vals more, vals.length = r.deal.perCell f.layout ∧ (∀ v ∈ vals, v < 2 ^ 30) ∧
          nth [] t.syn.queues r.deal.tile = nth [] s.syn.queues r.deal.tile ++
            .run ⟨f.num, r.deal.col + cell % 8, (bandRows f.layout r.deal.band).1 + cell / 8 - geoLensH f.layout * (r.deal.tile / 3), vals⟩ :: more) ∧
        (∃ r', (t.slice n).running = some r' ∧ r'.ready = rest ∧ r'.deal.sent = cell :: r.deal.sent) ∧ t.mem = s.mem)) ∧
    (∀ (n : Fin 26) f r d, (s.slice n).running = some r → (s.slice n).queued = some d → s.syn.frames = [f] → f.num = r.deal.frame → d.frame = f.num →
      r.deal.sent.length = r.deal.cellCount f.layout → Ends (.dealFinish n) s fun t =>
        (t.slice n).running = some (d.start f.layout) ∧ t.rf (Reg.SLC_STATUS n) 14 8 = d.band % 128 ∧ t.mem = s.mem)

/-- A proof view's band (R103): once its pixels are staged, the band's rows are written to the view's buffer, as staged unless the view's settings make the image
unpredictable; the band is recorded, and, with the last band, PV_STATUS names the frame and buffer and the other buffer is next. No byte outside the
band's rows changes. -/
def Obligations.ProofBandsAreWritten : Prop :=
  ∀ (v : Fin 4) f pv i buf base (s : State), s.Shape → s.syn.frames = [f] → f.views.find? (fun x => decide (x.view = v.val)) = some pv → f.pvCut.contains v.val = false →
    i = (f.pvDone.filter fun x => decide (x.1 = v.val)).length → i < f.bands.length → i < f.started →
    ((f.deals ++ s.heldDeals f.num).any fun d => d.band == f.band i && d.view == some v.val) = false →
    buf = pv.buf.getD (nth 0 s.syn.pvNext v) → base = (if buf = 0 then pv.addr0 else pv.addr1) →
    Ends (.proofBandWrite v) s fun t =>
      (∃ g, t.syn.frames = [g] ∧ g.pvDone = f.pvDone ++ [(v.val, f.band i)] ∧ g.num = f.num) ∧
      (pv.wild f.layout = false → ∀ c la, t.byteAt c la = (s.putBand f pv i base).byteAt c la) ∧
      (i + 1 = f.bands.length →
        t.rf (Reg.PV_STATUS v) 15 0 = f.num % 65536 ∧ t.rf (Reg.PV_STATUS v) 16 16 = buf % 2 ∧ nth 0 t.syn.pvNext v = 1 - buf) ∧
      s.MemoryBut t (fun a => ∃ y, (bandRows f.layout (f.band i)).1 ≤ y ∧ y ≤ (bandRows f.layout (f.band i)).2 ∧ a = (base + y * pv.pitch) % 2 ^ 40) 15360


/-! ### Panel link (R156 to R180) -/

/-- LINK_RELEASE (R161, R173): where nothing changes the lanes of any group, each group that sends FRAME markers sends the latched frame's to every lane
in service, counts it, and has the frame to send with the runs that wait for it, or ends it at once where it is held from its start; no other has it. Items of other frames leave
its queue. A frame that is still being sent ends with HOLD and is late, with a NOTICE of cause 1, unless its runs are left out on purpose. -/
def Obligations.ReleaseSendsFrame : Prop :=
  ∀ (e : Epoch) (s : State), s.Shape → s.cmt.latched = some e → (∀ g < 6, s.Settled g) → Ends .linkRelease s fun t =>
    (∀ g < 6, (∀ r : Run, QItem.run r ∈ t.queue g ↔ QItem.run r ∈ s.queue g ∧ r.frame = e.count) ∧ ∀ i ∈ t.queue g, i.frame = e.count) ∧
    (∀ g < 6, s.grpSends g = true → t.rd (Reg.PLK_GRP_FRAMES g) = s.rd (Reg.PLK_GRP_FRAMES g) + 1 ∧
      ((s.grp g).frame = none →
        (s.beforeRow g).blocks g (fun k => controlBlock 0x78 (laneBits g k + e.count % 65536 * 256 + s.rf (Reg.PLK_GRP_MASK g) 15 0 * 2 ^ 24 +
          s.geo.layout * 2 ^ 42 + s.rf (Reg.PLK_GRP_STATUS g) 27 24 * 2 ^ 44)) ∈ t.sent) ∧
      (QItem.start e.count true ∉ s.queue g → (s.grp g).frame ≠ some e.count → (t.grp g).frame = some e.count ∧ (t.grp g).words = [] ∧ (t.grp g).hold = false) ∧
      (QItem.start e.count true ∈ s.queue g → (s.grp g).frame = none →
        (t.grp g).frame = none ∧ t.rf (Reg.PLK_GRP_RUNS g) 23 0 = 0 ∧ t.rn (Reg.PLK_GRP_HELD g) = min (2 ^ 32 - 1) (s.rn (Reg.PLK_GRP_HELD g) + 1))) ∧
    (∀ g < 6, s.grpSends g = false → t.rd (Reg.PLK_GRP_FRAMES g) = s.rd (Reg.PLK_GRP_FRAMES g) ∧ ((s.grp g).frame ≠ some e.count → (t.grp g).frame = none)) ∧
    (∀ g < 6, ∀ m, (s.grp g).frame = some m → m ≠ e.count → s.enabled (Reg.page 7 0) = true →
      t.rn (Reg.PLK_GRP_LATE g) = min (2 ^ 32 - 1) (s.rn (Reg.PLK_GRP_LATE g) + if s.reportedShort g m then 0 else 1) ∧
      (s.reportedShort g m = false → t.rf (Reg.PLK_GRP_STATUS g) 30 28 = 1 ∧ t.fltPending (245 + 2 * g) = true) ∧
      (QItem.start e.count true ∉ s.queue g →
        t.rf (Reg.PLK_GRP_RUNS g) 23 0 = (s.grp g).runs % 2 ^ 24 ∧ t.rn (Reg.PLK_GRP_HELD g) = min (2 ^ 32 - 1) (s.rn (Reg.PLK_GRP_HELD g) + 1))) ∧
    ((∀ g < 6, (s.grp g).frame = none) → Within [.regs, .hif, .sent, .plk, .syn] (fun a => (List.range 6).any fun g =>
      among [Reg.PLK_GRP_FRAMES g, Reg.PLK_GRP_HELD g, Reg.PLK_GRP_RUNS g, Reg.PAGE_STATUS (grpPage g)] a) s t) ∧
    Within (.plk :: .syn :: noticeFields) (fun a => faultReg a || (List.range 6).any fun g =>
      among [Reg.PLK_GRP_FRAMES g, Reg.PLK_GRP_HELD g, Reg.PLK_GRP_LATE g, Reg.PLK_GRP_STATUS g, Reg.PLK_GRP_RUNS g, Reg.PAGE_STATUS (grpPage g)] a) s t

/-- Rows, ALIGN, COMMAND and END (R158 to R161, R164, R168): a group with a frame and enough words sends them one to each lane of its mask, reading a run of
that frame from its queue where it has no word yet; one with no frame sends fillers; before a row the reserved position is sent where that is next. There
ALIGN is sent in every 128th slot and a copy of the oldest command in another where it fits, and only there; a frame whose queue is finished ends with
its count of runs and HOLD where a run was lost, left out, or the group is DOWN. -/
def Obligations.RowsAreSent : Prop :=
  ∀ (g : Fin 6) (s : State), s.Shape → s.enabled (Reg.page 7 0) = true →
    ((s.grp g).frame = none → Ends (.streamRowSend g) s fun t => t.sent = (s.beforeRow g).sent ++ [(s.beforeRow g).blocks g fun _ => fillerBlock] ∧
      (t.grp g).pos = ((s.beforeRow g).grp g).pos + 1 ∧ Within [.regs, .hif, .sent, .plk] (among [Reg.PAGE_STATUS (grpPage g)]) s t) ∧
    (∀ fr ls ws q, (s.grp g).frame = some fr → ls = (List.range 16).filter (fun k => (s.rf (Reg.PLK_GRP_MASK g) 15 0).testBit k) → ls ≠ [] →
      (ls.length ≤ (s.grp g).words.length ∧ ws = (s.grp g).words ∧ q = s.queue g ∨
        ∃ r, (s.grp g).words = [] ∧ (s.grp g).fin = false ∧ takeItem fr (s.queue g) = some (.run r, q) ∧ s.sendsRun g fr r = true ∧ r.vals.length ≠ 64 ∧
          ws = packet 1 r none ∧ ls.length ≤ ws.length) → Ends (.streamRowSend g) s fun t =>
        t.sent = (s.beforeRow g).sent ++ [.plkRow g ((s.beforeRow g).rowWords g
          (fun k => if ls.contains k then (false, nth 0 ws ((ls.findIdx? (· == k)).getD 0)) else (true, fillerBlock)) fun _ => fillerBlock)] ∧
        (t.grp g).words = ws.drop ls.length ∧ (t.grp g).frame = some fr ∧ t.queue g = q ∧ (t.grp g).pos = ((s.beforeRow g).grp g).pos + 1 ∧
        Within [.regs, .hif, .sent, .plk, .syn] (among [Reg.PAGE_STATUS (grpPage g)]) s t) ∧
    ((s.grp g).pos = 127 → (s.grp g).slot = 0 → Ends (.alignSend g) s fun t =>
      t.sent = s.sent ++ [.plkRow g (s.rowWords g (fun k => (true, controlBlock 0x2D (laneBits g k + (s.grp g).align * 256)))
        fun k => controlBlock 0x2D (laneBits g k + (s.grp g).align * 256))] ∧ (t.grp g).align = ((s.grp g).align + 1) % 65536 ∧
      (t.grp g).pos = 0 ∧ (t.grp g).slot = 1 ∧ Within [.regs, .hif, .sent, .plk] (among [Reg.PAGE_STATUS (grpPage g)]) s t) ∧
    (¬((s.grp g).pos = 127 ∧ (s.grp g).slot = 0) → Ends (.alignSend g) s fun t => Within [.hif] (fun _ => false) s t) ∧
    (∀ c k rest, (s.grp g).cmds = (c, k) :: rest → (s.grp g).pos = 127 → (s.grp g).commandFits = true → Ends (.commandCopySend g) s fun t =>
      t.sent = s.sent ++ [s.blocks g fun _ => controlBlock 0x66 c] ∧ (t.grp g).cmds = (if k ≤ 1 then rest else (c, k - 1) :: rest) ∧
      (t.grp g).pos = 0 ∧ (t.grp g).slot = ((s.grp g).slot + 1) % 128 ∧ (t.grp g).lastCmd = true ∧
      Within [.regs, .hif, .sent, .plk] (among [Reg.PAGE_STATUS (grpPage g)]) s t) ∧
    ((s.grp g).cmds = [] ∨ (s.grp g).pos ≠ 127 ∨ (s.grp g).commandFits = false → Ends (.commandCopySend g) s fun t => Within [.hif] (fun _ => false) s t) ∧
    (∀ n h, (s.grp g).frame = some n → (s.grp g).fin = true → (s.grp g).words = [] → h = ((s.grp g).hold || s.grpMode g == 2) → Ends (.groupEndSend g) s fun t =>
      t.sent = (s.beforeRow g).sent ++
        [(s.beforeRow g).blocks g fun k => controlBlock 0x87 (laneBits g k + b2n h * 128 + n % 65536 * 256 + (s.grp g).runs % 2 ^ 24 * 2 ^ 24)] ∧
      (t.grp g).frame = none ∧ t.rf (Reg.PLK_GRP_RUNS g) 23 0 = (s.grp g).runs % 2 ^ 24 ∧ t.queue g = s.queue g ∧
      t.rn (Reg.PLK_GRP_HELD g) = min (2 ^ 32 - 1) (s.rn (Reg.PLK_GRP_HELD g) + b2n h) ∧
      Within [.regs, .hif, .sent, .plk] (among [Reg.PLK_GRP_HELD g, Reg.PLK_GRP_RUNS g, Reg.PAGE_STATUS (grpPage g)]) s t) ∧
    (∀ n m, (s.grp g).frame = some n → (s.grp g).fin = false → (s.grp g).words = [] → takeItem n (s.queue g) = some (.lost m, []) → Ends (.groupEndSend g) s fun t =>
      (t.grp g).hold = true ∧ (t.grp g).frame = some n ∧ t.queue g = [] ∧ t.sent = s.sent ∧
      Within [.regs, .hif, .plk, .syn] (among [Reg.PAGE_STATUS (grpPage g)]) s t)

/-- Back channel (R157, R165 to R167, R178): with block lock every message puts the channel up and gives its value; a HELLO without lock, and a payload that is no
MESSAGE or bears a wrong CRC, leave everything; one that is right is received; 100 ms of silence or the loss of lock puts the channel down with source 245 + 2g; a read of BC_HI takes the oldest message. -/
def Obligations.BackChannelMessages : Prop :=
  ∀ (g : Fin 6) (s : State), s.Shape →
    (∀ payload, payload.toNat ≠ controlBlock 0x33 (payload.toNat / 256) → Ends (.invalidControlBlock g payload) s fun t => Within [.hif] (fun _ => false) s t) ∧
    (∀ payload (code : Fin 128) (args : BitVec 40), payload.toNat = controlBlock 0x33 (0x80 + code + args.toNat * 256) →
      exec (.invalidControlBlock g payload) s = exec (.userMessage g code args) s) ∧
    (∀ id v, (s.grp g).lock = false → Ends (.hello g id v) s fun t => Within [.hif] (fun _ => false) s t) ∧
    ((s.grp g).lock = true →
      (∀ id v, Ends (.hello g id v) s fun t => t.rb (Reg.PLK_GRP_BC_STATUS g) 31 = true ∧ (t.grp g).msg = true ∧
        Within [.regs, .hif, .plk] (among [Reg.PLK_GRP_BC_STATUS g, Reg.PAGE_STATUS (grpPage g)]) s t) ∧
      (∀ ok sk, Ends (.deskew g ok sk) s fun t => t.rb (Reg.PLK_GRP_BC_STATUS g) 31 = true ∧ (t.grp g).deskew = ok ∧
        Within [.regs, .hif, .plk] (among [Reg.PLK_GRP_BC_STATUS g, Reg.PAGE_STATUS (grpPage g)]) s t) ∧
      Ends (.rateOk g) s (fun t => (t.grp g).rate = true ∧ Within [.regs, .hif, .plk] (among [Reg.PLK_GRP_BC_STATUS g, Reg.PAGE_STATUS (grpPage g)]) s t) ∧
      (∀ seq fr, Ends (.mapAck g seq fr) s fun t =>
        t.rb (Reg.PLK_GRP_STATUS g) 31 = (s.rb (Reg.PLK_GRP_STATUS g) 31 || s.rf (Reg.PLK_GRP_STATUS g) 27 24 == seq.val) ∧
        Within [.regs, .hif, .plk] (among [Reg.PLK_GRP_BC_STATUS g, Reg.PLK_GRP_STATUS g, Reg.PAGE_STATUS (grpPage g)]) s t) ∧
      (∀ held runs, Ends (.frameReport g held runs) s fun t =>
        t.rb (Reg.PLK_GRP_PANEL_RUNS g) 31 = held ∧ t.rf (Reg.PLK_GRP_PANEL_RUNS g) 20 0 = runs.val ∧
        Within [.regs, .hif, .plk] (among [Reg.PLK_GRP_BC_STATUS g, Reg.PLK_GRP_PANEL_RUNS g, Reg.PAGE_STATUS (grpPage g)]) s t) ∧
      (∀ fr, Ends (.frameId g fr) s fun t => (t.grp g).repFrame = fr.val ∧
        Within [.regs, .hif, .plk] (among [Reg.PLK_GRP_BC_STATUS g, Reg.PAGE_STATUS (grpPage g)]) s t) ∧
      (∀ x, Ends (.temp g x) s fun t => t.rb (Reg.PLK_GRP_TEMP g) 31 = true ∧ t.rf (Reg.PLK_GRP_TEMP g) 15 0 = x.val ∧
        (s.rf (Reg.GEO_T_SRC g) 1 0 = 3 → (t.geoTile g).val = x.val ∧ (t.geoTile g).age = 0) ∧
        Within [.regs, .hif, .plk, .geo] (among [Reg.PLK_GRP_BC_STATUS g, Reg.PLK_GRP_TEMP g, Reg.PAGE_STATUS (grpPage g)]) s t) ∧
      (∀ code, (s.grp g).queue.length < 32 → Ends (.panelFault g code) s fun t => (t.grp g).queue = (s.grp g).queue ++ [controlBlock 0x33 (0x0A + code * 256)] ∧
        t.rf (Reg.PLK_GRP_BC_STATUS g) 5 0 = (s.grp g).queue.length + 1 ∧
        Within [.regs, .hif, .plk, .svc, .sent] (fun a => evtReg a || among [Reg.PLK_GRP_BC_STATUS g, Reg.PAGE_STATUS (grpPage g)] a) s t) ∧
      (∀ code args, (s.grp g).queue.length = 32 → Ends (.userMessage g code args) s fun t => (t.grp g).queue = (s.grp g).queue ∧
        t.rf (Reg.PLK_GRP_BC_STATUS g) 23 16 = min 255 (s.rf (Reg.PLK_GRP_BC_STATUS g) 23 16 + 1) ∧
        Within [.regs, .hif, .plk] (among [Reg.PLK_GRP_BC_STATUS g, Reg.PAGE_STATUS (grpPage g)]) s t) ∧
      (∀ code args, (s.grp g).queue.length < 32 → Ends (.userMessage g code args) s fun t =>
        (t.grp g).queue = (s.grp g).queue ++ [controlBlock 0x33 (0x80 + code + args.toNat * 256)] ∧
        Within [.regs, .hif, .plk, .svc, .sent] (fun a => evtReg a || among [Reg.PLK_GRP_BC_STATUS g, Reg.PAGE_STATUS (grpPage g)] a) s t)) ∧
    (s.rb (Reg.PLK_GRP_BC_STATUS g) 31 = true → Ends (.bcLost g) s fun t =>
      t.rb (Reg.PLK_GRP_BC_STATUS g) 31 = false ∧ t.rf (Reg.PLK_GRP_STATUS g) 30 28 = 3 ∧ t.fltPending (245 + 2 * g) = true ∧ (t.grp g).lock = (s.grp g).lock ∧
      Within (.plk :: noticeFields) (fun a => faultReg a || among [Reg.PLK_GRP_BC_STATUS g, Reg.PLK_GRP_STATUS g, Reg.PAGE_STATUS (grpPage g)] a) s t) ∧
    (s.rb (Reg.PLK_GRP_BC_STATUS g) 31 = true → Ends (.backChannelLockLoss g) s fun t =>
      t.rb (Reg.PLK_GRP_BC_STATUS g) 31 = false ∧ (t.grp g).lock = false ∧ t.fltPending (245 + 2 * g) = true ∧
      Within (.plk :: noticeFields) (fun a => faultReg a || among [Reg.PLK_GRP_BC_STATUS g, Reg.PLK_GRP_STATUS g, Reg.PAGE_STATUS (grpPage g)] a) s t) ∧
    Ends (.backChannelLockGain g) s (fun t => (t.grp g).lock = true ∧
      t.rb (Reg.PLK_GRP_BC_STATUS g) 31 = (s.rb (Reg.PLK_GRP_BC_STATUS g) 31 || (s.grp g).msg) ∧
      Within [.regs, .hif, .plk] (among [Reg.PLK_GRP_BC_STATUS g, Reg.PAGE_STATUS (grpPage g)]) s t) ∧
    (∀ (p : Party) m rest, s.reaches p = true → s.latched p (Reg.PLK_GRP_BC_HI g) = none → (s.grp g).queue = m :: rest → Ends (.bcQueueRead p g) s fun t =>
      t.reply = .word (wd (m / 2 ^ 32)) ∧ (t.grp g).queue = rest ∧ t.rf (Reg.PLK_GRP_BC_STATUS g) 5 0 = rest.length % 64 ∧
      Within [.regs, .hif, .plk, .reply] (among [Reg.PLK_GRP_BC_STATUS g, Reg.PAGE_STATUS (grpPage g)]) s t)

/-- Lanes (R167, R169, R172, R175, R179): a report with STATUS 4 or more and fewer errors than the limit is recorded and keeps its lane; one below that loses a
data or stand-in lane, which is counted, takes role FENCED and raises 148 + l; in SLIP a report that is not clean slips its lane, in POLARITY STATUS 3 inverts it.
A lane of another role is not lost. A fenced lane tests itself for its return, and one that has qualified waits for the next FRAME marker; a slip
counts on a lane with role NONE or FENCED. -/
def Obligations.LanesLeaveAndReturn : Prop :=
  ∀ s : State, s.Shape →
    (∀ (g : Fin 6) (k rx : Fin 16) (st : Fin 16) (errs : Fin 65536) l, (s.grp g).lock = true → l = s.phys g k → nth 0 (s.grp g).map k < 16 → 4 ≤ st.val →
      errs.val < max 1 (s.rf Reg.PLK_LOSS_ERRS 15 0) → Ends (.laneReport g k rx st errs) s fun t =>
        t.rf (Reg.PLK_LANE_STATUS l) 31 28 = st.val ∧ t.rn (Reg.PLK_LANE_SYNC_ERR l) = min (2 ^ 32 - 1) (s.rn (Reg.PLK_LANE_SYNC_ERR l) + errs) ∧
        (t.lane l).clean = (if errs.val = 0 then (s.lane l).clean + 1 else 0) ∧
        (t.lane l).good = (if st.val = 4 ∧ errs.val = 0 then (s.lane l).good + 1 else 0) ∧
        (s.stage g ≠ 5 → (t.lane l).rxIn = some rx.val ∧ (t.grp g).map = (s.grp g).map ∧
          Within [.regs, .hif, .plk] (among [Reg.PLK_GRP_BC_STATUS g, Reg.PLK_LANE_STATUS l, Reg.PLK_LANE_SYNC_ERR l, Reg.PAGE_STATUS (grpPage g)]) s t) ∧
        Within [.regs, .hif, .plk] (fun a => grpReg g a || among [Reg.PLK_GRP_BC_STATUS g, Reg.PLK_GRP_MAP_LO g, Reg.PLK_GRP_MAP_HI g, Reg.PLK_LANE_SYNC_ERR l] a) s t) ∧
    (∀ (g : Fin 6) (k rx : Fin 16) (st : Fin 16) (errs : Fin 65536) l, (s.grp g).lock = true → l = s.phys g k → nth 0 (s.grp g).map k < 16 →
      s.role l = roleNone → s.pgState (lanePage l) ≠ 6 → (s.grp g).taking.contains (s.logical l) = true → st.val < 4 → Ends (.laneReport g k rx st errs) s fun t =>
        (s.stage g = 3 → st.val < 2 ∨ st.val = 2 ∧ errs.val ≠ 0 → t.rf (Reg.PLK_LANE_STATUS l) 22 16 = min 65 (s.rf (Reg.PLK_LANE_STATUS l) 22 16 + 1)) ∧
        (s.stage g = 4 → st.val = 3 → t.rb (Reg.PLK_LANE_CTRL l) 0 = true) ∧ t.role l = roleNone ∧
        (s.stage g ≠ 5 → Within [.regs, .hif, .plk]
          (among [Reg.PLK_GRP_BC_STATUS g, Reg.PLK_LANE_STATUS l, Reg.PLK_LANE_CTRL l, Reg.PLK_LANE_SYNC_ERR l, Reg.PAGE_STATUS (grpPage g)]) s t)) ∧
    (∀ (g : Fin 6) (k rx : Fin 16) (st : Fin 16) (errs : Fin 65536) l, (s.grp g).lock = true → l = s.phys g k → nth 0 (s.grp g).map k < 16 →
      s.stage g = stageData → s.role l = roleData ∨ s.role l = roleStandin → s.pgState (lanePage l) ≠ 4 → s.pgState (lanePage l) ≠ 6 → s.flt.windows = [] →
      st.val < 4 ∨ max 1 (s.rf Reg.PLK_LOSS_ERRS 15 0) ≤ errs.val → Ends (.laneReport g k rx st errs) s fun t =>
        t.role l = roleFenced ∧ t.pgState (lanePage l) = 4 ∧ t.rn (Reg.PLK_LANE_LOSSES l) = min (2 ^ 32 - 1) (s.rn (Reg.PLK_LANE_LOSSES l) + 1) ∧
        t.fltPending (148 + l) = true ∧ (t.grp g).hold = ((s.grp g).hold || s.role l == roleData) ∧
        Within (.plk :: noticeFields)
          (fun a => fenceReg a || grpReg g a || among [Reg.PLK_GRP_BC_STATUS g, Reg.PLK_LANE_SYNC_ERR l, Reg.PLK_LANE_LOSSES l, Reg.PAGE_CTRL (lanePage l)] a) s t) ∧
    (∀ (g : Fin 6) (k : Fin 16) l, (s.grp g).lock = true → l = s.phys g k → nth 0 (s.grp g).map k < 16 → s.role l = roleData ∨ s.role l = roleStandin →
      s.pgState (lanePage l) ≠ 4 → s.flt.windows = [] → Ends (.laneLost g k) s fun t =>
        t.role l = roleFenced ∧ t.pgState (lanePage l) = 4 ∧ t.rn (Reg.PLK_LANE_LOSSES l) = min (2 ^ 32 - 1) (s.rn (Reg.PLK_LANE_LOSSES l) + 1) ∧
        t.fltPending (148 + l) = true ∧ (t.grp g).hold = ((s.grp g).hold || s.role l == roleData) ∧
        Within (.plk :: noticeFields) (fun a => fenceReg a || grpReg g a || among [Reg.PLK_GRP_BC_STATUS g, Reg.PLK_LANE_LOSSES l, Reg.PAGE_CTRL (lanePage l)] a) s t) ∧
    (∀ l : Fin 96, s.role l = roleData ∨ s.role l = roleStandin → s.pgState (lanePage l) ≠ 4 → s.flt.windows = [] → Ends (.txDetectFail l) s fun t =>
      t.role l = roleFenced ∧ t.pgState (lanePage l) = 4 ∧ t.rn (Reg.PLK_LANE_LOSSES l) = min (2 ^ 32 - 1) (s.rn (Reg.PLK_LANE_LOSSES l) + 1) ∧ t.fltPending (148 + l) = true ∧
      Within (.plk :: noticeFields) (fun a => fenceReg a || grpReg (l / 16) a || among [Reg.PLK_LANE_LOSSES l, Reg.PAGE_CTRL (lanePage l)] a) s t) ∧
    (∀ l : Fin 96, s.role l = roleNone ∨ s.role l = roleFenced → Ends (.txDetectFail l) s fun t => Within [.hif] (fun _ => false) s t) ∧
    (∀ l : Fin 96, s.rb (Reg.PLK_GRP_CTRL (l / 16)) 0 = true → (s.lane l).byLoss = true → s.laneReturns l = true → Ends (.laneAutoReturn l) s fun t =>
      t.pgState (lanePage l) = 5 ∧ t.rb (Reg.PAGE_CTRL (lanePage l)) 3 = false ∧
      Within (.plk :: .freeCtr :: evtFields) (fun a => evtReg a || among [Reg.PAGE_CTRL (lanePage l), Reg.PAGE_STATUS (lanePage l)] a) s t) ∧
    (∀ l : Fin 96, s.laneQualified l = true → Ends (.laneReturnQualified l) s fun t => (t.lane l).ready = true ∧ Within [.hif, .plk] (fun _ => false) s t) ∧
    (∀ (p : Party) (l : Fin 96) (v : Word), Allowed s p (Reg.PLK_LANE_SLIP l) v → Ends (.laneSlip p l v) s fun t =>
      t.rf (Reg.PLK_LANE_STATUS l) 22 16 =
        (if bit v 0 = true ∧ (s.role l = roleNone ∨ s.role l = roleFenced) then min 65 (s.rf (Reg.PLK_LANE_STATUS l) 22 16 + 1) else s.rf (Reg.PLK_LANE_STATUS l) 22 16) ∧
      Within [.regs, .hif] (among [Reg.PLK_LANE_STATUS l, Reg.SEQ (lanePage l)]) s t)

/-- Bring-up and a group's commands (R169, R170, R173, R176, R178): BRINGUP takes the map as written and starts stage 1 with the lanes that take part where they
are eight or more, else it fails; held by MANUAL, it lets the stage go on; a stage that is done goes on, or is held by MANUAL; stage 7 gives out the roles; a
timeout fences the lanes that have not done their part, and fails the bring-up where fewer than eight are left; RESTRIPE waits for the release; a message is sent
twice; a bad equalisation image gives the standard words; an uncorrectable queue word costs its run, with cause 4. -/
def Obligations.BringupStages : Prop :=
  ∀ (g : Fin 6) (s : State), s.Shape →
    (∀ p : Party, Allowed s p (Reg.PLK_GRP_CMD g) 1 → (s.grp g).held = false → Ends (.bringup p g) s fun t =>
      t.stage g = (if (List.range 16).all (fun i => (s.mapWritten g).contains i) && decide (8 ≤ (s.takers g).length) then 1 else 15) ∧
      ((∀ i < 16, i ∈ s.mapWritten g) → (t.grp g).map = s.mapWritten g ∧ (t.grp g).taking = s.takers g ∧ (t.grp g).frame = none ∧ (∀ k < 16, t.roleOf g k = roleNone) ∧
        t.rf (Reg.PLK_GRP_STATUS g) 23 20 = if (s.takers g).length < 8 then 1 else 0) ∧
      Within (.plk :: evtFields) (fun a => evtReg a || grpReg g a) s t) ∧
    (∀ p : Party, Allowed s p (Reg.PLK_GRP_CMD g) 1 → (s.grp g).held = true → 1 ≤ s.stage g → s.stage g ≤ 6 → s.stage g ≠ 2 ∨ s.rb (Reg.PLK_GRP_BC_STATUS g) 31 = true →
      Ends (.bringup p g) s fun t => t.stage g = s.stage g + 1 ∧ (t.grp g).held = false ∧ (t.grp g).taking = (s.grp g).taking ∧
        Within (.plk :: evtFields) (fun a => evtReg a || grpReg g a) s t) ∧
    (s.stage g ≤ 6 → s.stageDone g = true → s.stage g ≠ 2 ∨ s.rb (Reg.PLK_GRP_BC_STATUS g) 31 = true → Ends (.bringupStageDone g) s fun t =>
      (s.rb (Reg.PLK_GRP_CTRL g) 1 = false → t.stage g = s.stage g + 1 ∧ (t.grp g).held = false) ∧
      (s.rb (Reg.PLK_GRP_CTRL g) 1 = true → t.stage g = s.stage g ∧ (t.grp g).held = true) ∧
      (t.grp g).taking = (s.grp g).taking ∧ Within (.plk :: evtFields) (fun a => evtReg a || grpReg g a) s t) ∧
    (s.stage g = 7 → (s.grp g).rate = true → s.rb (Reg.PLK_GRP_CTRL g) 1 = false → (∀ i < 16, i ∈ (s.grp g).map) → (s.grp g).map.length = 16 →
      Ends (.bringupStageDone g) s fun t =>
        t.stage g = 8 ∧ t.rb Reg.PLK_UP g = true ∧ t.rf (Reg.PLK_GRP_MASK g) 15 0 = s.rf (Reg.PLK_GRP_MASK g) 15 0 ∧
        (∀ k < 16, t.roleOf g k = (if (s.grp g).taking.contains k then (if ((s.grp g).taking.filter (· < k)).length < 15 then roleData else roleStandin) else s.roleOf g k)) ∧
        (t.grp g).data = (List.range 16).filter (fun k => t.roleOf g k == roleData) ∧
        Within (.plk :: evtFields) (fun a => evtReg a || grpReg g a) s t) ∧
    (∀ (failing : BitVec 16) left, left = (s.grp g).taking.filter (fun k => s.laneDone g (s.stage g) k && !(decide (6 ≤ s.stage g) && failing.toNat.testBit k)) →
      (∀ k < 16, nth 0 (s.grp g).map k < 16) → (∀ k ∈ (s.grp g).taking, k < 16) → Ends (.bringupStageTimeout g failing) s fun t =>
        (1 ≤ s.stage g → s.stage g ≤ 7 → left.length < 8 ∨ s.stage g = 2 ∧ s.rb (Reg.PLK_GRP_BC_STATUS g) 31 = false →
          t.stage g = 15 ∧ t.rf (Reg.PLK_GRP_STATUS g) 23 20 = s.stage g ∧ (t.grp g).taking = left) ∧
        (1 ≤ s.stage g → s.stage g ≤ 6 → 8 ≤ left.length → (s.stage g = 2 → s.rb (Reg.PLK_GRP_BC_STATUS g) 31 = true ∧ (s.grp g).lock = true) →
          (s.stage g = 6 → (s.grp g).deskew = true) → s.rb (Reg.PLK_GRP_CTRL g) 1 = false → t.stage g = s.stage g + 1 ∧ (t.grp g).taking = left) ∧
        (1 ≤ s.stage g → s.stage g ≤ 6 → ∀ k ∈ (s.grp g).taking, k ∉ left → t.roleOf g k = roleFenced ∧ t.pgState (lanePage (t.phys g k)) = 4) ∧
        Within (.plk :: evtFields) (fun a => evtReg a || grpReg g a) s t) ∧
    (∀ p : Party, Allowed s p (Reg.PLK_GRP_CMD g) 2 → Ends (.restripe p g) s fun t =>
      (t.grp g).restripe = true ∧ Within [.regs, .hif, .plk] (among [Reg.SEQ (grpPage g), Reg.PAGE_STATUS (grpPage g)]) s t) ∧
    (∀ p : Party, Allowed s p (Reg.PLK_GRP_CMD g) 3 → Ends (.sendMsg p g) s fun t =>
      (t.grp g).cmds = (s.grp g).cmds ++ [(s.rn (Reg.PLK_GRP_TX_LO g) / 256 + s.rf (Reg.PLK_GRP_TX_HI g) 23 0 * 2 ^ 24, 2)] ∧
      Within [.regs, .hif, .plk] (among [Reg.SEQ (grpPage g), Reg.PAGE_STATUS (grpPage g)]) s t) ∧
    (∀ (img : List Byte) ok, ok = (decide (img.length = 448 ∧ leAt img 0 4 = 0x51454C50 ∧ leAt img 4 2 = 1 ∧ leAt img 6 2 = 96 ∧ leAt img 8 4 = crc32c (img.drop 64) ∧
        leAt img 12 8 ≠ 0) && ((img.drop 20).take 44).all (fun b => b = 0)) → Ends (.eqTableApply img) s fun t =>
      (∀ l < 96, t.rd (Reg.PLK_LANE_EQ l) = if ok then applyLim (wd (leAt img (64 + 4 * l) 4) &&& 0x3F1F0FFF) .taps else 0x30000000) ∧
      t.pair64 Reg.PLK_EQ_ID_LO = (if ok then leAt img 12 8 else 0) ∧ t.plk.eqDone = true ∧ (ok = false → t.fltPending 258 = true) ∧
      Within (.plk :: noticeFields) (fun a => faultReg a || among [Reg.PLK_EQ_ID_LO, Reg.PLK_EQ_ID_LO + 4] a || (List.range 96).any fun l => a == Reg.PLK_LANE_EQ l) s t) ∧
    (∀ word : Fin 16384, Ends (.plkQueueUncorr g word) s fun t =>
      t.queue g = (match runAt word (s.queue g) with | some (i, n) => upd (s.queue g) i (.lost n) | none => s.queue g) ∧
      t.rf (Reg.PLK_GRP_STATUS g) 30 28 = 4 ∧ t.fltPending 257 = true ∧
      Within (.syn :: noticeFields) (fun a => faultReg a || among [Reg.PLK_GRP_STATUS g] a) s t)


/-! ### Ingest and decompression (R182 to R206) -/

/-- Plane contexts (R187, R188): a parcel or a plane that takes too long fails its context with TIMEOUT, dropping its parcels; a context with every tile
decompressed succeeds, is counted, and advances the fence of its Slate by its stream entry's FENCE_ADD where its owner owns that counter; one with tiles
missing stays. -/
def Obligations.PlanesFailAndEnd : Prop :=
  ∀ s : State,
    (∀ (i : Fin 1024) p c, s.ing.parcels[i.val]? = some p → s.ing.ctxs.find? (fun (x : PlaneCtx) => x.id == p.ctx) = some c → c.rx < 4 → Ends (.parcelTimeout i) s fun t =>
      t.ing.ctxs = s.ing.ctxs.filter (fun x => x.id != c.id) ∧ t.ing.parcels = s.ing.parcels.filter (fun q => q.ctx != c.id) ∧
      t.rn (Reg.ING_RX_ERRORS c.rx) = min (2 ^ 32 - 1) (s.rn (Reg.ING_RX_ERRORS c.rx) + 1) ∧ t.rf (Reg.ING_RX_LAST_HI c.rx) 31 24 = 21 ∧
      Within [.regs, .hif, .svc, .sent, .ing] (fun a => evtReg a || ingReg a || among [Reg.ING_RX_ERRORS c.rx, Reg.ING_RX_LAST_LO c.rx, Reg.ING_RX_LAST_HI c.rx] a) s t) ∧
    (∀ (k : Fin 256) c, s.ing.ctxs[k.val]? = some c → s.ing.ctxs.find? (fun (x : PlaneCtx) => x.id == c.id) = some c → c.rx < 4 → Ends (.planeTimeout k) s fun t =>
      t.ing.ctxs = s.ing.ctxs.filter (fun x => x.id != c.id) ∧ t.rf (Reg.ING_RX_LAST_HI c.rx) 31 24 = 21 ∧ t.rf (Reg.ING_RX_LAST_LO c.rx) 15 0 = c.stream % 65536 ∧
      Within [.regs, .hif, .svc, .sent, .ing] (fun a => evtReg a || ingReg a || among [Reg.ING_RX_ERRORS c.rx, Reg.ING_RX_LAST_LO c.rx, Reg.ING_RX_LAST_HI c.rx] a) s t) ∧
    (∀ (k : Fin 256) c, s.ing.ctxs[k.val]? = some c → c.tiles ≤ c.done.length → (nth 0 c.slate slFence).testBit 31 = false → c.rx < 4 → Ends (.planeDone k) s fun t =>
      t.ing.ctxs = s.ing.ctxs.filter (fun x => x.id != c.id) ∧ t.rn (Reg.ING_RX_PLANES c.rx) = min (2 ^ 32 - 1) (s.rn (Reg.ING_RX_PLANES c.rx) + 1) ∧
      Within [.regs, .hif, .svc, .sent, .ing] (fun a => evtReg a || ingReg a || a == Reg.ING_RX_PLANES c.rx) s t) ∧
    (∀ (k : Fin 256) c, s.ing.ctxs[k.val]? = some c → c.tiles ≤ c.done.length → (nth 0 c.slate slFence).testBit 31 = true →
      4 ≤ c.owner ∨ s.rb (Reg.PAGE_OWNER (Reg.page 2 (1 + nth 0 c.slate slFence % 256 / 32))) c.owner = true → c.rx < 4 → Ends (.planeDone k) s fun t =>
      t.fenceVal (nth 0 c.slate slFence % 256) = (s.fenceVal (nth 0 c.slate slFence % 256) + s.rn (Reg.ING_STREAM_FENCE c.rx c.entry)) % 2 ^ 32 ∧
      t.ing.ctxs = s.ing.ctxs.filter (fun x => x.id != c.id) ∧ t.rn (Reg.ING_RX_PLANES c.rx) = min (2 ^ 32 - 1) (s.rn (Reg.ING_RX_PLANES c.rx) + 1) ∧
      t.mem = s.mem ∧ t.dmc = s.dmc) ∧
    (∀ (k : Fin 256) c, s.ing.ctxs[k.val]? = some c → c.done.length < c.tiles → Ends (.planeDone k) s fun t =>
      t.ing = s.ing ∧ Within [.regs, .hif, .svc, .sent] (fun a => evtReg a || ingReg a) s t)

/-- Trays (R189 to R194): TAIL and RCPT_HEAD are stored; the next envelope is fetched and checked, INFLATE and COPY as written, PARCEL by its header and
shadow Slate; NOP and FENCE at the head of an empty queue end at once with a receipt, the only bytes written, and FENCE advances its counter where it
bears FENCE_EN. -/
def Obligations.TraysFetchEnvelopes : Prop :=
  ∀ (p : Fin 4) (s : State), s.Shape →
    (∀ (q : Party) (v : Word), Allowed s q (Reg.TRAY_TAIL p) v → Ends (.trayTail q p v) s fun t =>
      t.rf (Reg.TRAY_TAIL p) 16 0 = v.toNat % 2 ^ 17 ∧ Within [.regs, .hif] (among [Reg.TRAY_TAIL p, Reg.SEQ (trayPage p)]) s t) ∧
    (∀ (q : Party) (v : Word), Allowed s q (Reg.RCPT_HEAD p) v → (s.tray p).items = [] → (s.tray p).held = [] → s.discarding (trayPage p) = false → Ends (.rcptHead q p v) s fun t =>
      t.rf (Reg.RCPT_HEAD p) 16 0 = v.toNat % 2 ^ 17 ∧ t.rb (Reg.TRAY_STATUS p) 31 = t.rcptFull p ∧
      Within [.regs, .hif, .svc, .sent] (fun a => evtReg a || ingReg a || among [Reg.RCPT_HEAD p, Reg.SEQ (trayPage p)] a) s t) ∧
    (∀ e j, s.Envelope p e → (∀ i ∈ (s.tray p).items.head?, i.op ≠ 0 ∧ i.op ≠ 4) → leAt e 20 4 ≠ 0 → leAt e 20 4 ≤ 16777216 →
      j = envJob p (s.rf (Reg.TRAY_HEAD p) 16 0) e →
      ((leAt e 0 4).testBit 9 = false →
        (leAt e 0 1 = 2 → Ends (.envelopeInflate p) s fun t =>
          (t.tray p).items = (s.tray p).items ++ [j] ∧ t.rf (Reg.TRAY_HEAD p) 16 0 = (s.rf (Reg.TRAY_HEAD p) 16 0 + 1) % 2 ^ 17 ∧
          Within [.regs, .hif, .svc, .sent, .ing, .dmc] (fun a => evtReg a || ingReg a || memReg a || a == Reg.TRAY_HEAD p) s t) ∧
        (leAt e 0 1 = 3 → leAt e 16 4 = leAt e 20 4 → Ends (.envelopeCopy p) s fun t =>
          (t.tray p).items = (s.tray p).items ++ [j] ∧ t.rf (Reg.TRAY_HEAD p) 16 0 = (s.rf (Reg.TRAY_HEAD p) 16 0 + 1) % 2 ^ 17 ∧
          Within [.regs, .hif, .svc, .sent, .ing, .dmc] (fun a => evtReg a || ingReg a || memReg a || a == Reg.TRAY_HEAD p) s t)) ∧
      (∀ n x y w h, n = leAt e 0 4 / 2 ^ 16 % 256 → (leAt e 0 4).testBit 9 = true → n < 40 → s.rb (Reg.PAGE_OWNER (lyrPage n)) p = true →
        x = leAt e 40 6 % 4096 → y = leAt e 40 6 / 2 ^ 12 % 4096 → w = leAt e 40 6 / 2 ^ 24 % 4096 → h = leAt e 40 6 / 2 ^ 36 →
        geomOk (s.latchSlate n) (j.op == 3) x y w h j.len j.ulen = true →
        (leAt e 0 1 = 2 → Ends (.envelopeInflate p) s fun t => (t.tray p).items = (s.tray p).items ++ [{ j with dst := slateDst (s.latchSlate n) x y w }] ∧
          Within [.regs, .hif, .svc, .sent, .ing, .dmc] (fun a => evtReg a || ingReg a || memReg a || a == Reg.TRAY_HEAD p) s t) ∧
        (leAt e 0 1 = 3 → leAt e 16 4 = leAt e 20 4 → Ends (.envelopeCopy p) s fun t =>
          (t.tray p).items = (s.tray p).items ++ [{ j with dst := slateDst (s.latchSlate n) x y w }] ∧
          Within [.regs, .hif, .svc, .sent, .ing, .dmc] (fun a => evtReg a || ingReg a || memReg a || a == Reg.TRAY_HEAD p) s t))) ∧
    (∀ e h x, s.Envelope p e → (∀ i ∈ (s.tray p).items.head?, i.op ≠ 0 ∧ i.op ≠ 4) → leAt e 0 1 = 1 → s.Reads (some p.val) (leAt e 8 5) 32 h → hdrOk h = true →
      x = parseHdr h → x.seg = 0 → leAt e 16 4 = 32 + x.clen → s.rb (Reg.PAGE_OWNER (lyrPage x.layer)) p = true →
      geomOk (s.latchSlate x.layer) x.raw x.tx x.ty x.tw x.th x.clen x.ulen = true → Ends (.envelopeParcel p) s fun t =>
        (∃ j, (t.tray p).items = (s.tray p).items ++ [j] ∧ j.op = 1 ∧ j.src = leAt e 8 5 + 32 ∧ j.len = x.clen ∧ j.ulen = x.ulen ∧ j.raw = x.raw ∧
          j.dst = slateDst (s.latchSlate x.layer) x.tx x.ty x.tw ∧ j.port = some p.val) ∧
        t.rf (Reg.TRAY_HEAD p) 16 0 = (s.rf (Reg.TRAY_HEAD p) 16 0 + 1) % 2 ^ 17 ∧
        Within [.regs, .hif, .svc, .sent, .ing, .dmc] (fun a => evtReg a || ingReg a || memReg a || a == Reg.TRAY_HEAD p) s t) ∧
    (∀ e, s.Envelope p e → (s.tray p).items = [] → (s.tray p).held = [] → s.jobsOf false p = [] → s.Writable (some p.val) (s.rcptAddr p) 32 →
      (leAt e 0 1 = 0 → Ends (.envelopeNop p) s fun t =>
        (t.tray p).items = [] ∧ t.rf (Reg.TRAY_HEAD p) 16 0 = (s.rf (Reg.TRAY_HEAD p) 16 0 + 1) % 2 ^ 17 ∧ t.rf (Reg.RCPT_TAIL p) 16 0 = (s.rf (Reg.RCPT_TAIL p) 16 0 + 1) % 2 ^ 17 ∧
        (∃ r, s.Stored t (s.rcptAddr p) r ∧ r.length = 32 ∧ leAt r 0 2 = s.rf (Reg.TRAY_HEAD p) 16 0 % 65536 ∧ leAt r 2 1 = 0 ∧ leAt r 4 4 = leAt e 4 4) ∧
        s.MemoryBut t (fun a => a = s.rcptAddr p) 32 ∧
        Within [.regs, .hif, .svc, .sent, .ing, .dmc, .mem] (fun a => evtReg a || ingReg a || memReg a || among [Reg.TRAY_HEAD p, Reg.RCPT_TAIL p, Reg.TRAY_JOBS p] a) s t) ∧
      (leAt e 0 1 = 4 → s.rb (Reg.PAGE_OWNER (Reg.page 2 (1 + leAt e 48 1 / 32))) p = true → Ends (.envelopeFence p) s fun t =>
        t.fenceVal (leAt e 48 1) = (s.fenceVal (leAt e 48 1) + if (leAt e 0 4).testBit 8 then leAt e 52 4 else 0) % 2 ^ 32 ∧ (t.tray p).items = [] ∧
        t.rf (Reg.TRAY_HEAD p) 16 0 = (s.rf (Reg.TRAY_HEAD p) 16 0 + 1) % 2 ^ 17 ∧ t.rf (Reg.RCPT_TAIL p) 16 0 = (s.rf (Reg.RCPT_TAIL p) 16 0 + 1) % 2 ^ 17 ∧
        (∃ r, s.Stored t (s.rcptAddr p) r ∧ r.length = 32 ∧ leAt r 0 2 = s.rf (Reg.TRAY_HEAD p) 16 0 % 65536 ∧ leAt r 2 1 = 0 ∧ leAt r 4 4 = leAt e 4 4) ∧
        s.MemoryBut t (fun a => a = s.rcptAddr p) 32))

/-- Dispatch and decompressors (R194 to R201): the lowest free engine takes a job to be run again first, else the next queue's head; an engine that has read
its last input may take another; a job's end frees it for the job behind; a COPY of one line moves exactly its bytes, its receipt held while the ring is
full; an uncorrectable word fences the engine and its jobs are dispatched again. -/
def Obligations.DispatchAndJobs : Prop :=
  ∀ (e : Fin 24) (s : State), s.Shape →
    ((∀ k < 24, s.pgState (dcpPage k) ≠ 6) → (List.range 24).find? (fun k => s.dcpFree k) = some e.val →
      (∀ j rest, s.ing.again = j :: rest → Ends .dispatch s fun t =>
        t.dcp e = s.dcpWith e j ∧ t.ing.again = rest ∧ t.ing.ready = s.ing.ready ∧ t.ing.trays = s.ing.trays ∧
        Within [.regs, .hif, .svc, .sent, .ing] (fun a => evtReg a || ingReg a) s t) ∧
      (∀ q j rest, s.ing.again = [] → q < 4 → s.ing.turn = q → nth [] s.ing.ready q = j :: rest → Ends .dispatch s fun t =>
        t.dcp e = s.dcpWith e j ∧ nth [] t.ing.ready q = rest ∧ t.ing.turn = (q + 1) % 8 ∧
        t.rn (Reg.ING_RX_PARCELS q) = min (2 ^ 32 - 1) (s.rn (Reg.ING_RX_PARCELS q) + 1) ∧
        Within [.regs, .hif, .svc, .sent, .ing] (fun a => evtReg a || ingReg a || a == Reg.ING_RX_PARCELS q) s t) ∧
      (∀ p j rest, s.ing.again = [] → p < 4 → s.ing.turn = 4 + p → (s.tray p).items = j :: rest → s.queueHead (4 + p) = some j →
        (∀ i ∈ rest.head?, i.op ≠ 0 ∧ i.op ≠ 4) → Ends .dispatch s fun t =>
        t.dcp e = s.dcpWith e j ∧ (t.tray p).items = rest ∧ t.ing.turn = (5 + p) % 8 ∧ Within [.regs, .hif, .svc, .sent, .ing] (fun a => evtReg a || ingReg a) s t)) ∧
    (∀ j, (s.dcp e).running = some j → Ends (.dcpInputConsumed e) s fun t =>
      (t.dcp e).consumed = true ∧ (t.dcp e).running = some j ∧ (∀ k < 24, k ≠ e.val → t.dcp k = s.dcp k) ∧ Within [.hif, .ing] (fun _ => false) s t) ∧
    (∀ j points, (s.dcp e).running = some j → j.ok → (∀ i ∈ (s.tray j.unit).items, i.ok) → (∀ c ∈ s.ing.ctxs, c.rx < 4) → Ends (.dcpJobEnd e points) s fun t =>
      (t.dcp e).running = (s.dcp e).taken ∧ (t.dcp e).taken = none ∧ t.rn (Reg.DCP_JOBS e) = min (2 ^ 32 - 1) (s.rn (Reg.DCP_JOBS e) + 1)) ∧
    (∀ j points bs, (s.dcp e).running = some j → (s.dcp e).leaving = false → j.net = false → j.raw = true → j.hdr = none → j.ring = none → j.discard = false →
      j.silent = false → j.fence = none → j.unit < 4 → j.dst.row = 0 → 1 ≤ j.len → j.src < 2 ^ 40 → j.dst.start < 2 ^ 40 → s.Reads j.port j.src j.len bs →
      s.Writable j.port j.dst.start j.len → s.rcptFull j.unit = true → Ends (.dcpJobEnd e points) s fun t =>
        s.Stored t j.dst.start bs ∧ s.MemoryBut t (fun a => a = j.dst.start) j.len ∧ t.rf (Reg.DCP_STATUS e) 31 24 = 0 ∧
        (t.dcp e).running = (s.dcp e).taken ∧ t.rn (Reg.DCP_JOBS e) = min (2 ^ 32 - 1) (s.rn (Reg.DCP_JOBS e) + 1) ∧
        (t.tray j.unit).held.length = (s.tray j.unit).held.length + 1 ∧
        Within [.regs, .hif, .svc, .sent, .ing, .dmc, .mem] (fun a => evtReg a || ingReg a || memReg a || among [Reg.DCP_JOBS e, Reg.DCP_IN_BYTES e, Reg.DCP_OUT_BYTES e] a) s t) ∧
    (s.pgState (dcpPage e) ≠ 4 → s.flt.windows = [] → Ends (.dcpUncorr e) s fun t =>
      t.fltPending (293 + 2 * e) = true ∧ t.pgState (dcpPage e) = 4 ∧ (t.dcp e).jobs = [] ∧ t.ing.again = s.ing.again ++ (s.dcp e).jobs ∧
      t.rn (Reg.DCP_FENCES e) = min (2 ^ 32 - 1) (s.rn (Reg.DCP_FENCES e) + 1) ∧
      Within (.ing :: noticeFields) (fun a => fenceReg a || among [Reg.PAGE_CTRL (dcpPage e), Reg.PAGE_STATUS (dcpPage e), Reg.DCP_FENCES e] a) s t)


/-! ### Compressors and the Print (R208 to R224) -/

/-- Jobs of a compressor (R208 to R212, R216): START latches a job on a free engine and is REFUSED on a busy one; RESUME gives the suspended job of its owner a
buffer; DISCARD marks a running one; a full buffer suspends the job with what fits; a job whose stream fits ends OK, its stream in the buffer after the
parcel header where it has one, and its receipt written; a failed verification and an uncorrectable fault end the job, each with its status. Of memory, only what
the job writes changes. -/
def Obligations.CompressorJobs : Prop :=
  ∀ (e : Fin 4) (s : State), s.Shape →
    (∀ p : Party, Allowed s p (Reg.CMP_CMD e) 1 → s.takesWork (cmpPage e) = true → (s.cmpEng e).job = none → (s.cmpEng e).leaving = false →
      1 ≤ s.rf (Reg.CMP_JOB e) 3 0 → s.rf (Reg.CMP_JOB e) 3 0 ≤ 9 → 1 ≤ s.rf (Reg.CMP_SRC_LEN e) 24 0 →
      s.rf (Reg.CMP_JOB e) 5 4 = 0 ∨ s.rf (Reg.CMP_JOB e) 5 4 = 1 ∧ s.rf (Reg.CMP_HDR_TILE e) 31 24 < 40 ∧ s.rf (Reg.CMP_HDR_TILE e) 23 21 = 0 ∧
        s.rf (Reg.CMP_HDR_TILE e) 9 0 < s.rf (Reg.CMP_HDR_TILE e) 20 10 ∧ s.rf (Reg.CMP_HDR_TILE e) 20 10 ≤ 1024 →
      s.rf (Reg.CMP_SRC_LEN e) 24 0 ≤ 16777216 → 64 ≤ s.rn (Reg.CMP_DST_LEN e) → Ends (.cmpStart p e) s fun t =>
        (∃ j, (t.cmpEng e).job = some j ∧ j.owner = partyCode p ∧ j.format = s.rf (Reg.CMP_JOB e) 5 4 ∧ j.level = s.rf (Reg.CMP_JOB e) 3 0 ∧ j.src = s.addr40 (Reg.CMP_SRC_LO e) ∧ j.len = s.rf (Reg.CMP_SRC_LEN e) 24 0 ∧
          j.bufs = [(s.addr40 (Reg.CMP_DST_LO e), s.rn (Reg.CMP_DST_LEN e))] ∧ j.consumed = 0 ∧ j.suspended = false) ∧ (t.cmpEng e).capture = none ∧
        t.rb (Reg.CMP_STATUS e) 0 = false ∧ t.rf (Reg.CMP_STATUS e) 9 8 = 1 ∧ t.rn (Reg.CMP_IN_DONE e) = 0 ∧ t.rn (Reg.CMP_OUT_DONE e) = 0 ∧
        Within [.regs, .hif, .svc, .sent, .cmp] (fun a => evtReg a || cmpReg a || among [Reg.CMP_IN_DONE e, Reg.CMP_OUT_DONE e, Reg.SEQ (cmpPage e)] a) s t) ∧
    (∀ p j, Allowed s p (Reg.CMP_CMD e) 1 → (s.cmpEng e).job = some j → Ends (.cmpStart p e) s fun t =>
      t.rb (Reg.CMP_STATUS e) 0 = true ∧ Within [.regs, .hif] (among [Reg.CMP_STATUS e, Reg.SEQ (cmpPage e)]) s t) ∧
    (∀ p j, Allowed s p (Reg.CMP_CMD e) 2 → (s.cmpEng e).job = some j → j.owner = partyCode p → j.suspended = true → 64 ≤ s.rn (Reg.CMP_DST_LEN e) → Ends (.cmpResume p e) s fun t =>
      (t.cmpEng e).job = some { j with suspended := false, cur := 0, bufs := j.bufs ++ [(s.addr40 (Reg.CMP_DST_LO e), s.rn (Reg.CMP_DST_LEN e))] } ∧
      t.rf (Reg.CMP_STATUS e) 9 8 = 1 ∧ Within [.regs, .hif, .svc, .sent, .cmp] (fun a => evtReg a || cmpReg a || a == Reg.SEQ (cmpPage e)) s t) ∧
    (∀ p j, Allowed s p (Reg.CMP_CMD e) 3 → (s.cmpEng e).job = some j → j.owner = partyCode p → j.suspended = false → Ends (.cmpDiscard p e) s fun t =>
      (t.cmpEng e).job = some { j with discard := true } ∧ Within [.regs, .hif, .cmp] (among [Reg.CMP_STATUS e, Reg.SEQ (cmpPage e)]) s t) ∧
    (∀ j st a n bs, (s.cmpEng e).job = some j → j.suspended = false → j.discard = false → st = j.stream.getD (cmpStream j.level (s.peek j.src j.len)) →
      j.bufs = [(a, n)] → j.out = 0 → j.consumed = 0 → 1 ≤ j.len → j.src < 2 ^ 40 → s.Reads j.port j.src j.len bs → a + n ≤ 2 ^ 40 → s.Writable j.port j.rcpt 32 →
      (j.format = 0 → n < st.length → (∀ i < n, s.allowed j.port (a + i) true = true) → (inflate st j.len).marks.all (fun m => decide (m.2 ≤ j.len)) = true →
        Ends (.cmpSuspend e) s fun t =>
          (∃ j', (t.cmpEng e).job = some j' ∧ j'.suspended = true ∧ j'.out ≤ n ∧ j'.cur = j'.out ∧ t.rn (Reg.CMP_OUT_DONE e) = j'.out % 2 ^ 32) ∧
          t.rf (Reg.CMP_STATUS e) 9 8 = 2 ∧ s.MemoryOutside t (fun k => s.stores a n k ∨ s.stores j.rcpt 32 k)) ∧
      (j.format = 0 → st.length ≤ n → 1 ≤ st.length → s.Writable j.port a st.length → j.fence = none → (s.cmpEng e).leaving = false →
        (∀ k, s.stores a st.length k → ¬ s.stores j.rcpt 32 k) → Ends (.cmpJobEnd e) s fun t =>
          (t.cmpEng e).job = none ∧ s.Stored t a st ∧ t.rn (Reg.CMP_OUT_DONE e) = st.length % 2 ^ 32 ∧ t.rn (Reg.CMP_IN_DONE e) = j.len % 2 ^ 32 ∧
          t.rf (Reg.CMP_STATUS e) 31 24 = 0 ∧ s.MemoryOutside t (fun k => s.stores a st.length k ∨ s.stores j.rcpt 32 k)) ∧
      (j.format = 1 → 32 + st.length ≤ n → 1 ≤ st.length → st.length ≤ 2097152 → s.Writable j.port a 32 → s.Writable j.port (a + 32) st.length → j.hdr.length = 28 →
        j.fence = none → (s.cmpEng e).leaving = false → (∀ k, s.stores a 32 k → ¬ s.stores j.rcpt 32 k ∧ ¬ s.stores (a + 32) st.length k) →
        (∀ k, s.stores (a + 32) st.length k → ¬ s.stores j.rcpt 32 k) → Ends (.cmpJobEnd e) s fun t =>
          (t.cmpEng e).job = none ∧ s.Stored t (a + 32) st ∧ (∃ h, h.length = 32 ∧ h.take 20 = j.hdr.take 20 ∧ leAt h 20 4 = st.length ∧ hdrCrcOk h st = true ∧ s.Stored t a h) ∧
          t.rf (Reg.CMP_STATUS e) 31 24 = 0 ∧ s.MemoryOutside t (fun k => s.stores a 32 k ∨ s.stores (a + 32) st.length k ∨ s.stores j.rcpt 32 k))) ∧
    (∀ j, (s.cmpEng e).job = some j → Ends (.cmpVerifyFail e) s fun t => (t.cmpEng e).job = none ∧ t.fltPending (348 + e) = true ∧
      (s.Writable j.port j.rcpt 32 → t.rf (Reg.CMP_STATUS e) 31 24 = 3) ∧ s.MemoryOutside t (fun k => s.inBuffer j k ∨ s.stores j.rcpt 32 k)) ∧
    ((s.cmpEng e).job = none → (s.cmpEng e).capture = none → Ends (.cmpVerifyFail e) s fun t => Within [.hif] (fun _ => false) s t) ∧
    Ends (.cmpUncorr e) s (fun t => (t.cmpEng e).job = none ∧ t.fltPending (341 + 2 * e) = true ∧ (s.flt.windows = [] → t.pgState (cmpPage e) = 4) ∧
      ∀ j, (s.cmpEng e).job = some j → (s.Writable j.port j.rcpt 32 → t.rf (Reg.CMP_STATUS e) 31 24 = 8) ∧
        s.MemoryOutside t (fun k => s.inBuffer j k ∨ s.stores j.rcpt 32 k))

/-- The Print (R219 to R222): a captured strip joins its entry, or the entry is freed where the pages run out; an abandoned one is captured again later; INVALIDATE_ALL
marks the entries for the next latch point; RETRY forgets the entries refused for pages; an uncorrectable row of an entry in use reads transparent, and the entry is to be freed. -/
def Obligations.PrintCapturesAndFrees : Prop :=
  ∀ s : State, s.Shape →
    (∀ (e : Fin 4) c, (s.cmpEng e).capture = some c → c.entry < 8 → s.stripReady c = true → Ends (.printStripDone e) s fun t =>
      ((s.prt.entries.map PEntry.pages).sum + s.stripPages c ≤ 3072 →
        (t.pEntry c.entry).todo = (s.pEntry c.entry).todo.filter (· != c.strip) ∧ (t.pEntry c.entry).pages = (s.pEntry c.entry).pages + s.stripPages c ∧
        (t.pEntry c.entry).rows = (s.pEntry c.entry).rows ++ s.stripRows c) ∧
      (3072 < (s.prt.entries.map PEntry.pages).sum + s.stripPages c → t.pEntry c.entry = PEntry.free) ∧
      (∀ x < 8, x ≠ c.entry → t.pEntry x = s.pEntry x) ∧
      Within [.regs, .hif, .svc, .sent, .cmp, .prt] (fun a => evtReg a || cmpReg a || among [Reg.CMP_PRINT_LAST, Reg.CMP_PRINT_USED] a ||
        (List.range 8).any fun x => a == Reg.CMP_PRINT_ENT x) s t) ∧
    (∀ (e : Fin 4) c, (s.cmpEng e).capture = some c → Ends (.printStripAbandon e) s fun t =>
      (∀ c', (t.cmpEng e).capture = some c' → c'.rows = [] ∧ c'.frame = none ∧ ∀ f, s.syn.frames.getLast? = some f → c'.from_ = f.num + 1) ∧
      (s.takesWork (cmpPage e) = false → (t.cmpEng e).capture = none) ∧ (t.cmpEng e).job = (s.cmpEng e).job ∧
      Within [.regs, .hif, .svc, .sent, .cmp] (fun a => evtReg a || cmpReg a) s t) ∧
    (∀ p : Party, Allowed s p Reg.CMP_PRINT_CMD 1 → Ends (.invalidateAll p) s fun t =>
      t.prt.drop = (List.range 8).filter (fun x => (s.pEntry x).st != 0) ∧ t.prt.entries = s.prt.entries ∧
      Within [.regs, .hif, .prt] (among [Reg.SEQ (Reg.page 10 0)]) s t) ∧
    (∀ p : Party, Allowed s p Reg.CMP_PRINT_CMD 2 → Ends (.printRetry p) s fun t =>
      (∀ r ∈ t.prt.refused, r ∈ s.prt.refused ∧ r.2.2.1 ≠ 3) ∧ t.prt.entries = s.prt.entries ∧ Within [.regs, .hif, .prt] (among [Reg.SEQ (Reg.page 10 0)]) s t) ∧
    (∀ (x : Fin 8) (row : Fin 2160), (s.pEntry x).st ≠ 0 → Ends (.printUncorr x row) s fun t =>
      (∀ r ∈ (t.pEntry x).rows, r ∈ (s.pEntry x).rows ∧ r.row ≠ row) ∧
      ((s.pEntry x).st = 2 → ∀ q ∈ t.syn.reel, q.layer = (s.pEntry x).front → q.row = row.val → q.cells = []) ∧ x.val ∈ t.prt.drop ∧ t.fltPending 353 = true ∧
      (∀ y < 8, y ≠ x.val → t.pEntry y = s.pEntry y) ∧ Within (.prt :: .syn :: noticeFields) faultReg s t) ∧
    (∀ (x : Fin 8) (row : Fin 2160), (s.pEntry x).st = 0 → Ends (.printUncorr x row) s fun t => Within [.hif] (fun _ => false) s t)


/-! ### Block engine (R226 to R243) -/

/-- Queues (R226, R227, R229 to R231): TAIL and the receipt HEAD are stored; the next good descriptor of COPY, FILL or BLEND joins its queue, and begins its wait where it has CUE;
NOP and FENCE end at once with a receipt, the only bytes written, and advance the counter that they name. -/
def Obligations.BlockQueuesFetch : Prop :=
  ∀ (p : Fin 4) (s : State), s.Shape →
    (∀ (q : Party) (v : Word), Allowed s q (Reg.BLK_Q_TAIL p) v → Ends (.blkQTail q p v) s fun t =>
      t.rf (Reg.BLK_Q_TAIL p) 15 0 = v.toNat % 65536 ∧ Within [.regs, .hif] (among [Reg.BLK_Q_TAIL p, Reg.SEQ (blkQPage p)]) s t) ∧
    (∀ (q : Party) (v : Word), Allowed s q (Reg.BLK_R_HEAD p) v → (s.bqueue p).ops = [] → (s.bqueue p).held = [] → s.queueDiscards p = false → Ends (.blkRHead q p v) s fun t =>
      t.rf (Reg.BLK_R_HEAD p) 15 0 = v.toNat % 65536 ∧ t.rb (Reg.BLK_Q_STATUS p) 31 = t.blkFull p ∧
      Within [.regs, .hif, .svc, .sent] (fun a => evtReg a || blkReg a || among [Reg.BLK_R_HEAD p, Reg.SEQ (blkQPage p)] a) s t) ∧
    (∀ d o (c : Instr), s.Descriptor p d → o = parseDesc p (s.rf (Reg.BLK_Q_HEAD p) 15 0) d →
      (o.op = 1 ∧ c = .blkCopy p ∨ o.op = 2 ∧ c = .blkFill p ∨ o.op = 3 ∧ c = .blkBlend p) → Ends c s fun t =>
        (t.bqueue p).ops = [{ o with waiting := o.cue.isSome }] ∧ (o.cue.isSome = true → t.rb (Reg.BLK_Q_STATUS p) 20 = true) ∧ t.rf (Reg.BLK_Q_HEAD p) 15 0 = (s.rf (Reg.BLK_Q_HEAD p) 15 0 + 1) % 65536 ∧ (t.bqueue p).held = [] ∧
        Within [.regs, .hif, .svc, .sent, .blk, .dmc] (fun a => evtReg a || blkReg a || memReg a || a == Reg.BLK_Q_HEAD p) s t) ∧
    (∀ d o (c : Instr), s.Descriptor p d → o = parseDesc p (s.rf (Reg.BLK_Q_HEAD p) 15 0) d → s.Writable (some p.val) (s.blkRcpt p) 32 →
      (∀ i n, o.fence = some (i, n) → s.rb (Reg.PAGE_OWNER (Reg.page 2 (1 + i / 32))) p = true) → (o.op = 0 ∧ c = .blkNop p ∨ o.op = 4 ∧ c = .blkFence p) → Ends c s fun t =>
        (t.bqueue p).ops = [] ∧ (t.bqueue p).held = [] ∧ t.rf (Reg.BLK_Q_HEAD p) 15 0 = (s.rf (Reg.BLK_Q_HEAD p) 15 0 + 1) % 65536 ∧
        t.rf (Reg.BLK_R_TAIL p) 15 0 = (s.rf (Reg.BLK_R_TAIL p) 15 0 + 1) % 65536 ∧
        (∃ r, s.Stored t (s.blkRcpt p) r ∧ r.length = 32 ∧ leAt r 0 2 = o.idx % 65536 ∧ leAt r 2 1 = 0 ∧ leAt r 4 4 = o.tag) ∧
        (∀ i n, o.fence = some (i, n) → t.fenceVal i = (s.fenceVal i + n) % 2 ^ 32) ∧ s.MemoryBut t (fun a => a = s.blkRcpt p) 32 ∧
        (o.fence = none → Within [.regs, .hif, .svc, .sent, .blk, .dmc, .mem]
          (fun a => evtReg a || blkReg a || memReg a || among [Reg.BLK_Q_HEAD p, Reg.BLK_R_TAIL p, Reg.BLK_Q_OPS p] a) s t))

/-- Movers (R228, R232, R233, R236, R239, R241): the lowest free mover that has work takes an operation that the other left, else the next queue's head; a burst
writes the fill, the source or the blend to its place, and only there; its dead time then ends; the operation ends with its receipt and its fence; a fence
request on an idle mover fences it; an uncorrectable word fences a mover, and what it held is run again by the other. -/
def Obligations.MoversMove : Prop :=
  ∀ (m : Fin 2) (s : State), s.Shape →
    ((List.range 2).find? (fun k => s.moverFree k && s.moverWork k) = some m.val →
      (∀ o, s.blk.again.find? (fun o => o.2 != m.val) = some o → Ends .moverTake s fun t =>
        (t.mover m).run = some (s.blkBegin o.1) ∧ t.blk.again = s.blk.again.filter (· != o) ∧ t.blk.queues = s.blk.queues ∧
        Within [.regs, .hif, .svc, .sent, .blk] (fun a => evtReg a || blkReg a) s t) ∧
      (∀ p o, s.blk.again.find? (fun o => o.2 != m.val) = none → p = (s.blk.last + 1) % 4 → s.queueReady p = some o → Ends .moverTake s fun t =>
        (t.mover m).run = some (s.blkBegin o) ∧ (t.bqueue p).ops = (s.bqueue p).ops.drop 1 ∧ t.blk.last = p ∧
        Within [.regs, .hif, .svc, .sent, .blk] (fun a => evtReg a || blkReg a) s t)) ∧
    (∀ r row col n sa da, (s.mover m).run = some r → (s.mover m).leaving = false → r.over = false → r.dead = false → r.scratch = false → r.viaScratch = false → r.discard = false →
      r.op.queue < 4 → r.op.burstAt r.op.direction r.burst = (row, col, n) → sa = (r.op.src + row * r.op.spitch + col) % 2 ^ 40 → da = (r.op.dst + row * r.op.dpitch + col) % 2 ^ 40 →
      (∀ d, (r.op.op = 2 ∧ d = (List.range n).map (fun i => nth 0 (leBytes 8 r.op.fill) ((col + i) % 8)) ∨ r.op.op = 1 ∧ s.Reads (some r.op.queue) sa n d ∨
          ∃ x y, r.op.op = 3 ∧ s.Reads (some r.op.queue) sa n x ∧ s.Reads (some r.op.queue) da n y ∧ d = blendBytes r.op.format (n + 1) x y ∧ d.length = n) →
        s.Writable (some r.op.queue) da n → Ends (.blkBurstDone m) s fun t =>
          s.Stored t da d ∧ s.MemoryBut t (fun a => a = da) n ∧
          (t.mover m).run = some { r with burst := r.burst + 1, rows := (r.burst + 1) / r.op.rowBursts, bytes := r.bytes + n, dead := r.gap != 0,
                                          gap := if r.gap = 0 then s.rf (Reg.BLK_Q_DEAD r.op.queue) 15 0 else r.gap } ∧
          Within [.regs, .hif, .blk, .dmc, .mem] (fun a => memReg a || among [Reg.BLK_Q_BYTES r.op.queue, Reg.BLK_BYTES] a) s t) ∧
      (∀ x d, x = (s.readMem (some r.op.queue) sa n).2 → (r.op.op = 2 ∧ d = (List.range n).map (fun i => nth 0 (leBytes 8 r.op.fill) ((col + i) % 8)) ∨
          r.op.op = 1 ∧ x.denied = false ∧ x.uncorr = false ∧ d = x.data) → (s.writeMem (some r.op.queue) da d).2 = false → Ends (.blkBurstDone m) s fun t =>
          t.mem = (s.writeMem (some r.op.queue) da d).1.mem ∧ s.MemoryBut t (fun a => a = da) n ∧
          (t.mover m).run = some { r with burst := r.burst + 1, rows := (r.burst + 1) / r.op.rowBursts, bytes := r.bytes + n, dead := r.gap != 0,
                                          gap := if r.gap = 0 then s.rf (Reg.BLK_Q_DEAD r.op.queue) 15 0 else r.gap })) ∧
    (∀ r, (s.mover m).run = some r → Ends (.deadTimeExpiry m) s fun t =>
      (t.mover m).run = some (if r.dead then { r with dead := false, gap := s.rf (Reg.BLK_Q_DEAD r.op.queue) 15 0 } else r) ∧ Within [.hif, .blk] (fun _ => false) s t) ∧
    (∀ r p, (s.mover m).run = some r → r.over = true → r.dead = false → r.status = none → r.viaScratch = false → r.silent = false → p = r.op.queue → p < 4 →
      (∀ i n, r.op.fence = some (i, n) → i < 256 ∧ s.rb (Reg.PAGE_OWNER (Reg.page 2 (1 + i / 32))) p = true) → (s.bqueue p).ops = [] → (s.bqueue p).held = [] →
      s.queueDiscards p = false → s.blkFull p = false → s.blkStopped p = false → s.Writable (some p) (s.blkRcpt p) 32 → Ends (.blkOpEnd m) s fun t =>
        (t.mover m).run = none ∧ t.rf (Reg.BLK_R_TAIL p) 15 0 = (s.rf (Reg.BLK_R_TAIL p) 15 0 + 1) % 65536 ∧
        (∃ b, s.Stored t (s.blkRcpt p) b ∧ b.length = 32 ∧ leAt b 0 2 = r.op.idx % 65536 ∧ leAt b 2 1 = 0 ∧ leAt b 4 4 = r.op.tag ∧ leAt b 8 4 = r.rows % 2 ^ 32) ∧
        (∀ i n, r.op.fence = some (i, n) → t.fenceVal i = (s.fenceVal i + n) % 2 ^ 32) ∧ s.MemoryBut t (fun a => a = s.blkRcpt p) 32) ∧
    (∀ r, (s.mover m).run = some r → r.over = true → r.dead = false → r.status = none → r.viaScratch = false → r.silent = true → Ends (.blkOpEnd m) s fun t =>
      (t.mover m).run = none ∧ Within [.regs, .hif, .svc, .sent, .blk] (fun a => evtReg a || blkReg a) s t) ∧
    (∀ (p : Party) (v : Word), Allowed s p Reg.BLK_MOVERS v → bit v m = true → s.rb Reg.BLK_MOVERS m = false → bit v (1 - m.val) = s.rb Reg.BLK_MOVERS (1 - m.val) →
      (s.mover m).run = none → s.moverState m ≠ 4 → Ends (.moverFenceReq p v) s fun t =>
        t.moverState m = 4 ∧ t.rb Reg.BLK_MOVERS m = true ∧ t.mem = s.mem ∧ t.blk.again = s.blk.again) ∧
    (∀ r, (s.mover m).run = some r → r.status = none → r.discard = false → r.op.overlaps = false → s.moverState m ≠ 4 → s.flt.windows = [] → Ends (.blkUncorr m) s fun t =>
      t.fltPending (357 + 2 * m) = true ∧ t.moverState m = 4 ∧ (t.mover m).run = none ∧ t.blk.again = s.blk.again ++ [(r.op, m.val)] ∧
      Within (.blk :: noticeFields) (fun a => fenceReg a || blkReg a) s t)


/-! ### Memory subsystem (R245 to R277) -/

/-- Training (R246 to R250, R271, R273): TRAIN starts stage 1 on a channel that is OFF and is refused otherwise; a good stage leads to the next, stage 6 with the
oscillator counts; after stage 8, or stage 7 where the contents are kept, the channel is IDLE; trained anew it reads zero throughout, and no other channel's
bytes change; without a DIMM training ends; a failed or late stage records itself and raises source 366 + 8c; a returning channel joins with zero contents. -/
def Obligations.ChannelsTrain : Prop :=
  ∀ (c : Fin 6) (s : State), s.Shape →
    (∀ p : Party, Allowed s p (Reg.DMC_CH_CMD c) 1 → s.pgState (chPage c) = 0 → s.rb Reg.PWR_GATE_MISC (16 + c) = false → Ends (.train p c) s fun t =>
      (t.chan c).training = true ∧ (t.chan c).keep = false ∧ (t.chan c).dimms = [] ∧ t.rf (Reg.DMC_CH_STATUS c) 31 28 = 1 ∧ t.rb (Reg.DMC_CH_STATUS c) 20 = false ∧
      Within [.regs, .hif, .dmc] (among [Reg.DMC_CH_STATUS c, Reg.SEQ (chPage c)]) s t) ∧
    (∀ p : Party, Allowed s p (Reg.DMC_CH_CMD c) 17 → s.pgState (chPage c) = 0 → s.rb Reg.PWR_GATE_MISC (16 + c) = false → Ends (.trainKeep p c) s fun t =>
      (t.chan c).training = true ∧ (t.chan c).keep = (s.chan c).held ∧ t.rf (Reg.DMC_CH_STATUS c) 31 28 = 1 ∧
      Within [.regs, .hif, .dmc] (among [Reg.DMC_CH_STATUS c, Reg.SEQ (chPage c)]) s t) ∧
    (∀ p : Party, Allowed s p (Reg.DMC_CH_CMD c) 1 → s.pgState (chPage c) ≠ 0 → Ends (.train p c) s fun t =>
      t.rb (Reg.DMC_CH_STATUS c) 20 = true ∧ Within [.regs, .hif] (among [Reg.DMC_CH_STATUS c, Reg.SEQ (chPage c)]) s t) ∧
    (∀ (dimms : List Dimm) osc, (s.chan c).training = true → s.rf (Reg.DMC_CH_STATUS c) 31 28 = 1 → dimms ≠ [] → popOk dimms = true → Ends (.trainStageDone c true dimms osc) s fun t =>
      (t.chan c).dimms = dimms ∧ t.rf (Reg.DMC_CH_STATUS c) 31 28 = 2 ∧ t.rf (Reg.DMC_CH_STATUS c) 15 14 = dimms.length ∧
      Within [.regs, .hif, .dmc] (among [Reg.DMC_CH_STATUS c]) s t) ∧
    (∀ osc, (s.chan c).training = true → s.rf (Reg.DMC_CH_STATUS c) 31 28 = 1 → Ends (.trainStageDone c true [] osc) s fun t =>
      (t.chan c).training = false ∧ t.rf (Reg.DMC_CH_STATUS c) 15 14 = 0 ∧ Within [.regs, .hif, .dmc] (among [Reg.DMC_CH_STATUS c]) s t) ∧
    (∀ (dimms : List Dimm) osc, (s.chan c).training = true → 2 ≤ s.rf (Reg.DMC_CH_STATUS c) 31 28 → s.rf (Reg.DMC_CH_STATUS c) 31 28 ≤ 7 →
      s.rf (Reg.DMC_CH_STATUS c) 31 28 ≠ 7 ∨ (s.chan c).keep = false → Ends (.trainStageDone c true dimms osc) s fun t =>
      t.rf (Reg.DMC_CH_STATUS c) 31 28 = s.rf (Reg.DMC_CH_STATUS c) 31 28 + 1 ∧ (t.chan c).training = true ∧
      (s.rf (Reg.DMC_CH_STATUS c) 31 28 = 6 → ∀ r < 4, (t.rank c r).base = nth 0 osc r) ∧ Within [.regs, .hif, .dmc] (among [Reg.DMC_CH_STATUS c]) s t) ∧
    (∀ (dimms : List Dimm) osc, (s.chan c).training = true → (s.chan c).requests = [] → s.rf (Reg.DMC_CH_STATUS c) 31 28 = 8 → Ends (.trainStageDone c true dimms osc) s fun t =>
      t.pgState (chPage c) = 1 ∧ (t.chan c).training = false ∧ (t.chan c).bad = [] ∧ t.rf (Reg.DMC_CH_STATUS c) 19 16 = chanRanks (s.chan c).dimms % 16 ∧
      t.rb (Reg.DMC_CH_STATUS c) 23 = false ∧ ∀ k la, la < 2 ^ 37 → t.byteAt k la = if k = c.val then 0 else s.byteAt k la) ∧
    (∀ (dimms : List Dimm) osc, (s.chan c).training = true → s.rf (Reg.DMC_CH_STATUS c) 31 28 = 7 → (s.chan c).keep = true → Ends (.trainStageDone c true dimms osc) s fun t =>
      t.pgState (chPage c) = 1 ∧ (t.chan c).training = false ∧ (t.chan c).held = false ∧ t.rb (Reg.DMC_CH_STATUS c) 23 = true ∧ t.mem = s.mem ∧
      ∀ k la, t.byteAt k la = s.byteAt k la) ∧
    (∀ (pass : Bool) (dimms : List Dimm) osc, (s.chan c).training = true →
      s.rf (Reg.DMC_CH_STATUS c) 31 28 = 1 ∧ dimms ≠ [] ∧ (pass = false ∨ popOk dimms = false) ∨ 2 ≤ s.rf (Reg.DMC_CH_STATUS c) 31 28 ∧ pass = false →
      Ends (.trainStageDone c pass dimms osc) s fun t =>
      (t.chan c).training = false ∧ t.rf (Reg.DMC_CH_STATUS c) 27 24 = s.rf (Reg.DMC_CH_STATUS c) 31 28 ∧ t.fltPending (366 + 8 * c) = true ∧ t.mem = s.mem) ∧
    ((s.chan c).training = true → Ends (.trainStageTimeout c) s fun t =>
      (t.chan c).training = false ∧ t.rf (Reg.DMC_CH_STATUS c) 27 24 = s.rf (Reg.DMC_CH_STATUS c) 31 28 ∧ t.fltPending (366 + 8 * c) = true ∧ t.mem = s.mem) ∧
    ((s.chan c).training = false → Ends (.trainStageTimeout c) s fun t => Within [.hif] (fun _ => false) s t) ∧
    (s.pgState (chPage c) = 6 → (s.chan c).requests = [] → Ends (.channelJoin c) s fun t =>
      t.pgState (chPage c) = 1 ∧ (t.chan c).held = false ∧ ∀ k la, la < 2 ^ 37 → t.byteAt k la = if k = c.val then 0 else s.byteAt k la) ∧
    (s.pgState (chPage c) ≠ 6 → Ends (.channelJoin c) s fun t => Within [.hif] (fun _ => false) s t)

/-- Requests (R254 to R257, R259, R266, R267): an allowed request waits in its subchannel, where a write is at once what a read returns, or is held back while there is no
room; an unmapped one is counted, and a denied one is reported; the next slot issues a due refresh, one of a rank with nothing to issue, or else the request that
waits; a write stores its bytes, and no byte reads otherwise; a read returns what memory holds with the older writes that wait; a corrected line is counted; an
uncorrectable one is counted, raises 365 + 8c and answers Completer Abort; a C/A error is counted, and a channel that answers none of 16 replays is lost. -/
def Obligations.RequestsAreServed : Prop :=
  ∀ s : State, s.Shape →
    (∀ (rq : MemReq) c la b, s.allowed (rq.port.map (·.val)) rq.addr.toNat rq.write.isSome = true → s.locate rq.addr.toNat = some (c, la) → b = la.testBit 6 → c < 6 →
      ((s.chan c).inbox = [] → (s.sub c b).room ⟨rq, la, 0, 0⟩ = true → Ends (.memoryRequest rq) s fun t =>
        (t.sub c b).queue = (s.sub c b).queue ++ [⟨rq, la, 0, (s.sub c b).next⟩] ∧ (t.sub c b).issued = (s.sub c b).issued ∧
        (∀ w, rq.write = some w → ∀ i < w.length, i < 64 - la % 64 → t.byteAt c (la + i) = nth 0 w i) ∧ Within [.hif, .dmc] (fun _ => false) s t) ∧
      ((s.chan c).inbox ≠ [] ∨ (s.sub c b).room ⟨rq, la, 0, 0⟩ = false → Ends (.memoryRequest rq) s fun t =>
        (t.chan c).inbox = (s.chan c).inbox ++ [⟨rq, la, 0, 0⟩] ∧ (t.sub c b).queue = (s.sub c b).queue ∧ Within [.hif, .dmc] (fun _ => false) s t)) ∧
    (∀ rq : MemReq, s.allowed (rq.port.map (·.val)) rq.addr.toNat rq.write.isSome = true → s.locate rq.addr.toNat = none → Ends (.memoryRequest rq) s fun t =>
      t.rn Reg.DMC_UNMAPPED = min (2 ^ 32 - 1) (s.rn Reg.DMC_UNMAPPED + 1) ∧ t.reply = (if rq.write.isSome then .none else .completerAbort) ∧
      Within [.regs, .hif, .reply] (among [Reg.DMC_UNMAPPED]) s t) ∧
    (∀ (rq : MemReq) (q : Fin 4), rq.port = some q → s.phAllows q rq.addr.toNat rq.write.isSome = false → Ends (.memoryRequest rq) s fun t =>
      t.rn Reg.HIF_PH_VIOL = min (2 ^ 32 - 1) (s.rn Reg.HIF_PH_VIOL + 1) ∧ t.reply = .unsupportedRequest ∧
      Within (.reply :: noticeFields) (fun a => faultReg a || among [Reg.HIF_PH_VIOL, Reg.HIF_PH_LAST_LO, Reg.HIF_PH_LAST_HI] a) s t) ∧
    (∀ (c : Fin 6) (b : Bool) q, s.dmcClock = true → s.dueRank c = none → s.idleRank c = none → (s.chan c).srDue = false → (s.chan c).inbox = [] →
      (s.sub c b).queue = [q] → s.canIssue c b q = true →
      (∀ w, q.rq.write = some w → q.la % 64 + w.length ≤ 64 → q.la < 2 ^ 37 → b = q.la.testBit 6 → Ends (.dmcCommandSlot c b) s fun t =>
        (t.sub c b).queue = [] ∧ (∀ i < w.length, t.cell (cellKey c (q.la + i)) = nth 0 w i) ∧ (∀ k la, la < 2 ^ 37 → t.byteAt k la = s.byteAt k la) ∧
        Within [.regs, .hif, .dmc, .mem] memReg s t) ∧
      (q.rq.write = none → Ends (.dmcCommandSlot c b) s fun t =>
        (t.sub c b).queue = [] ∧ (t.sub c b).issued = (s.sub c b).issued ++ [q] ∧ Within [.hif, .dmc] (fun _ => false) s t)) ∧
    (∀ (c : Fin 6) (b : Bool) r, s.dmcClock = true → (s.dueRank c).or (s.idleRank c) = some r → (s.chan c).srDue = false → (s.chan c).inbox = [] →
      Ends (.dmcCommandSlot c b) s fun t =>
      (t.rank c r).debt = (s.rank c r).debt - 1 ∧ (t.rank c r).batch = (s.rank c r).batch - 1 ∧ (t.rank c r).rest = s.trfcSlots c ∧
      (t.sub c b).queue.length = (s.sub c b).queue.length ∧ Within [.regs, .hif, .dmc] (among [Reg.DMC_CH_REFRESH c]) s t) ∧
    (∀ (c : Fin 6) (b : Bool), s.dmcClock = false → Ends (.dmcCommandSlot c b) s fun t => Within [.hif] (fun _ => false) s t) ∧
    (∀ (c : Fin 6) (b : Bool) q rest d, (s.sub c b).issued = q :: rest → (s.chan c).inbox = [] → (s.chan c).srDue = false →
      d = (List.range (64 - q.la % 64)).map (fun i =>
        byteOver ((s.sub c b).queue.filter fun y => decide (y.seq < q.seq)) (s.cell (cellKey c (q.la + i))) (q.la + i)) →
      (s.badLine c q.la = false → Ends (.dmcReadReturn c b .clean) s fun t =>
        t.reply = .bytes d ∧ (t.sub c b).issued = rest ∧ Within [.regs, .hif, .dmc, .reply] memReg s t) ∧
      (∀ dev, s.badLine c q.la = false → Ends (.dmcReadReturn c b (.corrected dev)) s fun t =>
        t.rn (Reg.DMC_CH_CE c) = min (2 ^ 32 - 1) (s.rn (Reg.DMC_CH_CE c) + 1) ∧ t.mem = s.mem) ∧
      (∀ e, s.badLine c q.la = true ∨ (∃ dev, e = Ecc.uncorrectable dev) → Ends (.dmcReadReturn c b e) s fun t =>
        t.reply = .completerAbort ∧ t.rn (Reg.DMC_CH_UE c) = min (2 ^ 32 - 1) (s.rn (Reg.DMC_CH_UE c) + 1) ∧ t.fltPending (365 + 8 * c) = true ∧
        t.badLine c q.la = true ∧ t.mem = s.mem)) ∧
    (∀ c : Fin 6, s.chLive c = true → Ends (.caParity c false) s fun t =>
      (t.chan c).replays = 0 ∧ t.rf (Reg.ERR_CNT (chPage c)) 15 0 = min 65535 (s.rf (Reg.ERR_CNT (chPage c)) 15 0 + 1) ∧ t.mem = s.mem) ∧
    (∀ c : Fin 6, s.chLive c = true → (s.chan c).replays = 15 → Ends (.caParity c true) s fun t => t.fltPending (366 + 8 * c) = true ∧ t.mem = s.mem)

/-- Care of a channel (R250, R259 to R265, R268, R269): RETIRE queues its page; a finished copy makes the spare read as the page did, and nothing else of the channel reads otherwise;
with no spare left the page stays and source 367 + 8c is raised; drift is corrected and counted, or raised; a mode-register reading sets the refresh class; a refresh
comes due; a rank enters power-down; a temperature is shown, and at the limit raised; a scrub batch moves on, and counts the lines it finds uncorrectable. -/
def Obligations.ChannelsAreKept : Prop :=
  ∀ (c : Fin 6) (s : State), s.Shape →
    (∀ (p : Party) pg, Allowed s p (Reg.DMC_CH_CMD c) 2 → pg = s.rf (Reg.DMC_CH_ADDR_LO c) 31 12 + 2 ^ 20 * s.rf (Reg.DMC_CH_ADDR_HI c) 4 0 →
      (∀ e ∈ (s.chan c).retired, e.page ≠ pg) → Ends (.retire p c) s fun t =>
        pg ∈ (t.chan c).copies ∧ (t.chan c).retired = (s.chan c).retired ∧ Within [.regs, .hif, .dmc] (among [Reg.DMC_CH_STATUS c, Reg.SEQ (chPage c)]) s t) ∧
    (∀ pg rest spare, (s.chan c).copies = pg :: rest → (s.chan c).retired.length < 256 → spare = s.chanUsable c + (s.chan c).retired.length * 4096 → pg * 4096 + 4096 ≤ spare →
      spare + 4096 ≤ 2 ^ 37 → 1 ≤ s.rf (Reg.DMC_CH_STATUS c) 7 0 → (∀ q ∈ (s.chan c).requests, q.la / 4096 ≠ spare / 4096) → Ends (.retireCopyDone c) s fun t =>
        (t.chan c).copies = rest ∧ (∃ e, (t.chan c).retired = (s.chan c).retired ++ [e] ∧ e.page = pg) ∧
        (∀ i < 4096, t.byteAt c (spare + i) = s.byteAt c (pg * 4096 + i)) ∧
        (∀ k la, la < 2 ^ 37 → ¬ (k = c.val ∧ (la / 4096 = pg ∨ la / 4096 = spare / 4096)) → t.byteAt k la = s.byteAt k la) ∧
        Within [.regs, .hif, .svc, .sent, .dmc, .mem] (fun a => evtReg a || a == Reg.DMC_CH_RETIRED c) s t) ∧
    (∀ pg rest, (s.chan c).copies = pg :: rest → 256 ≤ (s.chan c).retired.length → Ends (.retireCopyDone c) s fun t =>
      (t.chan c).copies = rest ∧ (t.chan c).retired = (s.chan c).retired ∧ t.fltPending (367 + 8 * c) = true ∧
      Within (.dmc :: noticeFields) (fun a => faultReg a || a == Reg.DMC_CH_RETIRED c) s t) ∧
    (s.chLive c = true → 1 ≤ s.rf (Reg.DMC_CH_STATUS c) 19 16 → ∀ (n : Nat) (d : Int), d = n - (s.rank c 0).base →
      (d.natAbs ≤ 8 → Ends (.retrainCheck c [n]) s fun t => Within [.hif] (fun _ => false) s t) ∧
      (8 < d.natAbs → d.natAbs ≤ 63 → Ends (.retrainCheck c [n]) s fun t => (t.rank c 0).shift = d ∧
        t.rn (Reg.DMC_CH_RETRAINS c) = min (2 ^ 32 - 1) (s.rn (Reg.DMC_CH_RETRAINS c) + 1) ∧
        Within (.dmc :: evtFields) (fun a => evtReg a || among [Reg.DMC_CH_RETRAINS c, Reg.DMC_CH_REFRESH c] a) s t) ∧
      (63 < d.natAbs → Ends (.retrainCheck c [n]) s fun t => t.fltPending (369 + 8 * c) = true ∧ Within noticeFields faultReg s t)) ∧
    (∀ v : Byte, s.chLive c = true → s.rf (Reg.DMC_CH_STATUS c) 19 16 = 1 → (s.rank c 0).selfRefresh = false → Ends (.mr4Poll c [v]) s fun t =>
      t.rf (Reg.DMC_CH_MR4 c) 7 0 = v.toNat ∧ (t.rank c 0).cls = mr4Class v.toNat ∧ (t.rank c 0).mustRead = false ∧
      ((s.rank c 0).cls = 0 → mr4Class v.toNat ≠ 0 → (t.rank c 0).debt = 2 * (s.rank c 0).debt ∧ (t.rank c 0).batch = 2 * (s.rank c 0).debt) ∧
      ((s.rank c 0).cls ≠ 0 → mr4Class v.toNat = 0 → (t.rank c 0).debt = ((s.rank c 0).debt + 1) / 2) ∧
      ((s.rank c 0).cls ≠ 2 → mr4Class v.toNat = 2 → t.fltPending (368 + 8 * c) = true) ∧
      Within (.dmc :: noticeFields) (fun a => faultReg a || among [Reg.DMC_CH_MR4 c, Reg.DMC_CH_REFRESH c] a) s t) ∧
    (∀ r : Fin 4, s.chLive c = true → r.val < s.rf (Reg.DMC_CH_STATUS c) 19 16 →
      ((s.rank c r).selfRefresh = false → Ends (.refreshTick c r) s fun t => (t.rank c r).debt = (s.rank c r).debt + 1 ∧ Within [.regs, .hif, .dmc] (among [Reg.DMC_CH_REFRESH c]) s t) ∧
      (s.rb Reg.DMC_PD 31 = true → Ends (.powerDownEntry c r) s fun t => (t.rank c r).powerDown = true ∧ Within [.regs, .hif, .dmc] (among [Reg.DMC_CH_REFRESH c]) s t)) ∧
    (∀ x : Int, -32768 ≤ x → x < sgn 16 (s.rf Reg.DMC_TS_LIMIT 15 0) → Ends (.tsPoll c (some x)) s fun t =>
      sgn 16 (t.rf (Reg.DMC_CH_TEMP c) 15 0) = x ∧ t.rb (Reg.DMC_CH_TEMP c) 31 = true ∧ Within [.regs, .hif] (among [Reg.DMC_CH_TEMP c]) s t) ∧
    (∀ x : Int, sgn 16 (s.rf Reg.DMC_TS_LIMIT 15 0) ≤ x → Ends (.tsPoll c (some x)) s fun t => t.fltPending (368 + 8 * c) = true ∧
      t.rf (Reg.DMC_CH_TEMP c) 15 0 = unsgn 16 x ∧ Within noticeFields (fun a => faultReg a || a == Reg.DMC_CH_TEMP c) s t) ∧
    Ends (.tsPoll c none) s (fun t => t.rb (Reg.DMC_CH_TEMP c) 31 = false ∧ Within [.regs, .hif] (among [Reg.DMC_CH_TEMP c]) s t) ∧
    (s.chInService c = true → (s.chan c).passDone = false → (s.chan c).bad = [] → (s.chan c).requests = [] → (∀ r ∈ (s.chan c).ranks, r.selfRefresh = false) →
      (s.chan c).scrubPos + 64 * s.rf (Reg.DMC_CH_STATUS c) 19 16 < s.chanLines c →
      Ends (.scrubBatch c [] [] false) s (fun t => (t.chan c).scrubPos = (s.chan c).scrubPos + 64 * s.rf (Reg.DMC_CH_STATUS c) 19 16 ∧
        Within [.regs, .hif, .dmc] (among [Reg.DMC_SCRUB_PROGRESS]) s t) ∧
      ∀ l, Ends (.scrubBatch c [] [l] false) s fun t => t.rn (Reg.DMC_CH_UE c) = min (2 ^ 32 - 1) (s.rn (Reg.DMC_CH_UE c) + 1) ∧
        t.fltPending (365 + 8 * c) = true ∧ t.badLine c (l * 64) = true ∧ t.mem = s.mem)


/-! ### Network, time and clocks (R278 to R325) -/

/-- Network ports and proof senders (R278 to R290, R293, R300 to R304): bad frames are dropped, frames for others are not taken, PTP frames are given to the firmware with
a time, exception frames wait for it and are answered; descriptors are fetched, frames sent with their FCS, receipts written and nothing else; senders open
slots and send packets; links come up and go down; PTP messages go first, at once where the port is idle; codewords are counted. -/
def Obligations.PortsSendAndReceive : Prop :=
  ∀ (p : Fin 4) (s : State), s.Shape →
    (∀ b : List Byte, s.takesWork (netPage p) = true → s.netLink p = true →
      (b.length < 64 ∨ 9216 < b.length ∨ withFcs (b.take (b.length - 4)) ≠ b → Ends (.frameReceive p b) s fun t =>
        t.rn (Reg.NET_RX_DROPS p) = min (2 ^ 32 - 1) (s.rn (Reg.NET_RX_DROPS p) + 1) ∧ Within [.regs, .hif] (among [Reg.NET_RX_DROPS p]) s t) ∧
      (goodFrame b → s.addrTakes p ((b.take (b.length - 4)).take 6) = false → Ends (.frameReceive p b) s fun t => Within [.hif] (fun _ => false) s t) ∧
      (goodFrame b → s.addrTakes p ((b.take (b.length - 4)).take 6) = true → (ethParse (b.take (b.length - 4))).etype = 0x0806 → (s.netPort p).exc.length < 64 → Ends (.frameReceive p b) s fun t =>
        (t.netPort p).exc = (s.netPort p).exc ++ [b.take (b.length - 4)] ∧ t.rn (Reg.NET_RX_FRAMES p) = min (2 ^ 32 - 1) (s.rn (Reg.NET_RX_FRAMES p) + 1) ∧
        Within [.regs, .hif, .net] (among [Reg.NET_RX_FRAMES p]) s t) ∧
      (goodFrame b → s.addrTakes p ((b.take (b.length - 4)).take 6) = true → (ethParse (b.take (b.length - 4))).etype = 0x88F7 → Ends (.frameReceive p b) s fun t =>
        (∃ at_, t.sent = s.sent ++ [.ptpIn p at_ (b.take (b.length - 4))]) ∧ t.rn (Reg.NET_RX_FRAMES p) = min (2 ^ 32 - 1) (s.rn (Reg.NET_RX_FRAMES p) + 1) ∧
        Within [.regs, .hif, .sent, .freeCtr] (among [Reg.NET_RX_FRAMES p, Reg.TD_MSG_ERR 0, Reg.TD_MSG_ERR 1]) s t)) ∧
    (∀ f rest a, (s.netPort p).exc = f :: rest → s.excAnswer p f = some a → Ends (.exceptionFrame p) s fun t =>
      (t.netPort p).exc = rest ∧ (t.netPort p).mgt = (s.netPort p).mgt ++ [a] ∧ Within [.regs, .hif, .svc, .sent, .net] (fun a => evtReg a || a == Reg.PAGE_STATUS (netPage p)) s t) ∧
    (∀ f rest, (s.netPort p).exc = f :: rest → s.excAnswer p f = none → Ends (.exceptionFrame p) s fun t => (t.netPort p).exc = rest ∧ Within [.hif, .net] (fun _ => false) s t) ∧
    (∀ (q : Party) (v : Word), Allowed s q (Reg.NET_TXQ_TAIL p) v → Ends (.netTxqTail q p v) s fun t =>
      t.rf (Reg.NET_TXQ_TAIL p) 15 0 = v.toNat % 65536 ∧ Within [.regs, .hif] (among [Reg.NET_TXQ_TAIL p, Reg.SEQ (netPage p)]) s t) ∧
    (∀ (q : Party) (v : Word), Allowed s q (Reg.NET_TXR_HEAD p) v → (s.netPort p).items = [] → (s.netPort p).held = [] → s.netDiscards p = false → Ends (.netTxrHead q p v) s fun t =>
      t.rf (Reg.NET_TXR_HEAD p) 15 0 = v.toNat % 65536 ∧ t.rb (Reg.NET_TXQ_STATUS p) 31 = t.txrFull p ∧
      Within [.regs, .hif, .svc, .sent] (fun a => evtReg a || among [Reg.NET_TXR_HEAD p, Reg.NET_TXQ_STATUS p, Reg.PAGE_STATUS (netPage p), Reg.SEQ (netPage p)] a) s t) ∧
    (∀ b, s.takesWork (netPage p) = true → s.txOwned p = true → s.rf (Reg.NET_TXQ_STATUS p) 27 24 = 0 → s.txrFull p = false → s.rf (Reg.NET_TXQ_HEAD p) 15 0 ≠ s.rf (Reg.NET_TXQ_TAIL p) 15 0 →
      (∀ d ∈ (s.netPort p).items.head?, d.bad = false) → s.Reads (some (s.txParty p)) (((s.netPort p).base + 32 * (s.rf (Reg.NET_TXQ_HEAD p) 15 0 % 2 ^ (s.netPort p).size)) % 2 ^ 40) 32 b →
      (txParse s.now (s.rf (Reg.NET_TXQ_HEAD p) 15 0) b).bad = false → Ends (.txDescFetch p) s fun t =>
        (t.netPort p).items = (s.netPort p).items ++ [txParse s.now (s.rf (Reg.NET_TXQ_HEAD p) 15 0) b] ∧ t.rf (Reg.NET_TXQ_HEAD p) 15 0 = (s.rf (Reg.NET_TXQ_HEAD p) 15 0 + 1) % 65536 ∧
        Within [.regs, .hif, .svc, .sent, .net, .dmc] (fun a => evtReg a || memReg a || among [Reg.NET_TXQ_HEAD p, Reg.PAGE_STATUS (netPage p)] a) s t) ∧
    (s.netSends p = true → (s.netPort p).sending = none → (s.netPort p).ptp = [] →
      (∀ f rest, (s.netPort p).mgt = f :: rest → s.mayStart p f.length = true → Ends (.txLaunch p) s fun t =>
        t.sent = s.sent ++ [.frame p (withFcs f)] ∧ (t.netPort p).mgt = rest ∧ t.rn (Reg.NET_TX_FRAMES p) = min (2 ^ 32 - 1) (s.rn (Reg.NET_TX_FRAMES p) + 1) ∧
        Within [.regs, .hif, .svc, .sent, .net] (fun a => evtReg a || among [Reg.NET_TX_FRAMES p, Reg.PAGE_STATUS (netPage p)] a) s t) ∧
      (∀ d x e, (s.netPort p).mgt = [] → (s.netPort p).items = [d] → d.bad = false → d.launch = none → d.postmark = false → s.txrFull p = false → s.txStopped p = false →
        s.mayStart p d.len = true → x = (s.readMem (some (s.txParty p)) d.addr d.len).2 → x.denied = false → x.uncorr = false → e = ethParse x.data → Ends (.txLaunch p) s fun t =>
          t.sent = s.sent ++ [.frame p (withFcs (if d.csum && e.isUdp && !e.frag then e.fillUdp x.data else x.data))] ∧
          (∃ stamp, (t.netPort p).sending = some (d, 0, stamp) ∧ (d.ts = false → stamp = 0)) ∧ (t.netPort p).items = [] ∧
          Within [.regs, .hif, .svc, .sent, .net, .dmc, .freeCtr] (fun a => evtReg a || memReg a || a == Reg.PAGE_STATUS (netPage p)) s t)) ∧
    (∀ d st stamp a, (s.netPort p).sending = some (d, st, stamp) → (s.netPort p).items = [] → (s.netPort p).held = [] → (s.netPort p).ptp = [] → s.netDiscards p = false →
      s.rb (Reg.PAGE_CTRL (netPage p)) 3 = false →
      ((s.netPort p).silent = false → s.TxRing p a → s.Writable (some (s.txParty p)) a 32 → Ends (.txFrameSent p) s fun t =>
        (t.netPort p).sending = none ∧ t.rn (Reg.NET_TX_FRAMES p) = min (2 ^ 32 - 1) (s.rn (Reg.NET_TX_FRAMES p) + 1) ∧
        t.rf (Reg.NET_TXR_TAIL p) 15 0 = (s.rf (Reg.NET_TXR_TAIL p) 15 0 + 1) % 65536 ∧
        (∃ r, s.Stored t a r ∧ r.length = 32 ∧ leAt r 0 2 = d.idx % 65536 ∧ leAt r 2 1 = st % 256 ∧ leAt r 4 4 = d.tag % 2 ^ 32) ∧ s.MemoryBut t (fun b => b = a) 32) ∧
      ((s.netPort p).silent = true → Ends (.txFrameSent p) s fun t =>
        (t.netPort p).sending = none ∧ t.rn (Reg.NET_TX_FRAMES p) = min (2 ^ 32 - 1) (s.rn (Reg.NET_TX_FRAMES p) + 1) ∧
        Within [.regs, .hif, .svc, .sent, .net] (fun a => evtReg a || among [Reg.NET_TX_FRAMES p, Reg.PAGE_STATUS (netPage p)] a) s t)) ∧
    (∀ (q : Party) (v : Word), Allowed s q (Reg.PS_CTRL p) v → Ends (.psEnable q p v) s fun t =>
      t.rb (Reg.PS_CTRL p) 0 = (bit v 0 && s.rf (Reg.PS_UDP p) 15 0 != 0) ∧ (bit v 0 = true → t.rb (Reg.PS_STATUS p) 29 = (s.rf (Reg.PS_UDP p) 15 0 == 0)) ∧
      Within [.regs, .hif] (among [Reg.PS_CTRL p, Reg.PS_STATUS p, Reg.SEQ (Reg.page 13 0)]) s t) ∧
    (∀ e, s.cmt.last = some e → s.senderRuns p = true → s.cmtRate < 10 → (s.sender p).slot ≠ some e.count → Ends (.psSlot p) s fun t =>
      (t.sender p).slot = some e.count ∧ (t.sender p).next = 0 ∧ (t.sender p).packets = (if s.geo.layout = 1 then 12960 else 25920) ∧ t.rf (Reg.PS_STATUS p) 15 0 = e.count % 65536 ∧
      Within [.regs, .hif, .svc, .sent, .net] (fun a => evtReg a || among [Reg.PS_STATUS p, Reg.PS_REPEATS p, Reg.PAGE_STATUS (netPage (s.rf (Reg.PS_CTRL p) 5 4))] a) s t) ∧
    (∀ x q d r, s.packetTime p = some x → d = s.sender p → q = nfld (nth 0 d.regs 0).toNat 5 4 → s.netSends q = true → (s.netPort q).sending = none →
      r = (s.readMem d.port ((d.addr + d.next / 12 * d.pitch + d.next % 12 * 1280) % 2 ^ 40) 1280).2 → Ends (.psPacketLaunch p) s fun t =>
      (∃ ident : BitVec 16, .frame q (withFcs (s.proofFrame d ident.toNat (if r.denied then List.replicate 1200 0 else packPixels 80 r.data))) ∈ t.sent) ∧
      (t.sender p).next = d.next + 1 ∧ (t.sender p).seq = (d.seq + 1) % 2 ^ 32 ∧ (t.sender p).slot = (if d.packets ≤ d.next + 1 then none else d.slot) ∧
      t.rn (Reg.PS_PKTS p) = min (2 ^ 32 - 1) (s.rn (Reg.PS_PKTS p) + 1) ∧ t.mem = s.mem) ∧
    (s.netLink p = false → s.rb (Reg.PLL_STATUS (3 + p)) 9 = false → Ends (.netLinkUp p) s fun t => t.netLink p = true ∧ (t.netPort p).mode = s.rf (Reg.NET_PORT_CTRL p) 1 0 ∧
      (t.netPort p).fec = (s.rf (Reg.NET_PORT_CTRL p) 1 0 != 2 || s.rb (Reg.NET_PORT_CTRL p) 4) ∧ t.mem = s.mem ∧ t.dmc = s.dmc) ∧
    (s.netLink p = true ∨ s.rb (Reg.PLL_STATUS (3 + p)) 9 = true → Ends (.netLinkUp p) s fun t => Within [.hif] (fun _ => false) s t) ∧
    (∀ lf rf, s.netLink p = true → Ends (.netLinkDown p lf rf) s fun t => t.netLink p = false ∧ t.rb (Reg.NET_PORT_STATUS p) 28 = lf ∧ t.rb (Reg.NET_PORT_STATUS p) 27 = rf ∧
      t.rn (Reg.NET_LINK_DOWNS p) = min (2 ^ 32 - 1) (s.rn (Reg.NET_LINK_DOWNS p) + 1) ∧ t.fltPending (414 + 8 * p) = true ∧ t.mem = s.mem ∧ t.dmc = s.dmc) ∧
    (s.pgState (netPage p) = 6 → (∀ d < 2, s.domainOn p d = true → s.netLink p = true ∧ 8 ≤ (s.domain d).since) → Ends (.portJoin p) s fun t =>
      (if s.enabled (netPage p) then t.pgState (netPage p) = 1 ∨ t.pgState (netPage p) = 2 else t.pgState (netPage p) = 0) ∧ t.mem = s.mem ∧ t.dmc = s.dmc) ∧
    (∀ (d : Fin 2) q, s.tdState d = tdUncal ∨ s.tdState d = tdLocked → q = (s.domain d).port → q < 4 → Ends (.delayReqSend d) s fun t =>
      (if s.netSends q = true ∧ (s.netPort q).sending = none then
        t.sent = s.sent ++ (s.netPort q).ptp.map (fun m => .ptpOut q m.1 m.2) ++ [.ptpOut q 1 (decide (q < 2))] ∧ (t.netPort q).ptp = [] ∧
        t.rn (Reg.NET_TX_FRAMES q) = min (2 ^ 32 - 1) (s.rn (Reg.NET_TX_FRAMES q) + (s.netPort q).ptp.length + 1)
      else t.sent = s.sent ∧ (t.netPort q).ptp = (s.netPort q).ptp ++ [(1, decide (q < 2))]) ∧
      Within [.regs, .hif, .svc, .sent, .net] (fun a => evtReg a || among [Reg.NET_TX_FRAMES q, Reg.PAGE_STATUS (netPage q)] a) s t) ∧
    (∀ measured : Option Word, Ends (.pdelayReq p measured) s fun t =>
      (s.netSends p = true → (s.netPort p).sending = none → (s.netPort p).ptp = [] →
        Output.ptpOut p 3 false ∈ t.sent ∧ Output.ptpOut p 10 false ∈ t.sent ∧ t.rn (Reg.NET_TX_FRAMES p) = min (2 ^ 32 - 1) (s.rn (Reg.NET_TX_FRAMES p) + 2)) ∧
      ((s.netPort p).sending ≠ none → (t.netPort p).ptp = (s.netPort p).ptp ++ [(3, false), (10, false)] ∧ t.sent = s.sent) ∧
      (∀ v, measured = some v → ∀ d < 2, s.domainOn p d = true → t.rd (Reg.TD_PDELAY d) = v) ∧
      Within [.regs, .hif, .svc, .sent, .net]
        (fun a => evtReg a || among [Reg.NET_TX_FRAMES p, Reg.PAGE_STATUS (netPage p), Reg.TD_PDELAY 0, Reg.TD_PDELAY 1] a) s t) ∧
    ((s.netPort p).fec = true → s.netLink p = true →
      Ends (.rsFecCodeword p true) s (fun t => t.rn (Reg.NET_FEC_CORR p) = min (2 ^ 32 - 1) (s.rn (Reg.NET_FEC_CORR p) + 1) ∧ Within [.regs, .hif] (among [Reg.NET_FEC_CORR p]) s t) ∧
      Ends (.rsFecCodeword p false) s (fun t => t.rn (Reg.NET_FEC_UNCORR p) = min (2 ^ 32 - 1) (s.rn (Reg.NET_FEC_UNCORR p) + 1) ∧ t.fltPending (415 + 8 * p) = true ∧
        Within noticeFields (fun a => faultReg a || a == Reg.NET_FEC_UNCORR p) s t))

/-- Time (R291 to R299, R305): an offset is recorded and a LISTENING domain becomes UNCALIBRATED; a timeout puts a domain in HOLDOVER, and an announce timeout there in LISTENING; SET, STEP and SET64 put the clock
where they say; SWITCH moves the steering to a LOCKED domain only; REACQUIRE acquires; a host's rate is limited and acts in SERVO HOST only; its silence
is HOLDOVER; PPS pulses act where they are enabled. -/
def Obligations.TimeIsKept : Prop :=
  ∀ s : State, s.Shape →
    (∀ (d : Fin 2) (o : Int) mpd (gm : BitVec 64) q, s.tdState d ≠ tdDisabled → s.tdState d ≠ tdFaulty → Ends (.ptpOffset d o mpd gm q) s fun t =>
      t.pair64 (Reg.TD_OFFSET_LO d) = unsgn 64 o ∧ t.rd (Reg.TD_MEAS_CNT d) = s.rd (Reg.TD_MEAS_CNT d) + 1 ∧ t.rd (Reg.TD_GM_QUALITY d) = q ∧ t.pair64 (Reg.TD_GM_ID_LO d) = gm.toNat ∧
      (s.tdState d = tdListening → t.tdState d = tdUncal) ∧ (t.domain d).since = (s.domain d).since + 1 ∧ t.mem = s.mem ∧ t.dmc = s.dmc) ∧
    (∀ (d : Fin 2) (o : Int) mpd (gm : BitVec 64) q, s.portReturns d = true → Ends (.ptpOffset d o mpd gm q) s fun t =>
      t.tdState d = tdUncal ∧ (t.domain d).since = 1 ∧ t.pair64 (Reg.TD_OFFSET_LO d) = unsgn 64 o) ∧
    (∀ d : Fin 2, s.tdState d = tdDisabled → ∀ o mpd (gm : BitVec 64) q, Ends (.ptpOffset d o mpd gm q) s fun t => Within [.hif] (fun _ => false) s t) ∧
    (∀ (d : Fin 2) (c : Instr), s.tdState d = tdUncal ∨ s.tdState d = tdLocked → c = .announceTimeout d ∨ c = .syncTimeout d → Ends c s fun t => t.tdState d = tdHoldover ∧ t.mem = s.mem ∧ t.clock = s.clock) ∧
    (∀ d : Fin 2, s.tdState d = tdHoldover → Ends (.announceTimeout d) s fun t => t.tdState d = tdListening ∧ t.mem = s.mem ∧ t.clock = s.clock) ∧
    (∀ p : Party, Allowed s p Reg.TIM_CMD 1 → s.rf Reg.TIM_SET_NS 29 0 < 1000000000 → Ends (.timSet p) s fun t =>
      t.clock = ⟨s.rn Reg.TIM_SET_SEC_LO + 2 ^ 32 * s.rf Reg.TIM_SET_SEC_HI 15 0, s.rf Reg.TIM_SET_NS 29 0, 0⟩ ∧ t.rb Reg.TIM_STATUS 27 = false ∧
      t.rn Reg.TIM_STEPS = min (2 ^ 32 - 1) (s.rn Reg.TIM_STEPS + 1) ∧ t.mem = s.mem) ∧
    (∀ p : Party, Allowed s p Reg.TIM_CMD 1 → 1000000000 ≤ s.rf Reg.TIM_SET_NS 29 0 → Ends (.timSet p) s fun t =>
      t.rb Reg.TIM_STATUS 27 = true ∧ Within [.regs, .hif] (among [Reg.TIM_STATUS, Reg.SEQ timPage]) s t) ∧
    (∀ (p : Party) x, Allowed s p Reg.TIM_CMD 2 → (x : Int) = s.now + sgn 64 (s.pair64 Reg.TIM_STEP_LO) * nsUnit → (0 : Int) ≤ x → Ends (.timStep p) s fun t =>
      t.clock.sec = x.toNat / nsUnit / 1000000000 % 2 ^ 48 ∧ t.clock.ns = x.toNat / nsUnit % 1000000000 ∧ t.mem = s.mem) ∧
    (∀ p : Party, Allowed s p Reg.TIM_CMD 5 → Ends (.set64 p) s fun t =>
      t.clock.sec = s.pair64 Reg.TIM_STEP_LO / 1000000000 ∧ t.clock.ns = s.pair64 Reg.TIM_STEP_LO % 1000000000 ∧ t.mem = s.mem) ∧
    (∀ p : Party, Allowed s p Reg.TIM_CMD 3 → Ends (.timSwitch p) s fun t =>
      (s.tdState (1 - s.steer) = tdLocked → t.steer = 1 - s.steer ∧ t.rb Reg.TIM_STATUS 27 = false) ∧ (s.tdState (1 - s.steer) ≠ tdLocked → t.steer = s.steer ∧ t.rb Reg.TIM_STATUS 27 = true) ∧
      Within evtFields (fun a => evtReg a || among [Reg.TIM_STATUS, Reg.SEQ timPage] a) s t) ∧
    (∀ p : Party, Allowed s p Reg.TIM_CMD 4 → s.timOn = true → s.autonomous = true → Ends (.reacquire p) s fun t =>
      t.sstate = ssAcquiring ∧ Within evtFields (fun a => evtReg a || among [Reg.TIM_STATUS, Reg.SEQ timPage] a) s t) ∧
    (∀ (p : Party) (v : BitVec 48), Allowed s p Reg.TIM_INCREMENT (wd v.toNat) →
      (s.autonomous = false → Ends (.timRateWrite p true v) s fun t => t.tim.rate = rateLimit (v.toNat % 2 ^ 32 * 2 ^ 22) ∧ (s.timOn = true → t.sstate = ssHost) ∧ t.clock = s.clock ∧ t.mem = s.mem) ∧
      (s.autonomous = true → Ends (.timRateWrite p true v) s fun t => Within [.regs, .hif] (among [Reg.TIM_INCREMENT, Reg.SEQ timPage]) s t)) ∧
    (∀ (p : Party) (v : BitVec 48), Allowed s p Reg.TIM_RATE_LO (wd v.toNat) → Allowed s p Reg.TIM_RATE_HI (wd (v.toNat / 2 ^ 32)) → s.autonomous = false → Ends (.timRateWrite p false v) s fun t =>
      t.tim.rate = rateLimit v.toNat ∧ t.clock = s.clock ∧ t.mem = s.mem) ∧
    (s.timOn = true → s.autonomous = false → s.sstate = ssHost → Ends .hostTimeout s fun t => t.sstate = ssHoldover ∧ t.fltPending 448 = true ∧
      Within (.tim :: noticeFields) (fun a => faultReg a || a == Reg.TIM_STATUS) s t) ∧
    (s.rb Reg.TIM_PPS_OUT_CTRL 0 = true → Ends .ppsOutRise s fun t => t.tim.ppsOut = true ∧ t.tim.ppsRise = t.now ∧ Within [.hif, .tim, .clock] (fun _ => false) s t) ∧
    (s.rb Reg.TIM_PPS_OUT_CTRL 0 = false → Ends .ppsOutRise s fun t => Within [.hif] (fun _ => false) s t) ∧
    Ends .ppsOutFall s (fun t => t.tim.ppsOut = false ∧
      (s.tim.ppsOut = true → t.clock = (s.reachTime (s.tim.ppsRise + max 1 (s.rf Reg.TIM_PPS_OUT_CTRL 15 8) * 1000000 * nsUnit)).clock) ∧ Within [.hif, .tim, .clock] (fun _ => false) s t) ∧
    (∀ (rising : Bool) (x : Nat), s.rb Reg.TIM_PPS_IN_CTRL 0 = true →
      (rising ≠ s.rb Reg.TIM_PPS_IN_CTRL 1 → s.srcPps = false → Ends (.ppsIn rising x) s fun t => t.clock = (s.reachTime x).clock ∧
        t.rn Reg.TIM_PPS_IN_NS = t.now / nsUnit % 1000000000 ∧ t.rn Reg.TIM_PPS_IN_SEC_LO = t.now / nsUnit / 1000000000 % 2 ^ 32 ∧
        Within [.regs, .hif, .svc, .sent, .clock] (fun a => evtReg a || among [Reg.TIM_PPS_IN_SEC_LO, Reg.TIM_PPS_IN_NS] a) s t) ∧
      (rising = s.rb Reg.TIM_PPS_IN_CTRL 1 → Ends (.ppsIn rising x) s fun t => Within [.hif] (fun _ => false) s t)) ∧
    (s.rb Reg.TIM_PPS_IN_CTRL 0 = true → Ends .ppsInLost s fun t => t.fltPending 449 = true ∧ (s.timOn = true → s.autonomous = true → s.srcPps = true → t.sstate = ssHoldover) ∧
      Within (.tim :: noticeFields) (fun a => faultReg a || a == Reg.TIM_STATUS) s t)

/-- Clocks (R309 to R325): a reference that is lost, out of its window, in it, or qualified goes to its state, and a VALID one that is lost raises its source; no crystal is
GRAVE; offsets are limited and both core PLLs share one; REALIGN slews; RELOCK and a loss of lock re-lock, a loss counted; a slew ends on its target; a
lock that holds releases the bypass; a late one raises its source; outputs are set, refused when too fast, and synchronised. -/
def Obligations.ClocksFollowAndRelock : Prop :=
  ∀ s : State, s.Shape →
    (∀ (r : Fin 2) (d : Int), s.refOn r = true → s.refState r ≠ 1 → Ends (.refLos r d) s fun t => t.refState r = 1 ∧ (s.refState r = 4 → t.fltPending (469 + r) = true) ∧
      Within (.clk :: noticeFields) (fun a => faultReg a || a == Reg.CLK_REF_STATUS || (List.range 8).any fun k => among [Reg.PLL_STATUS k, Reg.PLL_REF_OFFSET k] a) s t) ∧
    (∀ (r : Fin 2) (ppm mv : Int), s.refOn r = true → (s.rf Reg.CLK_REF_TOL 11 0 * 256 < ppm.natAbs ∨ s.refState r ≠ 4) → Ends (.refFreqWindow r ppm mv) s fun t =>
      t.refState r = (if s.rf Reg.CLK_REF_TOL 11 0 * 256 < ppm.natAbs then 2 else 3) ∧ t.rn (if r.val = 0 then Reg.CLK_REF_A_PPM else Reg.CLK_REF_B_PPM) = unsgn 32 ppm ∧ t.mem = s.mem ∧ t.dmc = s.dmc) ∧
    (∀ (r : Fin 2) (ppm mv : Int), s.refOn r = true → ppm.natAbs ≤ s.rf Reg.CLK_REF_TOL 11 0 * 256 → s.refState r = 4 → Ends (.refFreqWindow r ppm mv) s fun t =>
      t.refState r = 4 ∧ t.rn (if r.val = 0 then Reg.CLK_REF_A_PPM else Reg.CLK_REF_B_PPM) = unsgn 32 ppm ∧ t.mem = s.mem ∧ t.dmc = s.dmc) ∧
    (∀ (r : Fin 2) (d : Int), s.refOn r = true → s.refState r = 3 → Ends (.refQualified r d) s fun t => t.refState r = 4 ∧ t.mem = s.mem) ∧
    Ends .xtalFail s (fun t => t.fltPending 471 = true ∧ t.graveLatched = true ∧ t.mem = s.mem) ∧
    (∀ (p : Party) (k : Fin 8) (v : Word), Allowed s p (Reg.PLL_OFFSET k) v → Ends (.pllOffsetWrite p k v) s fun t =>
      t.pllOffset k = clampI (-(offsetBound k)) (offsetBound k) (sgn 20 (v.toNat % 2 ^ 20)) ∧ (k.val < 2 → t.pllOffset (1 - k.val) = t.pllOffset k) ∧
      Within [.regs, .hif, .svc, .sent, .clk] (fun a => evtReg a || among [Reg.PLL_OFFSET k, Reg.SEQ (pllPage k), Reg.PLL_STATUS k] a ||
        (decide (k.val < 2) && among [Reg.PLL_OFFSET (1 - k.val), Reg.PLL_STATUS (1 - k.val)] a)) s t) ∧
    (∀ (p : Party) (k : Fin 8), Allowed s p (Reg.PLL_CMD k) 1 → s.pllRuns k = true → sgn 32 (s.rn (Reg.PLL_REF_OFFSET k)) ≠ 0 → Ends (.realign p k) s fun t =>
      t.lstate k = lsSlewing ∧ (t.pll k).command = true ∧ (t.pll k).out = sgn 32 (s.rn (Reg.PLL_REF_OFFSET k)) ∧
      (t.pll k).phase = (s.pll k).phase - (sgn 32 (s.rn (Reg.PLL_REF_OFFSET k)) - if (s.pll k).command then (s.pll k).out else 0) ∧
      Within [.regs, .hif, .svc, .sent, .clk] (fun a => evtReg a || among [Reg.PLL_STATUS k, Reg.SEQ (pllPage k)] a) s t) ∧
    (∀ (p : Party) (k : Fin 8), Allowed s p (Reg.PLL_CMD k) 2 → s.lstate k ≠ lsOff → Ends (.pllRelock p k) s fun t => t.lstate k = lsRelock ∧ (2 ≤ k.val → t.rb (Reg.PLL_STATUS k) 9 = true) ∧ t.mem = s.mem) ∧
    (∀ k : Fin 8, s.lstate k = lsSlewing → (s.pll k).base < 8 → Ends (.pllSlewDone k) s fun t =>
      t.lstate k = (s.pll k).base ∧ (t.pll k).cur = (s.pll k).goal ∧ (t.pll k).phase = 0 ∧ (t.pll k).command = false ∧
      ((s.pll k).command = true → t.rn (Reg.PLL_REF_OFFSET k) = unsgn 32 (clampI (-0x80000000) 0x7FFFFFFF (sgn 32 (s.rn (Reg.PLL_REF_OFFSET k)) - (s.pll k).out))) ∧
      Within [.regs, .hif, .svc, .sent, .clk] (fun a => evtReg a || among [Reg.PLL_STATUS k, Reg.PLL_REF_OFFSET k] a) s t) ∧
    (∀ k : Fin 8, s.pllRuns k = true → Ends (.pllLockLoss k) s fun t =>
      t.lstate k = lsRelock ∧ t.rn (Reg.PLL_LOCKS k) = min (2 ^ 32 - 1) (s.rn (Reg.PLL_LOCKS k) + 1) ∧ (k.val < 2 → t.fltPending (460 + k) = true) ∧ t.mem = s.mem) ∧
    (∀ k : Fin 8, s.coreActive = k.val → s.clk.memBypass = true → Ends (.bypassRelease k) s fun t => t.clk.memBypass = false ∧
      Within [.regs, .hif, .clk] (among [Reg.PLL_STATUS 0, Reg.PLL_STATUS 1]) s t) ∧
    (∀ k : Fin 8, ¬(s.coreActive = k.val ∧ s.clk.memBypass = true) → s.lstate k = lsRelock → s.inService (pllPage k) = true → Ends (.bypassRelease k) s fun t => t.pllRuns k = true ∧ (2 ≤ k.val → t.rb (Reg.PLL_STATUS k) 9 = false) ∧ t.mem = s.mem) ∧
    (∀ k : Fin 8, s.lstate k = lsRelock → s.inService (pllPage k) = true → Ends (.pllLockTimeout k) s fun t => t.fltPending (lostSource k) = true ∧ t.mem = s.mem) ∧
    (∀ (p : Party) (k : Fin 8) (v : Word), Allowed s p (Reg.PLL_DITHER k) v → Ends (.pllDitherSeed p k v) s fun t =>
      (t.pll k).lfsr = max 1 (v.toNat % 2 ^ 31) ∧ t.rf (Reg.PLL_DITHER k) 30 0 = max 1 (v.toNat % 2 ^ 31) ∧ t.rb (Reg.PLL_DITHER k) 31 = bit v 31 ∧ Within [.regs, .hif, .clk] (among [Reg.PLL_DITHER k, Reg.SEQ (pllPage k)]) s t) ∧
    (∀ (p : Party) (n : Fin 8) (j : Fin 3) (v : Word), Allowed s p (Reg.OUT_CTRL n + 4 * j) v → Ends (.outCtrlWrite p n j v) s fun t =>
      (∀ f c d limit, f = t.rf (Reg.OUT_CTRL n) 1 0 → c = t.rf (Reg.OUT_CTRL n) 7 4 → d = clampN 2 65536 (t.rf (Reg.OUT_DIV n) 16 0) →
        limit = (if f = 3 then 200000000 else 800000000) → t.rb (Reg.OUT_STATUS n) 30 = (f != 0 && decide (
          4 ≤ c ∧ c ≤ 8 ∧ limit * d < 12890625000 ∨ c = 9 ∧ limit * d < 10000000000 ∨ c = 10 ∧ limit * 16 < t.rn (Reg.OUT_FREQ n)))) ∧
      (j.val = 0 → t.rf (Reg.OUT_CTRL n) 1 0 = fld v 1 0 ∧ t.rf (Reg.OUT_CTRL n) 7 4 = fld v 7 4) ∧ (j.val = 1 → t.rf (Reg.OUT_DIV n) 16 0 = clampN 2 65536 (fld v 16 0)) ∧
      (j.val = 2 → t.rd (Reg.OUT_FREQ n) = v) ∧
      Within evtFields (fun a => evtReg a || among [Reg.OUT_CTRL n + 4 * j, Reg.OUT_STATUS n, Reg.SEQ (Reg.page 15 9)] a) s t) ∧
    (∀ (p : Party) (v : Word), Allowed s p Reg.CLK_OUT_SYNC v → fld v 1 0 = 1 ∨ fld v 1 0 = 2 → Ends (.clkOutSync p v) s fun t =>
      t.rf Reg.CLK_OUT_SYNC 1 0 = fld v 1 0 ∧ (∀ n < 8, bit v (8 + n) = true → t.rb (Reg.OUT_STATUS n) 29 = false) ∧
      (∀ n < 8, bit v (8 + n) = false → t.rd (Reg.OUT_STATUS n) = s.rd (Reg.OUT_STATUS n)) ∧
      Within [.regs, .hif] (fun a => among [Reg.CLK_OUT_SYNC, Reg.SEQ (Reg.page 15 9)] a || (List.range 8).any fun n => a == Reg.OUT_STATUS n) s t) ∧
    Ends .outSyncLapse s (fun t => t.rf Reg.CLK_OUT_SYNC 1 0 = 0 ∧ Within [.regs, .hif] (among [Reg.CLK_OUT_SYNC]) s t)

/-! ### Faults (R331 to R356, R13) -/

/-- The collector (R331 to R356, R13): a reported source pends, a CORRECTED one is counted, a GRAVE one latches; a FENCE on a unit in service asks it to leave and
opens a window; a window closes; clears, injections, releases of the first fault and the log's selection act as they say; FLT_READY is set once; the heartbeat
is sent; COMPUTE_LOST is recorded by the service die; what a scrub finds pends its source. An uncorrectable unit of the retained store reads as zero and stays marked,
and an uncorrectable word of a parcel in reassembly drops that parcel. -/
def Obligations.FaultsAreRaisedAndCleared : Prop :=
  ∀ s : State, (∀ img, s.svc.queued = some img → img.length = 32) →
    (∀ (l : List Report) (r : Report), r ∈ l → (baseClass r.src).isSome = true → (baseClass r.src ≠ some 1 ∨ s.fltLasting r.src = false) → Ends (.faultArrival l) s fun t =>
      t.fltPending r.src = true ∧ (baseClass r.src = some 3 → t.graveLatched = true) ∧ (r.src = 481 → 21 ≤ r.lo.toNat % 256 →
        r.lo.toNat % 256 ∈ t.svc.storeBad ∧ ∀ i < 16, t.storeByte (16 * (r.lo.toNat % 256) + i) = 0)) ∧
    (∀ r : Report, r.src = 261 → bit r.lo 31 = true → Ends (.faultArrival [r]) s fun t =>
      t.ing.parcels = s.ing.parcels.eraseIdx (fld r.lo 9 0) ∧ t.ing.ctxs = s.ing.ctxs ∧ t.fltPending 261 = true ∧ t.mem = s.mem) ∧
    (∀ (r : Report) pg i, baseClass r.src = some 1 → srcLoc fltRanges r.src = some (pg, i) → Ends (.faultArrival [r]) s fun t =>
      t.rf (Reg.ERR_CNT pg) 15 0 = satAdd 16 (s.rf (Reg.ERR_CNT pg) 15 0) 1) ∧
    (∀ (r : Report) u pg, baseClass r.src = some 2 → srcUnit r = some u → unitPage u = some pg → s.pgState pg ≠ stFenced → s.flt.windows = [] → Ends (.faultArrival [r]) s fun t =>
      (∃ w, t.flt.windows = [w] ∧ w.seq = nextSeq s.fltSeq ∧ u ∈ w.cover) ∧ ((∀ p, u ≠ .port p) → t.rb (Reg.PAGE_CTRL pg) 3 = true)) ∧
    (∀ i : Fin 16, Ends (.secondaryWindowClose i) s fun t => t.flt.windows = s.flt.windows.eraseIdx i ∧ Within [.hif, .flt] (fun _ => false) s t) ∧
    (∀ (p : Party) (w : Fin 16) (v : Word), Allowed s p (Reg.FLT_PEND w) v → Ends (.faultClear p w v) s fun t =>
      (∀ i < 32, t.fltPending (32 * w + i) = (s.fltPending (32 * w + i) && (!bit v i || (s.fltSrc (32 * w + i)).cls == 3 ||
        ((s.fltSrc (32 * w + i)).cls == 2 && !((s.fltSrc (32 * w + i)).noUnit || s.clearOk (32 * w + i)))))) ∧
      Within [.regs, .hif, .svc, .sent, .flt] (fun a => fenceReg a || among [Reg.FLT_STATUS, Reg.SEQ (Reg.page 16 1)] a) s t ∧
      (∀ k < 512, k / 32 ≠ w → t.fltPending k = s.fltPending k)) ∧
    (∀ (p : Party) (v : Word), Allowed s p Reg.FLT_INJECT v →
      (∀ c, bit v 31 = true → baseClass (fld v 8 0) = some c → (c = 3 → p = .dbg) → Ends (.faultInject p v) s fun t =>
        t.rb Reg.FLT_STATUS 29 = false ∧ (c ≠ 1 → t.fltPending (fld v 8 0) = true)) ∧
      (bit v 31 = true → baseClass (fld v 8 0) = none ∨ (baseClass (fld v 8 0) = some 3 ∧ p ≠ .dbg) → Ends (.faultInject p v) s fun t =>
        t.rb Reg.FLT_STATUS 29 = true ∧ Within [.regs, .hif] (among [Reg.FLT_INJECT, Reg.FLT_STATUS, Reg.SEQ (Reg.page 16 0)]) s t) ∧
      (bit v 31 = false → Ends (.faultInject p v) s fun t => Within [.regs, .hif] (among [Reg.FLT_INJECT, Reg.SEQ (Reg.page 16 0)]) s t)) ∧
    (∀ (p : Party) (v : Word), Allowed s p Reg.FLT_FF_VALID v → Ends (.ffRelease p v) s fun t =>
      t.storeFlag 0 = (s.storeFlag 0 && !bit v 0) ∧ t.storeFlag 1 = s.storeFlag 1 ∧ t.graveLatched = s.graveLatched ∧
      (∀ k ≠ 0x144, t.storeByte k = s.storeByte k) ∧ Within [.regs, .hif, .svc] (among [Reg.FLT_FF_VALID, Reg.SEQ (Reg.page 16 0)]) s t) ∧
    (∀ (p : Party) (v : Word), Allowed s p Reg.FLT_LOG_RD v → Ends (.logSelect p v) s fun t =>
      t.rd Reg.FLT_LOG_RD = v ∧ Within [.regs, .hif] (among [Reg.FLT_LOG_RD, Reg.SEQ (Reg.page 16 2)]) s t) ∧
    (∀ (p : Party) (v : Word), Allowed s p Reg.FLT_READY v →
      (bit v 0 = true → Ends (.fltReady p v) s fun t => t.rb Reg.FLT_READY 0 = true ∧
        Within evtFields (fun a => fenceReg a || among [Reg.FLT_READY, Reg.SEQ (Reg.page 16 0)] a) s t) ∧
      (bit v 0 = false → Ends (.fltReady p v) s fun t => Within [.regs, .hif] (among [Reg.SEQ (Reg.page 16 0)]) s t)) ∧
    (s.computeOn = true → Ends .heartbeat s fun t => t.sent = s.sent ++ [.heartbeat] ∧ Within [.hif, .sent] (fun _ => false) s t) ∧
    (s.computeOn = true → s.svc.computeLost = false → Ends .computeLost s fun t =>
      t.svc.computeLost = true ∧ t.svc.owedLost = true ∧ t.graveLatched = true ∧ t.storeFlag 0 = true ∧ t.storeFlag 1 = true ∧ (t.storeByte 0x13B).getLsbD 7 = true ∧
      t.fltSeq = nextSeq s.fltSeq ∧ (s.pgState panelPage ≠ stFenced → t.enabled panelPage = true) ∧ t.mem = s.mem) ∧
    Ends (.sramScrub .clean) s (fun t => Within [.hif] (fun _ => false) s t) ∧
    (∀ src : Fin 512, baseClass src = some 1 → s.fltLasting src = false → Ends (.sramScrub (.corrected src)) s fun t => t.fltPending src = true) ∧
    (∀ src : Fin 512, baseClass src = some 3 → Ends (.sramScrub (.lost src)) s fun t => t.fltPending src = true ∧ t.graveLatched = true ∧ t.mem = s.mem) ∧
    (∀ (f : ScrubFind) (src : Nat), (∃ w, f = .reel w ∧ src = 133) ∨ (∃ n y x, f = .staging n y x ∧ src = 41) ∨ (∃ x row, f = .print x row ∧ src = 353 ∧ (s.pEntry x).st ≠ 0) ∨
        (∃ b w, f = .geoActive b w ∧ src = 33) ∨ (f = .geoInactive ∧ src = 36 ∧ s.tabState .geo = tabReady) ∨ (∃ b w, f = .tonActive b w ∧ src = 141) ∨
        (f = .tonInactive ∧ src = 142 ∧ s.tabState .ton = tabReady) ∨ (∃ o b w, f = .wear o b w ∧ src = 144) ∨ (∃ g w, f = .plkQueue g w ∧ src = 257) ∨
        (∃ b i, f = .ingContext b i ∧ src = 261) → Ends (.sramScrub f) s fun t => t.fltPending src = true) ∧
    (∀ u src, ownSource u = some src → Ends (.sramScrub (.ownMemory u)) s fun t => t.fltPending src = true)

/-! ### Service die: panel, store, sensors, SMBus (R357 to R376, R418, R421, R442) -/

/-- The status panel (R360 to R371): updates are refused, started or queued; the Postcard is stored and shown; a common is written and the last one ends the update;
a power failure stops the driver; a refresh takes the next common; the drive memory's check, the crack loop and a wrong drive raise their sources. -/
def Obligations.PanelIsDriven : Prop :=
  ∀ s : State,
    (∀ (p : Party) (c : Instr) (n : Nat) (img : List Byte), Allowed s p Reg.SVC_PANEL_CMD (wd n) → (c = .panelUpdate p ∧ n = 1 ∧ img = s.segImage) ∨ (c = .showPostcard p ∧ n = 3 ∧ img = s.postcard) →
      (s.svc.computeLost = true → Ends c s fun t => Within [.regs, .hif] (among [Reg.SEQ panelPage]) s t) ∧ (s.svc.computeLost = false →
      (s.panelOn = false → Ends c s fun t => t.rb Reg.SVC_PANEL_STATUS 29 = true ∧ Within [.regs, .hif] (among [Reg.SVC_PANEL_STATUS, Reg.SEQ panelPage]) s t) ∧
      (s.panelOn = true → s.panelFree = true → Ends c s fun t =>
        t.svc.run = some ⟨.update, img, s.svc.drive, [0, 1, 2, 3, 4, 5], false, s.band, []⟩ ∧ t.svc.queued = none ∧ t.rb Reg.SVC_PANEL_STATUS 29 = false ∧ t.rf Reg.SVC_PANEL_STATUS 13 8 = 0 ∧
        t.storeRd 0x60 32 = img ∧ t.storeByte 0x80 = 1 ∧ Within evtFields (fun a => evtReg a || among [Reg.SVC_PANEL_STATUS, Reg.PAGE_STATUS panelPage, Reg.SEQ panelPage] a) s t) ∧
      (s.panelOn = true → s.svc.run.isSome = true → Ends c s fun t =>
        t.svc.run = s.svc.run ∧ t.svc.queued = some img ∧ t.rb Reg.SVC_PANEL_STATUS 29 = false ∧ Within [.regs, .hif, .svc] (among [Reg.SVC_PANEL_STATUS, Reg.SEQ panelPage]) s t))) ∧
    (∀ p : Party, Allowed s p Reg.SVC_PANEL_CMD 2 → s.svc.computeLost = true → Ends (.storePostcard p) s fun t => Within [.regs, .hif] (among [Reg.SEQ panelPage]) s t) ∧
    (∀ p : Party, Allowed s p Reg.SVC_PANEL_CMD 2 → s.svc.computeLost = false → Ends (.storePostcard p) s fun t =>
      t.postcard = s.segImage ∧ t.rb Reg.SVC_PANEL_STATUS 29 = false ∧ t.svc.drive = s.svc.drive ∧ Within [.regs, .hif, .svc] (among [Reg.SVC_PANEL_STATUS, Reg.SEQ panelPage]) s t) ∧
    (∀ r k k' l, s.svc.run = some r → r.kind = .update → r.rewriting = false → r.todo = k :: k' :: l → k < 6 → s.svc.powerFail = false → s.pgState panelPage ≤ stRun → Ends .commonDone s fun t =>
      t.svc.pixels = s.svc.pixels.take (5 * k) ++ s.commonBytes r.image k ++ s.svc.pixels.drop (5 * k + 5) ∧ (t.svc.run.map fun x => (x.image, x.todo)) = some (r.image, k' :: l) ∧
      t.rf Reg.SVC_PANEL_STATUS 13 8 = s.rf Reg.SVC_PANEL_STATUS 13 8 ||| 2 ^ k ∧ t.svc.drive = s.svc.drive ∧ Within [.regs, .hif, .svc] (among [Reg.SVC_PANEL_STATUS]) s t) ∧
    (∀ r k, s.svc.run = some r → r.kind = .update → r.rewriting = true → r.todo = [k] → r.image.length = 32 → s.svc.powerFail = false → s.pgState panelPage ≤ stRun →
      s.svc.queued = none → s.svc.reloadDue = false → s.svc.pixelDue = false → s.svc.refreshDue = false → Ends .commonDone s fun t =>
        t.svc.run = none ∧ t.svc.drive = r.image ∧ t.storeRd 0x40 32 = r.image ∧ t.storeByte 0x80 = 0 ∧
        Within evtFields (fun a => evtReg a || a == Reg.PAGE_STATUS panelPage) s t) ∧
    (∀ r k l, s.svc.run = some r → r.todo = k :: l → s.svc.powerFail = true → Ends .commonDone s fun t =>
      t.svc.run = none ∧ t.svc.pixels = s.svc.pixels.take (5 * k) ++ s.commonBytes r.image k ++ s.svc.pixels.drop (5 * k + 5) ∧ t.svc.drive = s.svc.drive ∧
      Within evtFields (fun a => evtReg a || a == Reg.PAGE_STATUS panelPage) s t) ∧
    (s.rf Reg.SVC_REFRESH 15 0 = 0 ∨ s.panelOn = false ∨ s.svcRuns = false → Ends .panelRefresh s fun t => Within [.hif] (fun _ => false) s t) ∧
    (s.rf Reg.SVC_REFRESH 15 0 ≠ 0 → s.panelOn = true → s.panelFree = true → s.svc.queued = none → s.svc.reloadDue = false → s.svc.pixelDue = false → Ends .panelRefresh s fun t =>
      t.svc.run = some ⟨.refresh, s.svc.drive, s.svc.drive, [s.svc.refreshNext], false, s.band, []⟩ ∧ t.svc.refreshNext = (s.svc.refreshNext + 1) % 6 ∧
      Within evtFields (fun a => evtReg a || a == Reg.PAGE_STATUS panelPage) s t) ∧
    (∀ upset : BitVec 256, (s.rb Reg.SVC_PANEL_CTRL 1 = false ∨ s.panelOn = false ∨ s.svcRuns = false → Ends (.segCrcCheck upset) s fun t => Within [.hif] (fun _ => false) s t) ∧
      (∀ d, s.rb Reg.SVC_PANEL_CTRL 1 = true → s.panelOn = true → s.svcRuns = true → d = ((List.range 32).map fun i => nth 0 s.svc.drive i ^^^ BitVec.ofNat 8 (upset.toNat >>> (8 * i))) →
        (imageOk d = true → Ends (.segCrcCheck upset) s fun t => t.svc.drive = d ∧ Within [.hif, .svc] (fun _ => false) s t) ∧
        (imageOk d = false → Ends (.segCrcCheck upset) s fun t => (s.computeOn = true → s.svc.computeLost = false → t.fltPending 482 = true) ∧
          (s.panelFree = true → s.svc.queued = none → (t.svc.run.map fun r => (r.kind, r.todo)) = some (.reload, [0, 1, 2, 3, 4, 5])) ∧
          t.svc.drive = (if imageOk (s.storeRd 0x40 32) then s.storeRd 0x40 32 else withCrc16 (List.replicate 30 0)) ∧
          Within noticeFields (fun a => faultReg a || among [Reg.SVC_PANEL_STATUS, Reg.PAGE_STATUS panelPage] a) s t))) ∧
    (∀ ohms, s.svcRuns = true → s.rb Reg.SVC_PANEL_CTRL 2 = true → s.enabled panelPage = true → Ends (.crackCheck ohms) s fun t =>
      t.rf Reg.SVC_CRACK_OHMS 15 0 = min 65535 ohms ∧ t.mem = s.mem ∧
      (if s.rf Reg.SVC_CRACK_LIMIT 15 0 < min 65535 ohms then t.fltPending 483 = true ∧ (s.flt.windows = [] → t.pgState panelPage = stFenced)
       else Within [.regs, .hif] (among [Reg.SVC_CRACK_OHMS]) s t)) ∧
    (s.svc.powered = true → Ends .panelDrive s fun t => t.fltPending 486 = true ∧ t.mem = s.mem)

/-- The service die (R357 to R359, R365, R372 to R376, R418, R421, R442): conversions give their readings or raise their source; store operations begin, are refused and end; power comes
and goes; every SMBus command answers, or does what it says where its error code is good. -/
def Obligations.ServiceDieAnswers : Prop :=
  ∀ s : State,
    (∀ v0 v1 (tc ts : BitVec 16) vh, s.svc.powered = false → Ends (.ntcConversion v0 v1 tc ts vh) s fun t => Within [.hif] (fun _ => false) s t) ∧
    (∀ v0 v1 (tc ts : BitVec 16) vh, s.svc.powered = true → s.restoring = true → Ends (.ntcConversion v0 v1 tc ts vh) s fun t =>
      t.rn Reg.SVC_VHOLD = min 65535 (vh * s.svc.gain / 32768) ∧ Within evtFields (fun a => evtReg a || among [Reg.SVC_VHOLD, Reg.PWR_RAIL] a) s t) ∧
    (∀ v0 v1 (tc ts : BitVec 16) vh, s.svcRuns = true → Ends (.ntcConversion v0 v1 tc ts vh) s fun t =>
      t.rd Reg.SVC_TDIE_COMPUTE = readingWord true 0 tc.toNat ∧ t.rd Reg.SVC_TDIE_SERVICE = readingWord true 0 ts.toNat ∧ t.rn Reg.SVC_VHOLD = min 65535 (vh * s.svc.gain / 32768) ∧
      t.rb Reg.PWR_RAIL 8 = decide (vh * s.svc.gain / 32768 < 11000) ∧
      t.rb Reg.SVC_NTC_0 31 = ntcValid (s.ntcRatio v0) ∧ t.rb Reg.SVC_NTC_1 31 = ntcValid (s.ntcRatio v1) ∧
      (∀ x, ntcValid (s.ntcRatio v0) = true → ntcTemp (s.ntcRatio v0) (s.rf Reg.SVC_NTC_PARAM_0 15 0) (s.rf Reg.SVC_NTC_PARAM_0 31 16) = some x → t.rd Reg.SVC_NTC_0 = readingWord true 0 (unsgn 16 x)) ∧
      (∀ x, ntcValid (s.ntcRatio v1) = true → ntcTemp (s.ntcRatio v1) (s.rf Reg.SVC_NTC_PARAM_1 15 0) (s.rf Reg.SVC_NTC_PARAM_1 31 16) = some x → t.rd Reg.SVC_NTC_1 = readingWord true 0 (unsgn 16 x)) ∧
      (ntcValid (s.ntcRatio v0) = false ∨ ntcValid (s.ntcRatio v1) = false → s.computeOn = true → s.svc.computeLost = false → t.fltPending 484 = true) ∧ t.mem = s.mem) ∧
    (∀ uv, s.svcRuns = true → Ends (.vrefConversion uv) s fun t => t.rn Reg.SVC_VREF = 2 ^ 31 + min (2 ^ 21 - 1) (uv * s.svc.gain / 32768) ∧ Within evtFields (fun a => evtReg a || a == Reg.SVC_VREF) s t) ∧
    (∀ p : Party, Allowed s p Reg.SVC_STORE_CMD 1 → s.svc.storeOp = none → Ends (.storeRead p) s fun t =>
      t.svc.storeOp = some ⟨false, s.rf Reg.SVC_STORE_ADDR 11 4 * 16, []⟩ ∧ t.rf Reg.SVC_STORE_STATUS 31 29 = 4 ∧ Within [.regs, .hif, .svc] (among [Reg.SVC_STORE_STATUS, Reg.SEQ storePage]) s t) ∧
    (∀ p : Party, Allowed s p Reg.SVC_STORE_CMD 2 → s.svc.storeOp = none →
      (areaOf p (s.rf Reg.SVC_STORE_ADDR 11 4 * 16) = true → Ends (.storeWrite p) s fun t =>
        t.svc.storeOp = some ⟨true, s.rf Reg.SVC_STORE_ADDR 11 4 * 16, (List.range 4).flatMap fun i => leBytes 4 (s.rn (Reg.SVC_STORE_DATA i))⟩ ∧ t.rf Reg.SVC_STORE_STATUS 31 29 = 4 ∧
        Within [.regs, .hif, .svc] (among [Reg.SVC_STORE_STATUS, Reg.SEQ storePage]) s t) ∧
      (areaOf p (s.rf Reg.SVC_STORE_ADDR 11 4 * 16) = false → Ends (.storeWrite p) s fun t =>
        t.svc.storeOp = none ∧ t.rb Reg.SVC_STORE_STATUS 30 = true ∧ t.rn Reg.HIF_OWN_VIOL = min (2 ^ 32 - 1) (s.rn Reg.HIF_OWN_VIOL + 1) ∧ t.fltPending 0 = true ∧ t.mem = s.mem)) ∧
    (∀ o, s.svc.storeOp = some o → Ends .storeOpEnd s fun t => t.svc.storeOp = none ∧ t.rb Reg.SVC_STORE_STATUS 31 = false ∧ t.mem = s.mem ∧
      (o.write = true → ∀ i < o.data.length, t.storeByte (o.unit + i) = nth 0 o.data i) ∧
      (o.write = false → o.unit % 16 = 0 → (∀ i < 4, t.rd (Reg.SVC_STORE_DATA i) = wd (leNat (s.storeRd (o.unit + 4 * i) 4))) ∧
        t.rb Reg.SVC_STORE_STATUS 29 = s.svc.storeBad.contains (o.unit / 16) ∧
        (s.svc.storeBad.contains (o.unit / 16) = true → t.fltPending 481 = true ∧ t.graveLatched = true))) ∧
    (∀ a b, Ends (.servicePowerOn a b) s fun t =>
      t.pwr.state = 3 ∧ t.pwr.autoOn = b ∧ t.svc.waitVhold = true ∧ t.svc.run = none ∧ t.svc.pixels = s.svc.pixels ∧ t.mem = [] ∧ t.fltSeq = 0 ∧ t.graveLatched = false ∧
      leNat (t.storeRd 4 4) = (leNat (s.storeRd 4 4) + 1) % 2 ^ 32 ∧ t.smbAddr = (if a then 0x4D else 0x4C) ∧ (s.sec.burn = none → t.sec.fuses = s.sec.fuses) ∧
      ∀ k, 0x145 ≤ k → t.storeByte k = s.storeByte k) ∧
    (∀ ok, s.svc.waitVhold = true → Ends (.vholdReady ok) s fun t => t.svc.waitVhold = false ∧ t.rb Reg.SVC_STATUS 31 = ok ∧ t.svc.owedLow = !ok ∧ t.mem = s.mem ∧
      ((s.storeByte 0x80).getLsbD 0 = true → (t.svc.run.map fun r => (r.kind, r.image, r.todo)) = some (.restore, s.storeRd 0x60 32, [0, 1, 2, 3, 4, 5])) ∧
      ((s.storeByte 0x80).getLsbD 0 = false → t.pwr.state = 2 ∧ t.pwr.move = (if s.pwr.autoOn then .powerUp 1 else .none))) ∧
    Ends .powerFailWarning s (fun t => t.svc.powerFail = true ∧ t.svc.powered = false ∧ t.pwr.state = 3 ∧ t.pwr.enables = 0 ∧ t.mem = [] ∧ t.svc.pixels = s.svc.pixels ∧ t.svc.run = s.svc.run ∧
      ∀ o, s.svc.storeOp = some o → o.write = true → 0x10 ≤ o.unit → ∀ i < o.data.length, t.storeByte (o.unit + i) = nth 0 o.data i) ∧
    (∀ (c : Instr) (r : Reply), (c = .smbStatus ∧ r = .word (wd s.smbStatus)) ∨ (c = .smbShownImage ∧ r = .bytes s.svc.drive) ∨
        (c = .smbSensors ∧ r = .bytes ([Reg.SVC_NTC_0, Reg.SVC_NTC_1, Reg.SVC_TDIE_COMPUTE, Reg.SVC_TDIE_SERVICE, Reg.SVC_VREF, Reg.SVC_VHOLD].flatMap fun a => leBytes 4 (s.rn a))) →
      Ends c s fun t => t.reply = (if s.smbUp then r else .noAnswer) ∧ Within [.hif, .reply] (fun _ => false) s t) ∧
    (∀ (c : Instr) (off n : Nat), (c = .smbFfCopy ∧ off = 0xC0 ∧ n = 32) ∨ (c = .smbFgCopy ∧ off = 0xE0 ∧ n = 32) ∨
        (∃ (o : BitVec 16) (len : BitVec 8), c = .smbStoreRead o len ∧ 1 ≤ len.toNat ∧ len.toNat ≤ 32 ∧ off = o.toNat ∧ n = len.toNat) →
      Ends c s fun t => t.reply = (if s.smbUp then .bytes (s.storeRd off n) else .noAnswer) ∧ t.mem = s.mem ∧
        (s.smbUp = false ∨ (∀ u ∈ s.svc.storeBad, u < off / 16 ∨ off + n ≤ u * 16) → Within [.hif, .reply] (fun _ => false) s t) ∧
        (∀ u ∈ s.svc.storeBad, s.smbUp = true → off / 16 ≤ u → u * 16 < off + n → t.fltPending 481 = true ∧ t.graveLatched = true)) ∧
    (∀ (o : BitVec 16) (len : BitVec 8), len.toNat = 0 ∨ 32 < len.toNat → Ends (.smbStoreRead o len) s fun t => t.reply = .noAnswer ∧ Within [.hif, .reply] (fun _ => false) s t) ∧
    (∀ (a : Word) (reg : Fin 16777216), a.toNat = 4 * reg → s.smbUp = true → (s.computeOn = true → Ends (.smbRegRead a) s fun t => exec (.rcRead .bmc reg) s = .next t) ∧
      (s.computeOn = false → Ends (.smbRegRead a) s fun t => t.reply = .word 0xFFFFFFFF ∧ Within [.hif, .reply] (fun _ => false) s t)) ∧
    (∀ (v : Word) pec, s.pecOk pec = true → Allowed s .bmc Reg.SVC_CRACK_LIMIT v → Ends (.smbRegWrite (wd Reg.SVC_CRACK_LIMIT) v pec) s fun t =>
      t.rf Reg.SVC_CRACK_LIMIT 15 0 = v.toNat % 65536 ∧ Within evtFields (fun a => evtReg a || among [Reg.SVC_CRACK_LIMIT, Reg.SEQ panelPage] a) s t) ∧
    (∀ pec, s.pecOk pec = true → s.pwr.move = .none →
      (s.pwr.state = 1 → s.svc.computeLost = false → Ends (.smbStandby pec) s fun t => t.pwr = { s.pwr with move := .toStandby } ∧ Within [.regs, .hif, .svc, .sent, .pwr] evtReg s t) ∧
      (s.pwr.state = 2 → Ends (.smbWake pec) s fun t => t.pwr = { s.pwr with move := .powerUp 1, enables := 1, good := 0 } ∧ Within [.regs, .hif, .svc, .sent, .pwr] evtReg s t)) ∧
    (∀ (c : Instr) pec, s.pecOk pec = false → (∃ a v, c = .smbRegWrite a v pec) ∨ c = .smbStandby pec ∨ c = .smbWake pec ∨ (∃ i, c = .smbPanelImage i pec) ∨ (∃ o d, c = .smbStoreWrite o d pec) →
      Ends c s fun t => Within [.hif, .reply] (fun _ => false) s t) ∧
    (∀ (img : BitVec 240) pec, s.pecOk pec = true → s.computeOn = false ∨ s.svc.computeLost = true ∨ Allowed s .bmc Reg.SVC_PANEL_CMD 1 → s.panelOn = true → s.panelFree = true → Ends (.smbPanelImage img pec) s fun t =>
      (t.svc.run.map fun r => (r.kind, r.image)) = some (.update, withCrc16 (leBytes 30 img.toNat)) ∧ t.mem = s.mem) ∧
    (∀ (off : BitVec 16) (d : BitVec 128) pec, s.pecOk pec = true → areaOf .bmc off.toNat = true → off.toNat % 16 = 0 → Ends (.smbStoreWrite off d pec) s fun t =>
      t.storeRd off.toNat 16 = leBytes 16 d.toNat ∧ (∀ k, k < off.toNat ∨ off.toNat + 16 ≤ k → t.storeByte k = s.storeByte k) ∧ Within [.hif, .svc] (fun _ => false) s t) ∧
    (∀ e l, s.smbUp = true → s.svc.events = e :: l → Ends .smbEventPop s fun t => t.reply = .word (wd (32768 + e % 2048)) ∧ t.svc.events = l ∧
      t.svc.alert = ((s.svc.pairAlert || s.rb Reg.SVC_SMB_CTRL 8) && !l.isEmpty) ∧ t.svc.pairAlert = (s.svc.pairAlert && !l.isEmpty) ∧ Within [.regs, .hif, .svc, .reply] (among [Reg.SVC_BMC_EVT]) s t) ∧
    (s.smbUp = true → s.svc.events = [] → Ends .smbEventPop s fun t => t.reply = .word 0 ∧ Within [.hif, .reply] (fun _ => false) s t) ∧
    (∀ c : Instr, (s.smbUp = false ∧ (c = .smbEventPop ∨ ∃ a, c = .smbRegRead a)) ∨ ((s.smbUp = false ∨ s.svc.alert = false) ∧ c = .smbAlertResponse) →
      Ends c s fun t => t.reply = .noAnswer ∧ Within [.hif, .reply] (fun _ => false) s t) ∧
    (s.smbUp = true → s.svc.alert = true → Ends .smbAlertResponse s fun t => t.reply = .bytes [BitVec.ofNat 8 (2 * s.smbAddr)] ∧ t.svc.alert = ((s.svc.pairAlert || s.rb Reg.SVC_SMB_CTRL 8) && !s.svc.events.isEmpty) ∧
      Within [.hif, .svc, .reply] (fun _ => false) s t)

/-! ### Calibration and wear (R377 to R394) -/

/-- Calibration (R377 to R392): a run starts or is refused, is aborted, takes each measurement and its failure, is judged, applied, recorded or given up; sensor and oscillator runs set
the trims; the light that an ended frame holds for a cell is added to its dose; wear gains and saved doses follow while doses are counted. -/
def Obligations.CalibrationRuns : Prop :=
  ∀ s : State,
    (∀ (p : Party) (kind : Fin 16) (mask : Fin 64) (l : List Nat), l = ((List.range 6).filter fun t => mask.val.testBit t) → Allowed s p Reg.CAL_CMD (wd (1 + kind * 16 + mask * 65536)) →
      (s.enabled calPage = true → s.rb Reg.CAL_CTRL 0 = true → s.pgState calPage = stIdle → s.cal.run = none → 1 ≤ kind.val → kind.val ≤ 4 → (3 ≤ kind.val ∨ l.all (fun t => s.regionReady t) = true) →
        Ends (.calRun p kind mask) s fun t =>
          (t.cal.run.map fun r => (r.kind, r.mask, r.count, r.phase)) = some (kind.val, l, 0, if kind.val ≤ 2 ∧ l = [] then 1 else 0) ∧ t.rb Reg.CAL_STATUS 31 = false ∧
          t.rf Reg.CAL_STATUS 19 16 = kind ∧ t.rf Reg.CAL_STATUS 2 0 = 1 ∧ t.rd Reg.CAL_RUN_CNT = s.rd Reg.CAL_RUN_CNT + 1 ∧ t.pgState calPage = stRun ∧
          Within [.regs, .hif, .svc, .sent, .cal, .plk] (fun a => evtReg a || among [Reg.CAL_STATUS, Reg.CAL_RUN_CNT, Reg.PAGE_STATUS calPage, Reg.SEQ calPage] a) s t) ∧
      (s.enabled calPage = false ∨ s.rb Reg.CAL_CTRL 0 = false ∨ s.pgState calPage ≠ stIdle ∨ s.cal.run.isSome = true ∨ kind.val = 0 ∨ 4 < kind.val ∨ (kind.val < 3 ∧ l.all (fun t => s.regionReady t) = false) →
        Ends (.calRun p kind mask) s fun t => t.rb Reg.CAL_STATUS 31 = true ∧ Within [.regs, .hif] (among [Reg.CAL_STATUS, Reg.SEQ calPage]) s t)) ∧
    (∀ (p : Party) r, Allowed s p Reg.CAL_CMD 2 → s.cal.run = some r → Ends (.calAbort p) s fun t =>
      t.cal.run = none ∧ t.rf Reg.CAL_STATUS 23 20 = 3 ∧ t.rf Reg.CAL_STATUS 2 0 = 0 ∧ t.pgState calPage = stIdle ∧
      Within [.regs, .hif, .svc, .sent, .cal, .plk] (fun a => evtReg a || among [Reg.CAL_STATUS, Reg.PAGE_STATUS calPage, Reg.SEQ calPage] a) s t) ∧
    (∀ (g : Fin 6) (seq : BitVec 8) r, (s.grp g).lock = true → r.mask.all (fun t => s.regionReady t) = true →
      (∀ mx my : BitVec 16, s.answerFor g seq.toNat 1 = some r → r.misses ≤ s.rf Reg.CAL_MISS_MAX 7 0 → r.count + 1 < 1435 → mx ≠ 0x8000 → Ends (.regResult g mx my seq) s fun t =>
        (t.cal.run.map fun x => (x.reg, x.count, x.seq, x.misses)) = some (r.reg ++ [(g * 1435 + r.count, (sgn 16 mx.toNat, sgn 16 my.toNat))], r.count + 1, r.seq + 1, r.misses) ∧
        Within [.regs, .hif, .plk, .cal] (among [Reg.PLK_GRP_BC_STATUS g, Reg.CAL_STATUS]) s t) ∧
      (∀ my : BitVec 16, s.answerFor g seq.toNat 1 = some r → s.rf Reg.CAL_MISS_MAX 7 0 < r.misses + 1 → Ends (.regResult g 0x8000 my seq) s fun t =>
        t.cal.run = none ∧ t.rf Reg.CAL_STATUS 23 20 = 2 ∧ t.fltPending 488 = true ∧ t.mem = s.mem) ∧
      (s.answerFor g seq.toNat 2 = some r → s.rf Reg.CAL_MISS_MAX 7 0 < r.misses + 1 → Ends (.photoResult g 0 seq) s fun t =>
        t.cal.run = none ∧ t.rf Reg.CAL_STATUS 23 20 = 2 ∧ t.fltPending 488 = true ∧ t.mem = s.mem) ∧
      (∀ v : BitVec 16, s.answerFor g seq.toNat 2 = some r → r.misses ≤ s.rf Reg.CAL_MISS_MAX 7 0 → r.count + 1 < 4305 → v ≠ 0 → Ends (.photoResult g v seq) s fun t =>
        (t.cal.run.map fun x => (x.photo, x.count, x.seq, x.misses)) =
          some (r.photo ++ [(g * 4305 + r.count, (v.toNat, Sparse.get wearDefault (s.wearBank s.wearActive) (g * 4305 + r.count)))], r.count + 1, r.seq + 1, r.misses))) ∧
    (∀ r t' l, s.cal.run = some r → r.phase = 0 → r.kind ≤ 2 → r.left = t' :: l → s.mgtRuns = true → r.mask.all (fun t => s.regionReady t) = true →
      (r.resent = false → Ends .measureTimeout s fun t => t.cal.run = some { r with resent := true } ∧ Within [.hif, .plk, .cal] (fun _ => false) s t) ∧
      (r.resent = true → r.misses + 1 ≤ s.rf Reg.CAL_MISS_MAX 7 0 → r.count + 1 < regionMeasures r.kind → Ends .measureTimeout s fun t =>
        t.cal.run = some { r with resent := false, count := r.count + 1, seq := r.seq + 1, misses := r.misses + 1 } ∧ Within [.regs, .hif, .plk, .cal] (among [Reg.CAL_STATUS]) s t)) ∧
    (∀ r b x, s.cal.run = some r → r.phase = 1 → s.mgtRuns = true → (r.kind ≤ 2 → r.mask.all (fun t => s.regionReady t) = true) → (if r.kind = 1 then s.regBank r else s.photoBank r) = (b, x) → Ends .calResultCheck s fun t =>
      match x with
      | some g => t.cal.run = none ∧ t.rf Reg.CAL_STATUS 23 20 = 2 ∧ t.rf Reg.CAL_STATUS 26 24 = g % 8 ∧ t.fltPending 488 = true ∧ t.mem = s.mem
      | none => (t.cal.run.map fun y => (y.kind, y.phase, y.bank)) = some (r.kind, 2, some b) ∧ t.rf Reg.CAL_STATUS 2 0 = 2) ∧
    (∀ (r : CalRun) (c : Instr), s.cal.run = some r → r.kind ≤ 2 → r.mask.all (fun t => s.regionReady t) = false → c = .measureTimeout ∨ c = .calResultCheck ∨ c = .calApplySwitched ∨ (∃ b, c = .recordStored b) →
      Ends c s fun t => t.cal.run = none ∧ t.rf Reg.CAL_STATUS 23 20 = 5 ∧ t.pgState calPage = stIdle ∧ t.cal.slots = s.cal.slots ∧ t.mem = s.mem) ∧
    (∀ r, s.cal.run = some r → r.phase = 2 → s.mgtRuns = true →
      (∀ base, (r.kind ≤ 2 → r.mask.all (fun t => s.regionReady t) = true) → s.pair64 (calKind r.kind).ident = s.calIdent →
          base = (if r.kind = 2 then r.base.foldl (fun l e => Sparse.set (fun _ => 0) l e.1 e.2) s.cal.base else s.cal.base) → Ends .calApplySwitched s fun t =>
        t.cal = { s.cal with base := base, run := some { r with phase := 3, record := some (s.calRecord r base) } } ∧ t.rf Reg.CAL_STATUS 2 0 = 3 ∧ Within [.regs, .hif, .cal] (among [Reg.CAL_STATUS]) s t) ∧
      Ends .calApplyTimeout s fun t => t.cal.run = none ∧ t.rf Reg.CAL_STATUS 23 20 = 7 ∧
        Within [.regs, .hif, .svc, .sent, .cal] (fun a => evtReg a || among [Reg.CAL_STATUS, Reg.PAGE_STATUS calPage] a) s t) ∧
    (∀ r, s.cal.run = some r → r.phase = 3 → s.mgtRuns = true → (r.kind ≤ 2 → r.mask.all (fun t => s.regionReady t) = true) → s.cal.slots.length = 2 →
      Ends (.recordStored false) s (fun t => t.cal = { s.cal with run := none } ∧ t.rf Reg.CAL_STATUS 23 20 = 8 ∧ t.fltPending 490 = true ∧ t.mem = s.mem) ∧
      (∀ q, q = (match s.bestSlot with | some b => (if slotSeq (nth none s.cal.slots b) = 2 ^ 32 - 1 then 1 else slotSeq (nth none s.cal.slots b) + 1) | none => 1) →
        Ends (.recordStored true) s fun t =>
          t.cal.run = none ∧ t.rf Reg.CAL_STATUS 23 20 = 1 ∧ t.rd Reg.CAL_RECORD = wd (s.freeSlot * 256 + r.kind) ∧ t.rd Reg.CAL_RECORD_SEQ = wd q ∧
          nth none t.cal.slots s.freeSlot = r.record.map (fun x => { x with seq := q }) ∧ nth none t.cal.slots (1 - s.freeSlot) = nth none s.cal.slots (1 - s.freeSlot) ∧
          t.dirSeq s.freeSlot = q % 2 ^ 32 ∧ t.storeByte 0x208 = BitVec.ofNat 8 s.freeSlot ∧ t.mem = s.mem)) ∧
    (∀ (r : CalRun) (mean : Nat) osc xtal, s.cal.run = some r → s.mgtRuns = true →
      (∀ gain : Nat, r.kind = 3 → s.rb Reg.SVC_VREF 31 = true → mean ≠ 0 → gain = (rdiv ((s.rf Reg.CAL_VREF_NOMINAL 20 0 * 32768 : Nat) : Int) (mean : Int)).toNat → ((gain : Int) - 32768).natAbs * 50 ≤ 32768 →
        Ends (.sensorRunEnd mean osc xtal) s fun t => t.cal.run = none ∧ t.svc.gain = gain ∧ t.svc.oscTrim = s.svc.oscTrim ∧ t.rf Reg.CAL_STATUS 23 20 = 1 ∧ t.mem = s.mem) ∧
      (r.kind = 3 → s.rb Reg.SVC_VREF 31 = false ∨ mean = 0 → Ends (.sensorRunEnd mean osc xtal) s fun t => t.cal.run = none ∧ t.svc.gain = s.svc.gain ∧ t.rf Reg.CAL_STATUS 23 20 = 6 ∧ t.mem = s.mem) ∧
      (r.kind = 4 → osc.natAbs ≤ 30000 → Ends (.sensorRunEnd mean osc xtal) s fun t => t.cal.run = none ∧ t.svc.oscTrim = trimFor osc s.svc.oscTrim ∧ t.rf Reg.CAL_STATUS 23 20 = 1 ∧ t.mem = s.mem) ∧
      (r.kind = 4 → 30000 < osc.natAbs → Ends (.sensorRunEnd mean osc xtal) s fun t => t.cal.run = none ∧ t.svc.oscTrim = s.svc.oscTrim ∧ t.rf Reg.CAL_STATUS 23 20 = 2 ∧ t.fltPending 488 = true)) ∧
    (∀ f i x bs, s.cal.counting = true → s.mgtRuns = true → s.syn.frames.find? (fun f => f.ended && !f.light.isEmpty) = some f → f.light = [(i, x)] → s.Reads none (s.doseAddr i) 4 bs →
      Ends .doseUpdate s fun t => t.syn = (s.setFrame { f with light := [] }).syn ∧
        s.Stored t (s.doseAddr i) (leBytes 4 (min (2 ^ 32 - 1) (leNat bs + (rdiv ((x * 16 * (rateOf s.cmtRate).2 : Nat) : Int) ((1023 * cellEmitters f.layout (i / 120 % 34) * (rateOf s.cmtRate).1 : Nat) : Int)).toNat))) ∧
        s.MemoryBut t (· = s.doseAddr i) 4 ∧ Within [.regs, .mem, .hif, .dmc, .syn] memReg s t) ∧
    (s.cal.counting = true → s.mgtRuns = true →
      Ends .wearUpdated s (fun t => t.ton.wearReady = true ∧ t.wearBank s.wearActive = s.wearBank s.wearActive ∧ t.wearActive = s.wearActive) ∧
      Ends .doseSaved s (fun t => t.cal.saved.isSome = true ∧ t.cal.run = s.cal.run ∧ t.cal.slots = s.cal.slots)) ∧
    (s.cal.counting = false ∨ s.mgtRuns = false → Ends .wearUpdated s (fun t => Within [.hif] (fun _ => false) s t) ∧ Ends .doseSaved s (fun t => Within [.hif] (fun _ => false) s t))

/-! ### Boot, identity, attestation and debug unlock (R396 to R413) -/

/-- Boot and keys (R396 to R411): the boot ROM runs once, fails without a directory, and seals where no configuration is in force; updates are staged and end with their status; commits,
revocations and provisioning start burns or are refused; a burn that ends blows its bits; reports are taken and shown; the debug level follows challenge,
response, relock and policy. -/
def Obligations.BootAndKeys : Prop :=
  ∀ s : State, (∀ img, s.svc.queued = some img → img.length = 32) →
    (∀ fa f0 f1, s.computeOn = false ∨ s.sec.fw.isSome = true ∨ s.sec.halted = true ∨ s.mgtLost = true → Ends (.bootRom fa f0 f1) s fun t => Within [.hif] (fun _ => false) s t) ∧
    (s.computeOn = true → s.sec.fw = none → s.sec.halted = false → s.mgtLost = false →
      (s.directory = none → Ends (.bootRom none none none) s fun t => t.sec = { s.sec with halted := true } ∧ t.fltPending 493 = true ∧ t.graveLatched = true ∧ t.mem = s.mem) ∧
      (∀ q fw cfg, s.directory = some (q, fw, cfg) → (∀ c, s.cfgOk c = false) → s.sec.fuses.field = false → Ends (.bootRom none none none) s fun t =>
        t.sec.fuses = s.sec.fuses ∧ t.sec.flash = s.sec.flash ∧
        match (bootOrder fw).find? fun c => s.fwOk c with
        | none => t.sec.halted = true ∧ t.sec.fw = none ∧ t.fltPending 493 = true
        | some c => t.sec.fw = some (runningOf c.1 c.2 (s.candidate false c)) ∧ t.sec.cfg = s.sec.cfg ∧ t.sealed = true ∧
            t.rn Reg.SEC_FW_SVN = (runningOf c.1 c.2 (s.candidate false c)).svn % 2 ^ 32 ∧ (c ≠ (fw, 0) → t.fltPending 492 = true))) ∧
    (∀ (p : Party) (c : Instr) (n : Nat) (cfg : Bool), Allowed s p Reg.SEC_UPD_CMD (wd n) → (c = .secStage p ∧ n = 1 ∧ cfg = false) ∨ (c = .stageConfig p ∧ n = 2 ∧ cfg = true) →
      (s.sec.upd = none → Ends c s fun t => t.sec.upd = some ⟨partyCode p, cfg, s.addr40 Reg.SEC_UPD_ADDR_LO, s.rn Reg.SEC_UPD_LEN⟩ ∧ t.rf Reg.SEC_UPD_STATUS 3 0 = 1 ∧ t.rf Reg.SEC_UPD_STATUS 10 8 = partyCode p ∧
        Within [.regs, .hif, .sec] (among [Reg.SEC_UPD_CMD, Reg.SEC_UPD_STATUS, Reg.SEQ (Reg.page 19 0)]) s t) ∧
      (s.sec.upd.isSome = true → Ends c s fun t => Within [.regs, .hif] (among [Reg.SEC_UPD_CMD, Reg.SEQ (Reg.page 19 0)]) s t)) ∧
    (∀ u s' img st w, s.sec.upd = some u → s.updImage u = (s', img, st) → s.sec.flash.length = 2 → Ends (.updateEnd w) s fun t =>
      t.sec.upd = none ∧ t.sec.fuses = s.sec.fuses ∧ t.mem = s.mem ∧
      if st ≠ 0 then t.rf Reg.SEC_UPD_STATUS 3 0 = st % 16 ∧ t.sec.flash = s.sec.flash ∧ t.fltPending 494 = true
      else if w then t.rf Reg.SEC_UPD_STATUS 3 0 = 2 ∧ ∀ f < 2, flashSlot (t.flash f) u.config (1 - (let d := s.directory.getD (0, 0, 0); if u.config then d.2.2 else d.2.1)) = img
      else t.rf Reg.SEC_UPD_STATUS 3 0 = 8 ∧ t.fltPending 494 = true) ∧
    (∀ (p : Party) (v : Word), Allowed s p Reg.SEC_SVN_COMMIT v →
      (fld v 6 0 ≤ s.rn Reg.SEC_FW_SVN → s.sec.fuses.svn ≤ fld v 6 0 → s.sec.burn = none → Ends (.svnCommit p v) s fun t =>
        t.sec = { s.sec with burn := some (.svn (fld v 6 0)) } ∧ t.rf Reg.SEC_FUSE_STATUS 31 29 = 4 ∧ Within [.regs, .hif, .sec] (among [Reg.SEC_SVN_COMMIT, Reg.SEC_FUSE_STATUS, Reg.SEQ (Reg.page 19 0)]) s t) ∧
      (s.rn Reg.SEC_FW_SVN < fld v 6 0 ∨ fld v 6 0 < s.sec.fuses.svn ∨ s.sec.burn.isSome = true → Ends (.svnCommit p v) s fun t =>
        t.rb Reg.SEC_FUSE_STATUS 29 = true ∧ Within [.regs, .hif] (among [Reg.SEC_SVN_COMMIT, Reg.SEC_FUSE_STATUS, Reg.SEQ (Reg.page 19 0)]) s t)) ∧
    (∀ (p : Party) (v : Word), Allowed s p Reg.SEC_REVOKE v → s.sec.burn = none → (∀ f, s.sec.fw = some f → (fld v 3 0).testBit f.root = false) →
      (fld v 3 0 = 0 ∨ s.sec.fuses.rootRevoke ||| fld v 3 0 ≠ 15) → Ends (.revoke p v) s fun t =>
        t.sec = { s.sec with burn := some (.revoke (fld v 3 0) (fld v 5 4)) } ∧ t.rf Reg.SEC_FUSE_STATUS 31 29 = 4 ∧ Within [.regs, .hif, .sec] (among [Reg.SEC_REVOKE, Reg.SEC_FUSE_STATUS, Reg.SEQ (Reg.page 19 0)]) s t) ∧
    (∀ (p : Party) (v : Word), Allowed s p Reg.SEC_REVOKE v → s.sec.burn.isSome = true ∨ (∃ f, s.sec.fw = some f ∧ (fld v 3 0).testBit f.root = true) ∨
      (fld v 3 0 ≠ 0 ∧ s.sec.fuses.rootRevoke ||| fld v 3 0 = 15) → Ends (.revoke p v) s fun t =>
        t.rb Reg.SEC_FUSE_STATUS 29 = true ∧ Within [.regs, .hif] (among [Reg.SEC_REVOKE, Reg.SEC_FUSE_STATUS, Reg.SEQ (Reg.page 19 0)]) s t) ∧
    (∀ (p : Party) (c : Instr) (n : Nat) (b : Burn), Allowed s p Reg.SEC_PROVISION (wd n) → (c = .provisionIntegratorKey p ∧ n = 1 ∧ b = .integrator s.provDigest) ∨
        (∃ k : Fin 2, c = .provisionDebugKey p k ∧ n = 2 + k ∧ b = .debug k s.provDigest) ∨ (c = .provisionField p ∧ n = 4 ∧ b = .field) →
      (s.sec.fuses.field = false → (n = 4 → s.sec.fuses.integrator ≠ 0) → s.sec.burn = none → Ends c s fun t =>
        t.sec = { s.sec with burn := some b } ∧ t.rf Reg.SEC_FUSE_STATUS 31 29 = 4 ∧ Within [.regs, .hif, .sec] (among [Reg.SEC_PROVISION, Reg.SEC_FUSE_STATUS, Reg.SEQ (Reg.page 19 0)]) s t) ∧
      (s.sec.fuses.field = true ∨ (n = 4 ∧ s.sec.fuses.integrator = 0) ∨ s.sec.burn.isSome = true → Ends c s fun t =>
        t.rb Reg.SEC_FUSE_STATUS 29 = true ∧ Within [.regs, .hif] (among [Reg.SEC_PROVISION, Reg.SEC_FUSE_STATUS, Reg.SEQ (Reg.page 19 0)]) s t)) ∧
    (∀ b ok, s.sec.burn = some b → Ends (.fuseDone ok) s fun t => t.sec.burn = none ∧ t.rb Reg.SEC_FUSE_STATUS 31 = false ∧ s.sec.fuses.le t.sec.fuses ∧ t.sec.flash = s.sec.flash ∧ t.mem = s.mem ∧
      (ok = true → t.sec.fuses = s.sec.fuses.blow b) ∧ (ok = false ∨ t.sec.fuses.holds b = false → t.rb Reg.SEC_FUSE_STATUS 30 = true ∧ t.fltPending 496 = true)) ∧
    (∀ p : Party, Allowed s p Reg.SEC_ATT_CMD 1 →
      (s.sec.att = none → Ends (.attest p) s fun t => (∃ sig, t.sec.att = some (s.reportBody p ++ sig) ∧ sig.length = 132) ∧ t.rd Reg.SEC_ATT_STATUS = 0x80000000 ∧
        Within [.regs, .hif, .sec, .freeCtr] (among [Reg.SEC_ATT_STATUS, Reg.SEQ (Reg.page 19 1)]) s t) ∧
      (s.sec.att.isSome = true → Ends (.attest p) s fun t => t.rb Reg.SEC_ATT_STATUS 30 = true ∧ Within [.regs, .hif] (among [Reg.SEC_ATT_STATUS, Reg.SEQ (Reg.page 19 1)]) s t)) ∧
    (∀ b, s.sec.att = some b → Ends .attestDone s fun t => t.sec = { s.sec with att := none } ∧ (∀ i < 115, t.rd (Reg.SEC_ATT_DATA i) = wd (leAt b (4 * i) 4)) ∧
      t.rb Reg.SEC_ATT_STATUS 31 = false ∧ t.rb Reg.SEC_ATT_STATUS 29 = true ∧
      Within [.regs, .hif, .svc, .sent, .sec] (fun a => evtReg a || a == Reg.SEC_ATT_STATUS || (List.range 115).any fun i => a == Reg.SEC_ATT_DATA i) s t) ∧
    (∀ p : Party, Allowed s p Reg.SEC_DBG_CMD 1 →
      (s.rf Reg.SEC_DBG_STATUS 9 8 ≠ 3 → Ends (.dbgChallenge p) s fun t => t.rb Reg.SEC_DBG_STATUS 16 = true ∧ t.dbgLevel = s.dbgLevel ∧
        Within [.regs, .hif, .freeCtr] (fun a => among [Reg.SEC_DBG_STATUS, Reg.SEQ (Reg.page 19 1)] a || (List.range 16).any fun i => a == Reg.SEC_DBG_CHAL i) s t) ∧
      (s.rf Reg.SEC_DBG_STATUS 9 8 = 3 → Ends (.dbgChallenge p) s fun t => Within [.regs, .hif] (among [Reg.SEQ (Reg.page 19 1)]) s t)) ∧
    (∀ p : Party, Allowed s p Reg.SEC_DBG_CMD 2 → Ends (.dbgResponse p) s fun t => t.sec = s.sec ∧ t.mem = s.mem ∧
      if s.responseOk then t.rb Reg.SEC_DBG_STATUS 16 = false ∧ t.dbgLevel = min (leAt s.sec.resp 72 1) s.dbgAllow
      else t.dbgLevel = s.dbgLevel ∧ t.rf Reg.SEC_DBG_STATUS 9 8 = min 3 (s.rf Reg.SEC_DBG_STATUS 9 8 + 1) ∧ t.fltPending 495 = true)

/-- SEC_DBG_POLICY (R411) is RWK: after sealing a direct write is dropped. A change that lowers ALLOW below the level in force lowers the level and raises DBG_LEVEL (event
1924); any other change leaves the level; RELOCK sets LOCKED. An ALLOW of 3 acts as 2. -/
def Obligations.PolicyLimitsDebug : Prop :=
  (regRow Reg.SEC_DBG_POLICY).map (·.acc) = some .rwk ∧
  ∀ (p : Party) (v : Word) (s : State),
    (s.sealed = true → s.reaches p = true → Ends (.dbgPolicyWrite p v) s fun t => t.rn Reg.HIF_OWN_VIOL = min (2 ^ 32 - 1) (s.rn Reg.HIF_OWN_VIOL + 1) ∧
      Within noticeFields (fun a => faultReg a || among [Reg.HIF_OWN_VIOL, Reg.HIF_OWN_LAST] a) s t) ∧
    (Allowed s p Reg.SEC_DBG_POLICY v → Ends (.dbgPolicyWrite p v) s fun t => t.rf Reg.SEC_DBG_POLICY 1 0 = v.toNat % 4 ∧
      (min 2 (v.toNat % 4) < s.dbgLevel → t.dbgLevel = min 2 (v.toNat % 4) ∧
        ∀ pg i, srcLoc evtRanges 1924 = some (pg, i) → t.rb (Reg.EVT_PEND pg) i = (s.rb (Reg.EVT_PEND pg) i || s.rb (Reg.EVT_EN pg) i)) ∧
      (s.dbgLevel ≤ min 2 (v.toNat % 4) → t.dbgLevel = s.dbgLevel) ∧
      Within evtFields (fun a => evtReg a || among [Reg.SEC_DBG_POLICY, Reg.SEC_DBG_STATUS, Reg.SEQ (Reg.page 19 1)] a) s t) ∧
    (Allowed s p Reg.SEC_DBG_CMD 3 → Ends (.relockDebug p) s fun t => t.dbgLevel = 0 ∧
      Within evtFields (fun a => evtReg a || among [Reg.SEC_DBG_STATUS, Reg.SEQ (Reg.page 19 1)] a) s t)

/-! ### Power, resets and management (R415 to R425, R430, R439 to R442) -/

/-- Power, resets and management (R415 to R425, R439 to R442): HOLD and RUN change state or are refused; standby, power-up and power-down go step by step; each reset of the compute die
keeps what it keeps; rails raise their sources; gates close, refuse and open; pairs checkpoint, stop and return; the Postbox, doorbells and dailies are
written as their owners may. -/
def Obligations.PowerAndManagement : Prop :=
  ∀ s : State, (∀ img, s.svc.queued = some img → img.length = 32) →
    (∀ p : Party, Allowed s p Reg.PWR_CMD 2 →
      (s.pwr.state = 0 → s.pwr.move = .none → Ends (.pwrHold p) s fun t => t.pwr = { s.pwr with move := .toHold } ∧ t.rb Reg.PWR_STATUS 9 = false ∧ t.mem = s.mem) ∧
      (s.pwr.state ≠ 0 ∨ s.pwr.move ≠ .none → Ends (.pwrHold p) s fun t => t.rb Reg.PWR_STATUS 9 = true ∧ Within evtFields (fun a => evtReg a || among [Reg.PWR_STATUS, Reg.SEQ (Reg.page 20 0)] a) s t)) ∧
    (∀ p : Party, Allowed s p Reg.PWR_CMD 1 →
      (s.pwr.state = 1 → s.pwr.move = .none → s.rb Reg.FLT_READY 0 = true → Ends (.pwrRun p) s fun t => t.pwr = { s.pwr with state := 0 } ∧ t.rb Reg.PWR_STATUS 9 = false ∧ t.mem = s.mem) ∧
      (s.pwr.state ≠ 1 ∨ s.pwr.move ≠ .none ∨ s.rb Reg.FLT_READY 0 = false → Ends (.pwrRun p) s fun t => t.rb Reg.PWR_STATUS 9 = true ∧
        Within evtFields (fun a => evtReg a || among [Reg.PWR_STATUS, Reg.SEQ (Reg.page 20 0)] a) s t)) ∧
    (s.pwr.move = .toHold → s.cmt.latched = none → Ends .holdTransitionEnd s fun t => t.pwr = { s.pwr with move := .none, state := 1 } ∧
      Within [.regs, .hif, .svc, .sent, .pwr, .dmc] (fun a => evtReg a || a == Reg.PAGE_STATUS cmtPage) s t) ∧
    (s.Shape → s.pwr.state = 1 → s.pwr.move = .none → s.rb Reg.PWR_CTRL 0 = true → Ends .srIdleExpiry s fun t =>
      (∀ c < 6, ∀ r < 4, (t.rank c r).selfRefresh = (s.trained c && (s.chan c).requests.isEmpty || (s.rank c r).selfRefresh)) ∧
      (∀ c < 6, s.trained c = true → (t.chan c).srDue = !(s.chan c).requests.isEmpty) ∧ Within [.hif, .dmc] (fun _ => false) s t) ∧
    (∀ c : Instr, s.pwr.move = .toStandby → c = .stbyTimeout ∨ (c = .stbyAck ∧ s.mgtRuns = true) → Ends c s fun t =>
      t.pwr.move = .powerDown 2 ∧ t.pwr.state = s.pwr.state ∧ t.pwr.enables.testBit 3 = false ∧ t.mem = [] ∧ t.sec.fw = none) ∧
    (∀ k : Fin 4, s.pwr.move = .powerUp (k + 1) → Ends (.powerGood k) s fun t => t.pwr.good.testBit k = true ∧ t.pwr.move = (if k.val < 3 then .powerUp (k + 2) else .powerUp 5) ∧
      t.pwr.state = s.pwr.state ∧ Within [.hif, .pwr] (fun _ => false) s t) ∧
    (∀ k ≤ 4, s.pwr.move = .powerUp k → Ends .powerGoodTimeout s fun t => t.pwr = { s.pwr with move := .none, enables := 0, good := 0 } ∧ t.fltPending 501 = true ∧ t.graveLatched = true ∧ t.mem = s.mem) ∧
    (∀ k, s.pwr.move = .powerDown k → Ends .powerDownStep s fun t => t.pwr.enables.testBit k = false ∧ t.mem = s.mem ∧
      (if k = 0 then t.pwr.state = 2 ∧ t.pwr.move = .none else t.pwr.state = s.pwr.state ∧ t.pwr.move = .powerDown (k - 1) ∧ Within [.hif, .pwr] (fun _ => false) s t)) ∧
    (∀ strap : Fin 4, s.pwr.move = .powerUp 5 → Ends (.computePowerOn strap) s fun t =>
      t.pwr.state = 1 ∧ t.pwr.move = .none ∧ t.rf Reg.HIF_BIFUR 1 0 = strap ∧ t.rf Reg.PWR_STATUS 31 28 = 1 ∧ t.mem = [] ∧ t.sealed = false ∧ t.sec.fw = none ∧ t.svc.computeLost = false) ∧
    (∀ (c : Instr) (k : Nat), s.computeOn = true → (c = .sysResetPin ∧ k = 2) ∨ (∃ p, c = .pwrResetWarm p ∧ k = 3 ∧ Allowed s p Reg.PWR_RESET 1) ∨ (c = .dmWarmReset ∧ k = 4 ∧ s.dbgLevel = 2) → Ends c s fun t =>
      t.pwr.state = 1 ∧ (s.pwr.move ≠ .toStandby → t.pwr.move = .none) ∧ t.rf Reg.PWR_STATUS 31 28 = k ∧ t.rd Reg.PWR_RESET_CNT = s.rd Reg.PWR_RESET_CNT + 1 ∧ t.mem = s.mem ∧ t.sealed = false ∧
      t.sec.fw = none ∧ (s.sec.burn = none → t.sec.fuses = s.sec.fuses) ∧ t.svc.computeLost = false) ∧
    (∀ (out : BitVec 9) (fail : BitVec 8) (drop : BitVec 4), (s.svc.powered = false → Ends (.railMonitor out fail drop) s fun t => Within [.hif] (fun _ => false) s t) ∧
      (s.svc.powered = true → Ends (.railMonitor out fail drop) s fun t => t.rf Reg.PWR_RAIL 8 0 = out.toNat ∧ t.mem = s.mem ∧
      (∀ e < 4, drop.toNat.testBit e = true → t.pwr.good.testBit e = false ∧ (s.pwr.enables.testBit e = true → s.pwr.good.testBit e = true → t.fltPending 501 = true)) ∧
      (∀ r < 8, s.computeOn = true → out.toNat.testBit r = true → (s.rf Reg.PWR_RAIL 8 0).testBit r = false → t.fltPending 500 = true) ∧
      (∀ r < 8, fail.toNat.testBit r = true → (∀ e, railEnable r = some e → s.pwr.enables.testBit e = true ∧ s.pwr.good.testBit e = true) → t.fltPending 501 = true ∧ t.graveLatched = true))) ∧
    (∀ (p : Party) (k : Fin 3) (v : Word), Allowed s p (gateReg k) v → Ends (.gateWrite p k v) s fun t =>
      (∀ i ∈ gateBits k, (bit v i = true → s.rb (gateReg k) i = true ∨ s.gateState k i = stOff ∨ s.gateState k i = stFenced → t.rb (gateReg k) i = true ∧ (k.val, i) ∉ t.pwr.gatesOpening) ∧
        (bit v i = true → s.rb (gateReg k) i = false → s.gateState k i ≠ stOff → s.gateState k i ≠ stFenced → t.rb (gateReg k) i = false ∧ t.rb Reg.PWR_GATE_STATUS 30 = true) ∧
        (bit v i = false → t.rb (gateReg k) i = s.rb (gateReg k) i ∧ (s.rb (gateReg k) i = true → (k.val, i) ∈ t.pwr.gatesOpening))) ∧
      Within [.regs, .hif, .svc, .sent, .pwr] (fun a => evtReg a || among [gateReg k, Reg.PWR_GATE_STATUS, Reg.SEQ (Reg.page 20 1)] a) s t) ∧
    (∀ (k : Fin 3) (i : Fin 26), (k.val, i.val) ∈ s.pwr.gatesOpening → Ends (.gateOpened k i) s fun t => t.rb (gateReg k) i = false ∧ (k.val, i.val) ∉ t.pwr.gatesOpening ∧
      (s.pwr.stored = [] → k.val < 2 ∨ i.val < 24 → Within [.regs, .hif, .svc, .sent, .pwr] (fun a => evtReg a || among [gateReg k, Reg.PWR_GATE_STATUS] a) s t)) ∧
    (s.mgtRuns = true → Ends .checkpoint s fun t => t.mgt = { s.mgt with ckpt := some s.clock, since := [] } ∧ Within [.hif, .mgt] (fun _ => false) s t) ∧
    (∀ i : Fin 2, Ends (.lockstepMismatch i) s fun t => t.fltPending (504 + i) = true ∧ t.mem = s.mem ∧ (s.flt.windows = [] → s.mgtState i ≠ stFenced → t.mgtState i = stFenced ∧
      (s.mgtActive = i.val → s.mgtState (1 - i.val) = stIdle → t.mgtActive = 1 - i.val ∧ t.mgtState (1 - i.val) = stRun))) ∧
    (∀ (p : Party) (i : Fin 2), Allowed s p Reg.MGT_PAIR_CMD (wd (1 + 256 * i)) → Ends (.pairReturn p i) s fun t =>
      t.mgtState i = (if s.mgtState i = stFenced then stTest else s.mgtState i) ∧ t.mgtState (1 - i.val) = s.mgtState (1 - i.val) ∧ Within [.regs, .hif] (among [Reg.MGT_PAIR, Reg.SEQ (Reg.page 21 0)]) s t) ∧
    (∀ (port : Fin 4) (off : Fin 1048576) (len : Fin 4097), s.reaches (partyOf port) = true →
      (pbRight port off = .denied → Ends (.postboxRead port off len) s fun t => t.reply = .bytes (List.replicate len 0) ∧ t.rn Reg.MGT_PB_VIOL = min (2 ^ 32 - 1) (s.rn Reg.MGT_PB_VIOL + 1) ∧ t.fltPending 509 = true ∧ t.mem = s.mem) ∧
      (pbRight port off = .readsZero → Ends (.postboxRead port off len) s fun t => t.reply = .bytes (List.replicate len 0) ∧ Within [.hif, .reply] (fun _ => false) s t) ∧
      (∀ bs, pbRight port off = .free ∨ pbRight port off = .readOnly → 1 ≤ len.val → s.Reads none (s.postbox + off) len bs → Ends (.postboxRead port off len) s fun t => t.reply = .bytes bs ∧
        Within [.regs, .hif, .reply, .dmc] memReg s t) ∧
      (∀ d : List Byte, pbRight port off = .free → s.Writable none (s.postbox + off) d.length → Ends (.postboxWrite port off d) s fun t => s.Stored t (s.postbox + off) d ∧
        s.MemoryBut t (· = s.postbox + off) d.length ∧ Within [.regs, .mem, .hif, .dmc] memReg s t) ∧
      (∀ d : List Byte, pbRight port off ≠ .free → Ends (.postboxWrite port off d) s fun t => t.rn Reg.MGT_PB_VIOL = min (2 ^ 32 - 1) (s.rn Reg.MGT_PB_VIOL + 1) ∧ t.fltPending 509 = true ∧ t.mem = s.mem)) ∧
    (∀ (p : Party) (q : Fin 5) (v : Word), Allowed s p (Reg.MGT_RING q) v → Ends (.doorbellRing p q v) s fun t =>
      t.mgt = { s.mgt with since := s.mgt.since ++ ((List.range 2).filter fun i => (ringBits p q v.toNat).testBit i).map (4 * q.val + ·) } ∧ t.mem = s.mem ∧
      (v.toNat % 16 = ringBits p q v.toNat → Within [.regs, .hif, .svc, .sent, .mgt] (fun a => evtReg a || a == Reg.SEQ (Reg.page 21 1)) s t) ∧
      (v.toNat % 16 ≠ ringBits p q v.toNat → t.rn Reg.HIF_OWN_VIOL = min (2 ^ 32 - 1) (s.rn Reg.HIF_OWN_VIOL + 1))) ∧
    (∀ body buf, s.mgtRuns = true → buf = (if s.rb Reg.MGT_DAILY 31 then 1 - s.rf Reg.MGT_DAILY 16 16 else 0) → Ends (.dailyWrite body) s fun t =>
      t.rd Reg.MGT_DAILY = wd (2 ^ 31 + buf * 2 ^ 16 + s.mgt.daily % 65536) ∧ t.mgt.daily = (s.mgt.daily + 1) % 2 ^ 32 ∧
      (s.Writable none (s.postbox + 65536 * buf) 32 → ∃ h, s.Stored t (s.postbox + 65536 * buf) h ∧ h.length = 32 ∧ leAt h 0 4 = 0x594C4944 ∧ leAt h 4 4 = s.mgt.daily % 2 ^ 32 ∧
        leAt h 20 4 = (32 + body.length) % 2 ^ 32 ∧ leAt h 24 4 = crc32c body) ∧
      s.MemoryOutside t (fun k => s.stores (s.postbox + 65536 * buf + 32) body.length k ∨ s.stores (s.postbox + 65536 * buf) 32 k)) ∧
    (∀ body, s.mgtRuns = false → Ends (.dailyWrite body) s fun t => Within [.hif] (fun _ => false) s t)

/-! ### The debug port (R426 to R429, R432) -/

/-- The debug port (R426 to R429): each instruction selects what the level allows; DBG_ACCESS captures the previous result and its operation runs, is denied or dropped; a fabric access ends
with its word; halts, steps, breakpoints and watchpoints stop a pair, and RESUME runs it. -/
def Obligations.DebugPortActs : Prop :=
  ∀ s : State,
    Ends .extest s (fun t => t.dbg = { s.dbg with ir := if s.computeOn && s.dbgLevel == 2 then 0 else 0xFF, drive := s.computeOn && s.dbgLevel == 2 } ∧ Within [.hif, .dbg] (fun _ => false) s t) ∧
    Ends .idcode s (fun t => t.reply = .word (s.rd Reg.PWR_IDCODE) ∧ t.dbg = { s.dbg with ir := 1, drive := false } ∧ Within [.hif, .dbg, .reply] (fun _ => false) s t) ∧
    (∀ l m, s.computeOn = true → Ends (.samplePreload l m) s fun t => t.reply = .bytes (bitBytes l) ∧ t.dbg = { s.dbg with ir := 2, drive := false, boundary := m } ∧ Within [.hif, .dbg, .reply] (fun _ => false) s t) ∧
    (∀ c : BitVec 8, c.toNat ≠ 0 → c.toNat ≠ 1 → c.toNat ≠ 2 → c.toNat ≠ 0x20 → Ends (.jtagBypass c) s fun t => t.dbg = { s.dbg with ir := 0xFF, drive := false } ∧ Within [.hif, .dbg] (fun _ => false) s t) ∧
    (s.computeOn = true → Ends .dbgAccessNop s fun t => t.reply = .bytes (leBytes 9 (s.dbg.status * 2 ^ 64 + s.dbg.addr.toNat * 2 ^ 32 + s.dbg.data.toNat)) ∧
      t.dbg = { s.dbg with ir := 0x20, drive := false } ∧ Within [.hif, .dbg, .reply] (fun _ => false) s t) ∧
    (∀ (a : Word) (c : Instr) (w : Option Word), s.computeOn = true → (c = .dbgAccessRead a ∧ w = none) ∨ (∃ v, c = .dbgAccessWrite a v ∧ w = some v) →
      (s.dbg.sys.isSome = true → Ends c s fun t => t.dbg = { s.dbg with ir := 0x20, drive := false } ∧ Within [.hif, .dbg, .reply] (fun _ => false) s t) ∧
      (s.dbg.sys = none → s.dmAllowed a.toNat w.isSome = false → Ends c s fun t =>
        t.dbg = { s.dbg with ir := 0x20, drive := false, status := 2, addr := a, data := 0 } ∧ Within [.hif, .dbg, .reply] (fun _ => false) s t) ∧
      (s.dbg.sys = none → s.dmAllowed a.toNat w.isSome = true → a.toNat = dmSysData → Ends c s fun t =>
        t.dbg = { s.dbg with ir := 0x20, drive := false, sys := some w, status := 1, addr := a, data := 0 } ∧ t.rn Reg.DM_SYS_STATUS = 1 ∧ Within [.regs, .hif, .dbg, .reply] (among [Reg.DM_SYS_STATUS]) s t)) ∧
    (∀ a : Word, s.computeOn = true → s.dbg.sys = none → s.dmAllowed a.toNat false = true → a.toNat ≠ dmSysData → dmCoreOf a.toNat = none → Ends (.dbgAccessRead a) s fun t =>
      t.dbg = { s.dbg with ir := 0x20, drive := false, status := 0, addr := a, data := s.rd (dmReg a.toNat) } ∧ Within [.hif, .dbg, .reply] (fun _ => false) s t) ∧
    (∀ (c : Fin 4) (i : Fin 8) (v : Word), s.computeOn = true → s.dbg.sys = none → s.dbgLevel = 2 → Ends (.dbgAccessWrite (wd (0x120 + 0x100 * c + 4 * i)) v) s fun t =>
      (∀ k ∈ pairCores c, t.rd (Reg.DM_BP k i) = v &&& 0xFFFFFFFD) ∧ t.dbg.status = 0 ∧ Within [.regs, .hif, .dbg, .reply] (among ((pairCores c).map fun k => Reg.DM_BP k i)) s t) ∧
    (∀ w a, s.dbg.sys = some w → a = s.addr40 (dmReg dmSysLo) → s.rb (dmReg dmSysHi) 31 = false → s.rb (dmReg dmCtrl) 0 = false →
      (∀ v, w = some v → s.Writable none a 4 → Ends .dmSysAccess s fun t => t.dbg = { s.dbg with sys := none, status := 0 } ∧ t.rn Reg.DM_SYS_STATUS = 0 ∧ s.Stored t a (leBytes 4 v.toNat) ∧
        s.MemoryBut t (· = a) 4 ∧ Within [.regs, .mem, .hif, .dbg, .dmc] (fun b => memReg b || b == Reg.DM_SYS_STATUS) s t) ∧
      (∀ bs, w = none → s.Reads none a 4 bs → Ends .dmSysAccess s fun t => t.dbg = { s.dbg with sys := none, status := 0, data := wd (leNat bs) } ∧ t.rn Reg.DM_SYS_STATUS = 0 ∧
        Within [.regs, .hif, .dbg, .dmc] (fun b => memReg b || b == Reg.DM_SYS_STATUS) s t)) ∧
    (∀ (c : Fin 4) (i : Instr) (cause index : Nat) (pc : Option Word), s.coreReach c = true →
        (i = .dmHalt c ∧ s.pairHalted c = false ∧ cause = 1 ∧ index = 0 ∧ pc = none) ∨ (i = .dmStep c ∧ s.pairHalted c = true ∧ cause = 2 ∧ index = 0 ∧ pc = none) ∨
        (∃ j : Fin 8, i = .breakpointHit c j ∧ s.pairHalted c = false ∧ s.rb (Reg.DM_BP c j) 0 = true ∧ cause = 3 ∧ index = j ∧ pc = some (s.rd (Reg.DM_BP c j) &&& 0xFFFFFFFC)) ∨
        (∃ (j : Fin 4) (a : Word) (wr : Bool), i = .watchpointHit c j a wr ∧ s.pairHalted c = false ∧ s.watchMatch c j a wr = true ∧ cause = 4 ∧ index = j ∧ pc = none) →
      Ends i s fun t => t.pairHalted c = true ∧ (∀ k ∈ pairCores c, t.rn (Reg.DM_CORE_STATUS k) = 2 ^ 31 + index * 2 ^ 8 + cause ∧ ∀ w, pc = some w → t.rd (Reg.DM_CORE_PC k) = w) ∧
        Within [.regs, .hif, .svc, .sent, .dbg, .freeCtr] (fun a => evtReg a || a == Reg.PWR_DBG || among ((pairCores c).flatMap fun k => [Reg.DM_CORE_STATUS k, Reg.DM_CORE_PC k]) a) s t) ∧
    (∀ c : Fin 4, s.coreReach c = true → s.pairHalted c = true → Ends (.dmResume c) s fun t => t.pairHalted c = false ∧ (∀ k ∈ pairCores c, t.rd (Reg.DM_CORE_STATUS k) = 0) ∧
      Within [.regs, .hif, .dbg] (fun a => a == Reg.PWR_DBG || among ((pairCores c).map fun k => Reg.DM_CORE_STATUS k) a) s t) ∧
    (∀ (c : Fin 4) (i : Instr), s.coreReach c = false → i = .dmHalt c ∨ i = .dmResume c ∨ i = .dmStep c ∨ (∃ j, i = .breakpointHit c j) ∨ (∃ j a w, i = .watchpointHit c j a w) →
      Ends i s fun t => Within [.hif] (fun _ => false) s t)
end

