-- ==== Sys2Proof/Laws/Sparse.lean ====
section
/-! SUPPORT. The laws of sparse maps: a read after a write, and that every operation keeps the canonical form. -/
namespace Sys2Proof.Machine.Sparse

variable {α : Type}

theorem get_insert (d : Nat → α) (m : List (Nat × α)) (k j : Nat) (v : α) (h : ∀ e ∈ m, e.1 ≠ k) :
    get d (insert k v m) j = if k = j then v else get d m j := by
  induction m with
  | nil => simp [insert, get]
  | cons e t ih =>
    obtain ⟨i, w⟩ := e
    have hi : i ≠ k := h (i, w) (by simp)
    have ih' := ih fun e he => h e (by simp [he])
    unfold insert
    split
    · simp [get]
    · by_cases hj : i = j
      · subst hj; simp [get, Ne.symm hi]
      · simp [get, hj, ih']

theorem get_erase (d : Nat → α) (m : List (Nat × α)) (k j : Nat) : get d (erase k m) j = if k = j then d j else get d m j := by
  induction m with
  | nil => simp [erase, get]
  | cons e t ih =>
    obtain ⟨i, w⟩ := e
    unfold erase
    split
    · rename_i h; subst h
      rw [ih]; by_cases hj : i = j <;> simp [get, hj]
    · rename_i h
      by_cases hj : i = j
      · subst hj; simp [get, Ne.symm h]
      · simp [get, hj, ih]

theorem erase_no_key (m : List (Nat × α)) (k : Nat) : ∀ e ∈ erase k m, e.1 ≠ k := by
  induction m with
  | nil => simp [erase]
  | cons e t ih =>
    obtain ⟨i, w⟩ := e
    unfold erase
    split
    · exact ih
    · intro e he
      rcases List.mem_cons.mp he with rfl | he
      · assumption
      · exact ih e he

theorem get_dropKeys (d : Nat → α) (p : Nat → Bool) (m : List (Nat × α)) (k : Nat) :
    get d (dropKeys p m) k = if p k then d k else get d m k := by
  induction m with
  | nil => simp [dropKeys, get]
  | cons e t ih =>
    obtain ⟨i, w⟩ := e
    have ih' : get d (List.filter (fun e => !p e.1) t) k = if p k then d k else get d t k := ih
    unfold dropKeys
    rw [List.filter_cons]
    by_cases hi : i = k
    · subst hi; by_cases hp : p i <;> simp [get, hp, ih']
    · by_cases hp : p i <;> simp [get, hp, hi, ih']

variable [DecidableEq α]

/-- A read after a write gives what was written, and every other key reads as before. -/
theorem get_set (d : Nat → α) (m : List (Nat × α)) (k j : Nat) (v : α) : get d (set d m k v) j = if k = j then v else get d m j := by
  unfold set
  split
  · rename_i h; subst h
    rw [get_erase]; by_cases hj : k = j <;> simp [hj]
  · rw [get_insert _ _ _ _ _ (erase_no_key m k), get_erase]
    by_cases hj : k = j <;> simp [hj]

@[simp] theorem get_set_same (d : Nat → α) (m : List (Nat × α)) (k : Nat) (v : α) : get d (set d m k v) k = v := by simp [get_set]

theorem get_set_other (d : Nat → α) (m : List (Nat × α)) (k j : Nat) (v : α) (h : k ≠ j) : get d (set d m k v) j = get d m j := by
  simp [get_set, h]

/-! ### The canonical form -/

theorem wfFrom_mono (d : Nat → α) (m : List (Nat × α)) (lo lo' : Nat) (h : lo' ≤ lo) (hw : wfFrom d lo m = true) : wfFrom d lo' m = true := by
  cases m with
  | nil => rfl
  | cons e t =>
    obtain ⟨i, w⟩ := e
    simp only [wfFrom, Bool.and_eq_true, decide_eq_true_eq] at hw ⊢
    exact ⟨⟨by omega, hw.1.2⟩, hw.2⟩

theorem wfFrom_keys (d : Nat → α) (m : List (Nat × α)) (lo : Nat) (hw : wfFrom d lo m = true) : ∀ e ∈ m, lo ≤ e.1 := by
  induction m generalizing lo with
  | nil => simp
  | cons e t ih =>
    obtain ⟨i, w⟩ := e
    simp only [wfFrom, Bool.and_eq_true, decide_eq_true_eq] at hw
    intro e he
    rcases List.mem_cons.mp he with rfl | he
    · exact hw.1.1
    · have := ih _ hw.2 e he; omega

theorem wfFrom_erase (d : Nat → α) (m : List (Nat × α)) (lo k : Nat) (hw : wfFrom d lo m = true) : wfFrom d lo (erase k m) = true := by
  induction m generalizing lo with
  | nil => rfl
  | cons e t ih =>
    obtain ⟨i, w⟩ := e
    simp only [wfFrom, Bool.and_eq_true, decide_eq_true_eq] at hw
    unfold erase
    split
    · exact wfFrom_mono d _ (i + 1) lo (by omega) (ih _ hw.2)
    · simp only [wfFrom, Bool.and_eq_true, decide_eq_true_eq]
      exact ⟨hw.1, ih _ hw.2⟩

theorem wfFrom_insert (d : Nat → α) (m : List (Nat × α)) (lo k : Nat) (v : α) (hv : v ≠ d k) (hlo : lo ≤ k)
    (hw : wfFrom d lo m = true) (hk : ∀ e ∈ m, e.1 ≠ k) : wfFrom d lo (insert k v m) = true := by
  induction m generalizing lo with
  | nil => simp [insert, wfFrom, hv, hlo]
  | cons e t ih =>
    obtain ⟨i, w⟩ := e
    have hi : i ≠ k := hk (i, w) (by simp)
    simp only [wfFrom, Bool.and_eq_true, decide_eq_true_eq] at hw
    unfold insert
    split
    · simp only [wfFrom, Bool.and_eq_true, decide_eq_true_eq]
      exact ⟨⟨hlo, hv⟩, ⟨by omega, hw.1.2⟩, hw.2⟩
    · simp only [wfFrom, Bool.and_eq_true, decide_eq_true_eq]
      exact ⟨hw.1, ih _ (by omega) hw.2 fun e he => hk e (by simp [he])⟩

/-- A write keeps the canonical form. -/
theorem wf_set (d : Nat → α) (m : List (Nat × α)) (k : Nat) (v : α) (hw : wf d m = true) : wf d (set d m k v) = true := by
  unfold set wf at *
  split
  · exact wfFrom_erase d m 0 k hw
  · rename_i h
    exact wfFrom_insert d _ 0 k v h (Nat.zero_le _) (wfFrom_erase d m 0 k hw) (erase_no_key m k)

theorem wfFrom_filterMap (d : Nat → α) (f : Nat × α → Option (Nat × α)) (hf : ∀ e e', f e = some e' → e'.1 = e.1 ∧ (e.2 ≠ d e.1 → e'.2 ≠ d e.1))
    (m : List (Nat × α)) (lo : Nat) (hw : wfFrom d lo m = true) : wfFrom d lo (m.filterMap f) = true := by
  induction m generalizing lo with
  | nil => rfl
  | cons e t ih =>
    obtain ⟨i, w⟩ := e
    simp only [wfFrom, Bool.and_eq_true, decide_eq_true_eq] at hw
    rw [List.filterMap_cons]
    cases hfe : f (i, w) with
    | none => exact wfFrom_mono d _ (i + 1) lo (by omega) (ih _ hw.2)
    | some e' =>
      obtain ⟨h1, h2⟩ := hf _ _ hfe
      obtain ⟨j, x⟩ := e'
      simp only at h1 h2
      subst h1
      simp only [wfFrom, Bool.and_eq_true, decide_eq_true_eq]
      exact ⟨⟨hw.1.1, h2 hw.1.2⟩, ih _ hw.2⟩

/-- Dropping keys keeps the canonical form. -/
theorem wf_dropKeys (d : Nat → α) (p : Nat → Bool) (m : List (Nat × α)) (hw : wf d m = true) : wf d (dropKeys p m) = true := by
  have : dropKeys p m = m.filterMap fun e => if p e.1 then none else some e := by
    unfold dropKeys
    rw [← List.filterMap_eq_filter]
    congr 1
    funext e
    by_cases h : p e.1 <;> simp [Option.guard, h]
  rw [this]
  exact wfFrom_filterMap d _ (by intro e e' h; by_cases hp : p e.1 <;> simp [hp] at h; subst h; exact ⟨rfl, id⟩) m 0 hw

end Sys2Proof.Machine.Sparse
end

