-- ==== Sys2Proof/Laws/State.lean ====
section
/-! SUPPORT. What each elementary update leaves alone, field by field, and what it writes. -/
namespace Sys2Proof.Machine

/-! ### `wr` -/

@[simp] theorem State.wr_pending (s : State) (a : Nat) (v : Word) : (s.wr a v).pending = s.pending := rfl
@[simp] theorem State.wr_mem (s : State) (a : Nat) (v : Word) : (s.wr a v).mem = s.mem := rfl
@[simp] theorem State.wr_freeCtr (s : State) (a : Nat) (v : Word) : (s.wr a v).freeCtr = s.freeCtr := rfl
@[simp] theorem State.wr_reply (s : State) (a : Nat) (v : Word) : (s.wr a v).reply = s.reply := rfl
@[simp] theorem State.wr_hif (s : State) (a : Nat) (v : Word) : (s.wr a v).hif = s.hif := rfl
@[simp] theorem State.wr_flt (s : State) (a : Nat) (v : Word) : (s.wr a v).flt = s.flt := rfl
@[simp] theorem State.wr_dmc (s : State) (a : Nat) (v : Word) : (s.wr a v).dmc = s.dmc := rfl
@[simp] theorem State.wr_svc (s : State) (a : Nat) (v : Word) : (s.wr a v).svc = s.svc := rfl
@[simp] theorem State.wr_pwr (s : State) (a : Nat) (v : Word) : (s.wr a v).pwr = s.pwr := rfl
@[simp] theorem State.wr_clock (s : State) (a : Nat) (v : Word) : (s.wr a v).clock = s.clock := rfl
@[simp] theorem State.wr_sent (s : State) (a : Nat) (v : Word) : (s.wr a v).sent = s.sent := rfl
@[simp] theorem State.wr_geo (s : State) (a : Nat) (v : Word) : (s.wr a v).geo = s.geo := rfl
@[simp] theorem State.wr_ton (s : State) (a : Nat) (v : Word) : (s.wr a v).ton = s.ton := rfl
@[simp] theorem State.wr_lyr (s : State) (a : Nat) (v : Word) : (s.wr a v).lyr = s.lyr := rfl
@[simp] theorem State.wr_syn (s : State) (a : Nat) (v : Word) : (s.wr a v).syn = s.syn := rfl
@[simp] theorem State.wr_cmt (s : State) (a : Nat) (v : Word) : (s.wr a v).cmt = s.cmt := rfl
@[simp] theorem State.wr_prt (s : State) (a : Nat) (v : Word) : (s.wr a v).prt = s.prt := rfl
@[simp] theorem State.wr_plk (s : State) (a : Nat) (v : Word) : (s.wr a v).plk = s.plk := rfl
@[simp] theorem State.wr_ing (s : State) (a : Nat) (v : Word) : (s.wr a v).ing = s.ing := rfl
@[simp] theorem State.wr_cmp (s : State) (a : Nat) (v : Word) : (s.wr a v).cmp = s.cmp := rfl
@[simp] theorem State.wr_blk (s : State) (a : Nat) (v : Word) : (s.wr a v).blk = s.blk := rfl
@[simp] theorem State.wr_tim (s : State) (a : Nat) (v : Word) : (s.wr a v).tim = s.tim := rfl
@[simp] theorem State.wr_net (s : State) (a : Nat) (v : Word) : (s.wr a v).net = s.net := rfl
@[simp] theorem State.wr_clk (s : State) (a : Nat) (v : Word) : (s.wr a v).clk = s.clk := rfl
@[simp] theorem State.wr_cal (s : State) (a : Nat) (v : Word) : (s.wr a v).cal = s.cal := rfl
@[simp] theorem State.wr_sec (s : State) (a : Nat) (v : Word) : (s.wr a v).sec = s.sec := rfl
@[simp] theorem State.wr_mgt (s : State) (a : Nat) (v : Word) : (s.wr a v).mgt = s.mgt := rfl
@[simp] theorem State.wr_dbg (s : State) (a : Nat) (v : Word) : (s.wr a v).dbg = s.dbg := rfl

/-! ### `wf` -/

@[simp] theorem State.wf_pending (s : State) (a hi lo v : Nat) : (s.wf a hi lo v).pending = s.pending := rfl
@[simp] theorem State.wf_mem (s : State) (a hi lo v : Nat) : (s.wf a hi lo v).mem = s.mem := rfl
@[simp] theorem State.wf_freeCtr (s : State) (a hi lo v : Nat) : (s.wf a hi lo v).freeCtr = s.freeCtr := rfl
@[simp] theorem State.wf_reply (s : State) (a hi lo v : Nat) : (s.wf a hi lo v).reply = s.reply := rfl
@[simp] theorem State.wf_hif (s : State) (a hi lo v : Nat) : (s.wf a hi lo v).hif = s.hif := rfl
@[simp] theorem State.wf_flt (s : State) (a hi lo v : Nat) : (s.wf a hi lo v).flt = s.flt := rfl
@[simp] theorem State.wf_dmc (s : State) (a hi lo v : Nat) : (s.wf a hi lo v).dmc = s.dmc := rfl
@[simp] theorem State.wf_svc (s : State) (a hi lo v : Nat) : (s.wf a hi lo v).svc = s.svc := rfl
@[simp] theorem State.wf_pwr (s : State) (a hi lo v : Nat) : (s.wf a hi lo v).pwr = s.pwr := rfl
@[simp] theorem State.wf_clock (s : State) (a hi lo v : Nat) : (s.wf a hi lo v).clock = s.clock := rfl
@[simp] theorem State.wf_sent (s : State) (a hi lo v : Nat) : (s.wf a hi lo v).sent = s.sent := rfl
@[simp] theorem State.wf_geo (s : State) (a hi lo v : Nat) : (s.wf a hi lo v).geo = s.geo := rfl
@[simp] theorem State.wf_ton (s : State) (a hi lo v : Nat) : (s.wf a hi lo v).ton = s.ton := rfl
@[simp] theorem State.wf_lyr (s : State) (a hi lo v : Nat) : (s.wf a hi lo v).lyr = s.lyr := rfl
@[simp] theorem State.wf_syn (s : State) (a hi lo v : Nat) : (s.wf a hi lo v).syn = s.syn := rfl
@[simp] theorem State.wf_cmt (s : State) (a hi lo v : Nat) : (s.wf a hi lo v).cmt = s.cmt := rfl
@[simp] theorem State.wf_prt (s : State) (a hi lo v : Nat) : (s.wf a hi lo v).prt = s.prt := rfl
@[simp] theorem State.wf_plk (s : State) (a hi lo v : Nat) : (s.wf a hi lo v).plk = s.plk := rfl
@[simp] theorem State.wf_ing (s : State) (a hi lo v : Nat) : (s.wf a hi lo v).ing = s.ing := rfl
@[simp] theorem State.wf_cmp (s : State) (a hi lo v : Nat) : (s.wf a hi lo v).cmp = s.cmp := rfl
@[simp] theorem State.wf_blk (s : State) (a hi lo v : Nat) : (s.wf a hi lo v).blk = s.blk := rfl
@[simp] theorem State.wf_tim (s : State) (a hi lo v : Nat) : (s.wf a hi lo v).tim = s.tim := rfl
@[simp] theorem State.wf_net (s : State) (a hi lo v : Nat) : (s.wf a hi lo v).net = s.net := rfl
@[simp] theorem State.wf_clk (s : State) (a hi lo v : Nat) : (s.wf a hi lo v).clk = s.clk := rfl
@[simp] theorem State.wf_cal (s : State) (a hi lo v : Nat) : (s.wf a hi lo v).cal = s.cal := rfl
@[simp] theorem State.wf_sec (s : State) (a hi lo v : Nat) : (s.wf a hi lo v).sec = s.sec := rfl
@[simp] theorem State.wf_mgt (s : State) (a hi lo v : Nat) : (s.wf a hi lo v).mgt = s.mgt := rfl
@[simp] theorem State.wf_dbg (s : State) (a hi lo v : Nat) : (s.wf a hi lo v).dbg = s.dbg := rfl

/-! ### `wb` -/

@[simp] theorem State.wb_pending (s : State) (a i : Nat) (b : Bool) : (s.wb a i b).pending = s.pending := rfl
@[simp] theorem State.wb_mem (s : State) (a i : Nat) (b : Bool) : (s.wb a i b).mem = s.mem := rfl
@[simp] theorem State.wb_freeCtr (s : State) (a i : Nat) (b : Bool) : (s.wb a i b).freeCtr = s.freeCtr := rfl
@[simp] theorem State.wb_reply (s : State) (a i : Nat) (b : Bool) : (s.wb a i b).reply = s.reply := rfl
@[simp] theorem State.wb_hif (s : State) (a i : Nat) (b : Bool) : (s.wb a i b).hif = s.hif := rfl
@[simp] theorem State.wb_flt (s : State) (a i : Nat) (b : Bool) : (s.wb a i b).flt = s.flt := rfl
@[simp] theorem State.wb_dmc (s : State) (a i : Nat) (b : Bool) : (s.wb a i b).dmc = s.dmc := rfl
@[simp] theorem State.wb_svc (s : State) (a i : Nat) (b : Bool) : (s.wb a i b).svc = s.svc := rfl
@[simp] theorem State.wb_pwr (s : State) (a i : Nat) (b : Bool) : (s.wb a i b).pwr = s.pwr := rfl
@[simp] theorem State.wb_clock (s : State) (a i : Nat) (b : Bool) : (s.wb a i b).clock = s.clock := rfl
@[simp] theorem State.wb_sent (s : State) (a i : Nat) (b : Bool) : (s.wb a i b).sent = s.sent := rfl
@[simp] theorem State.wb_geo (s : State) (a i : Nat) (b : Bool) : (s.wb a i b).geo = s.geo := rfl
@[simp] theorem State.wb_ton (s : State) (a i : Nat) (b : Bool) : (s.wb a i b).ton = s.ton := rfl
@[simp] theorem State.wb_lyr (s : State) (a i : Nat) (b : Bool) : (s.wb a i b).lyr = s.lyr := rfl
@[simp] theorem State.wb_syn (s : State) (a i : Nat) (b : Bool) : (s.wb a i b).syn = s.syn := rfl
@[simp] theorem State.wb_cmt (s : State) (a i : Nat) (b : Bool) : (s.wb a i b).cmt = s.cmt := rfl
@[simp] theorem State.wb_prt (s : State) (a i : Nat) (b : Bool) : (s.wb a i b).prt = s.prt := rfl
@[simp] theorem State.wb_plk (s : State) (a i : Nat) (b : Bool) : (s.wb a i b).plk = s.plk := rfl
@[simp] theorem State.wb_ing (s : State) (a i : Nat) (b : Bool) : (s.wb a i b).ing = s.ing := rfl
@[simp] theorem State.wb_cmp (s : State) (a i : Nat) (b : Bool) : (s.wb a i b).cmp = s.cmp := rfl
@[simp] theorem State.wb_blk (s : State) (a i : Nat) (b : Bool) : (s.wb a i b).blk = s.blk := rfl
@[simp] theorem State.wb_tim (s : State) (a i : Nat) (b : Bool) : (s.wb a i b).tim = s.tim := rfl
@[simp] theorem State.wb_net (s : State) (a i : Nat) (b : Bool) : (s.wb a i b).net = s.net := rfl
@[simp] theorem State.wb_clk (s : State) (a i : Nat) (b : Bool) : (s.wb a i b).clk = s.clk := rfl
@[simp] theorem State.wb_cal (s : State) (a i : Nat) (b : Bool) : (s.wb a i b).cal = s.cal := rfl
@[simp] theorem State.wb_sec (s : State) (a i : Nat) (b : Bool) : (s.wb a i b).sec = s.sec := rfl
@[simp] theorem State.wb_mgt (s : State) (a i : Nat) (b : Bool) : (s.wb a i b).mgt = s.mgt := rfl
@[simp] theorem State.wb_dbg (s : State) (a i : Nat) (b : Bool) : (s.wb a i b).dbg = s.dbg := rfl

/-! ### `wn` -/

@[simp] theorem State.wn_pending (s : State) (a n : Nat) : (s.wn a n).pending = s.pending := rfl
@[simp] theorem State.wn_mem (s : State) (a n : Nat) : (s.wn a n).mem = s.mem := rfl
@[simp] theorem State.wn_freeCtr (s : State) (a n : Nat) : (s.wn a n).freeCtr = s.freeCtr := rfl
@[simp] theorem State.wn_reply (s : State) (a n : Nat) : (s.wn a n).reply = s.reply := rfl
@[simp] theorem State.wn_hif (s : State) (a n : Nat) : (s.wn a n).hif = s.hif := rfl
@[simp] theorem State.wn_flt (s : State) (a n : Nat) : (s.wn a n).flt = s.flt := rfl
@[simp] theorem State.wn_dmc (s : State) (a n : Nat) : (s.wn a n).dmc = s.dmc := rfl
@[simp] theorem State.wn_svc (s : State) (a n : Nat) : (s.wn a n).svc = s.svc := rfl
@[simp] theorem State.wn_pwr (s : State) (a n : Nat) : (s.wn a n).pwr = s.pwr := rfl
@[simp] theorem State.wn_clock (s : State) (a n : Nat) : (s.wn a n).clock = s.clock := rfl
@[simp] theorem State.wn_sent (s : State) (a n : Nat) : (s.wn a n).sent = s.sent := rfl
@[simp] theorem State.wn_geo (s : State) (a n : Nat) : (s.wn a n).geo = s.geo := rfl
@[simp] theorem State.wn_ton (s : State) (a n : Nat) : (s.wn a n).ton = s.ton := rfl
@[simp] theorem State.wn_lyr (s : State) (a n : Nat) : (s.wn a n).lyr = s.lyr := rfl
@[simp] theorem State.wn_syn (s : State) (a n : Nat) : (s.wn a n).syn = s.syn := rfl
@[simp] theorem State.wn_cmt (s : State) (a n : Nat) : (s.wn a n).cmt = s.cmt := rfl
@[simp] theorem State.wn_prt (s : State) (a n : Nat) : (s.wn a n).prt = s.prt := rfl
@[simp] theorem State.wn_plk (s : State) (a n : Nat) : (s.wn a n).plk = s.plk := rfl
@[simp] theorem State.wn_ing (s : State) (a n : Nat) : (s.wn a n).ing = s.ing := rfl
@[simp] theorem State.wn_cmp (s : State) (a n : Nat) : (s.wn a n).cmp = s.cmp := rfl
@[simp] theorem State.wn_blk (s : State) (a n : Nat) : (s.wn a n).blk = s.blk := rfl
@[simp] theorem State.wn_tim (s : State) (a n : Nat) : (s.wn a n).tim = s.tim := rfl
@[simp] theorem State.wn_net (s : State) (a n : Nat) : (s.wn a n).net = s.net := rfl
@[simp] theorem State.wn_clk (s : State) (a n : Nat) : (s.wn a n).clk = s.clk := rfl
@[simp] theorem State.wn_cal (s : State) (a n : Nat) : (s.wn a n).cal = s.cal := rfl
@[simp] theorem State.wn_sec (s : State) (a n : Nat) : (s.wn a n).sec = s.sec := rfl
@[simp] theorem State.wn_mgt (s : State) (a n : Nat) : (s.wn a n).mgt = s.mgt := rfl
@[simp] theorem State.wn_dbg (s : State) (a n : Nat) : (s.wn a n).dbg = s.dbg := rfl

/-! ### `cntSat` -/

@[simp] theorem State.cntSat_pending (s : State) (a n k : Nat) : (s.cntSat a n k).pending = s.pending := rfl
@[simp] theorem State.cntSat_mem (s : State) (a n k : Nat) : (s.cntSat a n k).mem = s.mem := rfl
@[simp] theorem State.cntSat_freeCtr (s : State) (a n k : Nat) : (s.cntSat a n k).freeCtr = s.freeCtr := rfl
@[simp] theorem State.cntSat_reply (s : State) (a n k : Nat) : (s.cntSat a n k).reply = s.reply := rfl
@[simp] theorem State.cntSat_hif (s : State) (a n k : Nat) : (s.cntSat a n k).hif = s.hif := rfl
@[simp] theorem State.cntSat_flt (s : State) (a n k : Nat) : (s.cntSat a n k).flt = s.flt := rfl
@[simp] theorem State.cntSat_dmc (s : State) (a n k : Nat) : (s.cntSat a n k).dmc = s.dmc := rfl
@[simp] theorem State.cntSat_svc (s : State) (a n k : Nat) : (s.cntSat a n k).svc = s.svc := rfl
@[simp] theorem State.cntSat_pwr (s : State) (a n k : Nat) : (s.cntSat a n k).pwr = s.pwr := rfl
@[simp] theorem State.cntSat_clock (s : State) (a n k : Nat) : (s.cntSat a n k).clock = s.clock := rfl
@[simp] theorem State.cntSat_sent (s : State) (a n k : Nat) : (s.cntSat a n k).sent = s.sent := rfl
@[simp] theorem State.cntSat_geo (s : State) (a n k : Nat) : (s.cntSat a n k).geo = s.geo := rfl
@[simp] theorem State.cntSat_ton (s : State) (a n k : Nat) : (s.cntSat a n k).ton = s.ton := rfl
@[simp] theorem State.cntSat_lyr (s : State) (a n k : Nat) : (s.cntSat a n k).lyr = s.lyr := rfl
@[simp] theorem State.cntSat_syn (s : State) (a n k : Nat) : (s.cntSat a n k).syn = s.syn := rfl
@[simp] theorem State.cntSat_cmt (s : State) (a n k : Nat) : (s.cntSat a n k).cmt = s.cmt := rfl
@[simp] theorem State.cntSat_prt (s : State) (a n k : Nat) : (s.cntSat a n k).prt = s.prt := rfl
@[simp] theorem State.cntSat_plk (s : State) (a n k : Nat) : (s.cntSat a n k).plk = s.plk := rfl
@[simp] theorem State.cntSat_ing (s : State) (a n k : Nat) : (s.cntSat a n k).ing = s.ing := rfl
@[simp] theorem State.cntSat_cmp (s : State) (a n k : Nat) : (s.cntSat a n k).cmp = s.cmp := rfl
@[simp] theorem State.cntSat_blk (s : State) (a n k : Nat) : (s.cntSat a n k).blk = s.blk := rfl
@[simp] theorem State.cntSat_tim (s : State) (a n k : Nat) : (s.cntSat a n k).tim = s.tim := rfl
@[simp] theorem State.cntSat_net (s : State) (a n k : Nat) : (s.cntSat a n k).net = s.net := rfl
@[simp] theorem State.cntSat_clk (s : State) (a n k : Nat) : (s.cntSat a n k).clk = s.clk := rfl
@[simp] theorem State.cntSat_cal (s : State) (a n k : Nat) : (s.cntSat a n k).cal = s.cal := rfl
@[simp] theorem State.cntSat_sec (s : State) (a n k : Nat) : (s.cntSat a n k).sec = s.sec := rfl
@[simp] theorem State.cntSat_mgt (s : State) (a n k : Nat) : (s.cntSat a n k).mgt = s.mgt := rfl
@[simp] theorem State.cntSat_dbg (s : State) (a n k : Nat) : (s.cntSat a n k).dbg = s.dbg := rfl

/-! ### `cntWrap` -/

@[simp] theorem State.cntWrap_pending (s : State) (a : Nat) : (s.cntWrap a).pending = s.pending := rfl
@[simp] theorem State.cntWrap_mem (s : State) (a : Nat) : (s.cntWrap a).mem = s.mem := rfl
@[simp] theorem State.cntWrap_freeCtr (s : State) (a : Nat) : (s.cntWrap a).freeCtr = s.freeCtr := rfl
@[simp] theorem State.cntWrap_reply (s : State) (a : Nat) : (s.cntWrap a).reply = s.reply := rfl
@[simp] theorem State.cntWrap_hif (s : State) (a : Nat) : (s.cntWrap a).hif = s.hif := rfl
@[simp] theorem State.cntWrap_flt (s : State) (a : Nat) : (s.cntWrap a).flt = s.flt := rfl
@[simp] theorem State.cntWrap_dmc (s : State) (a : Nat) : (s.cntWrap a).dmc = s.dmc := rfl
@[simp] theorem State.cntWrap_svc (s : State) (a : Nat) : (s.cntWrap a).svc = s.svc := rfl
@[simp] theorem State.cntWrap_pwr (s : State) (a : Nat) : (s.cntWrap a).pwr = s.pwr := rfl
@[simp] theorem State.cntWrap_clock (s : State) (a : Nat) : (s.cntWrap a).clock = s.clock := rfl
@[simp] theorem State.cntWrap_sent (s : State) (a : Nat) : (s.cntWrap a).sent = s.sent := rfl
@[simp] theorem State.cntWrap_geo (s : State) (a : Nat) : (s.cntWrap a).geo = s.geo := rfl
@[simp] theorem State.cntWrap_ton (s : State) (a : Nat) : (s.cntWrap a).ton = s.ton := rfl
@[simp] theorem State.cntWrap_lyr (s : State) (a : Nat) : (s.cntWrap a).lyr = s.lyr := rfl
@[simp] theorem State.cntWrap_syn (s : State) (a : Nat) : (s.cntWrap a).syn = s.syn := rfl
@[simp] theorem State.cntWrap_cmt (s : State) (a : Nat) : (s.cntWrap a).cmt = s.cmt := rfl
@[simp] theorem State.cntWrap_prt (s : State) (a : Nat) : (s.cntWrap a).prt = s.prt := rfl
@[simp] theorem State.cntWrap_plk (s : State) (a : Nat) : (s.cntWrap a).plk = s.plk := rfl
@[simp] theorem State.cntWrap_ing (s : State) (a : Nat) : (s.cntWrap a).ing = s.ing := rfl
@[simp] theorem State.cntWrap_cmp (s : State) (a : Nat) : (s.cntWrap a).cmp = s.cmp := rfl
@[simp] theorem State.cntWrap_blk (s : State) (a : Nat) : (s.cntWrap a).blk = s.blk := rfl
@[simp] theorem State.cntWrap_tim (s : State) (a : Nat) : (s.cntWrap a).tim = s.tim := rfl
@[simp] theorem State.cntWrap_net (s : State) (a : Nat) : (s.cntWrap a).net = s.net := rfl
@[simp] theorem State.cntWrap_clk (s : State) (a : Nat) : (s.cntWrap a).clk = s.clk := rfl
@[simp] theorem State.cntWrap_cal (s : State) (a : Nat) : (s.cntWrap a).cal = s.cal := rfl
@[simp] theorem State.cntWrap_sec (s : State) (a : Nat) : (s.cntWrap a).sec = s.sec := rfl
@[simp] theorem State.cntWrap_mgt (s : State) (a : Nat) : (s.cntWrap a).mgt = s.mgt := rfl
@[simp] theorem State.cntWrap_dbg (s : State) (a : Nat) : (s.cntWrap a).dbg = s.dbg := rfl

/-! ### `setCell` -/

@[simp] theorem State.setCell_pending (s : State) (k : Nat) (b : Byte) : (s.setCell k b).pending = s.pending := rfl
@[simp] theorem State.setCell_regs (s : State) (k : Nat) (b : Byte) : (s.setCell k b).regs = s.regs := rfl
@[simp] theorem State.setCell_freeCtr (s : State) (k : Nat) (b : Byte) : (s.setCell k b).freeCtr = s.freeCtr := rfl
@[simp] theorem State.setCell_reply (s : State) (k : Nat) (b : Byte) : (s.setCell k b).reply = s.reply := rfl
@[simp] theorem State.setCell_hif (s : State) (k : Nat) (b : Byte) : (s.setCell k b).hif = s.hif := rfl
@[simp] theorem State.setCell_flt (s : State) (k : Nat) (b : Byte) : (s.setCell k b).flt = s.flt := rfl
@[simp] theorem State.setCell_dmc (s : State) (k : Nat) (b : Byte) : (s.setCell k b).dmc = s.dmc := rfl
@[simp] theorem State.setCell_svc (s : State) (k : Nat) (b : Byte) : (s.setCell k b).svc = s.svc := rfl
@[simp] theorem State.setCell_pwr (s : State) (k : Nat) (b : Byte) : (s.setCell k b).pwr = s.pwr := rfl
@[simp] theorem State.setCell_clock (s : State) (k : Nat) (b : Byte) : (s.setCell k b).clock = s.clock := rfl
@[simp] theorem State.setCell_sent (s : State) (k : Nat) (b : Byte) : (s.setCell k b).sent = s.sent := rfl
@[simp] theorem State.setCell_geo (s : State) (k : Nat) (b : Byte) : (s.setCell k b).geo = s.geo := rfl
@[simp] theorem State.setCell_ton (s : State) (k : Nat) (b : Byte) : (s.setCell k b).ton = s.ton := rfl
@[simp] theorem State.setCell_lyr (s : State) (k : Nat) (b : Byte) : (s.setCell k b).lyr = s.lyr := rfl
@[simp] theorem State.setCell_syn (s : State) (k : Nat) (b : Byte) : (s.setCell k b).syn = s.syn := rfl
@[simp] theorem State.setCell_cmt (s : State) (k : Nat) (b : Byte) : (s.setCell k b).cmt = s.cmt := rfl
@[simp] theorem State.setCell_prt (s : State) (k : Nat) (b : Byte) : (s.setCell k b).prt = s.prt := rfl
@[simp] theorem State.setCell_plk (s : State) (k : Nat) (b : Byte) : (s.setCell k b).plk = s.plk := rfl
@[simp] theorem State.setCell_ing (s : State) (k : Nat) (b : Byte) : (s.setCell k b).ing = s.ing := rfl
@[simp] theorem State.setCell_cmp (s : State) (k : Nat) (b : Byte) : (s.setCell k b).cmp = s.cmp := rfl
@[simp] theorem State.setCell_blk (s : State) (k : Nat) (b : Byte) : (s.setCell k b).blk = s.blk := rfl
@[simp] theorem State.setCell_tim (s : State) (k : Nat) (b : Byte) : (s.setCell k b).tim = s.tim := rfl
@[simp] theorem State.setCell_net (s : State) (k : Nat) (b : Byte) : (s.setCell k b).net = s.net := rfl
@[simp] theorem State.setCell_clk (s : State) (k : Nat) (b : Byte) : (s.setCell k b).clk = s.clk := rfl
@[simp] theorem State.setCell_cal (s : State) (k : Nat) (b : Byte) : (s.setCell k b).cal = s.cal := rfl
@[simp] theorem State.setCell_sec (s : State) (k : Nat) (b : Byte) : (s.setCell k b).sec = s.sec := rfl
@[simp] theorem State.setCell_mgt (s : State) (k : Nat) (b : Byte) : (s.setCell k b).mgt = s.mgt := rfl
@[simp] theorem State.setCell_dbg (s : State) (k : Nat) (b : Byte) : (s.setCell k b).dbg = s.dbg := rfl

/-! ### `answer` -/

@[simp] theorem State.answer_pending (s : State) (r : Reply) : (s.answer r).pending = s.pending := rfl
@[simp] theorem State.answer_regs (s : State) (r : Reply) : (s.answer r).regs = s.regs := rfl
@[simp] theorem State.answer_mem (s : State) (r : Reply) : (s.answer r).mem = s.mem := rfl
@[simp] theorem State.answer_freeCtr (s : State) (r : Reply) : (s.answer r).freeCtr = s.freeCtr := rfl
@[simp] theorem State.answer_hif (s : State) (r : Reply) : (s.answer r).hif = s.hif := rfl
@[simp] theorem State.answer_flt (s : State) (r : Reply) : (s.answer r).flt = s.flt := rfl
@[simp] theorem State.answer_dmc (s : State) (r : Reply) : (s.answer r).dmc = s.dmc := rfl
@[simp] theorem State.answer_svc (s : State) (r : Reply) : (s.answer r).svc = s.svc := rfl
@[simp] theorem State.answer_pwr (s : State) (r : Reply) : (s.answer r).pwr = s.pwr := rfl
@[simp] theorem State.answer_clock (s : State) (r : Reply) : (s.answer r).clock = s.clock := rfl
@[simp] theorem State.answer_sent (s : State) (r : Reply) : (s.answer r).sent = s.sent := rfl
@[simp] theorem State.answer_geo (s : State) (r : Reply) : (s.answer r).geo = s.geo := rfl
@[simp] theorem State.answer_ton (s : State) (r : Reply) : (s.answer r).ton = s.ton := rfl
@[simp] theorem State.answer_lyr (s : State) (r : Reply) : (s.answer r).lyr = s.lyr := rfl
@[simp] theorem State.answer_syn (s : State) (r : Reply) : (s.answer r).syn = s.syn := rfl
@[simp] theorem State.answer_cmt (s : State) (r : Reply) : (s.answer r).cmt = s.cmt := rfl
@[simp] theorem State.answer_prt (s : State) (r : Reply) : (s.answer r).prt = s.prt := rfl
@[simp] theorem State.answer_plk (s : State) (r : Reply) : (s.answer r).plk = s.plk := rfl
@[simp] theorem State.answer_ing (s : State) (r : Reply) : (s.answer r).ing = s.ing := rfl
@[simp] theorem State.answer_cmp (s : State) (r : Reply) : (s.answer r).cmp = s.cmp := rfl
@[simp] theorem State.answer_blk (s : State) (r : Reply) : (s.answer r).blk = s.blk := rfl
@[simp] theorem State.answer_tim (s : State) (r : Reply) : (s.answer r).tim = s.tim := rfl
@[simp] theorem State.answer_net (s : State) (r : Reply) : (s.answer r).net = s.net := rfl
@[simp] theorem State.answer_clk (s : State) (r : Reply) : (s.answer r).clk = s.clk := rfl
@[simp] theorem State.answer_cal (s : State) (r : Reply) : (s.answer r).cal = s.cal := rfl
@[simp] theorem State.answer_sec (s : State) (r : Reply) : (s.answer r).sec = s.sec := rfl
@[simp] theorem State.answer_mgt (s : State) (r : Reply) : (s.answer r).mgt = s.mgt := rfl
@[simp] theorem State.answer_dbg (s : State) (r : Reply) : (s.answer r).dbg = s.dbg := rfl

/-! ### `endCycle` -/

@[simp] theorem State.endCycle_pending (s : State) : (s.endCycle).pending = s.pending := rfl
@[simp] theorem State.endCycle_regs (s : State) : (s.endCycle).regs = s.regs := rfl
@[simp] theorem State.endCycle_mem (s : State) : (s.endCycle).mem = s.mem := rfl
@[simp] theorem State.endCycle_freeCtr (s : State) : (s.endCycle).freeCtr = s.freeCtr := rfl
@[simp] theorem State.endCycle_reply (s : State) : (s.endCycle).reply = s.reply := rfl
@[simp] theorem State.endCycle_flt (s : State) : (s.endCycle).flt = s.flt := rfl
@[simp] theorem State.endCycle_dmc (s : State) : (s.endCycle).dmc = s.dmc := rfl
@[simp] theorem State.endCycle_svc (s : State) : (s.endCycle).svc = s.svc := rfl
@[simp] theorem State.endCycle_pwr (s : State) : (s.endCycle).pwr = s.pwr := rfl
@[simp] theorem State.endCycle_clock (s : State) : (s.endCycle).clock = s.clock := rfl
@[simp] theorem State.endCycle_sent (s : State) : (s.endCycle).sent = s.sent := rfl
@[simp] theorem State.endCycle_geo (s : State) : (s.endCycle).geo = s.geo := rfl
@[simp] theorem State.endCycle_ton (s : State) : (s.endCycle).ton = s.ton := rfl
@[simp] theorem State.endCycle_lyr (s : State) : (s.endCycle).lyr = s.lyr := rfl
@[simp] theorem State.endCycle_syn (s : State) : (s.endCycle).syn = s.syn := rfl
@[simp] theorem State.endCycle_cmt (s : State) : (s.endCycle).cmt = s.cmt := rfl
@[simp] theorem State.endCycle_prt (s : State) : (s.endCycle).prt = s.prt := rfl
@[simp] theorem State.endCycle_plk (s : State) : (s.endCycle).plk = s.plk := rfl
@[simp] theorem State.endCycle_ing (s : State) : (s.endCycle).ing = s.ing := rfl
@[simp] theorem State.endCycle_cmp (s : State) : (s.endCycle).cmp = s.cmp := rfl
@[simp] theorem State.endCycle_blk (s : State) : (s.endCycle).blk = s.blk := rfl
@[simp] theorem State.endCycle_tim (s : State) : (s.endCycle).tim = s.tim := rfl
@[simp] theorem State.endCycle_net (s : State) : (s.endCycle).net = s.net := rfl
@[simp] theorem State.endCycle_clk (s : State) : (s.endCycle).clk = s.clk := rfl
@[simp] theorem State.endCycle_cal (s : State) : (s.endCycle).cal = s.cal := rfl
@[simp] theorem State.endCycle_sec (s : State) : (s.endCycle).sec = s.sec := rfl
@[simp] theorem State.endCycle_mgt (s : State) : (s.endCycle).mgt = s.mgt := rfl
@[simp] theorem State.endCycle_dbg (s : State) : (s.endCycle).dbg = s.dbg := rfl

/-! ### What is written -/

@[simp] theorem State.answer_reply (s : State) (r : Reply) : (s.answer r).reply = r := rfl

@[simp] theorem State.rd_wr_same (s : State) (a : Nat) (v : Word) : (s.wr a v).rd a = v := Sparse.get_set_same ..

theorem State.rd_wr (s : State) (a b : Nat) (v : Word) : (s.wr a v).rd b = if a = b then v else s.rd b := Sparse.get_set ..

theorem State.rd_wr_other (s : State) (a b : Nat) (v : Word) (h : a ≠ b) : (s.wr a v).rd b = s.rd b := Sparse.get_set_other _ _ _ _ _ h

@[simp] theorem State.rd_endCycle (s : State) (a : Nat) : s.endCycle.rd a = s.rd a := rfl

@[simp] theorem State.rd_answer (s : State) (r : Reply) (a : Nat) : (s.answer r).rd a = s.rd a := rfl

@[simp] theorem State.cell_setCell_same (s : State) (k : Nat) (b : Byte) : (s.setCell k b).cell k = b := Sparse.get_set_same ..

theorem State.cell_setCell (s : State) (k j : Nat) (b : Byte) : (s.setCell k b).cell j = if k = j then b else s.cell j := Sparse.get_set ..

/-- A write of a register keeps the canonical form of the register file. -/
theorem State.wr_regs_wf (s : State) (a : Nat) (v : Word) (h : Sparse.wf resetWord s.regs = true) : Sparse.wf resetWord (s.wr a v).regs = true :=
  Sparse.wf_set _ _ _ _ h

/-- A write of a cell keeps the canonical form of device memory. -/
theorem State.setCell_mem_wf (s : State) (k : Nat) (b : Byte) (h : Memory.wf s.mem) : Memory.wf (s.setCell k b).mem :=
  Sparse.wf_set _ _ _ _ h

end Sys2Proof.Machine
end

