-- ==== Sys2Proof/Laws/Frames.lean ====
section
/-! SUPPORT. Frames: how they compose, and the frame of each shared operation: the elementary writes, raising an event, a page's STATE, a
NOTICE fault, an ownership violation. -/
namespace Sys2Proof.Machine

/-! ### Composition -/

theorem Within.refl {l : List Fld} {p : Nat → Bool} (s : State) : Within l p s s :=
  ⟨fun f => .inr (by cases f <;> rfl), fun _ => .inr rfl⟩

theorem Fld.same_trans {s t u : State} {f : Fld} (h : f.same s t) (k : f.same t u) : f.same s u := by
  cases f <;> exact Eq.trans k h

theorem Within.trans {l : List Fld} {p : Nat → Bool} {s t u : State} (h : Within l p s t) (k : Within l p t u) : Within l p s u :=
  ⟨fun f => (h.1 f).elim .inl fun a => (k.1 f).elim .inl fun b => .inr (Fld.same_trans a b),
   fun a => (h.2 a).elim .inl fun x => (k.2 a).elim .inl fun y => .inr (y.trans x)⟩

theorem Within.mono {l m : List Fld} {p q : Nat → Bool} {s t : State} (h : Within l p s t) (hl : ∀ f ∈ l, f ∈ m) (hp : ∀ a, p a = true → q a = true) :
    Within m q s t :=
  ⟨fun f => (h.1 f).imp (hl f) id, fun a => (h.2 a).imp (hp a) id⟩

/-- A step made on a condition. -/
theorem Within.ite {l : List Fld} {p : Nat → Bool} {s t u : State} {c : Prop} [Decidable c] (h : Within l p s t) (k : Within l p t u) :
    Within l p s (if c then u else t) := by
  split
  · exact h.trans k
  · exact h

/-- A frame of one write composed with a further step. -/
theorem Within.step {l m : List Fld} {p q : Nat → Bool} {s t u : State} (h : Within m q s t) (k : Within l p t u) (hl : ∀ f ∈ m, f ∈ l)
    (hq : ∀ a, q a = true → p a = true) : Within l p s u :=
  (h.mono hl hq).trans k

theorem Within.pending {l : List Fld} {p : Nat → Bool} {s t : State} (h : Within l p s t) (hl : Fld.pending ∉ l) : t.pending = s.pending :=
  (h.1 .pending).resolve_left hl

theorem Within.mem {l : List Fld} {p : Nat → Bool} {s t : State} (h : Within l p s t) (hl : Fld.mem ∉ l) : t.mem = s.mem :=
  (h.1 .mem).resolve_left hl

theorem Within.rd {l : List Fld} {p : Nat → Bool} {s t : State} (h : Within l p s t) {a : Nat} (ha : p a = false) : t.rd a = s.rd a :=
  (h.2 a).resolve_left (by simp [ha])

/-! ### Elementary writes -/

theorem State.wr_within (s : State) (a : Nat) (v : Word) : Within [.regs] (fun b => b == a) s (s.wr a v) :=
  ⟨fun f => by cases f <;> first | (left; decide) | (right; rfl),
   fun b => by by_cases h : b = a <;> simp_all [State.rd, State.wr, Sparse.get_set, Ne.symm]⟩

theorem State.wf_within (s : State) (a hi lo v : Nat) : Within [.regs] (fun b => b == a) s (s.wf a hi lo v) := s.wr_within a _

theorem State.wb_within (s : State) (a i : Nat) (b : Bool) : Within [.regs] (fun b => b == a) s (s.wb a i b) := s.wr_within a _

theorem State.wn_within (s : State) (a n : Nat) : Within [.regs] (fun b => b == a) s (s.wn a n) := s.wr_within a _

/-- An update that leaves the register file alone changes no register. -/
theorem Within.of_same {l : List Fld} {p : Nat → Bool} {s t : State} (h : SameBut l s t) (hr : t.regs = s.regs) : Within l p s t :=
  ⟨h, fun _ => .inr (by simp [State.rd, hr])⟩

theorem State.endCycle_within (s : State) {p : Nat → Bool} : Within [.hif] p s s.endCycle :=
  .of_same (fun f => by cases f <;> first | (left; decide) | (right; rfl)) rfl

theorem State.answer_within (s : State) (r : Reply) {p : Nat → Bool} : Within [.reply] p s (s.answer r) :=
  .of_same (fun f => by cases f <;> first | (left; decide) | (right; rfl)) rfl

/-- A fold keeps what each of its steps keeps. -/
theorem State.each_within {l : List Fld} {p : Nat → Bool} (n : Nat) (f : Nat → State → State) (s : State) (h : ∀ i < n, ∀ s, Within l p s (f i s)) :
    Within l p s (s.each n f) := by
  induction n with
  | zero => exact .refl s
  | succ n ih => exact (ih fun i hi => h i (by omega)).trans (h n (by omega) _)

/-- A fold over a list keeps what each of its steps keeps. -/
theorem State.eachOf_within {α : Type} {l : List Fld} {p : Nat → Bool} (xs : List α) (f : α → State → State) (s : State)
    (h : ∀ x s, Within l p s (f x s)) : Within l p s (s.eachOf xs f) := by
  induction xs generalizing s with
  | nil => exact .refl s
  | cons x t ih => exact (h x s).trans (ih (f x s))

/-! ### Events -/

theorem srcLoc_page {l : List SrcRange} {src pg i : Nat} (h : srcLoc l src = some (pg, i)) :
    ∃ r ∈ l, ∃ k < r.pages, pg = Reg.page r.block (r.page + k) ∧ i < r.per := by
  induction l with
  | nil => cases h
  | cons r t ih =>
    unfold srcLoc at h
    split at h
    · rename_i hr
      simp only [Option.some.injEq, Prod.mk.injEq] at h
      obtain ⟨rfl, rfl⟩ := h
      refine ⟨r, by simp, (src - r.first) / r.per, ?_, rfl, Nat.mod_lt _ ?_⟩
      · rw [Nat.div_lt_iff_lt_mul (by by_contra hh; simp at hh; simp [hh] at hr; omega), Nat.mul_comm]; omega
      · by_contra hh; simp at hh; simp [hh] at hr; omega
    · obtain ⟨r', hr', k, hk, e⟩ := ih h
      exact ⟨r', by simp [hr'], k, hk, e⟩

theorem evtReg_pend {src pg i : Nat} (h : srcLoc evtRanges src = some (pg, i)) : evtReg (Reg.EVT_PEND pg) = true := by
  obtain ⟨r, hr, k, hk, rfl, -⟩ := srcLoc_page h
  exact (by decide : ∀ r ∈ evtRanges, ∀ k < r.pages, evtReg (Reg.EVT_PEND (Reg.page r.block (r.page + k))) = true) r hr k hk

theorem State.toVector_within (s : State) {p v : Nat} (hp : p < 4) (hv : v < 256) : Within evtFields evtReg s (s.toVector p v) := by
  unfold State.toVector
  split
  · refine (s.wb_within _ _ _).mono (by simp [evtFields]) ?_
    simp [evtReg, Reg.PBA]; omega
  · split
    · exact .refl s
    · exact .of_same (fun f => by cases f <;> first | (left; decide) | (right; rfl)) rfl

theorem State.alertUpdate_within (s : State) {p : Nat → Bool} : Within [.svc] p s s.alertUpdate :=
  .of_same (fun f => by cases f <;> first | (left; decide) | (right; rfl)) rfl

theorem State.toSvc_within (s : State) (src : Nat) : Within evtFields evtReg s (s.toSvc src) := by
  unfold State.toSvc
  split
  · refine (Within.trans ?_ ((State.wf_within _ _ _ _ _).mono (by simp [evtFields]) (by simp [evtReg]))).trans ((State.alertUpdate_within _).mono (by decide) (fun _ h => h))
    exact .of_same (fun f => by cases f <;> first | (left; decide) | (right; rfl)) rfl
  · exact (State.wf_within _ _ _ _ _).mono (by simp [evtFields]) (by simp [evtReg])

theorem State.route_lt (s : State) (t src : Nat) : (s.route t src).2 < 256 := by
  unfold State.route; split <;> exact Nat.mod_lt _ (by decide)

theorem State.toTarget_within (s : State) (src t : Nat) : Within evtFields evtReg s (s.toTarget src t) := by
  simp only [State.toTarget]
  by_cases hr : (s.route t src).1 = true
  · rw [if_pos hr]
    by_cases ht : t < 4
    · rw [if_pos ht]
      by_cases hp : t < s.ports
      · rw [if_pos hp]; exact s.toVector_within ht (s.route_lt t src)
      · rw [if_neg hp]; exact .refl s
    · rw [if_neg ht]
      by_cases h4 : t = 4
      · rw [if_pos h4]; exact .of_same (fun f => by cases f <;> first | (left; decide) | (right; rfl)) rfl
      · rw [if_neg h4]; exact s.toSvc_within src
  · rw [if_neg hr]; exact .refl s

theorem State.routeEvt_within (s : State) (src : Nat) : Within evtFields evtReg s (s.routeEvt src) :=
  State.each_within 6 _ s fun i _ s => s.toTarget_within src i

/-- Raising an event changes pending bits, PBA bits and the service die's event count, and nothing else but HIF's and the service die's
queues and what is sent. -/
theorem State.evt_within (s : State) (src : Nat) : Within evtFields evtReg s (s.evt src) := by
  unfold State.evt
  split
  · exact .refl s
  · rename_i pg i h
    split
    · refine ((s.wb_within (Reg.EVT_PEND pg) i true).mono (by simp [evtFields]) ?_).trans ?_
      · simpa using evtReg_pend h
      · dsimp only
        split
        · exact .of_same (fun f => by cases f <;> first | (left; decide) | (right; rfl)) rfl
        · exact State.routeEvt_within _ src
    · exact .refl s

/-- A page's STATE, with its event. -/
theorem State.toState_within (s : State) (pg v : Nat) (src : Option Nat) :
    Within evtFields (fun a => evtReg a || a == Reg.PAGE_STATUS pg) s (s.toState pg v src) := by
  unfold State.toState
  split
  · exact .refl s
  · have h := (s.wf_within (Reg.PAGE_STATUS pg) 2 0 v).mono (m := evtFields) (q := fun a => evtReg a || a == Reg.PAGE_STATUS pg)
      (by simp [evtFields]) (by simp)
    cases src with
    | none => exact h
    | some e => exact h.trans ((State.evt_within _ e).mono (fun _ h => h) (by simp +contextual))

/-! ### The retained store and NOTICE faults -/

theorem State.storeWr_within (s : State) (off : Nat) (l : List Byte) {p : Nat → Bool} : Within [.svc] p s (s.storeWr off l) := by
  induction l generalizing s off with
  | nil => exact .refl s
  | cons b t ih =>
    refine Within.trans ?_ (ih _ (off + 1))
    exact .of_same (fun f => by cases f <;> first | (left; decide) | (right; rfl)) rfl

theorem State.pairUpdate_within (s : State) : Within evtFields evtReg s s.pairUpdate := by
  unfold State.pairUpdate
  split
  · exact .refl s
  · refine Within.trans (Within.trans ?_ ((State.alertUpdate_within _).mono (by decide) (fun _ h => h))) (State.evt_within _ _)
    exact .of_same (fun f => by cases f <;> first | (left; decide) | (right; rfl)) rfl

/-- Weakening to the fields and registers of a NOTICE fault. -/
theorem Within.toNotice {s t : State} (h : Within evtFields evtReg s t) : Within noticeFields faultReg s t :=
  h.mono (by decide) (by simp +contextual [faultReg])

theorem State.setFltSrc_within (s : State) (src : Nat) (v : FltSrc) : Within noticeFields faultReg s (s.setFltSrc src v) :=
  .of_same (fun f => by cases f <;> first | (left; decide) | (right; rfl)) rfl

theorem State.storeWr_notice (s : State) (off : Nat) (l : List Byte) : Within noticeFields faultReg s (s.storeWr off l) :=
  (s.storeWr_within off l (p := faultReg)).mono (by decide) (fun _ h => h)

theorem State.absorb_within (s : State) (w : Window) : Within noticeFields faultReg s (s.absorb w) := by
  unfold State.absorb
  split
  · exact .refl s
  · refine Within.trans ?_ (State.evt_within _ _).toNotice
    exact .of_same (fun f => by cases f <;> first | (left; decide) | (right; rfl)) rfl

theorem baseClass_notice_ne {src : Nat} (h : baseClass src = some 0) : (src == 133) = false := by
  by_contra hc
  simp at hc
  subst hc
  revert h; decide

/-- What the judgement of one report of class NOTICE changes, and that its record is one of class NOTICE. -/
theorem State.judge_notice (s : State) (ws : List Window) (r : Report) (h : baseClass r.src = some 0) :
    Within noticeFields faultReg s (s.judge ws r).1 ∧ ∀ x, (s.judge ws r).2 = some x → x.cls = 0 ∧ x.rep = r := by
  have h0 : Within noticeFields faultReg s (s.setFltSrc r.src { s.fltSrc r.src with raises := satAdd 16 (s.fltSrc r.src).raises 1 }) :=
    s.setFltSrc_within _ _
  have hne := baseClass_notice_ne h
  unfold State.judge
  simp only [h, hne, State.when, Nat.reduceBEq, Bool.false_eq_true, ↓reduceIte, OfNat.zero_ne_ofNat, decide_true, Bool.true_and]
  cases srcLoc fltRanges r.src <;>
  · dsimp only
    split
    · split
      · exact ⟨h0, by simp⟩
      · exact ⟨h0.trans (State.absorb_within _ _), by rintro x ⟨⟩; exact ⟨rfl, rfl⟩⟩
    · split
      · rename_i hc; cases hc
      · split
        · exact ⟨h0, by simp⟩
        · exact ⟨h0, by rintro x ⟨⟩; exact ⟨rfl, rfl⟩⟩

theorem State.logRec_within (s : State) (r : FRec) : Within noticeFields faultReg s (s.logRec r) := by
  have h0 : Within noticeFields faultReg s
      (State.wn { s with flt := { s.flt with log := Sparse.set (fun _ => (0, [])) s.flt.log (s.rn Reg.FLT_LOG_WR % 1024) (s.rn Reg.FLT_LOG_WR, s.recWords r) } }
        Reg.FLT_LOG_WR (s.rn Reg.FLT_LOG_WR + 1)) := by
    refine Within.trans ?_ ((State.wn_within _ _ _).mono (by decide) (by simp [faultReg]))
    exact .of_same (fun f => by cases f <;> first | (left; decide) | (right; rfl)) rfl
  unfold State.logRec
  dsimp only
  split
  · exact h0
  · exact Within.ite
      (Within.ite (h0.trans (State.evt_within _ _).toNotice)
        (((State.storeWr_notice _ _ _).trans (State.storeWr_notice _ _ _)).trans (State.evt_within _ _).toNotice))
      ((State.storeWr_notice _ _ _).trans (State.storeWr_notice _ _ _))

theorem finPend (n : Nat) (h : n < 512) : faultReg (Reg.FLT_PEND (n / 32)) = true := by
  simp [faultReg, Reg.FLT_PEND]; omega

theorem State.noteRec_within (s : State) (r : FRec) (h : r.rep.src < 512) : Within noticeFields faultReg s (s.noteRec r) := by
  unfold State.noteRec
  exact (s.setFltSrc_within _ _).trans ((State.wb_within _ _ _ _).mono (by decide) (by simp [finPend _ h]))

/-- Only a record of class FENCE has its detail filled in. -/
theorem State.unitDetail_notice (s : State) {r : FRec} (h : r.cls = 0) : s.unitDetail r = r := by
  unfold State.unitDetail; split <;> simp [h]

/-- The records of a cycle of NOTICE faults. -/
theorem State.runRecs_notice (s : State) (react : React) (seq : Nat) (first : Bool) (l : List FRec) (h : ∀ r ∈ l, r.cls = 0 ∧ r.rep.src < 512) :
    Within noticeFields faultReg s (s.runRecs react seq first l).1 := by
  induction l generalizing s first with
  | nil => exact .refl s
  | cons r t ih =>
    obtain ⟨hc, hs⟩ := h r (by simp)
    have ht : ∀ x ∈ t, x.cls = 0 ∧ x.rep.src < 512 := fun x hx => h x (by simp [hx])
    have key : ∀ q : FRec, q.cls = 0 → s.reactRec react q = (s, q, false) := by
      intro q hq; unfold State.reactRec; simp [hq, s.unitDetail_notice hq]
    have one : ∀ (q : FRec) (f : Bool), q.cls = 0 → q.rep.src < 512 → Within noticeFields faultReg s ((((s.noteRec q).logRec q).runRecs react seq f t).1) :=
      fun q f _ hq => ((s.noteRec_within q hq).trans (State.logRec_within _ q)).trans (ih _ f ht)
    unfold State.runRecs
    dsimp only
    generalize hq : (if r.kind = 2 then r else { r with seq := seq, kind := if first then 0 else 1 }) = q
    have hqc : q.cls = 0 := by rw [← hq]; split <;> exact hc
    have hqs : q.rep.src < 512 := by rw [← hq]; split <;> exact hs
    rw [key q hqc]
    exact one q _ hqc hqs

theorem rankSort_mem {l : List FRec} {x : FRec} (h : x ∈ rankSort l) : x ∈ l := by
  have ins : ∀ (y : FRec) (m : List FRec), x ∈ rankInsert y m → x = y ∨ x ∈ m := by
    intro y m
    induction m with
    | nil => simp [rankInsert]
    | cons z t ih =>
      unfold rankInsert
      split
      · simp
      · intro hx
        rcases List.mem_cons.mp hx with rfl | hx
        · simp
        · rcases ih hx with rfl | hx <;> simp [*]
  have go : ∀ (m a : List FRec), x ∈ m.foldl (fun a x => rankInsert x a) a → x ∈ a ∨ x ∈ m := by
    intro m
    induction m with
    | nil => simp
    | cons z t ih =>
      intro a hx
      rcases ih _ hx with hx | hx
      · rcases ins _ _ hx with rfl | hx <;> simp [*]
      · simp [hx]
  simpa using go l [] h

/-- One report of class NOTICE (R331): no unit is touched. -/
theorem State.raiseGroup_notice (s : State) (react : React) (r : Report) (h : baseClass r.src = some 0) (hs : r.src < 512) :
    Within noticeFields faultReg s (s.raiseGroup react [r]).1 := by
  obtain ⟨h1, h2⟩ := s.judge_notice s.flt.windows r h
  unfold State.raiseGroup
  simp only [List.foldl_cons, List.foldl_nil, List.nil_append]
  have hm : ∀ y ∈ rankSort (s.judge s.flt.windows r).2.toList, y.cls = 0 ∧ y.rep.src < 512 := by
    intro y hy
    have hx := rankSort_mem hy
    rw [Option.mem_toList] at hx
    refine ⟨(h2 y hx).1, ?_⟩
    rw [(h2 y hx).2]; exact hs
  exact (Within.ite h1 (State.storeWr_notice _ _ _)).trans (State.runRecs_notice _ _ _ _ _ hm)

theorem State.detail_within (s : State) (src : Nat) (lo hi : Word) : Within noticeFields faultReg s (s.detail src lo hi).2 := by
  unfold State.detail
  split
  · exact .of_same (fun f => by cases f <;> first | (left; decide) | (right; rfl)) rfl
  · exact .refl s

/-- A NOTICE fault of the device's own (R331, R333): the collector's log and pending bit, events, the pair, and nothing else. -/
theorem State.notice_within (s : State) (src : Nat) (lo hi : Word) (os : List FUnit) (h : baseClass src = some 0) (hs : src < 512) :
    Within noticeFields faultReg s (s.notice src lo hi os) := by
  unfold State.notice
  exact ((s.detail_within _ _ _).trans (State.raiseGroup_notice _ _ _ h hs)).trans (State.pairUpdate_within _).toNotice

/-- A dropped write (R28). -/
theorem State.ownViol_within (s : State) (p : Party) (a : Nat) :
    Within noticeFields (fun b => faultReg b || b == Reg.HIF_OWN_VIOL || b == Reg.HIF_OWN_LAST) s (s.ownViol p a) := by
  unfold State.ownViol
  have hf : ∀ a, faultReg a = true → (faultReg a || a == Reg.HIF_OWN_VIOL || a == Reg.HIF_OWN_LAST) = true := by simp +contextual
  refine ((((State.wn_within _ _ _).mono (by decide) (by simp)).trans ((State.wr_within _ _ _).mono (by decide) (by simp))).trans
    ((State.notice_within _ _ _ _ _ (by decide) (by decide)).mono (fun _ h => h) hf)).trans ((State.evt_within _ _).toNotice.mono (fun _ h => h) hf)

/-- A denied access of a port (R39). -/
theorem State.phViol_within (s : State) (p a : Nat) (w : Bool) :
    Within noticeFields (fun b => faultReg b || b == Reg.HIF_PH_VIOL || b == Reg.HIF_PH_LAST_LO || b == Reg.HIF_PH_LAST_HI) s (s.phViol p a w) := by
  unfold State.phViol
  have hf : ∀ a, faultReg a = true → (faultReg a || a == Reg.HIF_PH_VIOL || a == Reg.HIF_PH_LAST_LO || a == Reg.HIF_PH_LAST_HI) = true := by
    simp +contextual
  refine (((((State.wn_within _ _ _).mono (by decide) (by simp)).trans ((State.wr_within _ _ _).mono (by decide) (by simp))).trans
    ((State.wr_within _ _ _).mono (by decide) (by simp))).trans ((State.notice_within _ _ _ _ _ (by decide) (by decide)).mono (fun _ h => h) hf)).trans
    ((State.evt_within _ _).toNotice.mono (fun _ h => h) hf)

end Sys2Proof.Machine
end

