-- ==== Sys2Proof/Laws/Memory.lean ====
section
/-! SUPPORT. What the operations on device memory do: which cells hold the bytes written, and that each keeps the canonical form. -/
namespace Sys2Proof.Machine

/-- A local address has 37 bits. -/
theorem State.locate_lt {s : State} {a c la : Nat} (h : s.locate a = some (c, la)) : la < 2 ^ 37 := by
  unfold State.locate at h
  split at h
  · split at h
    · injection h with h; injection h with _ h; omega
    · cases h
  · cases h

/-- A local address lies in its 256-byte granule where the device address does. -/
theorem State.locate_mod {s : State} {a c la : Nat} (h : s.locate a = some (c, la)) : la % 256 = a % 256 := by
  unfold State.locate at h
  split at h
  · split at h
    · injection h with h; injection h with _ h; omega
    · cases h
  · cases h

/-- Bytes written to consecutive cells, and no other cell. -/
theorem State.cell_setCells (l : List Byte) (s : State) (k j : Nat) :
    (s.setCells k l).cell j = if k ≤ j ∧ j < k + l.length then nth 0 l (j - k) else s.cell j := by
  induction l generalizing s k with
  | nil => simp only [State.setCells, List.length_nil]; rw [if_neg (by omega)]
  | cons b t ih =>
    simp only [State.setCells, ih, State.cell_setCell, List.length_cons]
    by_cases h : k = j
    · subst h; simp [nth]
    · by_cases h2 : k + 1 ≤ j ∧ j < k + 1 + t.length
      · have : j - k = (j - (k + 1)) + 1 := by omega
        rw [if_pos h2, if_pos (by omega), this]; simp [nth]
      · rw [if_neg h2, if_neg h, if_neg (by omega)]

/-- Consecutive cells written keep the canonical form. -/
theorem State.setCells_mem_wf (l : List Byte) (s : State) (k : Nat) (h : Memory.wf s.mem) : Memory.wf (s.setCells k l).mem := by
  induction l generalizing s k with
  | nil => exact h
  | cons b t ih => exact ih _ _ (s.setCell_mem_wf k b h)

@[simp] theorem State.setBad_mem (s : State) (c la : Nat) (b : Bool) : (s.setBad c la b).mem = s.mem := rfl

@[simp] theorem State.countBytes_mem (s : State) (c n : Nat) (w : Bool) : (s.countBytes c n w).mem = s.mem := by
  unfold State.countBytes; split <;> rfl

@[simp] theorem State.unmapped_mem (s : State) : s.unmapped.mem = s.mem := rfl

@[simp] theorem State.setSub_mem (s : State) (c : Nat) (b : Bool) (v : SubChan) : (s.setSub c b v).mem = s.mem := rfl

@[simp] theorem State.rouse_mem (s : State) (c la : Nat) : (s.rouse c la).mem = s.mem := rfl

/-- An operation over a list keeps the canonical form where each turn does. -/
theorem State.eachOf_mem_wf {α : Type} (l : List α) (f : α → State → State) (s : State) (hf : ∀ x s, Memory.wf s.mem → Memory.wf (f x s).mem)
    (h : Memory.wf s.mem) : Memory.wf (s.eachOf l f).mem := by
  induction l generalizing s with
  | nil => exact h
  | cons x t ih => exact ih _ (hf x s h)

/-- Bytes of a line written keep the canonical form. -/
theorem State.lineWrite_mem_wf (s : State) (c la : Nat) (d : List Byte) (h : Memory.wf s.mem) : Memory.wf (s.lineWrite c la d).mem := by
  unfold State.lineWrite
  split <;> simpa using State.setCells_mem_wf d s _ h

/-- The writes that wait for a line, done, keep the canonical form. -/
theorem State.settleLine_mem_wf (s : State) (c la : Nat) (h : Memory.wf s.mem) : Memory.wf (s.settleLine c la).mem :=
  State.eachOf_mem_wf _ _ _ (fun _ s h => s.lineWrite_mem_wf c _ _ h) h

/-- One burst written keeps the canonical form, whether it is stored, unmapped or denied. -/
theorem State.writeBurst_mem_wf (s : State) (port : Option Nat) (a : Nat) (d : List Byte) (h : Memory.wf s.mem) : Memory.wf (s.writeBurst port a d).1.mem := by
  unfold State.writeBurst
  split
  · split
    · exact h
    · exact State.lineWrite_mem_wf _ _ _ _ (State.settleLine_mem_wf _ _ _ h)
  · split
    · rw [(s.phViol_within _ _ _).mem (by decide)]; exact h
    · exact h

theorem State.writeBursts_mem_wf (n : Nat) (s : State) (port : Option Nat) (a : Nat) (d : List Byte) (h : Memory.wf s.mem) : Memory.wf (s.writeBursts port n a d).1.mem := by
  induction n generalizing s a d with
  | zero => exact h
  | succ n ih =>
    unfold State.writeBursts
    split
    · exact h
    · exact ih _ _ _ (s.writeBurst_mem_wf port a _ h)

/-- A write of any length for any requester keeps the canonical form. -/
theorem State.writeMem_mem_wf (s : State) (port : Option Nat) (a : Nat) (d : List Byte) (h : Memory.wf s.mem) : Memory.wf (s.writeMem port a d).1.mem :=
  s.writeBursts_mem_wf _ port a d h

/-- A channel zeroed keeps the canonical form; its cells read 0, and every other cell as before (R248, R273). -/
theorem State.chanZero_mem_wf (s : State) (c : Nat) (h : Memory.wf s.mem) : Memory.wf (s.chanZero c).mem :=
  Sparse.wf_dropKeys memDefault (fun k => k / 2 ^ 37 == c) s.mem h

theorem State.cell_chanZero (s : State) (c k : Nat) : (s.chanZero c).cell k = if k / 2 ^ 37 = c then 0 else s.cell k := by
  have := Sparse.get_dropKeys memDefault (fun k => k / 2 ^ 37 == c) s.mem k
  simpa [State.cell, State.chanZero, memDefault] using this

/-- A repeated operation keeps the canonical form where each turn does. -/
theorem State.each_mem_wf (n : Nat) (f : Nat → State → State) (s : State) (hf : ∀ i s, Memory.wf s.mem → Memory.wf (f i s).mem) (h : Memory.wf s.mem) : Memory.wf (s.each n f).mem := by
  induction n with
  | zero => exact h
  | succ n ih => exact hf n _ ih

/-- A page copied keeps the canonical form (R269). -/
theorem State.copyPage_mem_wf (s : State) (c src dst : Nat) (h : Memory.wf s.mem) : Memory.wf (s.copyPage c src dst).mem :=
  State.each_mem_wf _ _ _ (fun _ _ h => h) (State.each_mem_wf _ _ _ (fun _ s h => s.setCell_mem_wf _ _ h) h)

end Sys2Proof.Machine
end

