-- ==== Sys2Proof/Tests/Slice0.lean ====
section
/-! SUPPORT. Tests of the model: terms that the well-formedness check refuses; one witness per statement, concrete states and operands that meet its hypotheses, a
line per clause; and small checks of one step each. -/
open Sys2Proof Sys2Proof.Machine
namespace Sys2Proof.Tests
set_option Elab.async false

/-- The state after reset with registers written. -/
def put (l : List (Nat × Nat)) (s : State := State.reset) : State := l.foldl (fun s e => s.wn e.1 e.2) s

/-- The state after reset with 256 MiB of channel 0 mapped from address 0, and pigeonhole 0 open over it to every port. -/
def ram : State :=
  put [(Reg.PH_LIMIT 0, 3), (Reg.PH_RIGHTS 0, 0x80000F0F)] { State.reset with dmc := { State.reset.dmc with map := [⟨true, 1, 0, 4, [0, 0, 0, 0, 0, 0], true⟩] } }

/-- The next state of a command. -/
def run (c : Instr) (s : State) : State := match exec c s with | .next t => t | _ => s

/-! ### Well-formedness -/

theorem test_wellFormed_refuses :
    [ Instr.bar2Read 0 0xFFF 2, Instr.bar2Write 0 0 [], Instr.postboxRead 0 0xFFF 2, Instr.postboxWrite 0 0 (List.replicate 4097 0), Instr.pcieLinkUp 0 4 0 ⟨true, true, false⟩,
      Instr.unitJoin .geoBank, Instr.returnTestEnd (.tray 0) true, Instr.dailyWrite (List.replicate 65505 0), Instr.samplePreload [true] [], Instr.jtagBypass 2,
      Instr.memoryRequest ⟨.bar2, none, 0, some []⟩, Instr.trainStageDone 0 true (List.replicate 3 ⟨16, 1, 8, 16, true, 6400, 295⟩) [], Instr.trainStageDone 0 true [] [0, 0, 0, 0, 0],
      Instr.retrainCheck 0 [0, 0, 0, 0, 0],
      Instr.faultArrival [⟨512, 0, 0, [], false⟩], Instr.bootRom none (some { FlashImage.erased with dir0 := List.replicate 4097 0 }) none ].all (fun c => !c.wellFormed) = true := by decide +kernel

theorem test_wellFormed_accepts :
    [ Instr.bar2Read 0 0 4096, Instr.bar2Write 0 0 [0], Instr.postboxRead 0 0 1, Instr.pcieLinkUp 0 4 5 ⟨true, true, false⟩, Instr.unitJoin (.slice 0), Instr.returnTestEnd (.dcp 23) false,
      Instr.dailyWrite [], Instr.samplePreload [true] [false], Instr.jtagBypass 0xFF, Instr.memoryRequest ⟨.bar2, none, 0, none⟩, Instr.trainStageDone 0 true [] [0, 0, 0, 0], Instr.retrainCheck 0 [0, 0, 0, 0],
      Instr.faultArrival [⟨511, 0, 0, [], false⟩], Instr.bootRom none (some FlashImage.erased) none ].all (fun c => c.wellFormed) = true := by
  decide +kernel

/-! ### Witnesses: registers, events, pages, countersign, memory, ports -/

theorem witness_StepRunsFrontCommand : ({ State.reset with pending := [Instr.heartbeat] } : State).pending = [Instr.heartbeat] := rfl

theorem witness_EmptyQueueIsOneMillisecond :
    State.reset.pending = [] ∧ State.reset.computeOn = true ∧ (put [(Reg.CS_STATUS 5, 1)]).csState 5 = 1 ∧ (put [(Reg.CS_REMAIN 0, 1)]).rn (Reg.CS_REMAIN 0) ≤ 1 ∧
    2 ≤ (put [(Reg.CS_REMAIN 0, 2)]).rn (Reg.CS_REMAIN 0) := by decide +kernel

theorem witness_ReservedSpaceReadsZero :
    State.reset.ports ≤ 1 ∧ State.reset.present (4 * (0x1600000 / 4)) = false ∧ State.reset.present 0xFFC = true ∧ regRow (4 * (0xFFC / 4)) = none ∧ State.reset.reaches .h0 = true := by
  decide +kernel

theorem witness_ForeignWriteIsDropped :
    (State.reset.reaches .h0 = true ∧ State.reset.present (4 * 10) = true ∧ (regRow (4 * 10)).isSome = true ∧ State.reset.partyRule .h0 (4 * 10) 0 = none ∧ hasHeader 0 0 = true ∧
      State.reset.rb (Reg.PAGE_OWNER 0) (partyCode .h0) = false) ∧
    (∀ s, s = put [(Reg.HIF_SEAL, 1), (Reg.PAGE_OWNER 0, 1)] → s.reaches .mgt = true ∧ s.rb (Reg.PAGE_OWNER 0) (partyCode .mgt) = false ∧ s.sealed = true) := by
  refine ⟨by decide +kernel, fun s h => ?_⟩
  subst h
  decide +kernel

theorem witness_SealedProtectionIsDropped :
    (put [(Reg.HIF_SEAL, 1)]).sealed = true ∧ (put [(Reg.HIF_SEAL, 1)]).reaches .mgt = true ∧ State.reset.present (4 * (Reg.SEC_REVOKE / 4)) = true ∧
    (regRow (4 * (Reg.SEC_REVOKE / 4))).map (·.acc) = some .rwk ∧ State.reset.partyRule .mgt (4 * (Reg.SEC_REVOKE / 4)) 0 = none := by decide +kernel

theorem witness_HeaderWriteIsStored :
    (hasHeader (0 / 256) (0 % 256) = true ∧ Allowed State.reset .mgt (Reg.ERR_WINDOW (0 * 0x1000)) 0) ∧ hasHeader (5377 / 256) (5377 % 256) = true ∧
    Allowed State.reset .mgt (Reg.ERR_WINDOW (5377 * 0x1000)) 0xFFFFFFFF ∧
    ∀ s, s = put [(Reg.PAGE_OWNER (5377 * 0x1000), 0x3F)] → Allowed s .mgt (Reg.ERR_WINDOW (5377 * 0x1000)) 7 ∧ Allowed s .bmc (Reg.ERR_WINDOW (5377 * 0x1000)) 5000 ∧ Party.bmc ≠ .mgt := by
  refine ⟨by decide +kernel, by decide +kernel, by decide +kernel, fun s h => ?_⟩
  subst h
  decide +kernel

theorem witness_PairsReadAndWrite :
    (State.reset.present Reg.GEO_MAP_ID_LO = true ∧ State.reset.present Reg.GEO_MAP_ID_HI = true ∧ (regRow Reg.GEO_MAP_ID_LO).map (fun r => (r.lat, r.acc)) = some ([4], .ro) ∧
      (regRow Reg.GEO_MAP_ID_HI).map (fun r => (r.lat, r.acc)) = some ([], .ro) ∧ (∀ g < 6, Reg.GEO_MAP_ID_HI ≠ Reg.PLK_GRP_BC_HI g) ∧ State.reset.latched .h0 Reg.GEO_MAP_ID_LO = none) ∧
    (State.reset.setLatched .h0 Reg.GEO_MAP_ID_HI (some 7)).latched .h0 Reg.GEO_MAP_ID_HI = some 7 ∧
    Allowed State.reset .mgt Reg.GEO_LOAD_ADDR_LO 0xFFFFFFFF ∧ Allowed State.reset .mgt Reg.GEO_LOAD_ADDR_HI 0xFFFFFFFF ∧
    (State.reset.setHeld .mgt Reg.GEO_LOAD_ADDR_LO (some 64)).held .mgt Reg.GEO_LOAD_ADDR_LO = some 64 := by decide +kernel

theorem witness_ReadClears :
    State.reset.reaches .h0 = true ∧ State.reset.present (5377 * 0x1000) = true ∧ hasHeader (5377 / 256) (5377 % 256) = true ∧
    State.reset.latched .h0 (Reg.ERR_CNT (5377 * 0x1000)) = none := by decide +kernel

theorem witness_ForcedEdgePends :
    0 < (pageSrc evtRanges (0x1100 / 256) (0x1100 % 256)).2 ∧ Allowed State.reset .mgt (Reg.EVT_FORCE (0x1100 * 0x1000)) (wd (2 ^ 0)) ∧ State.reset.rb (Reg.EVT_EN 0x1100000) 0 = false ∧
    (put [(Reg.EVT_EN 0x1100000, 1), (Reg.EVT_PEND 0x1100000, 1)]).rb (Reg.EVT_PEND 0x1100000) 0 = true := by decide +kernel

theorem witness_PendClears : hasHeader (0x1100 / 256) (0x1100 % 256) = true ∧ Allowed State.reset .mgt (Reg.EVT_PEND (0x1100 * 0x1000)) 0xFFFFFFFF := by decide +kernel

/-- Port 0's function may send messages, and vector 255 is pending. -/
def sender0 : State :=
  { put [(Reg.PBA 0 7, 0x80000000), (Reg.HIF_PORT_STATUS 0, 0x1001)] with
    hif := { State.reset.hif with msix := [(true, false), (false, false), (false, false), (false, false)] } }

theorem witness_UnmaskingSends :
    (Allowed sender0 (partyOf 0) (Reg.MSIX 0 255 3) 0 ∧ sender0.rb (Reg.PBA 0 (255 / 32)) (255 % 32) = true ∧ sender0.hif.cycleVecs = [] ∧ sender0.msixReady 0 = true) ∧
    State.reset.msixReady 0 = false ∧
    Allowed State.reset (partyOf 0) (Reg.MSIX 0 255 3) 0 ∧ (put [(Reg.PBA 0 (255 / 32), 0x80000000)]).rb (Reg.PBA 0 (255 / 32)) (255 % 32) = true ∧ State.reset.hif.cycleVecs = [] := by
  decide +kernel

theorem witness_PagesEnableAndDrain :
    (plainPage (0x300 * 0x1000) = true ∧ Allowed State.reset .mgt (Reg.PAGE_CTRL 0x300000) (State.reset.rd (Reg.PAGE_CTRL 0x300000) ||| 1) ∧
      State.reset.rd (Reg.PAGE_CTRL 0x300000) &&& 0x11 = 0 ∧ State.reset.pgState 0x300000 ≤ 3) ∧
    (∀ s, s = put [(Reg.PAGE_CTRL 0x300000, 1), (Reg.PAGE_STATUS 0x300000, 1)] → Allowed s .mgt (Reg.PAGE_CTRL 0x300000) (setBit (setFld (s.rd (Reg.PAGE_CTRL 0x300000)) 2 1 3) 0 false) ∧
      s.rb (Reg.PAGE_CTRL 0x300000) 0 = true ∧ s.rb (Reg.PAGE_CTRL 0x300000) 4 = false ∧ 1 ≤ s.pgState 0x300000 ∧ s.pgState 0x300000 ≤ 3) ∧
    (∀ s, s = put [(Reg.PAGE_STATUS 0x300000, 3)] → s.enabled 0x300000 = false ∧ s.pgState 0x300000 = 3 ∧ s.pageBusy 0x300000 = false ∧ s.discarding 0x300000 = false) ∧
    (∀ s, s = (put [(Reg.PAGE_STATUS 0x300000, 3)]).setLoad .geo (some ⟨0, 64, none, [], false⟩) → s.pageBusy 0x300000 = true ∧ s.pgState 0x300000 = 3 ∧ pageFn 0x300000 ≠ .cal) := by
  refine ⟨by decide +kernel, fun s h => ?_, fun s h => ?_, fun s h => ?_⟩ <;> subst h <;> decide +kernel

theorem witness_PagesTestThemselves :
    (Allowed State.reset .mgt (Reg.PAGE_CTRL 0x300000) (setBit (State.reset.rd (Reg.PAGE_CTRL 0x300000)) 4 true) ∧ State.reset.rb (Reg.PAGE_CTRL 0x300000) 4 = false ∧ State.reset.testOk 0x300000 = true) ∧
    (put [(Reg.PAGE_CTRL 0x300000, 0x10)]).rb (Reg.PAGE_CTRL 0x300000) 4 = true ∧ (put [(Reg.PAGE_STATUS 0x300000, 5)]).pgState 0x300000 = 5 ∧ hasHeader (blkPage / 0x100000) (blkPage / 0x1000 % 256) = true ∧ ∀ e ∈ State.reset.pwr.stored, e.1 ≠ 0x300000 := by
  decide +kernel

theorem witness_Shape : State.reset.Shape := by constructor <;> decide +kernel

theorem witness_UnitsFenceAndReturn :
    (Allowed State.reset .mgt (Reg.PAGE_CTRL (slicePage 25)) (setBit (State.reset.rd (Reg.PAGE_CTRL (slicePage 25))) 3 true) ∧ State.reset.rd (Reg.PAGE_CTRL (slicePage 25)) &&& 0x18 = 0 ∧
      State.reset.gated (slicePage 25) = false ∧ State.reset.pgState (slicePage 25) ≤ 3) ∧
    (∀ s, s = put [(Reg.PAGE_CTRL (slicePage 0), 8), (Reg.PAGE_STATUS (slicePage 0), 4)] → selftestReg (.slice 0) = some (Reg.SLC_SELFTEST 0) ∧ returnPage (.slice 0) = some (slicePage 0) ∧
      Allowed s .mgt (Reg.PAGE_CTRL (slicePage 0)) (setBit (s.rd (Reg.PAGE_CTRL (slicePage 0))) 3 false) ∧ s.rd (Reg.PAGE_CTRL (slicePage 0)) &&& 0x18 = 8 ∧ s.gated (slicePage 0) = false ∧
      s.pgState (slicePage 0) = 4) ∧
    (∀ s, s = put [(Reg.PAGE_STATUS (slicePage 0), 5)] → s.rb (Reg.PAGE_CTRL (slicePage 0)) 4 = false ∧ s.pgState (slicePage 0) = 5) ∧
    (∀ s, s = put [(Reg.PAGE_STATUS (slicePage 25), 6), (Reg.PAGE_CTRL (slicePage 25), 1), (Reg.PAGE_STATUS (lanePage 95), 6), (Reg.MGT_PAIR, 0x60)] →
      s.pgState (slicePage 25) = 6 ∧ s.enabled (slicePage 25) = true ∧ s.mgtState 0 = 6 ∧
        (s.setLane 95 { s.lane 95 with good := 100, rxIn := some (s.logical 95) }).laneQualified 95 = true) := by
  refine ⟨by decide +kernel, fun s h => ?_, fun s h => ?_, fun s h => ?_⟩ <;> subst h <;> decide +kernel

theorem witness_MgtAloneSeals : State.reset.reaches .mgt = true ∧ State.reset.reaches .dbg = true := by decide +kernel

theorem witness_SlotsOpenAndClose :
    (∀ s, s = put [(Reg.CS_COUNT 5, 1), (Reg.CS_OFFSET 5 0, Reg.PAGE_OWNER 0x401000)] → partyOf 5 = .mgt ∧ s.reaches .mgt = true ∧ s.csState 5 ≠ 1 ∧ s.rf (Reg.CS_COUNT 5) 3 0 = 1 ∧
      (∀ i < 1, s.csTarget (s.rn (Reg.CS_OFFSET 5 i)) = true) ∧ s.rb (Reg.CS_SIGNERS 5) 5 = false) ∧
    (State.reset.rf (Reg.CS_COUNT 5) 3 0 = 0 ∧ State.reset.csState 5 ≠ 1) ∧ (put [(Reg.CS_STATUS 0, 1)]).csState 0 = 1 ∧ partyOf 0 = .h0 ∧ State.reset.reaches .h0 = true := by
  refine ⟨fun s h => ?_, by decide +kernel⟩
  subst h
  decide +kernel

/-- A proposal of MGT, one PAGE_OWNER, open; the words staged by H0 are those of the digest, or none. -/
def proposed (staged : Bool) : State :=
  let s := put [(Reg.CS_STATUS 5, 1), (Reg.CS_COUNT 5, 1), (Reg.CS_OFFSET 5 0, Reg.PAGE_OWNER 0x401000)]
  if staged then s.each 16 fun w s => { s with hif := { s.hif with csSign := Sparse.set (fun _ => none) s.hif.csSign (5 * 8 * 16 + w) (some 0) } } else s

theorem witness_ConfirmApplies :
    (Party.h0 ≠ .dbg ∧ partyCode .h0 ≠ 5 ∧ (proposed true).reaches .h0 = true ∧ (proposed true).csState 5 = 1 ∧ (proposed true).rf (Reg.CS_SIGNERS 5) 5 0 = 0 ∧
      (proposed true).rf (Reg.CS_COUNT 5) 3 0 = 1 ∧ (proposed true).rn (Reg.CS_OFFSET 5 0) = Reg.PAGE_OWNER 0x401000 ∧ (proposed true).present 0x401000 = true ∧
      hasHeader (0x401000 / 0x100000) (0x401000 / 0x1000 % 256) = true ∧ fixedOwner (0x401000 / 0x100000) (0x401000 / 0x1000 % 256) = none) ∧
    (∀ s, s = put [(Reg.CS_STATUS 5, 1), (Reg.CS_COUNT 5, 1), (Reg.CS_OFFSET 5 0, Reg.PAGE_OWNER 0x401000), (Reg.CS_STATUS 4, 1), (Reg.CS_COUNT 4, 1), (Reg.CS_OFFSET 4 0, Reg.PAGE_OWNER 0x401000)] →
      ∀ u, u = [5 * 8 + 4, 4 * 8 + 5].foldl (fun s x => s.each 16 fun w s => { s with hif := { s.hif with csSign := Sparse.set (fun _ => none) s.hif.csSign (x * 16 + w) (some 0) } }) s →
        u.Confirms .bmc 5 (Reg.PAGE_OWNER 0x401000) ∧ u.Confirms .mgt 4 (Reg.PAGE_OWNER 0x401000)) ∧
    (∀ w < 16, Sparse.get (fun _ => none) (proposed true).hif.csSign ((5 * 8 + partyCode .h0) * 16 + w) = some ((proposed true).rd (Reg.CS_DIGEST 5 w))) ∧
    (∃ b, (proposed true).csAuthority 5 (partyCode .h0) (Reg.PAGE_OWNER 0x401000) = b) ∧
    Sparse.get (fun _ => none) (proposed false).hif.csSign ((5 * 8 + partyCode .h0) * 16 + 15) ≠ some ((proposed false).rd (Reg.CS_DIGEST 5 15)) := by
  refine ⟨by decide +kernel, fun s hs u hu => ?_, by decide +kernel, ⟨_, rfl⟩, by decide +kernel⟩
  subst hs hu
  constructor <;> constructor <;> decide +kernel

theorem witness_BarReadsAndWrites :
    (ram.reaches (partyOf 0) = true ∧ (0x40 : BitVec 40).toNat % 64 + 64 ≤ 64 ∧ ram.phAllows 0 0x40 false = true ∧ ram.phAllows 0 0x40 true = true ∧ ram.locate 0x40 = some (0, 0x40) ∧
      ram.badLine 0 0x40 = false) ∧
    State.reset.phAllows 0 0 false = false ∧ State.reset.phAllows 0 0 true = false := by decide +kernel

theorem witness_PortsReset : State.reset.computeOn = true ∧ 0 < State.reset.ports ∧ (put [(Reg.CS_STATUS 0, 1)]).csState 0 = 1 ∧ (put [(Reg.HIF_PORT_STATUS 0, 1)]).rb (Reg.HIF_PORT_STATUS 0) 0 = true := by
  decide +kernel

/-! ### Tables, epochs -/

/-- The length of each list of units. -/
def shapeB (s : State) : Bool :=
  s.dmc.chans.length == 6 && s.dmc.chans.all (fun c => c.ranks.length == 4) && s.geo.tiles.length == 6 && s.lyr.on.length == 40 && s.lyr.refused.length == 40 &&
    s.lyr.noScaler.length == 40 && s.lyr.flipped.length == 40 && s.syn.slices.length == 26 && s.syn.pvNext.length == 4 && s.syn.queues.length == 6 && s.cmt.cues.length == 4 && s.cmt.cueCount.length == 4 && s.prt.entries.length == 8 &&
    s.cmp.length == 4 && s.ing.engines.length == 24 && s.plk.groups.length == 6 && s.plk.lanes.length == 96 && s.ing.ringPos.length == 4 && s.ing.ready.length == 4 &&
    s.ing.trays.length == 4 && s.blk.queues.length == 4 && s.blk.movers.length == 2 && s.tim.domains.length == 2 && s.net.ports.length == 4 && s.net.senders.length == 4 &&
    s.clk.plls.length == 8

theorem shape_of (s : State) (h : shapeB s = true) : s.Shape := by
  simp only [shapeB, Bool.and_eq_true, beq_iff_eq, List.all_eq_true] at h
  constructor <;> tauto

/-- A GEO load under way. -/
def loading (ld : TLoad) (s : State) : State := (s.setTab .geo { s.tab .geo with load := some ld }).setTabState .geo 1

/-- The GEO unit with a repair. -/
def repairing (r : Repair) (s : State) : State := s.setTab .geo { s.tab .geo with repair := r }

theorem witness_TableCommands :
    (∀ s, s = put [(Reg.PAGE_CTRL TabKind.geo.page, 1)] → (∀ n < 4, Allowed s .mgt TabKind.geo.cmd (wd n)) ∧ s.enabled TabKind.geo.page = true ∧ s.tabState .geo ≠ 1 ∧ s.tabArmed .geo = false) ∧
    (∀ s, s = put [(Reg.PAGE_CTRL TabKind.ton.page, 1), (Reg.TON_LOAD_STATUS, 2)] → Allowed s .mgt TabKind.ton.cmd 2 ∧ s.enabled TabKind.ton.page = true ∧ s.tabState .ton = 2 ∧ s.tabArmed .ton = false) ∧
    (∀ s, s = put [(Reg.PAGE_CTRL TabKind.geo.page, 1), (Reg.GEO_LOAD_STATUS, 0x80000001)] →
      (∀ n < 4, Allowed s .mgt TabKind.geo.cmd (wd n)) ∧ s.enabled TabKind.geo.page = true ∧ s.tabState .geo = 1 ∧ s.tabArmed .geo = true ∧ (s.tab .geo).repair ≠ .armed) := by
  refine ⟨fun s h => ?_, fun s h => ?_, fun s h => ?_⟩ <;> subst h <;> decide +kernel

theorem witness_TableReadsLand :
    (∀ ld s, ld = (⟨0, 192, some 0, List.replicate 64 0, false⟩ : TLoad) → s = loading ld ram → (s.tab .geo).load = some ld ∧ s.tabState .geo = 1 ∧ ¬(s.pgState TabKind.geo.page = 3) ∧ s.tabArmed .geo = false ∧
      s.allowed ld.port 64 false = true ∧ s.locate 64 = some (0, 64) ∧ s.badLine 0 64 = false ∧ tabBlockReserved .geo 0 ((List.range 64).map fun i => s.byteAt 0 (64 + i)) = false) ∧
    (∀ ld s, ld = (⟨0, 192, some 0, [], false⟩ : TLoad) → s = loading ld State.reset → (s.tab .geo).load = some ld ∧ s.tabState .geo = 1 ∧ ¬(s.pgState TabKind.geo.page = 3) ∧ s.tabArmed .geo = false ∧
      ld.allRead = false ∧ s.phAllows 0 0 false = false ∧ (s.tab .geo).repair = .none) ∧
    (∀ ld s, ld = (⟨0, 64, none, List.replicate 64 0, false⟩ : TLoad) → s = loading ld State.reset → (s.tab .geo).load = some ld ∧ s.tabState .geo = 1 ∧ ¬(s.pgState TabKind.geo.page = 3) ∧
      s.tabArmed .geo = false ∧ ld.allRead = true ∧ (s.tab .geo).frozen = false ∧ ld.repair = false) := by
  refine ⟨fun ld s h1 h => ?_, fun ld s h1 h => ?_, fun ld s h1 h => ?_⟩ <;> subst h1 <;> subst h <;> decide +kernel

theorem witness_TableWordsFail :
    (∀ s, s = put [(Reg.GEO_REPAIR, 1), (Reg.TON_REPAIR, 1)] → s.rb Reg.GEO_REPAIR 0 = true ∧ s.rb Reg.TON_REPAIR 0 = true ∧ (s.tab .geo).repair = .none ∧ (s.tab .ton).repair = .none) ∧
    (∀ s, s = repairing .waiting (put [(Reg.PAGE_CTRL TabKind.geo.page, 1), (TabKind.geo.ident, 5)]) → (s.tab .geo).repair = .waiting ∧ s.enabled TabKind.geo.page = true ∧ s.tabArmed .geo = false ∧
      s.tabState .geo = 0 ∧ s.pair64 TabKind.geo.ident ≠ 0) ∧
    (∀ s, s = repairing .waiting (put [(Reg.PAGE_CTRL TabKind.geo.page, 1), (Reg.GEO_LOAD_STATUS, 4)]) → (s.tab .geo).repair = .waiting ∧ s.enabled TabKind.geo.page = true ∧ s.tabArmed .geo = false ∧
      s.tabState .geo = 4 ∧ s.pair64 TabKind.geo.ident = 0 ∧ (s.tab .geo).frozen = false) ∧
    (∀ s, s = put [(Reg.GEO_LOAD_STATUS, 2)] → s.tabState .geo = 2 ∧ s.tabArmed .geo = false) := by
  refine ⟨fun s h => ?_, fun s h => ?_, fun s h => ?_, fun s h => ?_⟩ <;> subst h <;> decide +kernel

/-- A probe under way on tile 5. -/
def probing (w : Word) : State := State.reset.setGeoTile 5 { State.reset.geoTile 5 with probe := some w }

theorem witness_ReadingsProbesCommits :
    (Allowed State.reset .mgt (Reg.GEO_T_HOST 5) 5 ∧ State.reset.rf (Reg.GEO_T_SRC 5) 1 0 = 0 ∧ Allowed State.reset .mgt (Reg.GEO_PROBE 5) 5 ∧ Allowed State.reset .mgt Reg.TON_COMMIT 1) ∧
    ((probing 0).Shape ∧ ((probing 0).geoTile 5).probe = some 0 ∧ 0 < geoW (probing 0).geo.layout ∧ 0 < geoH (probing 0).geo.layout) ∧
    ((probing 0x3FFF7FFF).geoTile 5).probe = some 0x3FFF7FFF ∧ geoW (probing 0x3FFF7FFF).geo.layout ≤ fld 0x3FFF7FFF 14 0 := by
  refine ⟨by decide +kernel, ⟨shape_of _ (by decide +kernel), by decide +kernel⟩, by decide +kernel⟩

/-- CMT with parts of its state set. -/
def withCmt (f : Cmt → Cmt) (s : State) : State := { s with cmt := f s.cmt }

theorem witness_LatchPointLatches :
    ∀ s, s = withCmt (fun c => { c with next := some ⟨5, 0⟩ }) (put [(Reg.PAGE_STATUS cmtPage, 1), (Reg.CMT_STATUS, 1), (Reg.PAGE_CTRL (lyrPage 0), 1), (Reg.CMT_PENDING_LO, 1), (lyrPage 0 + 0x40 + 12, 0x50000000)]) →
      s.cmt.next = some ⟨5, 0⟩ ∧ s.cmt.latched = none ∧ s.pgState cmtPage = 1 ∧ s.tstate = 1 ∧ s.cal.run = none ∧ (∀ q < 6, s.rd (Reg.TAKE_ARM q) = 0) ∧ s.lyrEnabled 0 = true ∧ s.lyrTest 0 = false ∧
      (∀ f ∈ s.syn.frames, f.num ≠ 5) ∧ 0 ∉ s.lyr.hide ∧ s.waiting 0 = true ∧ s.fenceReady 0 = true ∧ s.slateCheck 0 = 0 := by
  intro s h; subst h; decide +kernel

theorem witness_EpochsFollow :
    (∀ s, s = withCmt (fun c => { c with latched := some ⟨5, 0⟩ }) (put [(Reg.PAGE_STATUS cmtPage, 2)]) → s.cmt.latched = some ⟨5, 0⟩ ∧ s.cmtRuns = true ∧ s.rf Reg.CMT_SRC 1 0 ≠ 1 ∧ s.cmt.offset = 0) ∧
    (∀ s, s = withCmt (fun c => { c with waitLock := true }) (put [(Reg.TD_STATE 0, 3)]) → s.cmt.waitLock = true ∧ s.timLocked = true ∧ s.rf Reg.CMT_SRC 1 0 ≠ 1 ∧ (s.wn Reg.CMT_SRC 1).timLocked = true ∧ (s.wn Reg.CMT_SRC 1).rf Reg.CMT_SRC 1 0 = 1) ∧
    (put [(Reg.CMT_STATUS, 3)]).tstate = 3 ∧ (put [(Reg.CMT_STATUS, 3)]).cmt.offset = 0 := by
  refine ⟨fun s h => ?_, fun s h => ?_, by decide +kernel⟩ <;> subst h <;> decide +kernel

theorem witness_PinsAndCues :
    (∀ s, s = withCmt (fun c => { c with waitEdge := true }) (put [(Reg.CMT_SRC, 1), (Reg.PAGE_CTRL cmtPage, 1)]) → s.rf Reg.CMT_SRC 1 0 = 1 ∧ s.enabled cmtPage = true ∧ s.cmt.waitEdge = true ∧
      true = !s.rb Reg.SYNC_IN_CTRL 1 ∧ false = s.rb Reg.SYNC_IN_CTRL 1) ∧
    (∀ n < 3, ∀ s, s = put [(Reg.CMT_SRC, 1), (Reg.PAGE_STATUS cmtPage, 2), (Reg.SYNC_IN_CTRL, 0x300), (Reg.SYNC_IN_STATUS, n * 65536)] → s.rf Reg.CMT_SRC 1 0 = 1 ∧ s.cmtRuns = true ∧
      s.rf Reg.SYNC_IN_STATUS 23 16 = n ∧ s.rf Reg.SYNC_IN_CTRL 11 8 = 3) ∧
    (∀ s, s = withCmt (fun c => { c with last := some ⟨5, 0⟩, cues := [(2, 0), (2, 0), (0, 0), (0, 0)], cueFired := [1] }) (put [(Reg.PAGE_STATUS cmtPage, 2)]) →
      s.Shape ∧ s.cmt.last = some ⟨5, 0⟩ ∧ s.cmtRuns = true ∧ s.cueMode 0 = 2 ∧ 0 ∉ s.cmt.cueFired ∧ 1 ∈ s.cmt.cueFired) ∧
    (∀ s, s = withCmt (fun c => { c with last := some ⟨5, 0⟩, syncOut := true }) (put [(Reg.PAGE_STATUS cmtPage, 2), (Reg.SYNC_OUT_CTRL, 0x501), (Reg.SYNC_OUT_OFFSET, 7)]) →
      s.syncEpoch = some ⟨5, 0⟩ ∧ s.cmtRuns = true ∧ s.rb Reg.SYNC_OUT_CTRL 0 = true ∧ s.cmt.syncFor ≠ some 0 ∧ s.cmt.syncOut = true) ∧ State.reset.cmtRuns = false := by
  refine ⟨fun s h => ?_, fun n hn s h => ?_, fun s h => ?_, fun s h => ?_, by decide +kernel⟩
  · subst h; decide +kernel
  · subst h; revert n; decide +kernel
  · subst h; exact ⟨shape_of _ (by decide +kernel), by decide +kernel⟩
  · subst h; decide +kernel

theorem witness_FencesTakesSlates :
    Allowed State.reset .mgt (Reg.FENCE_VAL 7 31) 5 ∧ Allowed State.reset .mgt (Reg.FENCE_ADD 0 0) 5 ∧ Allowed State.reset .mgt (Reg.TAKE_ARM 5) 1 ∧ Allowed State.reset .mgt (Reg.TAKE_DISARM 5) 1 ∧
      Allowed State.reset .mgt (lyrPage 39 + 0x40 + 4 * 11) 5 ∧ Allowed State.reset .mgt (lyrPage 39 + 0x40) 5 ∧ Allowed State.reset .mgt (lyrPage 39 + 0x44) 5 := by decide +kernel

/-! ### Synthesis -/

/-- A frame in synthesis. -/
def frame0 : Frame :=
  { num := 5, epoch := 0, layout := 0, regions := [0], geoBank := 0, eff := List.replicate 6 [0, 0, 0, 0], tonBank := 0, wearBank := 0, ton := [], layers := [], shown := [], ind := [], views := [],
    pvCut := [], pvDenied := [], pvPix := [], pvDone := [], ring := 0, bands := [0, 1], filled := 0, started := 0, deals := [], runs := [0, 0, 0, 0, 0, 0], samples := 0, terms := 0, waits := 0,
    waiting := false, waited := false, sat := [], clip := [], neg := [], rows := [none, none, none, none], cues := [], light := [], ended := false, stopped := false }

/-- Layer 0 in a frame: 64 by 64 pixels of four bytes at address 0, of port 0. -/
def layer0 (print : Bool) : FLayer := ⟨0, [0, 0, 256, 0, 0, 0, 0, 0x01000100, 0, 0, 0, 0], none, 0, 0, print, false, [⟨3, 0, []⟩]⟩

/-- Synthesis with parts of its state set. -/
def withSyn (f : Syn → Syn) (s : State) : State := { s with syn := f s.syn }

/-- A deal of the first region, and it running on a slice with 128 rays handed out. -/
def deal0 : Deal := ⟨5, 0, none, 0, 0, []⟩
def running0 : Running := ⟨deal0, 64, (List.range 64).map some, [], [3]⟩

/-- Slice 25 with a running and a queued deal, for frame 5. -/
def dealt (r : Running) (q : Option Deal) (s : State) : State := withSyn (fun y => { y with frames := [{ frame0 with filled := 2, started := 1 }] }) (s.setSlice 25 ⟨some r, q, false, false, 0, 0, 0⟩)

theorem witness_ReelIsFilled :
    (∀ s, s = withSyn (fun y => { y with frames := [frame0] }) State.reset → s.syn.frames = [frame0] ∧ frame0.filled = 0 ∧ frame0.bands ≠ [] ∧ ∀ c < 4, nth none frame0.rows c = none) ∧
    (∀ s l, l = layer0 true → s = withSyn (fun y => { y with frames := [{ frame0 with layers := [l] }], fills := [⟨5, 0, 3, 0⟩] }) State.reset →
      (∃ f, s.syn.frames.find? (fun x => decide (x.num = 5)) = some f ∧ f.layers.find? (fun x => decide (x.idx = 0)) = some l ∧ s.bufferBusy f ⟨5, 0, 3, 0⟩ = false) ∧ l.print = true ∧
      l.stored.find? (fun x => decide (x.row = 3)) = some ⟨3, 0, []⟩ ∧ ∀ g ∈ s.syn.frames, ∀ c < 4, nth none g.rows c = none) ∧
    (∀ s l, l = layer0 false → s = withSyn (fun y => { y with frames := [{ frame0 with layers := [l] }], fills := [⟨5, 0, 0, 0⟩] }) ram →
      (∃ f, s.syn.frames.find? (fun x => decide (x.num = 5)) = some f ∧ f.layers.find? (fun x => decide (x.idx = 0)) = some l ∧ s.bufferBusy f ⟨5, 0, 0, 0⟩ = false) ∧ l.noSource = false ∧
      (l.sourceRows 0).filter (fun y => !s.syn.lines.any fun t => decide (t.row = y)) = [0] ∧ l.sourceSpan = (0, 63) ∧ pxBytes (nfld (nth 0 l.slate slFormat) 1 0) = 4 ∧
      l.port = some 0 ∧ s.allowed l.port 0 false = true ∧ s.locate 0 = some (0, 0) ∧ s.badLine 0 0 = false ∧ s.syn.line.length + min ((64 - 0 % 64) / 4) (63 + 1 - 0) < 63 + 1 - 0 ∧ ∀ g ∈ s.syn.frames, ∀ c < 4, nth none g.rows c = none) ∧
    (∀ s l, l = layer0 false → s = withSyn (fun y => { y with frames := [{ frame0 with layers := [l] }], fills := [⟨5, 0, 3, 0⟩], lines := [⟨3, [some 1]⟩] }) State.reset →
      (∃ f, s.syn.frames.find? (fun x => decide (x.num = 5)) = some f ∧ f.layers.find? (fun x => decide (x.idx = 0)) = some l) ∧ l.sourceSpan.1 ≤ 0 ∧ s.syn.lines = [⟨3, [some 1]⟩]) ∧
    (∀ s, s = withSyn (fun y => { y with frames := [{ frame0 with layers := [layer0 true] }], reel := [⟨5, 0, 3, 0, []⟩] }) State.reset → s.rowHolds 0 3 33 ⟨5, 0, 3, 0, []⟩ = true ∧
      s.rowHolds 0 4 33 ⟨5, 0, 3, 0, []⟩ = false) := by
  refine ⟨fun s h => ?_, fun s l h1 h => ?_, fun s l h1 h => ?_, fun s l h1 h => ?_, fun s h => ?_⟩
  · subst h; decide +kernel
  · subst h1; subst h; exact ⟨⟨{ frame0 with layers := [layer0 true] }, by decide +kernel⟩, by decide +kernel⟩
  · subst h1; subst h; exact ⟨⟨{ frame0 with layers := [layer0 false] }, by decide +kernel⟩, by decide +kernel⟩
  · subst h1; subst h; exact ⟨⟨{ frame0 with layers := [layer0 false] }, by decide +kernel⟩, by decide +kernel⟩
  · subst h; decide +kernel

theorem witness_DealsAndRays :
    (∀ f s, f = { frame0 with filled := 1 } → s = withSyn (fun y => { y with frames := [f] }) (put [(Reg.PAGE_CTRL (slicePage 25), 1), (Reg.PAGE_STATUS (slicePage 25), 1)]) →
      s.Shape ∧ s.syn.stopping = false ∧ s.syn.frames = [f] ∧ f.started < f.bands.length ∧ f.deals = [] ∧ s.syn.failed = [] ∧ s.sliceActive 25 = true ∧ (s.slice 25).leaving = false ∧
      (s.slice 25).queued = none ∧ s.resident f f.started = true ∧ f.band f.started < 65536) ∧
    (∀ s, s = withSyn (fun y => { y with frames := [frame0], stopping := true }) State.reset → s.Shape ∧ s.syn.stopping = true ∧ s.syn.frames = [frame0] ∧ frame0.started < frame0.bands.length) ∧
    (∀ s, s = dealt running0 none State.reset → s.Shape ∧ (s.slice 25).running = some running0 ∧ nth none running0.lanes 63 = some 63 ∧ running0.deal.view = none ∧ running0.lanes.length = 64 ∧
      running0.ready = [3] ∧ (∃ f, s.syn.frames = [f] ∧ f.num = 5) ∧ s.queueRoom 0 (running0.deal.perCell 0) = true) ∧
    (∀ s, s = withSyn (fun y => { y with queues := [[.run ⟨5, 0, 0, List.replicate 16384 0⟩], [], [], [], [], []] }) (dealt running0 none State.reset) → s.Shape ∧ (s.slice 25).running = some running0 ∧
      s.queueRoom 0 (running0.deal.perCell 0) = false) ∧
    (∀ d r s, d = { deal0 with sent := List.range (deal0.cellCount 0) } → r = { running0 with deal := d, ready := [] } → s = dealt r (some deal0) State.reset → s.Shape ∧ (s.slice 25).running = some r ∧
      (s.slice 25).queued = some deal0 ∧ d.sent.length = d.cellCount 0) := by
  refine ⟨fun f s h1 h => ?_, fun s h => ?_, fun s h => ?_, fun s h => ?_, fun d r s h1 h2 h => ?_⟩
  · subst h1; subst h; exact ⟨shape_of _ (by decide +kernel), by decide +kernel⟩
  · subst h; exact ⟨shape_of _ (by decide +kernel), by decide +kernel⟩
  · subst h; exact ⟨shape_of _ (by decide +kernel), by decide +kernel, by decide +kernel, by decide +kernel, by decide +kernel, by decide +kernel, ⟨_, rfl, rfl⟩, by decide +kernel⟩
  · subst h; exact ⟨shape_of _ (by decide +kernel), by decide +kernel, by decide +kernel⟩
  · subst h1; subst h2; subst h; exact ⟨shape_of _ (by decide +kernel), by decide +kernel⟩

/-- A proof view at address 0 of the mapped memory. -/
def view0 : PView := ⟨3, 0, 0, 0, 0x8000000, 15360, none, none⟩

theorem witness_ProofBandsAreWritten :
    ∀ f s, f = { frame0 with views := [view0], bands := [0], filled := 1, started := 1 } → s = withSyn (fun y => { y with frames := [f] }) ram →
      s.Shape ∧ s.syn.frames = [f] ∧ f.views.find? (fun x => decide (x.view = 3)) = some view0 ∧ f.pvCut.contains 3 = false ∧ (f.pvDone.filter fun x => decide (x.1 = 3)).length < f.bands.length ∧
      (f.pvDone.filter fun x => decide (x.1 = 3)).length < f.started ∧ (f.pvDone.filter fun x => decide (x.1 = 3)).length + 1 = f.bands.length ∧
      ((f.deals ++ s.heldDeals f.num).any fun d => d.band == f.band 0 && d.view == some 3) = false ∧ view0.wild f.layout = false := by
  intro f s h1 h; subst h1; subst h; exact ⟨shape_of _ (by decide +kernel), by decide +kernel⟩

/-! ### Panel link -/

/-- A group with parts of its state set. -/
def withGrp (g : Nat) (f : Grp → Grp) (s : State) : State := { s with plk := { s.plk with groups := upd s.plk.groups g (f (s.grp g)) } }

/-- Lane roles of group 0: 15 data lanes and a stand-in. -/
def roles0 : List (Nat × Nat) := (List.range 16).map fun l => (Reg.PLK_LANE_STATUS l, if l < 15 then 1 else 2)

/-- Group 0 in state DATA, the device in P0 with CMT running. -/
def linked : State :=
  let s := put ([(Reg.PAGE_CTRL (Reg.page 7 0), 1), (Reg.PAGE_CTRL (grpPage 0), 1), (Reg.PAGE_STATUS (grpPage 0), 1), (Reg.PLK_GRP_STATUS 0, 8), (Reg.PLK_GRP_MASK 0, 0x7FFF), (Reg.PAGE_STATUS cmtPage, 2)] ++ roles0)
  withGrp 0 (fun x => { x with data := List.range 15 }) { s with pwr := { s.pwr with state := 0 } }

theorem witness_ReleaseSendsFrame :
    ∀ s, s = withCmt (fun c => { c with latched := some ⟨5, 0⟩ }) linked → s.Shape ∧ s.cmt.latched = some ⟨5, 0⟩ ∧ (∀ g < 6, s.Settled g) ∧ s.grpSends 0 = true ∧ s.grpSends 5 = false ∧ (s.grp 0).frame = none ∧
      QItem.start 5 true ∉ s.queue 0 ∧ QItem.start 5 true ∈ (s.setQueue 0 [.start 5 true]).queue 0 ∧ (withGrp 0 (fun x => { x with frame := some 4 }) s).reportedShort 0 4 = false ∧ s.enabled (Reg.page 7 0) = true := by
  intro s h; subst h
  refine ⟨shape_of _ (by decide +kernel), by decide +kernel, fun g hg => ?_, by decide +kernel⟩
  constructor <;> revert g <;> decide +kernel

theorem witness_RowsAreSent :
    (linked.Shape ∧ linked.enabled (Reg.page 7 0) = true ∧ (linked.grp 0).frame = none ∧ linked.stage 0 ≠ 0 ∧ linked.stage 0 ≠ 15) ∧
    (∀ s, s = withGrp 0 (fun x => { x with frame := some 5, words := List.replicate 15 7 }) linked → s.Shape ∧ (s.grp 0).frame = some 5 ∧
      ((List.range 16).filter fun k => (s.rf (Reg.PLK_GRP_MASK 0) 15 0).testBit k).length ≤ (s.grp 0).words.length) ∧
    (∀ r s, r = (⟨5, 0, 0, List.replicate 128 0⟩ : Run) → s = (withGrp 0 (fun x => { x with frame := some 5 }) linked).setQueue 0 [.run r] → s.Shape ∧ (s.grp 0).words = [] ∧ (s.grp 0).fin = false ∧
      takeItem 5 (s.queue 0) = some (.run r, []) ∧ s.sendsRun 0 5 r = true ∧ r.vals.length ≠ 64 ∧ 15 ≤ (packet 1 r none).length) ∧
    (∀ n, n = 2 ∨ n = 126 → ∀ s, s = withGrp 0 (fun x => { x with pos := 127, slot := n, cmds := [(9, 2)] }) linked → s.Shape ∧ (s.grp 0).cmds = [(9, 2)] ∧ (s.grp 0).pos = 127 ∧ (s.grp 0).commandFits = true) ∧
    (∀ s, s = withGrp 0 (fun x => { x with pos := 127, cmds := [(9, 2)] }) linked → s.Shape ∧ (s.grp 0).slot = 0 ∧ (s.grp 0).pos = 127 ∧ (s.grp 0).commandFits = false) ∧
    (∀ s, s = withGrp 0 (fun x => { x with frame := some 5, fin := true }) linked → s.Shape ∧ (s.grp 0).frame = some 5 ∧ (s.grp 0).fin = true ∧ (s.grp 0).words = []) ∧
    (∀ s, s = (withGrp 0 (fun x => { x with frame := some 5 }) linked).setQueue 0 [.lost 5] → s.Shape ∧ (s.grp 0).frame = some 5 ∧ (s.grp 0).fin = false ∧ (s.grp 0).words = [] ∧
      takeItem 5 (s.queue 0) = some (.lost 5, [])) := by
  refine ⟨⟨shape_of _ (by decide +kernel), by decide +kernel⟩, fun s h => ?_, fun r s h1 h => ?_, fun n hn s h => ?_, fun s h => ?_, fun s h => ?_, fun s h => ?_⟩
  · subst h; exact ⟨shape_of _ (by decide +kernel), by decide +kernel⟩
  · subst h1; subst h; exact ⟨shape_of _ (by decide +kernel), by decide +kernel⟩
  · subst h; rcases hn with h | h <;> subst h <;> exact ⟨shape_of _ (by decide +kernel), by decide +kernel⟩
  all_goals subst h; exact ⟨shape_of _ (by decide +kernel), by decide +kernel⟩

theorem witness_BackChannelMessages :
    (∀ n, n = 0 ∨ n = 32 → ∀ s, s = withGrp 0 (fun x => { x with lock := true, queue := List.replicate n 7 }) (put [(Reg.PLK_GRP_BC_STATUS 0, 0x80000000), (Reg.GEO_T_SRC 0, 3)]) → s.Shape ∧ (s.grp 0).lock = true ∧
      (s.grp 0).queue.length = n ∧ s.rb (Reg.PLK_GRP_BC_STATUS 0) 31 = true ∧ s.rf (Reg.GEO_T_SRC 0) 1 0 = 3 ∧ s.reaches .mgt = true ∧ s.latched .mgt (Reg.PLK_GRP_BC_HI 0) = none) ∧
    (State.reset.grp 0).lock = false ∧ (0 : BitVec 64).toNat ≠ controlBlock 0x33 ((0 : BitVec 64).toNat / 256) ∧ (BitVec.ofNat 64 (controlBlock 0x33 0x80)).toNat = controlBlock 0x33 (0x80 + 0 + 0 * 256) := by
  refine ⟨fun n hn s h => ?_, by decide +kernel⟩
  subst h; rcases hn with h | h <;> subst h <;> exact ⟨shape_of _ (by decide +kernel), by decide +kernel⟩

theorem witness_LanesLeaveAndReturn :
    (∀ s, s = withGrp 0 (fun x => { x with lock := true }) linked → s.Shape ∧ (s.grp 0).lock = true ∧ (∀ k < 16, nth 0 (s.grp 0).map k < 16) ∧ 0 < max 1 (s.rf Reg.PLK_LOSS_ERRS 15 0) ∧
      s.role (s.phys 0 0) = roleData ∧ s.role (s.phys 0 15) = roleStandin ∧ s.pgState (lanePage 0) ≠ 4 ∧ s.pgState (lanePage 0) ≠ 6 ∧ s.stage 0 = stageData ∧ s.flt.windows = [] ∧ s.role 95 = roleNone) ∧
    (∀ n, n = 3 ∨ n = 4 → ∀ s, s = withGrp 0 (fun x => { x with lock := true, taking := List.range 16 }) (put [(Reg.PLK_GRP_STATUS 0, n)]) → s.Shape ∧ (s.grp 0).lock = true ∧ nth 0 (s.grp 0).map 15 < 16 ∧
      s.role (s.phys 0 15) = roleNone ∧ s.pgState (lanePage (s.phys 0 15)) ≠ 6 ∧ (s.grp 0).taking.contains (s.logical (s.phys 0 15)) = true ∧ s.stage 0 = n) ∧
    (∀ s, s = (put [(Reg.PLK_GRP_CTRL 5, 1), (Reg.PAGE_CTRL (lanePage 95), 1), (Reg.PAGE_STATUS (lanePage 95), 4), (Reg.PLK_LANE_STATUS 95, 3)]).setLane 95 { Lane.reset with byLoss := true } → s.Shape ∧
      s.rb (Reg.PLK_GRP_CTRL (95 / 16)) 0 = true ∧ (s.lane 95).byLoss = true ∧ s.laneReturns 95 = true ∧ s.role 95 = roleFenced) ∧
    (∀ s, s = (put [(Reg.PAGE_STATUS (lanePage 95), 6)]).setLane 95 { Lane.reset with good := 100, rxIn := some 15 } → s.Shape ∧ s.laneQualified 95 = true) ∧
    Allowed State.reset .mgt (Reg.PLK_LANE_SLIP 95) 1 := by
  refine ⟨fun s h => ?_, fun n hn s h => ?_, fun s h => ?_, fun s h => ?_, by decide +kernel⟩
  · subst h; exact ⟨shape_of _ (by decide +kernel), by decide +kernel⟩
  · subst h; rcases hn with h | h <;> subst h <;> exact ⟨shape_of _ (by decide +kernel), by decide +kernel⟩
  all_goals subst h; exact ⟨shape_of _ (by decide +kernel), by decide +kernel⟩

/-- An equalisation image of zero words, with identifier 1 and a CRC. -/
def eqImage (c : Nat) : List Byte :=
  leBytes 4 0x51454C50 ++ leBytes 2 1 ++ leBytes 2 96 ++ leBytes 4 c ++ leBytes 8 1 ++ List.replicate 44 0 ++ List.replicate 384 0

theorem eqImage_crc (c : Nat) (h : c < 2 ^ 32) : leAt (eqImage c) 8 4 = c := by
  show leNat (leBytes 4 c) = c
  simp [leNat, leBytes]
  omega

theorem witness_BringupStages :
    (∀ p, p = Party.mgt → Allowed State.reset p (Reg.PLK_GRP_CMD 0) 1 ∧ Allowed State.reset p (Reg.PLK_GRP_CMD 0) 2 ∧ Allowed State.reset p (Reg.PLK_GRP_CMD 0) 3 ∧ (State.reset.grp 0).held = false ∧
      ∀ i < 16, i ∈ State.reset.mapWritten 0) ∧
    (∀ s, s = withGrp 0 (fun x => { x with held := true }) (put [(Reg.PLK_GRP_STATUS 0, 2), (Reg.PLK_GRP_BC_STATUS 0, 0x80000000)]) → s.Shape ∧ Allowed s .mgt (Reg.PLK_GRP_CMD 0) 1 ∧ (s.grp 0).held = true ∧
      s.stage 0 = 2 ∧ s.rb (Reg.PLK_GRP_BC_STATUS 0) 31 = true) ∧
    (∀ m, m = 0 ∨ m = 2 → ∀ s, s = withGrp 0 (fun x => { x with lock := true, taking := List.range 16 }) (put [(Reg.PLK_GRP_STATUS 0, 2), (Reg.PLK_GRP_BC_STATUS 0, 0x80000000), (Reg.PLK_GRP_CTRL 0, m)]) →
      s.Shape ∧ s.stage 0 = 2 ∧ s.stageDone 0 = true ∧ s.rb (Reg.PLK_GRP_BC_STATUS 0) 31 = true ∧ s.rb (Reg.PLK_GRP_CTRL 0) 1 = decide (m = 2)) ∧
    (∀ s, s = withGrp 0 (fun x => { x with rate := true, taking := (List.range 16).filter fun _ => true }) (put [(Reg.PLK_GRP_STATUS 0, 7)]) → s.Shape ∧ s.stage 0 = 7 ∧ (s.grp 0).rate = true ∧
      s.rb (Reg.PLK_GRP_CTRL 0) 1 = false ∧ (∀ i < 16, i ∈ (s.grp 0).map) ∧ (s.grp 0).map.length = 16) ∧
    (∀ s, s = withGrp 0 (fun x => { x with deskew := true, taking := List.range 16 }) (put [(Reg.PLK_GRP_STATUS 0, 6)]) → s.Shape ∧ s.stage 0 = 6 ∧ (s.grp 0).deskew = true ∧
      8 ≤ ((s.grp 0).taking.filter (fun k => s.laneDone 0 (s.stage 0) k && !(decide (6 ≤ s.stage 0) && (0x00FF).testBit k))).length ∧
      ((s.grp 0).taking.filter (fun k => s.laneDone 0 (s.stage 0) k && !(decide (6 ≤ s.stage 0) && (0x01FF).testBit k))).length < 8 ∧
      (∀ k ∈ (s.grp 0).taking, k < 16) ∧ (∀ k < 16, nth 0 (s.grp 0).map k < 16) ∧ s.rb (Reg.PLK_GRP_CTRL 0) 1 = false) ∧
    (∃ c, (eqImage c).length = 448 ∧ leAt (eqImage c) 0 4 = 0x51454C50 ∧ leAt (eqImage c) 4 2 = 1 ∧ leAt (eqImage c) 6 2 = 96 ∧ leAt (eqImage c) 8 4 = crc32c ((eqImage c).drop 64) ∧
      leAt (eqImage c) 12 8 ≠ 0 ∧ ∀ b ∈ ((eqImage c).drop 20).take 44, b = 0) ∧
    (State.reset.setQueue 0 [.run ⟨5, 0, 0, []⟩]).queue 0 = [.run ⟨5, 0, 0, []⟩] := by
  refine ⟨fun p hp => ?_, fun s h => ?_, fun m hm s h => ?_, fun s h => ?_, fun s h => ?_, ?_, by decide +kernel⟩
  · subst hp; decide +kernel
  · subst h; exact ⟨shape_of _ (by decide +kernel), by decide +kernel⟩
  · subst h; rcases hm with h | h <;> subst h <;> exact ⟨shape_of _ (by decide +kernel), by decide +kernel⟩
  · subst h; exact ⟨shape_of _ (by decide +kernel), by decide +kernel⟩
  · subst h; exact ⟨shape_of _ (by decide +kernel), by decide +kernel⟩
  · refine ⟨crc32c (List.replicate 384 0), by simp only [eqImage, List.length_append, List.length_replicate]; rfl, by rfl, by rfl, by rfl, eqImage_crc _ (BitVec.isLt _), ?_, ?_⟩
    · show leNat (leBytes 8 1) ≠ 0
      decide
    · show ∀ b ∈ List.replicate 44 (0 : Byte), b = 0
      simp

/-! ### Ingest and decompression -/

/-- The mapped state with bytes at an address. -/
def stored (a : Nat) (l : List Byte) (s : State) : State := s.setCells (cellKey 0 a) l

theorem reads_of (s : State) (port : Option Nat) (a n : Nat) (bs : List Byte)
    (h : a % 64 + n ≤ 64 ∧ s.allowed port a false = true ∧ (∀ i < 64 - a % 64, s.locate (a + i) = some (0, a + i)) ∧ s.badLine 0 a = false ∧ bs = (List.range n).map fun i => s.byteAt 0 (a + i)) :
    s.Reads port a n bs := ⟨h.1, h.2.1, 0, a, h.2.2.1, h.2.2.2.1, h.2.2.2.2⟩

theorem writable_of (s : State) (port : Option Nat) (a n : Nat) (h : a % 64 + n ≤ 64 ∧ s.allowed port a true = true ∧ s.locate a = some (0, a)) : s.Writable port a n :=
  ⟨h.1, h.2.1, 0, a, h.2.2⟩

/-- Ingest with parts of its state set. -/
def withIng (f : Ing → Ing) (s : State) : State := { s with ing := f s.ing }

/-- A plane context with tiles and what is done. -/
def ctx0 (tiles : Nat) (fence owner : Nat) : PlaneCtx := ⟨7, 3, 2, 5, 0, [0, 0, 256, 0, 0, 0, 0, 0x01000100, 0, 0, fence, 0], tiles, owner, 2, [], []⟩

theorem witness_PlanesFailAndEnd :
    (∀ c s, c = ctx0 1 0 0 → s = withIng (fun y => { y with ctxs := [c], parcels := [⟨3, 7, 0, [], 0, 64, 0, 0, []⟩] }) State.reset →
      (∃ p, s.ing.parcels[0]? = some p ∧ s.ing.ctxs.find? (fun x => x.id == p.ctx) = some c) ∧ s.ing.ctxs[0]? = some c ∧ s.ing.ctxs.find? (fun x => x.id == c.id) = some c ∧ c.rx < 4 ∧ c.done.length < c.tiles) ∧
    (∀ c s, c = ctx0 0 0 0 → s = withIng (fun y => { y with ctxs := [c] }) State.reset → s.ing.ctxs[0]? = some c ∧ c.tiles ≤ c.done.length ∧ (nth 0 c.slate slFence).testBit 31 = false ∧ c.rx < 4) ∧
    (∀ c s, c = ctx0 0 0x800000FF 5 → s = withIng (fun y => { y with ctxs := [c] }) State.reset → s.ing.ctxs[0]? = some c ∧ c.tiles ≤ c.done.length ∧ (nth 0 c.slate slFence).testBit 31 = true ∧ 4 ≤ c.owner ∧ c.rx < 4) := by
  refine ⟨fun c s h1 h => ?_, fun c s h1 h => ?_, fun c s h1 h => ?_⟩
  · subst h1; subst h; exact ⟨⟨_, rfl, by decide +kernel⟩, by decide +kernel⟩
  · subst h1; subst h; decide +kernel
  · subst h1; subst h; decide +kernel

/-- An envelope: OP, source, length and ULEN, destination, fence number. -/
def env (op src len ulen dst fence : Nat) : List Byte :=
  leBytes 4 op ++ leBytes 4 9 ++ leBytes 8 src ++ leBytes 4 len ++ leBytes 4 ulen ++ leBytes 8 dst ++ List.replicate 16 0 ++ leBytes 4 fence ++ leBytes 4 3 ++ List.replicate 8 0

/-- An envelope whose output is 2 by 2 pixels of layer 0 at its origin. -/
def envTile (op : Nat) : List Byte :=
  leBytes 4 (op + 512) ++ leBytes 4 9 ++ leBytes 8 0x2000 ++ leBytes 4 16 ++ leBytes 4 16 ++ List.replicate 16 0 ++ leBytes 8 (2 * 2 ^ 24 + 2 * 2 ^ 36) ++ leBytes 4 0 ++ leBytes 4 3 ++ List.replicate 8 0

/-- The header of a raw parcel of layer 0: one tile of 2 by 2 pixels. -/
def parcelHdr : List Byte := [1, 1, 0, 0, 0, 0, 0, 0, 0, 0, 0, 0, 1, 0] ++ leBytes 6 (2 * 2 ^ 24 + 2 * 2 ^ 36) ++ leBytes 4 16 ++ leBytes 4 16 ++ leBytes 4 0

/-- Tray 0 enabled, with its ring at 0 and its receipts at 0x400, an envelope in the ring and a parcel header at 0x800. -/
def trayed (e : List Byte) : State :=
  let s := put [(Reg.PAGE_CTRL (trayPage 0), 1), (Reg.PAGE_STATUS (trayPage 0), 1), (Reg.TRAY_TAIL 0, 1), (lyrPage 0 + 0x40 + 28, 0x01000100), (Reg.PAGE_OWNER (lyrPage 0), 1), (Reg.PAGE_OWNER (Reg.page 2 8), 1)] ram
  stored 0x800 parcelHdr (stored 0 e (s.setTray 0 { s.tray 0 with rcpt := 0x400 }))

theorem trayed_envelope (e : List Byte) (s : State) (_ : s = trayed e) (hd : s.trayFetches 0 = true ∧ envOk e = true ∧ ((s.tray 0).base + 64 * (s.rf (Reg.TRAY_HEAD 0) 16 0 % 2 ^ (s.tray 0).size)) % 2 ^ 40 = 0 ∧
    s.allowed (some 0) 0 false = true ∧ (∀ i < 64 - 0 % 64, s.locate (0 + i) = some (0, 0 + i)) ∧ s.badLine 0 0 = false ∧ e = (List.range 64).map fun i => s.byteAt 0 (0 + i)) : s.Envelope 0 e :=
  ⟨hd.1, hd.2.1, by rw [hd.2.2.1]; exact reads_of s (some 0) 0 64 e ⟨by decide, hd.2.2.2.1, hd.2.2.2.2.1, hd.2.2.2.2.2.1, hd.2.2.2.2.2.2⟩⟩

theorem witness_TraysFetchEnvelopes :
    (∀ s, s = put [(Reg.PAGE_OWNER (trayPage 0), 1)] → Allowed s .h0 (Reg.TRAY_TAIL 0) 5 ∧ Allowed s .h0 (Reg.RCPT_HEAD 0) 5 ∧ (s.tray 0).items = [] ∧ (s.tray 0).held = [] ∧ s.discarding (trayPage 0) = false) ∧
    (∀ op, op = 2 ∨ op = 3 → ∀ e s, e = env op 0x2000 16 16 0x3000 0 → s = trayed e → s.Shape ∧ s.Envelope 0 e ∧ (s.tray 0).items = [] ∧ leAt e 20 4 = 16 ∧ (leAt e 0 4).testBit 9 = false ∧ leAt e 0 1 = op ∧ leAt e 16 4 = leAt e 20 4) ∧
    (∀ op, op = 2 ∨ op = 3 → ∀ e s, e = envTile op → s = trayed e → s.Shape ∧ s.Envelope 0 e ∧ (s.tray 0).items = [] ∧ leAt e 20 4 = 16 ∧ (leAt e 0 4).testBit 9 = true ∧ leAt e 0 1 = op ∧ leAt e 16 4 = leAt e 20 4 ∧
      leAt e 0 4 / 2 ^ 16 % 256 = 0 ∧ s.rb (Reg.PAGE_OWNER (lyrPage 0)) 0 = true ∧ geomOk (s.latchSlate 0) ((envJob 0 (s.rf (Reg.TRAY_HEAD 0) 16 0) e).op == 3) (leAt e 40 6 % 4096) (leAt e 40 6 / 2 ^ 12 % 4096)
        (leAt e 40 6 / 2 ^ 24 % 4096) (leAt e 40 6 / 2 ^ 36) (envJob 0 (s.rf (Reg.TRAY_HEAD 0) 16 0) e).len (envJob 0 (s.rf (Reg.TRAY_HEAD 0) 16 0) e).ulen = true) ∧
    (∀ e s, e = env 1 0x800 48 0 0 0 → s = trayed e → s.Shape ∧ s.Envelope 0 e ∧ (s.tray 0).items = [] ∧ leAt e 0 1 = 1 ∧ s.Reads (some 0) (leAt e 8 5) 32 parcelHdr ∧ hdrOk parcelHdr = true ∧ (parseHdr parcelHdr).seg = 0 ∧
      leAt e 16 4 = 32 + (parseHdr parcelHdr).clen ∧ s.rb (Reg.PAGE_OWNER (lyrPage (parseHdr parcelHdr).layer)) 0 = true ∧
      geomOk (s.latchSlate (parseHdr parcelHdr).layer) (parseHdr parcelHdr).raw (parseHdr parcelHdr).tx (parseHdr parcelHdr).ty (parseHdr parcelHdr).tw (parseHdr parcelHdr).th (parseHdr parcelHdr).clen (parseHdr parcelHdr).ulen = true) ∧
    (∀ op, op = 0 ∨ op = 4 → ∀ e s, e = env op 0 0 0 0 255 → s = trayed e → s.Shape ∧ s.Envelope 0 e ∧ (s.tray 0).items = [] ∧ (s.tray 0).held = [] ∧ s.jobsOf false 0 = [] ∧ s.Writable (some 0) (s.rcptAddr 0) 32 ∧
      leAt e 0 1 = op ∧ s.rb (Reg.PAGE_OWNER (Reg.page 2 (1 + leAt e 48 1 / 32))) 0 = true) := by
  refine ⟨fun s h => by subst h; decide +kernel, fun op ho e s h1 h => ?_, fun op ho e s h1 h => ?_, fun e s h1 h => ?_, fun op ho e s h1 h => ?_⟩
  · rcases ho with ho | ho <;> subst ho <;> subst h1 <;>
      exact ⟨shape_of _ (by subst h; decide +kernel), trayed_envelope _ _ h (by subst h; decide +kernel), by subst h; decide +kernel⟩
  · rcases ho with ho | ho <;> subst ho <;> subst h1 <;>
      exact ⟨shape_of _ (by subst h; decide +kernel), trayed_envelope _ _ h (by subst h; decide +kernel), by subst h; decide +kernel⟩
  · subst h1
    exact ⟨shape_of _ (by subst h; decide +kernel), trayed_envelope _ _ h (by subst h; decide +kernel), by subst h; decide +kernel, by decide, reads_of _ _ _ _ _ (by subst h; decide +kernel), by subst h; decide +kernel⟩
  · rcases ho with ho | ho <;> subst ho <;> subst h1 <;>
      exact ⟨shape_of _ (by subst h; decide +kernel), trayed_envelope _ _ h (by subst h; decide +kernel), by subst h; decide +kernel, by subst h; decide +kernel, by subst h; decide +kernel,
        writable_of _ _ _ _ (by subst h; decide +kernel), by subst h; decide +kernel⟩

/-- A job of tray 0 that copies 16 bytes from 0 to 0x100. -/
def job0 : DJob :=
  { net := false, unit := 0, port := some 0, raw := true, ulen := 16, src := 0, len := 16, ring := none, hdr := none, dst := ⟨0x100, 0, 0⟩, ctx := 0, tile := 0, alloc := 0, op := 3, wait := false, env := 0, tag := 0,
    fence := none, discard := false, silent := false }

/-- Decompressor 23 in service, with a running job. -/
def engine (r : Option DJob) (s : State) : State := (put [(Reg.PAGE_CTRL (dcpPage 23), 1), (Reg.PAGE_STATUS (dcpPage 23), 1)] s).setDcp 23 ⟨r, false, none, 0, 0, false⟩

theorem witness_DispatchAndJobs :
    (∀ s, s = withIng (fun y => { y with again := [job0] }) (engine none State.reset) → s.Shape ∧ (∀ k < 24, s.pgState (dcpPage k) ≠ 6) ∧ (List.range 24).find? (fun k => s.dcpFree k) = some 23 ∧ (s.dcp 23).running = none ∧ s.ing.again = [job0]) ∧
    (∀ s, s = withIng (fun y => { y with ready := [[], [], [], [job0]], turn := 3 }) (engine none State.reset) → s.Shape ∧ (∀ k < 24, s.pgState (dcpPage k) ≠ 6) ∧ (List.range 24).find? (fun k => s.dcpFree k) = some 23 ∧
      (s.dcp 23).running = none ∧ s.ing.again = [] ∧ s.ing.turn = 3 ∧ nth [] s.ing.ready 3 = [job0]) ∧
    (∀ s, s = withIng (fun y => { y with turn := 7 }) ((engine none (put [(Reg.PAGE_CTRL (trayPage 3), 1), (Reg.PAGE_STATUS (trayPage 3), 1)])).setTray 3 { Tray.reset with items := [job0] }) → s.Shape ∧
      (List.range 24).find? (fun k => s.dcpFree k) = some 23 ∧ s.ing.again = [] ∧ s.ing.turn = 7 ∧ (s.tray 3).items = [job0] ∧ s.queueHead 7 = some job0) ∧
    job0.ok ∧
    (∀ s, s = engine (some job0) (put [(Reg.RCPT_TAIL 0, 16)] (stored 0 [1, 2, 3] ram)) → s.Shape ∧ (s.dcp 23).running = some job0 ∧ job0.unit < 4 ∧ (∀ c ∈ s.ing.ctxs, c.rx < 4) ∧ job0.fence = none ∧ (s.dcp 23).leaving = false ∧
      s.Reads job0.port job0.src job0.len ([1, 2, 3] ++ List.replicate 13 0) ∧ s.Writable job0.port job0.dst.start job0.len ∧ s.rcptFull job0.unit = true ∧ s.pgState (dcpPage 23) ≠ 4 ∧ s.flt.windows = []) := by
  refine ⟨fun s h => ?_, fun s h => ?_, fun s h => ?_, ⟨by decide, by simp [job0], by simp [job0]⟩, fun s h => ?_⟩
  iterate 3 · subst h; exact ⟨shape_of _ (by decide +kernel), by decide +kernel⟩
  · exact ⟨shape_of _ (by subst h; decide +kernel), by subst h; decide +kernel, by decide, by subst h; decide +kernel, by decide, by subst h; decide +kernel, reads_of _ _ _ _ _ (by subst h; decide +kernel),
      writable_of _ _ _ _ (by subst h; decide +kernel), by subst h; decide +kernel⟩

/-! ### Compressors and the Print -/

/-- The cells that a write within one 64-byte cell of channel 0 stores to. -/
theorem stores_at (s : State) (a n k : Nat) (h : a % 64 + n ≤ 64) (hl : s.locate a = some (0, a)) : s.stores a n k → ∃ i < n, k = a + i := by
  rintro ⟨b, c, la, i, h1, h2, h3, h4, h5, -, rfl⟩
  obtain rfl : b = a := by omega
  obtain ⟨rfl, rfl⟩ : 0 = c ∧ b = la := by simpa [hl] using h4
  exact ⟨i, by omega, by simp [cellKey]⟩

/-- Two such writes that do not meet store to no common cell. -/
theorem stores_apart (s : State) (a n a' n' k : Nat) (h : a % 64 + n ≤ 64) (h' : a' % 64 + n' ≤ 64) (hl : s.locate a = some (0, a)) (hl' : s.locate a' = some (0, a')) (hd : a + n ≤ a' ∨ a' + n' ≤ a) :
    s.stores a n k → ¬ s.stores a' n' k := fun p q => by
  obtain ⟨i, _, rfl⟩ := stores_at s a n k h hl p
  obtain ⟨j, _, e⟩ := stores_at s a' n' _ h' hl' q
  omega

/-- A stream of one stored block, and a job that makes it. -/
def stream0 : List Byte := [1, 4, 0, 0xFB, 0xFF, 1, 2, 3, 0]
def cjob0 (suspended : Bool) (n : Nat) (format : Nat := 0) : CJob := ⟨0, 6, format, 0, 4, [(0x100, n)], 0x400, 0, none, List.replicate (28 * format) 0, 0, 0, 0, suspended, false, if suspended then none else some stream0⟩

/-- Compressor 3 with a job. -/
def comp (j : Option CJob) (s : State) : State :=
  (put [(Reg.PAGE_CTRL (cmpPage 3), 1), (Reg.PAGE_STATUS (cmpPage 3), 1), (Reg.PAGE_OWNER (cmpPage 3), 0x21), (Reg.CMP_JOB 3, 6), (Reg.CMP_SRC_LEN 3, 4), (Reg.CMP_DST_LEN 3, 64)] s).setCmpEng 3 ⟨j, none, false⟩

theorem witness_CompressorJobs :
    (∀ s, s = comp none State.reset → s.Shape ∧ Allowed s .h0 (Reg.CMP_CMD 3) 1 ∧ s.takesWork (cmpPage 3) = true ∧ (s.cmpEng 3).job = none ∧ (s.cmpEng 3).leaving = false ∧ s.rf (Reg.CMP_JOB 3) 3 0 = 6 ∧
      s.rf (Reg.CMP_JOB 3) 5 4 = 0 ∧ s.rf (Reg.CMP_SRC_LEN 3) 24 0 = 4 ∧ 64 ≤ s.rn (Reg.CMP_DST_LEN 3)) ∧
    (∀ s, s = comp (some (cjob0 true 64)) State.reset → s.Shape ∧ Allowed s .h0 (Reg.CMP_CMD 3) 1 ∧ Allowed s .h0 (Reg.CMP_CMD 3) 2 ∧ (s.cmpEng 3).job = some (cjob0 true 64) ∧ (cjob0 true 64).owner = partyCode .h0 ∧
      (cjob0 true 64).suspended = true ∧ 64 ≤ s.rn (Reg.CMP_DST_LEN 3)) ∧
    (∀ n, n = 8 ∨ n = 64 → ∀ s, s = comp (some (cjob0 false n)) (stored 0 [1, 2, 3] ram) → s.Shape ∧ Allowed s .h0 (Reg.CMP_CMD 3) 3 ∧ (s.cmpEng 3).job = some (cjob0 false n) ∧ (cjob0 false n).owner = partyCode .h0 ∧
      (cjob0 false n).format = 0 ∧ s.Reads (cjob0 false n).port 0 4 [1, 2, 3, 0] ∧ (n = 8 → n < stream0.length) ∧ (n = 64 → stream0.length ≤ n) ∧ (∀ i < n, s.allowed (cjob0 false n).port (0x100 + i) true = true) ∧
      (inflate stream0 4).marks.all (fun m => decide (m.2 ≤ 4)) = true ∧ s.Writable (cjob0 false n).port 0x100 stream0.length ∧ s.Writable (cjob0 false n).port 0x400 32 ∧ (s.cmpEng 3).leaving = false ∧
      (∀ k, s.stores 0x100 stream0.length k → ¬ s.stores (cjob0 false n).rcpt 32 k)) ∧
    (∀ s, s = comp (some (cjob0 false 64 1)) (stored 0 [1, 2, 3] ram) → s.Shape ∧ (s.cmpEng 3).job = some (cjob0 false 64 1) ∧ (cjob0 false 64 1).format = 1 ∧ s.Reads (cjob0 false 64 1).port 0 4 [1, 2, 3, 0] ∧
      32 + stream0.length ≤ 64 ∧ s.Writable (cjob0 false 64 1).port 0x100 32 ∧ s.Writable (cjob0 false 64 1).port (0x100 + 32) stream0.length ∧ s.Writable (cjob0 false 64 1).port 0x400 32 ∧ (cjob0 false 64 1).hdr.length = 28 ∧ (cjob0 false 64 1).fence = none ∧
      (s.cmpEng 3).leaving = false ∧
      (∀ k, s.stores 0x100 32 k → ¬ s.stores (cjob0 false 64 1).rcpt 32 k ∧ ¬ s.stores (0x100 + 32) stream0.length k) ∧
      ∀ k, s.stores (0x100 + 32) stream0.length k → ¬ s.stores (cjob0 false 64 1).rcpt 32 k) := by
  refine ⟨fun s h => ?_, fun s h => ?_, fun n hn s h => ?_, fun s h => ?_⟩
  · subst h; exact ⟨shape_of _ (by decide +kernel), by decide +kernel⟩
  · subst h; exact ⟨shape_of _ (by decide +kernel), by decide +kernel⟩
  · rcases hn with hn | hn <;> subst hn <;>
      refine ⟨shape_of _ (by subst h; decide +kernel), by subst h; decide +kernel, by subst h; decide +kernel, by decide, by decide, reads_of _ _ _ _ _ (by subst h; decide +kernel), by decide, by decide,
        by subst h; decide +kernel, by decide +kernel, writable_of _ _ _ _ (by subst h; decide +kernel), writable_of _ _ _ _ (by subst h; decide +kernel), by subst h; decide +kernel,
        fun k => stores_apart _ _ _ _ _ k (by decide) (by decide) (by subst h; decide +kernel) (by subst h; decide +kernel) (by decide)⟩
  · exact ⟨shape_of _ (by subst h; decide +kernel), by subst h; decide +kernel, rfl, reads_of _ _ _ _ _ (by subst h; decide +kernel), by decide, writable_of _ _ _ _ (by subst h; decide +kernel),
      writable_of _ _ _ _ (by subst h; decide +kernel), writable_of _ _ _ _ (by subst h; decide +kernel), rfl, rfl, by subst h; decide +kernel,
      fun k hk => ⟨stores_apart _ _ _ _ _ k (by decide) (by decide) (by subst h; decide +kernel) (by subst h; decide +kernel) (by decide) hk,
        stores_apart _ _ _ _ _ k (by decide) (by decide) (by subst h; decide +kernel) (by subst h; decide +kernel) (by decide) hk⟩,
      fun k => stores_apart _ _ _ _ _ k (by decide) (by decide) (by subst h; decide +kernel) (by subst h; decide +kernel) (by decide)⟩

/-- A capture of strip 0 of entry 7, and a frame that has all its rows. -/
def capture0 : Capture := ⟨7, 0, 0, some 5, []⟩

theorem witness_PrintCapturesAndFrees :
    (∀ pg s, pg = 0 ∨ pg = 3072 → s = withSyn (fun y => { y with frames := [{ frame0 with bands := [] }] }) ((State.reset.setCmpEng 3 ⟨none, some capture0, false⟩).setPEntry 7 ⟨1, 0, 0, 1, pg, 0, [0, 0, 0, 0], [0], []⟩) →
      s.Shape ∧ (s.cmpEng 3).capture = some capture0 ∧ capture0.entry < 8 ∧ s.stripReady capture0 = true ∧ (s.prt.entries.map PEntry.pages).sum = pg ∧ s.takesWork (cmpPage 3) = false ∧ (s.pEntry 7).st ≠ 0 ∧ (s.pEntry 0).st = 0 ∧ (s.setPEntry 7 { s.pEntry 7 with st := 2 }).pEntry 7 ≠ s.pEntry 7) ∧
    Allowed State.reset .mgt Reg.CMP_PRINT_CMD 1 ∧ Allowed State.reset .mgt Reg.CMP_PRINT_CMD 2 := by
  refine ⟨fun pg s hp h => ?_, by decide +kernel⟩
  rcases hp with hp | hp <;> subst hp <;> subst h <;> exact ⟨shape_of _ (by decide +kernel), by decide +kernel⟩

/-! ### Block engine -/

/-- A block engine descriptor: the first word, source, destination, pitches, width, height, fill, fence addend. -/
def bdesc (c src dst sp dp w h fill : Nat) : List Byte :=
  leBytes 4 c ++ leBytes 4 9 ++ leBytes 8 src ++ leBytes 8 dst ++ leBytes 4 sp ++ leBytes 4 dp ++ leBytes 4 w ++ leBytes 4 h ++ leBytes 8 fill ++ leBytes 4 3 ++ List.replicate 12 0

/-- Queue 3 enabled, its ring at 0x1000 and its receipts at 0x400, with a descriptor in the ring. -/
def queued (d : List Byte) : State :=
  let s := put [(Reg.PAGE_CTRL blkPage, 1), (Reg.PAGE_STATUS blkPage, 1), (Reg.PAGE_CTRL (blkQPage 3), 1), (Reg.PAGE_STATUS (blkQPage 3), 1), (Reg.BLK_Q_HEAD 3, 0xFFFF), (Reg.PAGE_OWNER (Reg.page 2 8), 8)] ram
  stored (0x1000 + 64 * 15) d (s.setBqueue 3 { s.bqueue 3 with base := 0x1000, rcpt := 0x400 })

theorem queued_descriptor (d : List Byte) (s : State) (hd : (s.takesWork blkPage = true ∧ s.takesWork (blkQPage 3) = true ∧ s.rf (Reg.BLK_Q_HEAD 3) 15 0 ≠ s.rf (Reg.BLK_Q_TAIL 3) 15 0 ∧ s.blkStopped 3 = false ∧ s.blkFull 3 = false ∧
    (s.bqueue 3).ops = [] ∧ (s.bqueue 3).held = [] ∧ s.queueRuns 3 = false ∧ (parseDesc 3 (s.rf (Reg.BLK_Q_HEAD 3) 15 0) d).bad = false) ∧
    ((s.bqueue 3).base + 64 * (s.rf (Reg.BLK_Q_HEAD 3) 15 0 % 2 ^ (s.bqueue 3).size)) % 2 ^ 40 = 0x13C0 ∧
    s.allowed (some 3) 0x13C0 false = true ∧ (∀ i < 64 - 0x13C0 % 64, s.locate (0x13C0 + i) = some (0, 0x13C0 + i)) ∧ s.badLine 0 0x13C0 = false ∧ d = (List.range 64).map fun i => s.byteAt 0 (0x13C0 + i)) : s.Descriptor 3 d := by
  obtain ⟨⟨h0, h1, h2, h3, h4, h5, h6, h7, h8⟩, h9, h10, h11, h12, h13⟩ := hd
  refine ⟨h0, h1, h2, h3, h4, h5, h6, h7, h8, ?_⟩
  rw [h9]
  exact reads_of s (some 3) 0x13C0 64 d ⟨by decide, h10, h11, h12, h13⟩

theorem witness_BlockQueuesFetch :
    (∀ s, s = put [(Reg.HIF_BIFUR, 2), (Reg.PAGE_OWNER (blkQPage 3), 8)] → s.Shape ∧ Allowed s .h3 (Reg.BLK_Q_TAIL 3) 0xFFFF ∧ Allowed s .h3 (Reg.BLK_R_HEAD 3) 0xFFFF ∧ (s.bqueue 3).ops = [] ∧ (s.bqueue 3).held = [] ∧ s.queueDiscards 3 = false) ∧
    (∀ op, op = 1 ∨ op = 2 ∨ op = 3 → ∀ d s o, d = (if op = 2 then bdesc 2 0 0x5000 0 64 64 2 7 else bdesc op 0x4000 0x5000 64 64 64 2 0) → s = queued d → o = parseDesc 3 0xFFFF d →
      s.Shape ∧ s.Descriptor 3 d ∧ s.rf (Reg.BLK_Q_HEAD 3) 15 0 = 0xFFFF ∧ o.op = op) ∧
    (∀ c, c = 0 ∨ c = 4 + 255 * 2 ^ 16 → ∀ d s o, d = bdesc c 0 0 0 0 0 0 0 → s = queued d → o = parseDesc 3 0xFFFF d → s.Shape ∧ s.Descriptor 3 d ∧ s.rf (Reg.BLK_Q_HEAD 3) 15 0 = 0xFFFF ∧ s.blkRcpt 3 = 0x400 ∧ s.Writable (some 3) 0x400 32 ∧
      (c = 0 → o.op = 0 ∧ o.fence = none) ∧ (c ≠ 0 → o.op = 4 ∧ o.fence = some (255, 3)) ∧ s.rb (Reg.PAGE_OWNER (Reg.page 2 (1 + 255 / 32))) 3 = true) := by
  refine ⟨fun s h => ?_, fun op ho d s o h1 h h2 => ?_, fun c hc d s o h1 h h2 => ?_⟩
  · subst h; exact ⟨shape_of _ (by decide +kernel), by decide +kernel⟩
  · rcases ho with ho | ho | ho <;> subst ho <;> subst h2 <;> subst h <;> subst h1 <;> exact ⟨shape_of _ (by decide +kernel), queued_descriptor _ _ (by decide +kernel), by decide +kernel⟩
  · rcases hc with hc | hc <;> subst hc <;> subst h2 <;> subst h <;> subst h1 <;>
      exact ⟨shape_of _ (by decide +kernel), queued_descriptor _ _ (by decide +kernel), by decide +kernel, by decide +kernel, writable_of _ _ _ _ (by decide +kernel), by decide +kernel⟩

/-- An operation of queue 3, of two rows of 16 bytes. -/
def bop (op : Nat) : BOp := ⟨3, 0, 9, false, op, 0, none, none, 0x2000, 0x3000, 64, 64, 16, 2, 0x0807060504030201, false, none⟩

/-- A mover's run at burst `k`. -/
def brun (op k : Nat) : BRun := ⟨bop op, false, false, (0, 0), k, k, 16 * k, false, 0, none, false, false⟩

/-- Mover 1 with a run, and source bytes in memory. -/
def moving (r : Option BRun) (s : State := ram) : State :=
  (put [(Reg.BLK_MOVERS, 0x1100), (Reg.PAGE_CTRL blkPage, 1), (Reg.PAGE_STATUS blkPage, 1), (Reg.PAGE_OWNER blkPage, 0x21)] (stored 0x2040 [1, 2, 3, 0xFF] s)).setMover 1 ⟨r, false⟩

theorem witness_MoversMove :
    (∀ s, s = ({ moving none with blk := { (moving none).blk with again := [(bop 1, 0)] } } : State) → s.Shape ∧
      (List.range 2).find? (fun k => s.moverFree k && s.moverWork k) = some 1 ∧ s.blk.again.find? (fun o => o.2 != 1) = some (bop 1, 0)) ∧
    (∀ s, s = ({ (moving none).setBqueue 3 { (moving none).bqueue 3 with ops := [bop 2] } with blk := { ((moving none).setBqueue 3 { (moving none).bqueue 3 with ops := [bop 2] }).blk with last := 2 } } : State) → s.Shape ∧
      (List.range 2).find? (fun k => s.moverFree k && s.moverWork k) = some 0 ∧ s.blk.again.find? (fun o => o.2 != 0) = none ∧ (s.blk.last + 1) % 4 = 3 ∧ s.queueReady 3 = some (bop 2)) ∧
    (∀ op, op = 1 ∨ op = 2 ∨ op = 3 → ∀ s, s = moving (some (brun op 1)) → s.Shape ∧ (s.mover 1).run = some (brun op 1) ∧ (s.mover 1).leaving = false ∧ (brun op 1).over = false ∧ (s.readMem (some 3) 0x2040 16).2.denied = false ∧ (s.readMem (some 3) 0x2040 16).2.uncorr = false ∧ (s.writeMem (some 3) 0x3040 (List.replicate 16 7)).2 = false ∧
      (bop op).burstAt (bop op).direction 1 = (1, 0, 16) ∧ s.Reads (some 3) 0x2040 16 ([1, 2, 3, 0xFF] ++ List.replicate 12 0) ∧ s.Reads (some 3) 0x3040 16 (List.replicate 16 0) ∧
      (blendBytes 0 17 ([1, 2, 3, 0xFF] ++ List.replicate 12 0) (List.replicate 16 0)).length = 16 ∧ s.Writable (some 3) 0x3040 16) ∧
    (∀ s, s = moving (some { brun 2 2 with silent := true }) → (s.mover 1).run = some { brun 2 2 with silent := true } ∧ { brun 2 2 with silent := true }.over = true) ∧
    (∀ s, s = moving (some (brun 2 2)) → s.queueDiscards 3 = false ∧ (s.mover 1).run = some (brun 2 2) ∧ (brun 2 2).over = true ∧ (s.bqueue 3).ops = [] ∧ (s.bqueue 3).held = [] ∧ s.blkFull 3 = false ∧ s.blkStopped 3 = false ∧ s.Writable (some 3) (s.blkRcpt 3) 32) ∧
    (∀ s, s = moving none → Allowed s .h0 Reg.BLK_MOVERS 2 ∧ bit 2 1 = true ∧ s.rb Reg.BLK_MOVERS 1 = false ∧ bit 2 0 = s.rb Reg.BLK_MOVERS 0 ∧ (s.mover 1).run = none ∧ s.moverState 1 ≠ 4) ∧
    (∀ s, s = moving (some (brun 1 1)) → (s.mover 1).run = some (brun 1 1) ∧ (bop 1).overlaps = false ∧ s.moverState 1 ≠ 4 ∧ s.flt.windows = []) := by
  refine ⟨fun s h => ?_, fun s h => ?_, fun op ho s h => ?_, fun s h => ?_, fun s h => ?_, fun s h => ?_, fun s h => ?_⟩
  · subst h; exact ⟨shape_of _ (by decide +kernel), by decide +kernel⟩
  · subst h; exact ⟨shape_of _ (by decide +kernel), by decide +kernel⟩
  · rcases ho with ho | ho | ho <;> subst ho <;> subst h <;>
      exact ⟨shape_of _ (by decide +kernel), by decide +kernel, by decide +kernel, by decide, by decide +kernel, by decide +kernel, by decide +kernel, by decide, reads_of _ _ _ _ _ (by decide +kernel), reads_of _ _ _ _ _ (by decide +kernel), by decide +kernel, writable_of _ _ _ _ (by decide +kernel)⟩
  · subst h; decide +kernel
  · subst h; exact ⟨by decide +kernel, by decide +kernel, by decide, by decide +kernel, by decide +kernel, by decide +kernel, by decide +kernel, writable_of _ _ _ _ (by decide +kernel)⟩
  · subst h; decide +kernel
  · subst h; decide +kernel

/-! ### Memory subsystem -/

/-- A channel with parts of its state set. -/
def withChan (c : Nat) (f : DmcChan → DmcChan) (s : State) : State := s.setChan c (f (s.chan c))

/-- A DIMM of 16 GiB. -/
def dimm0 : Dimm := ⟨16, 1, 8, 16, true, 6400, 295⟩

/-- Channel 5 with a status word, its page owned by H0. -/
def chan5 (status pgState : Nat) (f : DmcChan → DmcChan) : State :=
  withChan 5 f (put [(Reg.DMC_CH_STATUS 5, status), (Reg.PAGE_OWNER (chPage 5), 0x21), (Reg.PAGE_STATUS (chPage 5), pgState), (Reg.PAGE_CTRL (chPage 5), 1)])

theorem witness_ChannelsTrain :
    (∀ s, s = chan5 0 0 id → s.Shape ∧ Allowed s .h0 (Reg.DMC_CH_CMD 5) 1 ∧ Allowed s .h0 (Reg.DMC_CH_CMD 5) 17 ∧ s.pgState (chPage 5) = 0 ∧ s.rb Reg.PWR_GATE_MISC 21 = false) ∧
    (∀ s, s = chan5 0 1 id → s.Shape ∧ Allowed s .h0 (Reg.DMC_CH_CMD 5) 1 ∧ s.pgState (chPage 5) ≠ 0) ∧
    (∀ st, st = 1 ∨ st = 2 ∨ st = 6 ∨ st = 7 ∨ st = 8 → ∀ s, s = chan5 (st * 2 ^ 28) 0 (fun c => { c with training := true }) → s.Shape ∧ (s.chan 5).training = true ∧ s.rf (Reg.DMC_CH_STATUS 5) 31 28 = st ∧
      (s.chan 5).keep = false ∧ (s.chan 5).requests = []) ∧
    (∀ s, s = chan5 (7 * 2 ^ 28) 0 (fun c => { c with training := true, keep := true }) → s.Shape ∧ (s.chan 5).training = true ∧ s.rf (Reg.DMC_CH_STATUS 5) 31 28 = 7 ∧ (s.chan 5).keep = true) ∧
    popOk [dimm0] = true ∧ popOk [dimm0, dimm0] = true ∧ [dimm0, dimm0] ≠ [] ∧
    (∀ s, s = chan5 0 6 id → s.Shape ∧ s.pgState (chPage 5) = 6 ∧ (s.chan 5).requests = []) := by
  refine ⟨fun s h => ?_, fun s h => ?_, fun st hs s h => ?_, fun s h => ?_, by decide, by decide, by decide, fun s h => ?_⟩
  · subst h; exact ⟨shape_of _ (by decide +kernel), by decide +kernel⟩
  · subst h; exact ⟨shape_of _ (by decide +kernel), by decide +kernel⟩
  · rcases hs with hs | hs | hs | hs | hs <;> subst hs <;> subst h <;> exact ⟨shape_of _ (by decide +kernel), by decide +kernel⟩
  · subst h; exact ⟨shape_of _ (by decide +kernel), by decide +kernel⟩
  · subst h; exact ⟨shape_of _ (by decide +kernel), by decide +kernel⟩

/-- Requests at an address: a read, and a write of two bytes. -/
def rq0 (a : Nat) (w : Option (List Byte)) : MemReq := ⟨.bar2, some 3, BitVec.ofNat 40 a, w⟩

/-- Subchannel B of channel 0 with what waits and what is issued. -/
def subB (q i : List Queued) (s : State := ram) : State := s.setSub 0 true { s.sub 0 true with queue := q, issued := i }

theorem witness_RequestsAreServed :
    (∀ w, w = none ∨ w = some [1, 2] → ∀ s, s = subB [] [] → s.Shape ∧ s.allowed (some 3) 0x40 w.isSome = true ∧ s.locate 0x40 = some (0, 0x40) ∧ Nat.testBit 0x40 6 = true ∧ (s.chan 0).inbox = [] ∧ (s.sub 0 true).room ⟨rq0 0x40 w, 0x40, 0, 0⟩ = true ∧
      (∀ t, t = withChan 0 (fun c => { c with inbox := [⟨rq0 0 none, 0, 0, 0⟩] }) s → t.Shape ∧ t.allowed (some 3) 0x40 w.isSome = true ∧ t.locate 0x40 = some (0, 0x40) ∧ (t.chan 0).inbox ≠ [])) ∧
    (∀ w, w = none ∨ w = some [1, 2] → ∀ s, s = subB [] [] → s.locate 0xFFFFFFFFFF = none ∧ s.allowed none 0xFFFFFFFFFF w.isSome = true ∧ s.phAllows 3 0xFFFFFFFFFF w.isSome = false) ∧
    (∀ s, s = subB [⟨rq0 0x7E (some [1, 2]), 0x7E, 0, 0⟩] [] → s.Shape ∧ s.dmcClock = true ∧ s.dueRank 0 = none ∧ s.idleRank 0 = none ∧ (s.chan 0).srDue = false ∧ (s.chan 0).inbox = [] ∧
      (s.sub 0 true).queue = [⟨rq0 0x7E (some [1, 2]), 0x7E, 0, 0⟩] ∧ s.canIssue 0 true ⟨rq0 0x7E (some [1, 2]), 0x7E, 0, 0⟩ = true ∧ 0x7E % 64 + 2 ≤ 64) ∧
    (∀ s, s = subB [⟨rq0 0x7E none, 0x7E, 0, 0⟩] [] → s.Shape ∧ s.dmcClock = true ∧ s.dueRank 0 = none ∧ s.idleRank 0 = none ∧ (s.chan 0).srDue = false ∧ (s.chan 0).inbox = [] ∧
      (s.sub 0 true).queue = [⟨rq0 0x7E none, 0x7E, 0, 0⟩] ∧ s.canIssue 0 true ⟨rq0 0x7E none, 0x7E, 0, 0⟩ = true) ∧
    (∀ n, n = 1 ∨ n = 5 → ∀ s, s = withChan 5 (fun c => { c with ranks := upd c.ranks 3 { Rank.fresh with debt := n } }) State.reset → s.Shape ∧ s.dmcClock = true ∧ (s.dueRank 5).or (s.idleRank 5) = some 3 ∧
      (s.chan 5).srDue = false ∧ (s.chan 5).inbox = []) ∧
    (∀ s, s = { State.reset with clk := { State.reset.clk with memBypass := true } } → s.dmcClock = false) ∧
    (∀ bad : Bool, ∀ s, s = subB [] [⟨rq0 0x7E none, 0x7E, 0, 0⟩] (if bad then ram.setBad 0 0x40 true else ram) → s.Shape ∧ (s.sub 0 true).issued = [⟨rq0 0x7E none, 0x7E, 0, 0⟩] ∧ (s.chan 0).inbox = [] ∧ (s.chan 0).srDue = false ∧ s.badLine 0 0x7E = bad) ∧
    (∀ pg, pg = 1 ∨ pg = 3 → ∀ s, s = chan5 0 pg (fun c => { c with replays := 15 }) → s.chLive 5 = true ∧ (s.chan 5).replays = 15) := by
  refine ⟨fun w hw s h => ?_, fun w hw s h => ?_, fun s h => ?_, fun s h => ?_, fun n hn s h => ?_, fun s h => ?_, fun b s h => ?_, fun pg hp s h => ?_⟩
  · rcases hw with hw | hw <;> subst hw <;> subst h <;>
      exact ⟨shape_of _ (by decide +kernel), by decide +kernel, by decide +kernel, by decide, by decide +kernel, by decide +kernel, fun t ht => by subst ht; exact ⟨shape_of _ (by decide +kernel), by decide +kernel⟩⟩
  · rcases hw with hw | hw <;> subst hw <;> subst h <;> decide +kernel
  · subst h; exact ⟨shape_of _ (by decide +kernel), by decide +kernel⟩
  · subst h; exact ⟨shape_of _ (by decide +kernel), by decide +kernel⟩
  · rcases hn with hn | hn <;> subst hn <;> subst h <;> exact ⟨shape_of _ (by decide +kernel), by decide +kernel⟩
  · subst h; decide +kernel
  · cases b <;> subst h <;> exact ⟨shape_of _ (by decide +kernel), by decide +kernel⟩
  · rcases hp with hp | hp <;> subst hp <;> subst h <;> decide +kernel

theorem witness_ChannelsAreKept :
    (∀ s, s = put [(Reg.DMC_CH_ADDR_LO 5, 0xFFFFF000), (Reg.DMC_CH_ADDR_HI 5, 1)] (chan5 0 1 id) → s.Shape ∧ Allowed s .h0 (Reg.DMC_CH_CMD 5) 2 ∧ s.rf (Reg.DMC_CH_ADDR_LO 5) 31 12 + 2 ^ 20 * s.rf (Reg.DMC_CH_ADDR_HI 5) 4 0 = 0x1FFFFF ∧
      (∀ e ∈ (s.chan 5).retired, e.page ≠ 0x1FFFFF)) ∧
    (∀ s, s = chan5 16 1 (fun c => { c with copies := [0, 9], retired := (List.range 255).map fun i => ⟨i + 1, false⟩ }) → s.Shape ∧ (s.chan 5).copies = [0, 9] ∧ (s.chan 5).retired.length = 255 ∧
      0 * 4096 + 4096 ≤ s.chanUsable 5 + 255 * 4096 ∧ s.chanUsable 5 + 255 * 4096 + 4096 ≤ 2 ^ 37 ∧ 1 ≤ s.rf (Reg.DMC_CH_STATUS 5) 7 0 ∧ (s.chan 5).requests = []) ∧
    (∀ s, s = chan5 16 1 (fun c => { c with copies := [0, 9], retired := (List.range 256).map fun i => ⟨i + 1, false⟩ }) → s.Shape ∧ (s.chan 5).copies = [0, 9] ∧ 256 ≤ (s.chan 5).retired.length) ∧
    (∀ s, s = put [(Reg.DMC_PD, 0x80000000)] (chan5 (16 + 0x10000) 1 id) → s.Shape ∧ s.chInService 5 = true ∧ s.chLive 5 = true ∧ s.rf (Reg.DMC_CH_STATUS 5) 19 16 = 1 ∧ (s.rank 5 0).selfRefresh = false ∧ (s.rank 5 0).cls = 0 ∧ mr4Class 3 = 1 ∧
      s.rb Reg.DMC_PD 31 = true ∧ (s.chan 5).passDone = false ∧ (s.chan 5).bad = [] ∧ (s.chan 5).requests = [] ∧ (∀ r ∈ (s.chan 5).ranks, r.selfRefresh = false) ∧ (s.chan 5).scrubPos + 64 * 1 < s.chanLines 5) ∧
    (∃ x : Int, -32768 ≤ x ∧ x < sgn 16 (State.reset.rf Reg.DMC_TS_LIMIT 15 0)) ∧ (∀ s, s = chan5 0 1 (fun c => { c with ranks := upd c.ranks 0 { Rank.fresh with base := 100 } }) → ∀ n d : Nat, n = 100 + d → (n : Int) - (s.rank 5 0).base = d) := by
  refine ⟨fun s h => ?_, fun s h => ?_, fun s h => ?_, fun s h => ?_, ⟨-32768, by decide +kernel⟩, fun s h n d hn => ?_⟩
  rotate_left 4
  · have : (s.rank 5 0).base = 100 := by subst h; decide +kernel
    omega
  · subst h; exact ⟨shape_of _ (by decide +kernel), by decide +kernel⟩
  · subst h; exact ⟨shape_of _ (by decide +kernel), by decide +kernel⟩
  · subst h; exact ⟨shape_of _ (by decide +kernel), by decide +kernel⟩
  · subst h; exact ⟨shape_of _ (by decide +kernel), by decide +kernel⟩

/-! ### Network, time and clocks -/

/-- Port 3 enabled with its link up; its page and queue owned by H0; a link partner's address. -/
def netted (f : NetPort → NetPort) (s : State := ram) : State :=
  let s := put [(Reg.PAGE_CTRL (netPage 3), 1), (Reg.PAGE_STATUS (netPage 3), 1), (Reg.NET_PORT_STATUS 3, 0x80000000), (Reg.PAGE_OWNER (netPage 3), 1), (Reg.NET_TXQ_TAIL 3, 1), (Reg.NET_IP4 3, 0x0A000001), (Reg.NET_TXQ_PARTY 3, 0)] s
  s.setNetPort 3 (f { s.netPort 3 with rcpt := 0x400 })

/-- An ARP request for 10.0.0.1, without its FCS. -/
def arp (dest : List Byte) : List Byte :=
  dest ++ [2, 0, 0, 0, 0, 9, 8, 6, 0, 1, 8, 0, 6, 4, 0, 1, 2, 0, 0, 0, 0, 9, 10, 0, 0, 2, 0, 0, 0, 0, 0, 0, 10, 0, 0, 1] ++ List.replicate 18 0

/-- A transmit descriptor of 60 bytes at 0x800. -/
def txd : List Byte := leBytes 4 60 ++ leBytes 4 9 ++ leBytes 8 0x800 ++ List.replicate 16 0
def txd0 : TxDesc := ⟨0, 9, false, 60, none, false, false, false, false, 0x800⟩

theorem withFcs_take (f : List Byte) : (withFcs f).take ((withFcs f).length - 4) = f := by simp [withFcs, leBytes]

/-- Sender 3, on port 3, in a slot. -/
def sending3 (d : Sender) : State := let s := put [(Reg.PS_CTRL 3, 0x31), (Reg.PS_UDP 3, 5), (Reg.PAGE_STATUS (Reg.page 2 0), 2)] (netted id); s.setSender 3 d

/-- An Ethernet frame of type 0x88F7 to all, without its FCS. -/
def ptpFrame : List Byte := List.replicate 6 0xFF ++ [2, 0, 0, 0, 0, 9, 0x88, 0xF7] ++ List.replicate 46 0

theorem goodFrame_of (f : List Byte) (h : 60 ≤ f.length ∧ f.length ≤ 9212 ∧ (ethParse f).tags < 2 ∧ (ethParse f).etype ≠ 0x8808) : goodFrame (withFcs f) := by
  have hl : (withFcs f).length = f.length + 4 := by simp [withFcs, leBytes]
  rw [goodFrame, withFcs_take, hl]
  exact ⟨by omega, by omega, rfl, h.2.2⟩

theorem witness_PortsSendAndReceive :
    (∀ s, s = netted id → s.Shape ∧ s.takesWork (netPage 3) = true ∧ s.netLink 3 = true ∧ s.netSends 3 = true ∧ (s.netPort 3).exc.length < 64 ∧ (s.netPort 3).sending = none ∧ (s.netPort 3).ptp = [] ∧
      s.addrTakes 3 ((arp (List.replicate 6 0xFF)).take 6) = true ∧ s.addrTakes 3 ((arp [3, 0, 0, 0, 0, 0]).take 6) = false ∧ s.addrTakes 3 (ptpFrame.take 6) = true) ∧
    (List.replicate 63 (0 : Byte)).length < 64 ∧ goodFrame (withFcs (arp (List.replicate 6 0xFF))) ∧ goodFrame (withFcs (arp [3, 0, 0, 0, 0, 0])) ∧ goodFrame (withFcs ptpFrame) ∧
    (ethParse (arp (List.replicate 6 0xFF))).etype = 0x0806 ∧ (ethParse ptpFrame).etype = 0x88F7 ∧
    (∀ s, s = netted (fun n => { n with exc := [arp (List.replicate 6 0xFF)] }) → (∃ a, s.excAnswer 3 (arp (List.replicate 6 0xFF)) = some a) ∧ s.excAnswer 3 ptpFrame = none) ∧
    (∀ s, s = put [(Reg.HIF_BIFUR, 2), (Reg.PAGE_OWNER (netPage 3), 8)] → Allowed s .h3 (Reg.NET_TXQ_TAIL 3) 0xFFFF ∧ Allowed s .h3 (Reg.NET_TXR_HEAD 3) 0xFFFF ∧ (s.netPort 3).items = [] ∧ (s.netPort 3).held = [] ∧
      s.netDiscards 3 = false) ∧
    (∀ s, s = stored 0 txd (netted id) → s.takesWork (netPage 3) = true ∧ s.txOwned 3 = true ∧ s.rf (Reg.NET_TXQ_STATUS 3) 27 24 = 0 ∧ s.txrFull 3 = false ∧ s.rf (Reg.NET_TXQ_HEAD 3) 15 0 ≠ s.rf (Reg.NET_TXQ_TAIL 3) 15 0 ∧
      (s.netPort 3).items = [] ∧
      s.Reads (some (s.txParty 3)) (((s.netPort 3).base + 32 * (s.rf (Reg.NET_TXQ_HEAD 3) 15 0 % 2 ^ (s.netPort 3).size)) % 2 ^ 40) 32 txd ∧ (txParse s.now 0 txd).bad = false) ∧
    (∀ s, s = netted (fun n => { n with mgt := [arp []] }) → (s.netPort 3).mgt = [arp []] ∧ (s.netPort 3).ptp = [] ∧ s.mayStart 3 (arp []).length = true) ∧
    (∀ s, s = stored 0x800 [1, 2] (netted fun n => { n with items := [txd0] }) → s.netSends 3 = true ∧ (s.netPort 3).mgt = [] ∧ (s.netPort 3).ptp = [] ∧ (s.netPort 3).items = [txd0] ∧ s.txrFull 3 = false ∧ s.txStopped 3 = false ∧
      s.mayStart 3 60 = true ∧ (s.readMem (some (s.txParty 3)) 0x800 60).2.denied = false ∧ (s.readMem (some (s.txParty 3)) 0x800 60).2.uncorr = false) ∧
    (∀ b : Bool, ∀ s, s = netted (fun n => { n with sending := some (txd0, 0, 0), silent := b }) → s.TxRing 3 0x400 ∧ s.Writable (some (s.txParty 3)) 0x400 32 ∧ s.rb (Reg.PAGE_CTRL (netPage 3)) 3 = false ∧ (s.netPort 3).held = [] ∧
      (s.netPort 3).items = [] ∧ (s.netPort 3).ptp = [] ∧ s.netDiscards 3 = false ∧ (s.netPort 3).silent = b) ∧
    Allowed (put [(Reg.PAGE_OWNER (Reg.page 13 0), 1)]) .h0 (Reg.PS_CTRL 3) 1 ∧
    (∀ s, s = { sending3 Sender.reset with cmt := { State.reset.cmt with last := some ⟨9, 0⟩ } } → s.cmt.last = some ⟨9, 0⟩ ∧ s.senderRuns 3 = true ∧ s.cmtRate < 10 ∧ (s.sender 3).slot ≠ some 9) ∧
    (∀ s, s = sending3 { Sender.reset with slot := some 9, packets := 25920, next := 25919, regs := [0x31] } → (∃ x, s.packetTime 3 = some x) ∧ nfld (nth 0 (s.sender 3).regs 0).toNat 5 4 = 3 ∧ s.netSends 3 = true ∧ (s.netPort 3).sending = none) ∧
    State.reset.netLink 3 = false ∧ State.reset.rb (Reg.PLL_STATUS 6) 9 = false ∧
    (∀ s, s = put [(Reg.PAGE_STATUS (netPage 3), 6)] (netted id) → s.pgState (netPage 3) = 6 ∧ s.netLink 3 = true ∧ ∀ d < 2, s.domainOn 3 d = false) ∧
    (∀ s, s = put [(Reg.TD_STATE 1, 3)] ((netted id).setDomain 1 { PtpDomain.reset with port := 3 }) → s.tdState 1 = tdLocked ∧ (s.domain 1).port = 3 ∧ s.netSends 3 = true ∧ (s.netPort 3).sending = none) ∧
    (∀ s, s = netted (fun n => { n with fec := true }) → (s.netPort 3).fec = true ∧ s.netLink 3 = true) := by
  refine ⟨fun s h => ?_, by decide, goodFrame_of _ (by decide +kernel), goodFrame_of _ (by decide +kernel), goodFrame_of _ (by decide +kernel), by decide +kernel, by decide +kernel, fun s h => ?_, fun s h => ?_,
    fun s h => ?_, fun s h => ?_, fun s h => ?_, fun b s h => ?_, by decide +kernel, fun s h => ?_, fun s h => ?_, by decide +kernel, by decide +kernel, fun s h => ?_, fun s h => ?_, fun s h => ?_⟩
  · subst h; exact ⟨shape_of _ (by decide +kernel), by decide +kernel⟩
  · exact ⟨Option.isSome_iff_exists.1 (by subst h; decide +kernel), by subst h; decide +kernel⟩
  · subst h; decide +kernel
  · have : s.takesWork (netPage 3) = true ∧ s.txOwned 3 = true ∧ s.rf (Reg.NET_TXQ_STATUS 3) 27 24 = 0 ∧ s.txrFull 3 = false ∧ s.rf (Reg.NET_TXQ_HEAD 3) 15 0 ≠ s.rf (Reg.NET_TXQ_TAIL 3) 15 0 ∧ (s.netPort 3).items = [] := by
      subst h; decide +kernel
    exact ⟨this.1, this.2.1, this.2.2.1, this.2.2.2.1, this.2.2.2.2.1, this.2.2.2.2.2, reads_of _ _ _ _ _ (by subst h; decide +kernel), by subst h; decide +kernel⟩
  · subst h; decide +kernel
  · subst h; decide +kernel
  · refine ⟨?_, writable_of _ _ _ _ ?_, ?_⟩ <;> cases b <;> subst h
    iterate 2 · exact ⟨by decide +kernel, by decide +kernel, by decide +kernel⟩
    all_goals decide +kernel
  · subst h; decide +kernel
  · exact ⟨Option.isSome_iff_exists.1 (by subst h; decide +kernel), by subst h; decide +kernel⟩
  all_goals subst h; decide +kernel

/-- The time unit enabled, with its status and control. -/
def timed (status ctrl : Nat) (l : List (Nat × Nat)) : State := put ([(Reg.PAGE_CTRL timPage, 1), (Reg.PAGE_OWNER timPage, 0x21), (Reg.TIM_STATUS, status), (Reg.TIM_CTRL, ctrl)] ++ l)

theorem witness_TimeIsKept :
    (∀ st, st = 1 ∨ st = 2 ∨ st = 3 ∨ st = 4 → ∀ s, s = timed 0 0 [(Reg.TD_STATE 1, st)] → s.Shape ∧ s.tdState 1 = st) ∧ State.reset.tdState 0 = tdDisabled ∧
    (∀ s, s = put [(Reg.TD_STATE 1, 5)] (put [(Reg.PAGE_STATUS (netPage 3), 6)] ((netted id).setDomain 1 { PtpDomain.reset with port := 3 })) → s.Shape ∧ s.portReturns 1 = true) ∧
    (∀ n, n = 999999999 ∨ n = 1000000000 → ∀ s, s = timed 0 0 [(Reg.TIM_SET_NS, n)] → s.Shape ∧ Allowed s .h0 Reg.TIM_CMD 1 ∧ s.rf Reg.TIM_SET_NS 29 0 = n) ∧
    (∀ s, s = timed 0 0 [] → Allowed s .h0 Reg.TIM_CMD 2 ∧ Allowed s .h0 Reg.TIM_CMD 3 ∧ Allowed s .h0 Reg.TIM_CMD 4 ∧ Allowed s .h0 Reg.TIM_CMD 5 ∧ (0 : Int) ≤ s.now + sgn 64 (s.pair64 Reg.TIM_STEP_LO) * nsUnit ∧
      s.timOn = true ∧ s.autonomous = true) ∧
    (∀ st, st = 2 ∨ st = 3 → ∀ s, s = timed 0 0 [(Reg.TD_STATE 1, st)] → (s.tdState (1 - s.steer) = tdLocked ↔ st = 3)) ∧
    (∀ s, s = timed 5 0x10 [] → s.Shape ∧ Allowed s .h0 Reg.TIM_INCREMENT (wd (0xFFFFFFFFFFFF#48).toNat) ∧ Allowed s .h0 Reg.TIM_RATE_LO (wd (0xFFFFFFFFFFFF#48).toNat) ∧ Allowed s .h0 Reg.TIM_RATE_HI (wd ((0xFFFFFFFFFFFF#48).toNat / 2 ^ 32)) ∧
      s.autonomous = false ∧ s.timOn = true ∧ s.sstate = ssHost) ∧
    (∀ s, s = timed 0 0x1000 [(Reg.TIM_PPS_OUT_CTRL, 1), (Reg.TIM_PPS_IN_CTRL, 1)] → s.Shape ∧ s.rb Reg.TIM_PPS_OUT_CTRL 0 = true ∧ s.rb Reg.TIM_PPS_IN_CTRL 0 = true ∧ s.srcPps = true) ∧
    (∀ s, s = timed 0 0 [(Reg.TIM_PPS_IN_CTRL, 1)] → s.rb Reg.TIM_PPS_IN_CTRL 0 = true ∧ s.srcPps = false ∧ s.rb Reg.TIM_PPS_IN_CTRL 1 = false ∧ s.rb Reg.TIM_PPS_OUT_CTRL 0 = false ∧
      ({ s with tim := { s.tim with ppsOut := true } } : State).tim.ppsOut = true) := by
  refine ⟨fun st hs s h => ?_, by decide +kernel, fun s h => ?_, fun n hn s h => ?_, fun s h => ?_, fun st hs s h => ?_, fun s h => ?_, fun s h => ?_, fun s h => ?_⟩
  · rcases hs with hs | hs | hs | hs <;> subst hs <;> subst h <;> exact ⟨shape_of _ (by decide +kernel), by decide +kernel⟩
  · subst h; exact ⟨shape_of _ (by decide +kernel), by decide +kernel⟩
  · rcases hn with hn | hn <;> subst hn <;> subst h <;> exact ⟨shape_of _ (by decide +kernel), by decide +kernel⟩
  · subst h; decide +kernel
  · rcases hs with hs | hs <;> subst hs <;> subst h <;> decide +kernel
  · subst h; exact ⟨shape_of _ (by decide +kernel), by decide +kernel⟩
  · subst h; exact ⟨shape_of _ (by decide +kernel), by decide +kernel⟩
  · subst h; decide +kernel

/-- Clocks with references enabled, in states `ref`, PLL 7 in state `ls`, its page and that of the outputs owned by H0. -/
def clocked (ref ls : Nat) (l : List (Nat × Nat)) : State :=
  put ([(Reg.CLK_REF_CTRL, 0x101), (Reg.CLK_REF_STATUS, ref * 0x101), (Reg.PLL_STATUS 7, ls), (Reg.PAGE_OWNER (pllPage 7), 1), (Reg.PAGE_OWNER (pllPage 1), 1), (Reg.PAGE_OWNER (Reg.page 15 9), 1), (Reg.PAGE_STATUS (pllPage 7), 1)] ++ l)

theorem witness_ClocksFollowAndRelock :
    (∀ ref, ref = 0 ∨ ref = 3 ∨ ref = 4 → ∀ s, s = clocked ref 0 [] → s.Shape ∧ s.refOn 0 = true ∧ s.refOn 1 = true ∧ s.refState 1 = ref ∧ s.refState 0 = ref ∧ (0 : Int).natAbs ≤ s.rf Reg.CLK_REF_TOL 11 0 * 256) ∧ (∃ ppm : Int, (clocked 4 0 []).rf Reg.CLK_REF_TOL 11 0 * 256 < ppm.natAbs) ∧
    (∀ ls, ls = 1 ∨ ls = 2 ∨ ls = 5 → ∀ s, s = clocked 0 ls [(Reg.PLL_REF_OFFSET 7, 0xFFFFFFFF)] → s.Shape ∧ Allowed s .h0 (Reg.PLL_OFFSET 7) 0x80000 ∧ Allowed s .h0 (Reg.PLL_CMD 7) 1 ∧ Allowed s .h0 (Reg.PLL_CMD 7) 2 ∧
      s.lstate 7 = ls ∧ (2 ≤ ls → s.pllRuns 7 = true) ∧ sgn 32 (s.rn (Reg.PLL_REF_OFFSET 7)) ≠ 0 ∧ (s.pll 7).base < 8 ∧ s.inService (pllPage 7) = true ∧ Allowed s .h0 (Reg.PLL_DITHER 7) 0 ∧
      Allowed s .h0 (Reg.OUT_CTRL 7) 0x43 ∧ fld 0x43 7 4 = 4 ∧ fld 0x43 1 0 ≠ 0 ∧ Allowed s .h0 Reg.CLK_OUT_SYNC 0xFF01 ∧ fld 0xFF01 1 0 = 1) ∧
    (∀ s, s = { clocked 0 5 [] with clk := { (clocked 0 5 []).clk with memBypass := true } } → s.clk.memBypass = true ∧ s.coreActive = 0) ∧
    (∀ s, s = clocked 0 5 [] → s.lstate 7 = lsSlewing ∧ (s.pll 7).base < 8) := by
  refine ⟨fun ref hr s h => ?_, ⟨2 ^ 21, by decide +kernel⟩, fun ls hl s h => ?_, fun s h => by subst h; decide +kernel, fun s h => by subst h; decide +kernel⟩
  · rcases hr with hr | hr | hr <;> subst hr <;> subst h <;> exact ⟨shape_of _ (by decide +kernel), by decide +kernel⟩
  · rcases hl with hl | hl | hl <;> subst hl <;> subst h <;> exact ⟨shape_of _ (by decide +kernel), by decide +kernel⟩

/-! ### Faults and the service die -/

theorem witness_FaultsAreRaisedAndCleared :
    (∀ s, s = State.reset ∨ s = ({ State.reset with svc := { State.reset.svc with queued := some (List.replicate 32 1) } } : State) → ∀ img, s.svc.queued = some img → img.length = 32) ∧
    (∃ r : Report, r.src = 481 ∧ 21 ≤ r.lo.toNat % 256) ∧ (∃ r : Report, r.src = 261 ∧ bit r.lo 31 = true) ∧
    (put [(Reg.GEO_LOAD_STATUS, 2)]).tabState .geo = tabReady ∧ (put [(Reg.TON_LOAD_STATUS, 2)]).tabState .ton = tabReady ∧ (State.reset.setPEntry 7 ⟨1, 0, 0, 1, 0, 0, [], [0], []⟩).pEntry 7 ≠ PEntry.free ∧
    (∀ src ∈ [0, 13, 40, 481, 511], ((⟨src, 0, 0, [], false⟩ : Report) ∈ [(⟨src, 0, 0, [], false⟩ : Report)]) ∧ (src < 511 → (baseClass src).isSome = true ∧ (baseClass src ≠ some 1 ∨ State.reset.fltLasting src = false))) ∧
    baseClass 13 = some 3 ∧ baseClass 40 = some 1 ∧ srcLoc fltRanges 40 = some (Reg.page 4 0, 0) ∧
    (∀ r : Report, r = ⟨131, 0, 0, [], false⟩ → ∀ s, s = put [(Reg.PAGE_STATUS (Reg.page 5 26), 1)] → baseClass r.src = some 2 ∧ srcUnit r = some (.slice 25) ∧ unitPage (.slice 25) = some (Reg.page 5 26) ∧ s.pgState (Reg.page 5 26) ≠ stFenced ∧ s.flt.windows = []) ∧
    (∀ s, s = ({ State.reset with flt := { State.reset.flt with windows := [⟨1, [], false⟩, ⟨2, [.slice 25], true⟩] } } : State) → s.flt.windows.eraseIdx 1 = [⟨1, [], false⟩]) ∧
    Allowed State.reset .mgt (Reg.FLT_PEND 15) 0xFFFFFFFF ∧
    Allowed State.reset .mgt Reg.FLT_INJECT (wd (0x80000000 + 33)) ∧ bit (wd (0x80000000 + 33)) 31 = true ∧ baseClass (fld (wd (0x80000000 + 33)) 8 0) = some 2 ∧
    Allowed State.reset .dbg Reg.FLT_INJECT (wd (0x80000000 + 13)) ∧ baseClass (fld (wd (0x80000000 + 13)) 8 0) = some 3 ∧ Allowed State.reset .mgt Reg.FLT_INJECT (wd (0x80000000 + 13)) ∧
    Allowed State.reset .mgt Reg.FLT_INJECT (wd (0x80000000 + 511)) ∧ baseClass (fld (wd (0x80000000 + 511)) 8 0) = none ∧ Allowed State.reset .mgt Reg.FLT_INJECT 0 ∧ bit 0 31 = false ∧
    Allowed State.reset .mgt Reg.FLT_FF_VALID 1 ∧ Allowed State.reset .mgt Reg.FLT_LOG_RD 63 ∧ Allowed State.reset .mgt Reg.FLT_READY 1 ∧ Allowed State.reset .mgt Reg.FLT_READY 0 ∧
    State.reset.computeOn = true ∧ State.reset.svc.computeLost = false ∧ State.reset.pgState panelPage ≠ stFenced ∧ ownSource (.slice 25) = some 131 := by
  refine ⟨fun s h img hi => ?_, ⟨⟨481, 255, 0, [], false⟩, by decide⟩, ⟨⟨261, 0x80000000, 0, [], false⟩, by decide⟩, by decide +kernel, by decide +kernel, by decide +kernel, by decide +kernel, by decide +kernel, by decide +kernel,
    by decide +kernel, fun r h s h' => ?_, fun s h => by subst h; rfl, by decide +kernel⟩
  · rcases h with h | h <;> subst h <;> cases hi
    rfl
  · subst h; subst h'; decide +kernel

/-- The service die with parts of its state set. -/
def withSvc (f : Svc → Svc) (s : State) : State := { s with svc := f s.svc }

/-- A panel run. -/
def prun (kind : PanelKind) (todo : List Nat) (rw : Bool) : PanelRun := ⟨kind, List.replicate 32 1, List.replicate 32 0, todo, rw, 0, []⟩

theorem witness_PanelIsDriven :
    (∀ n ∈ [1, 2, 3], Allowed State.reset .mgt Reg.SVC_PANEL_CMD (wd n)) ∧ State.reset.panelOn = true ∧ State.reset.panelFree = true ∧ (put [(Reg.PAGE_CTRL panelPage, 0)]).panelOn = false ∧ State.reset.svc.computeLost = false ∧ State.reset.svcRuns = true ∧
    (∀ s, s = withSvc (fun v => { v with computeLost := true }) State.reset → ∀ n ∈ [1, 2, 3], Allowed s .mgt Reg.SVC_PANEL_CMD (wd n)) ∧
    (withSvc (fun v => { v with run := some (prun .refresh [3] false) }) State.reset).svc.run.isSome = true ∧
    (∀ s, s = withSvc (fun v => { v with run := some (prun .update [0, 5] false) }) State.reset → s.svc.run = some (prun .update [0, 5] false) ∧ s.svc.powerFail = false ∧ s.pgState panelPage ≤ stRun) ∧
    (∀ s, s = withSvc (fun v => { v with run := some (prun .update [5] true) }) State.reset → s.svc.run = some (prun .update [5] true) ∧ (prun .update [5] true).image.length = 32 ∧ s.svc.powerFail = false ∧ s.svc.queued = none ∧ s.svc.reloadDue = false ∧ s.svc.pixelDue = false ∧
      s.svc.refreshDue = false ∧ s.pgState panelPage ≤ stRun) ∧
    (∀ s, s = withSvc (fun v => { v with run := some (prun .update [5] true), powerFail := true }) State.reset → s.svc.run = some (prun .update [5] true) ∧ s.svc.powerFail = true) ∧
    (put [(Reg.SVC_REFRESH, 0)]).rf Reg.SVC_REFRESH 15 0 = 0 ∧ (put [(Reg.SVC_REFRESH, 1)]).rf Reg.SVC_REFRESH 15 0 ≠ 0 ∧ (put [(Reg.SVC_REFRESH, 1)]).svc.queued = none ∧ State.reset.svc.reloadDue = false ∧ State.reset.svc.pixelDue = false ∧
    (put [(Reg.SVC_PANEL_CTRL, 0)]).rb Reg.SVC_PANEL_CTRL 1 = false ∧ (put [(Reg.SVC_PANEL_CTRL, 7)]).rb Reg.SVC_PANEL_CTRL 1 = true ∧ (put [(Reg.SVC_PANEL_CTRL, 7)]).panelOn = true ∧
    imageOk (withCrc16 (List.replicate 30 0)) = true ∧ imageOk (List.replicate 32 1) = false ∧
    (put [(Reg.SVC_PANEL_CTRL, 7)]).svc.powered = true ∧ (put [(Reg.SVC_PANEL_CTRL, 7)]).rb Reg.SVC_PANEL_CTRL 2 = true ∧ (put [(Reg.SVC_PANEL_CTRL, 7)]).enabled panelPage = true ∧ (put [(Reg.SVC_PANEL_CTRL, 7)]).svcRuns = true ∧
    (put [(Reg.SVC_PANEL_CTRL, 7), (Reg.SVC_CRACK_LIMIT, 5)]).rf Reg.SVC_CRACK_LIMIT 15 0 < min 65535 6 := by
  refine ⟨by decide +kernel, by decide +kernel, by decide +kernel, by decide +kernel, by decide +kernel, by decide +kernel, fun s h => ?_, by decide +kernel, fun s h => ?_, fun s h => ?_, fun s h => ?_, by decide +kernel⟩ <;> subst h <;> decide +kernel

theorem witness_ServiceDieAnswers :
    (∃ s v, s = put [(Reg.SVC_NTC_BIAS, 1000), (Reg.SVC_NTC_PARAM_0, 0x0FA003E8)] ∧ ntcValid (s.ntcRatio v) = true ∧ (ntcTemp (s.ntcRatio v) (s.rf Reg.SVC_NTC_PARAM_0 15 0) (s.rf Reg.SVC_NTC_PARAM_0 31 16)).isSome = true) ∧
    ntcValid (State.reset.ntcRatio 0) = false ∧ State.reset.svcRuns = true ∧ (withSvc (fun v => { v with powered := false }) State.reset).svc.powered = false ∧
    (∀ s, s = withSvc (fun v => { v with run := some (prun .restore [3] false) }) State.reset → s.svc.powered = true ∧ s.restoring = true ∧ s.smbUp = false) ∧
    (∀ s, s = put [(Reg.PAGE_OWNER storePage, 0x21), (Reg.SVC_STORE_ADDR, 0x400)] → Allowed s .mgt Reg.SVC_STORE_CMD 1 ∧ Allowed s .mgt Reg.SVC_STORE_CMD 2 ∧ s.svc.storeOp = none ∧ areaOf .mgt (s.rf Reg.SVC_STORE_ADDR 11 4 * 16) = true) ∧
    (∀ s, s = put [(Reg.PAGE_OWNER storePage, 0x21), (Reg.SVC_STORE_ADDR, 0x3FF)] → Allowed s .mgt Reg.SVC_STORE_CMD 2 ∧ areaOf .mgt (s.rf Reg.SVC_STORE_ADDR 11 4 * 16) = false) ∧
    (∀ w : Bool, ∀ s, s = withSvc (fun v => { v with storeOp := some ⟨w, 0x20, if w then [1, 2] else []⟩, storeBad := [7] }) State.reset → s.svc.storeOp = some ⟨w, 0x20, if w then [1, 2] else []⟩ ∧ s.svc.storeBad.contains (0x20 / 16) = false ∧ 0x20 % 16 = 0 ∧ 0x10 ≤ 0x20 ∧ s.smbUp = true ∧
      (∀ u ∈ s.svc.storeBad, u < 0x20 / 16 ∨ 0x20 + 32 ≤ u * 16) ∧ (7 : Nat) ∈ s.svc.storeBad ∧ 0x70 / 16 ≤ 7 ∧ 7 * 16 < 0x70 + 32) ∧
    (withSvc (fun v => { v with storeOp := some ⟨false, 0x20, []⟩, storeBad := [2] }) State.reset).svc.storeBad.contains (0x20 / 16) = true ∧
    (∀ b : Bool, ∀ s, s = withSvc (fun v => { v with waitVhold := true, store := [(0x80, if b then 1 else 0)] }) State.reset → s.svc.waitVhold = true ∧ (s.storeByte 0x80).getLsbD 0 = b) ∧
    (∀ s, s = withSvc (fun v => { v with events := [2047, 1], alert := true }) State.reset → s.smbUp = true ∧ s.svc.events = [2047, 1] ∧ s.svc.alert = true) ∧
    State.reset.smbUp = true ∧ (wd 0xFFC).toNat = 4 * 0x3FF ∧ ({ State.reset with pwr := { State.reset.pwr with state := 2 } } : State).computeOn = false ∧
    State.reset.pecOk (some true) = true ∧ State.reset.pecOk (some false) = false ∧ Allowed (put [(Reg.PAGE_OWNER panelPage, 0x10)]) .bmc Reg.SVC_CRACK_LIMIT 5 ∧ Allowed (put [(Reg.PAGE_OWNER panelPage, 0x10)]) .bmc Reg.SVC_PANEL_CMD 1 ∧
    State.reset.pwr.move = .none ∧ State.reset.pwr.state = 1 ∧ State.reset.svc.computeLost = false ∧ areaOf .bmc (0xBF0#16).toNat = true ∧ (0xBF0#16).toNat % 16 = 0 := by
  refine ⟨⟨_, 900000, rfl, by decide +kernel⟩, by decide +kernel, by decide +kernel, by decide +kernel, fun s h => ?_, fun s h => ?_, fun s h => ?_, fun w s h => ?_, by decide +kernel, fun b s h => ?_, fun s h => ?_, by decide +kernel⟩
  · subst h; decide +kernel
  · subst h; decide +kernel
  · subst h; decide +kernel
  · cases w <;> subst h <;> decide +kernel
  · cases b <;> subst h <;> decide +kernel
  · subst h; decide +kernel

/-! ### Calibration -/

/-- A calibration run in a phase, at a measurement count. -/
def crun (kind phase count misses : Nat) (resent : Bool) (mask : List Nat) : CalRun :=
  ⟨kind, mask, mask, count, 0x1FF, resent, misses, [], [], [], [], phase, false, none, none⟩

/-- The calibration page enabled in a state; region 5's group in DATA with its back channel, and its lock. -/
def calibrated (r : Option CalRun) (st : Nat) (l : List (Nat × Nat) := []) (s : State := State.reset) : State :=
  let s := put ([(Reg.PAGE_CTRL calPage, 1), (Reg.PAGE_STATUS calPage, st), (Reg.CAL_CTRL, 1), (Reg.PAGE_CTRL (Reg.page 3 6), 1), (Reg.PLK_GRP_STATUS 5, 8), (Reg.PLK_GRP_BC_STATUS 5, 0x80000000), (Reg.CAL_MISS_MAX, 3)] ++ l) s
  (withGrp 5 (fun g => { g with lock := true }) s).setCalRun r

theorem witness_CalibrationRuns :
    (∀ kind, kind = 1 ∨ kind = 2 ∨ kind = 3 ∨ kind = 4 → ∀ s, s = calibrated none 1 → Allowed s .mgt Reg.CAL_CMD (wd (1 + kind * 16 + 32 * 65536)) ∧ s.enabled calPage = true ∧ s.rb Reg.CAL_CTRL 0 = true ∧ s.pgState calPage = stIdle ∧
      s.cal.run = none ∧ ((List.range 6).filter fun t => Nat.testBit 32 t) = [5] ∧ [5].all (fun t => s.regionReady t) = true) ∧
    (∀ kind, kind = 0 ∨ kind = 5 → Allowed State.reset .mgt Reg.CAL_CMD (wd (1 + kind * 16 + 32 * 65536))) ∧ State.reset.enabled calPage = false ∧
    (∀ s, s = calibrated (some (crun 1 0 0 0 false [5])) 2 → Allowed s .mgt Reg.CAL_CMD 2 ∧ s.cal.run = some (crun 1 0 0 0 false [5])) ∧
    (∀ r, r = crun 1 0 1433 2 false [5] ∨ r = crun 1 0 0 3 true [5] → ∀ s, s = calibrated (some r) 2 → (s.grp 5).lock = true ∧ r.mask.all (fun t => s.regionReady t) = true ∧ s.answerFor 5 0xFF 1 = some r ∧ s.rf Reg.CAL_MISS_MAX 7 0 = 3 ∧ r.count + 1 < 1435) ∧
    (∀ r, r = crun 2 0 4303 2 false [5] → ∀ s, s = calibrated (some r) 2 → (s.grp 5).lock = true ∧ r.mask.all (fun t => s.regionReady t) = true ∧ s.answerFor 5 0xFF 2 = some r ∧ r.misses ≤ s.rf Reg.CAL_MISS_MAX 7 0 ∧ r.count + 1 < 4305) ∧
    (∀ b : Bool, ∀ r, r = crun 1 0 1433 2 b [5] → ∀ s, s = calibrated (some r) 2 → s.cal.run = some r ∧ r.left = [5] ∧ s.mgtRuns = true ∧ r.mask.all (fun t => s.regionReady t) = true ∧ r.misses + 1 ≤ s.rf Reg.CAL_MISS_MAX 7 0 ∧ r.count + 1 < regionMeasures r.kind) ∧
    (∀ k, k = 1 ∨ k = 2 → ∀ s, s = calibrated (some (crun k 1 0 0 false [5])) 2 → s.cal.run = some (crun k 1 0 0 false [5]) ∧ s.mgtRuns = true ∧ [5].all (fun t => s.regionReady t) = true) ∧
    (∀ s, s = calibrated (some (crun 2 2 0 0 false [0])) 2 → s.cal.run = some (crun 2 2 0 0 false [0]) ∧ [0].all (fun t => s.regionReady t) = false) ∧
    (∀ s, s = calibrated (some (crun 2 2 0 0 false [5])) 2 [((calKind 2).ident + 4, 0x43410000)] → s.pair64 (calKind 2).ident = s.calIdent ∧ s.mgtRuns = true ∧ [5].all (fun t => s.regionReady t) = true) ∧
    (∀ s, s = calibrated (some (crun 1 3 0 0 false [5])) 2 → s.cal.slots.length = 2 ∧ s.mgtRuns = true ∧ [5].all (fun t => s.regionReady t) = true) ∧
    (∀ s, s = calibrated (some (crun 3 0 0 0 false [])) 2 [(Reg.SVC_VREF, 0x80000000), (Reg.CAL_VREF_NOMINAL, 1000000)] → s.mgtRuns = true ∧ s.rb Reg.SVC_VREF 31 = true ∧
      ((rdiv ((s.rf Reg.CAL_VREF_NOMINAL 20 0 * 32768 : Nat) : Int) ((1000001 : Nat) : Int)).toNat : Int) = 32768) ∧
    State.reset.rb Reg.SVC_VREF 31 = false ∧
    (∃ osc : Int, osc.natAbs = 30000) ∧ (∃ osc : Int, 30000 < osc.natAbs) ∧
    (∀ f s, f = { frame0 with ended := true, light := [(24479, 7)] } → s = ({ withSyn (fun y => { y with frames := [f] }) ram with cal := { State.reset.cal with counting := true } } : State) → s.cal.counting = true ∧ s.mgtRuns = true ∧
      s.syn.frames.find? (fun f => f.ended && !f.light.isEmpty) = some f ∧ f.light = [(24479, 7)] ∧ s.Reads none (s.doseAddr 24479) 4 [0, 0, 0, 0]) ∧
    State.reset.cal.counting = false := by
  refine ⟨fun kind hk s h => ?_, fun kind hk => ?_, by decide +kernel, fun s h => ?_, fun r hr s h => ?_, fun r hr s h => ?_, fun b r hr s h => ?_, fun k hk s h => ?_, fun s h => ?_, fun s h => ?_, fun s h => ?_, fun s h => ?_, by decide +kernel,
    ⟨-30000, rfl⟩, ⟨30001, by decide⟩, fun f s hf h => ?_, rfl⟩
  · rcases hk with hk | hk | hk | hk <;> subst hk <;> subst h <;> decide +kernel
  · rcases hk with hk | hk <;> subst hk <;> decide +kernel
  · subst h; decide +kernel
  · rcases hr with hr | hr <;> subst hr <;> subst h <;> decide +kernel
  · subst hr; subst h; decide +kernel
  · cases b <;> subst hr <;> subst h <;> decide +kernel
  · rcases hk with hk | hk <;> subst hk <;> subst h <;> decide +kernel
  · subst h; decide +kernel
  · subst h; decide +kernel
  · subst h; decide +kernel
  · subst h; decide +kernel
  · subst hf; subst h; exact ⟨rfl, by decide +kernel, by decide +kernel, rfl, reads_of _ _ _ _ _ (by decide +kernel)⟩

/-! ### Boot, keys and debug unlock -/

/-- The security block with parts of its state set. -/
def withSec (f : Sec → Sec) (s : State := State.reset) : State := { s with sec := f s.sec }

/-- A flash with a valid directory, slots A active. -/
def flash0 : FlashImage := { FlashImage.erased with dir0 := dirBytes 0 0 0 }

/-- Erased configuration slots all read alike. -/
theorem candidate_erased (s : State) (h : ∀ i, (s.flash i).cfgA = [] ∧ (s.flash i).cfgB = []) (c : Nat × Nat) : s.candidate true c = flashImage FlashImage.erased true 0 := by
  have := h c.2
  simp only [State.candidate, flashImage, flashSlot, this.1, this.2, if_true, ite_self, FlashImage.erased]

/-- Running firmware under root 1 with SVN 5. -/
def fw0 : BootImage := ⟨0, 0, [], 1, 5, 1⟩

/-- A panel image that waits has 32 bytes where none waits. -/
theorem no_image (s : State) (h : s.svc.queued = none) : ∀ img, s.svc.queued = some img → img.length = 32 := fun _ h' => by rw [h] at h'; cases h'

theorem witness_BootAndKeys :
    (∀ img, State.reset.svc.queued = some img → img.length = 32) ∧
    (∀ s, s = withSec (fun x => { x with flash := [flash0, FlashImage.erased] }) → s.directory = some (0, 0, 0) ∧ (∀ c, s.cfgOk c = false) ∧ s.sec.fuses.field = false) ∧
    (∀ s, s = withSec (fun x => { x with upd := some ⟨5, false, 0, 4⟩ }) → s.sec.upd.isSome = true ∧ s.updImage ⟨5, false, 0, 4⟩ = (s, [], 3) ∧ s.sec.flash.length = 2) ∧
    (∀ s, s = withSec (fun x => { x with fw := some fw0, fuses := { x.fuses with svn := 3 } }) (put [(Reg.SEC_FW_SVN, 5)]) → Allowed s .mgt Reg.SEC_SVN_COMMIT 5 ∧ fld 5 6 0 ≤ s.rn Reg.SEC_FW_SVN ∧ s.sec.fuses.svn ≤ fld 5 6 0 ∧ s.sec.burn = none ∧
      Allowed s .mgt Reg.SEC_SVN_COMMIT 6 ∧ s.rn Reg.SEC_FW_SVN < fld 6 6 0 ∧ Allowed s .mgt Reg.SEC_SVN_COMMIT 2 ∧ fld 2 6 0 < s.sec.fuses.svn ∧
      Allowed s .mgt Reg.SEC_REVOKE 0x3D ∧ s.sec.fw = some fw0 ∧ (fld 0x3D 3 0).testBit fw0.root = false ∧ (s.sec.fuses.rootRevoke ||| fld 0x3D 3 0) ≠ 15 ∧
      Allowed s .mgt Reg.SEC_REVOKE 2 ∧ (fld 2 3 0).testBit fw0.root = true ∧ Allowed s .mgt Reg.SEC_REVOKE 0 ∧ fld 0 3 0 = 0) ∧
    (∀ s, s = withSec (fun x => { x with burn := some (.svn 5) }) → s.sec.burn = some (.svn 5) ∧ s.sec.fuses.holds (.svn 5) = false) ∧
    (withSec fun x => { x with att := some [] }).sec.att = some [] ∧
    State.reset.computeOn = true ∧ State.reset.sec.fw = none ∧ State.reset.sec.halted = false ∧ State.reset.mgtLost = false ∧ State.reset.directory = none ∧ (withSec fun x => { x with halted := true }).sec.halted = true ∧
    Allowed State.reset .mgt Reg.SEC_UPD_CMD (wd 1) ∧ Allowed State.reset .mgt Reg.SEC_UPD_CMD (wd 2) ∧ State.reset.sec.upd = none ∧
    (withSec fun x => { x with fuses := { x.fuses with rootRevoke := 7 } }).sec.fuses.rootRevoke ||| fld 8 3 0 = 15 ∧
    (∀ n ∈ [1, 2, 3, 4], Allowed State.reset .mgt Reg.SEC_PROVISION (wd n)) ∧ (withSec fun x => { x with fuses := { x.fuses with integrator := 1 } }).sec.fuses.integrator ≠ 0 ∧ State.reset.sec.fuses.integrator = 0 ∧
    (withSec fun x => { x with fuses := { x.fuses with field := true } }).sec.fuses.field = true ∧ Allowed State.reset .h0 Reg.SEC_ATT_CMD 1 ∧ State.reset.sec.att = none ∧ Allowed State.reset .dbg Reg.SEC_DBG_CMD 1 ∧
    State.reset.rf Reg.SEC_DBG_STATUS 9 8 ≠ 3 ∧ (put [(Reg.SEC_DBG_STATUS, 0x302)]).rf Reg.SEC_DBG_STATUS 9 8 = 3 ∧ Allowed (put [(Reg.SEC_DBG_STATUS, 0x302)]) .dbg Reg.SEC_DBG_CMD 1 ∧ Allowed State.reset .dbg Reg.SEC_DBG_CMD 2 := by
  refine ⟨no_image _ rfl, fun s h => ⟨?_, fun c => ?_, ?_⟩, fun s h => ?_, fun s h => ?_, fun s h => ?_, rfl, by decide +kernel⟩ <;> subst h
  · decide +kernel
  · rw [State.cfgOk, candidate_erased _ (fun i => by rcases i with _ | _ | i <;> exact ⟨rfl, rfl⟩)]
    decide +kernel
  · rfl
  · exact ⟨rfl, rfl, rfl⟩
  all_goals decide +kernel

theorem witness_PolicyLimitsDebug :
    (∀ s, s = put [(Reg.HIF_SEAL, 1)] → s.sealed = true ∧ s.reaches .h0 = true) ∧
    (∀ v ∈ [(0 : Nat), 3], Allowed State.reset .mgt Reg.SEC_DBG_POLICY (wd v)) ∧ min 2 ((wd 0).toNat % 4) < State.reset.dbgLevel ∧ State.reset.dbgLevel ≤ min 2 ((wd 3).toNat % 4) ∧ Allowed State.reset .dbg Reg.SEC_DBG_CMD 3 := by
  refine ⟨fun s h => by subst h; decide +kernel, by decide +kernel⟩

/-! ### Power and debug -/

/-- The power controller in a state and a move. -/
def powered (st : Nat) (m : PwrMove) (s : State := State.reset) : State := { s with pwr := { s.pwr with state := st, move := m } }

theorem witness_PowerAndManagement :
    (∀ img, State.reset.svc.queued = some img → img.length = 32) ∧
    (∀ st, st = 0 ∨ st = 1 → ∀ s, s = powered st .none (put [(Reg.FLT_READY, 1)]) → Allowed s .mgt Reg.PWR_CMD 1 ∧ Allowed s .mgt Reg.PWR_CMD 2 ∧ s.pwr.state = st ∧ s.pwr.move = .none ∧ s.rb Reg.FLT_READY 0 = true) ∧
    (∀ s, s = powered 0 .toHold → s.pwr.move = .toHold ∧ s.cmt.latched = none) ∧
    (∀ s, s = powered 1 .none (put [(Reg.PWR_CTRL, 1)]) → s.Shape ∧ s.rb Reg.PWR_CTRL 0 = true ∧ s.pwr.state = 1 ∧ s.pwr.move = .none) ∧ (∀ s, s = powered 1 .toStandby → s.pwr.move = .toStandby ∧ s.mgtRuns = true) ∧
    (∀ s, s = ({ State.reset with pwr := { State.reset.pwr with gatesOpening := [(0, 25)] } } : State) → ((0, 25) : Nat × Nat) ∈ s.pwr.gatesOpening ∧ s.pwr.stored = []) ∧
    (∃ e, railEnable 2 = some e ∧ State.reset.pwr.enables.testBit e = true ∧ State.reset.pwr.good.testBit e = true) ∧
    (∀ s, s = ram → s.Reads none (s.postbox + 0x8FFFF) 1 [0] ∧ s.Writable none (s.postbox + 0x8FFFF) 1 ∧ s.Writable none (s.postbox + 65536 * 1) 32 ∧ s.mgtRuns = true) ∧
    (powered 2 (.powerUp 4)).pwr.move = .powerUp (3 + 1) ∧ (powered 2 (.powerUp 5)).pwr.move = .powerUp 5 ∧ (powered 1 (.powerDown 0)).pwr.move = .powerDown 0 ∧ (powered 2 .none).mgtRuns = false ∧
    State.reset.rb Reg.FLT_READY 0 = false ∧ State.reset.computeOn = true ∧ State.reset.pwr.move ≠ .toStandby ∧ Allowed State.reset .mgt Reg.PWR_RESET 1 ∧ State.reset.dbgLevel = 2 ∧ State.reset.sec.burn = none ∧
    State.reset.svc.powered = true ∧ (withSvc (fun v => { v with powered := false }) State.reset).svc.powered = false ∧ (State.reset.rf Reg.PWR_RAIL 8 0).testBit 7 = false ∧
    (∀ k : Fin 3, Allowed State.reset .mgt (gateReg k) 0x0FFFFFFF) ∧ State.reset.gateState 0 25 = stOff ∧ (put [(Reg.PAGE_STATUS (slicePage 25), 1)]).gateState 0 25 = stIdle ∧ (put [(gateReg 0, 0x2000000)]).rb (gateReg 0) 25 = true ∧
    State.reset.mgtState 1 ≠ stFenced ∧ State.reset.mgtActive = 0 ∧ State.reset.mgtState 1 = stIdle ∧ Allowed State.reset .mgt Reg.MGT_PAIR_CMD (wd 257) ∧
    pbRight 3 0x9FFFF = .readOnly ∧ pbRight 3 0x8FFFF = .free ∧ pbRight 3 0x7FFFF = .denied ∧ pbRight 3 0xA0000 = .readsZero ∧ (put [(Reg.HIF_BIFUR, 2), (Reg.HIF_PORT_STATUS 3, 1)]).reaches (partyOf 3) = true ∧
    Allowed State.reset .h0 (Reg.MGT_RING 0) 3 ∧ (3#32).toNat % 16 = ringBits .h0 0 3 ∧ Allowed State.reset .h0 (Reg.MGT_RING 0) 15 ∧ (15#32).toNat % 16 ≠ ringBits .h0 0 15 ∧ (put [(Reg.MGT_DAILY, 0x80010000)]).rb Reg.MGT_DAILY 31 = true := by
  refine ⟨no_image _ rfl, fun st hs s h => ?_, fun s h => ?_, fun s h => ?_, fun s h => ?_, fun s h => ?_, ⟨3, rfl, by decide +kernel⟩, fun s h => ?_, rfl, rfl, rfl, by decide +kernel⟩ <;> subst h
  · rcases hs with hs | hs <;> subst hs <;> decide +kernel
  · decide +kernel
  · exact ⟨shape_of _ (by decide +kernel), by decide +kernel⟩
  · decide +kernel
  · decide +kernel
  · exact ⟨reads_of _ _ _ _ _ (by decide +kernel), writable_of _ _ _ _ (by decide +kernel), writable_of _ _ _ _ (by decide +kernel), by decide +kernel⟩

/-- The debug port with parts of its state set. -/
def withDbg (f : Dbg → Dbg) (s : State) : State := { s with dbg := f s.dbg }

theorem witness_DebugPortActs :
    (∀ w, w = none ∨ w = some (5 : Word) → ∀ s, s = withDbg (fun d => { d with sys := some w }) (put [(dmReg dmSysLo, 0x40)] ram) → s.dbg.sys = some w ∧ s.addr40 (dmReg dmSysLo) = 0x40 ∧ s.rb (dmReg dmSysHi) 31 = false ∧
      s.rb (dmReg dmCtrl) 0 = false ∧ s.Writable none 0x40 4 ∧ s.Reads none 0x40 4 [0, 0, 0, 0]) ∧
    (∃ s, s = put [(dmCore 3 0x58, 0x1000), (dmCore 3 0x5C, 5)] ∧ s.watchMatch 3 3 0x1000 true = true) ∧
    State.reset.computeOn = true ∧ State.reset.dbgLevel = 2 ∧ (withDbg (fun d => { d with sys := some none }) State.reset).dbg.sys.isSome = true ∧ State.reset.dbg.sys = none ∧
    (put [(Reg.SEC_DBG_STATUS, 0)]).dmAllowed 0x100 false = false ∧ State.reset.dmAllowed dmSysData true = true ∧ State.reset.dmAllowed dmSysData false = true ∧ State.reset.dmAllowed 0 false = true ∧ (0 : Nat) ≠ dmSysData ∧ dmCoreOf 0 = none ∧
    (∀ c < 4, State.reset.coreReach c = true) ∧ State.reset.pairHalted 3 = false ∧ (put [(Reg.PWR_DBG, 0xC)]).pairHalted 3 = true ∧ (put [(Reg.DM_BP 3 7, 0x1001)]).rb (Reg.DM_BP 3 7) 0 = true ∧
    (put [(Reg.SEC_DBG_STATUS, 1)]).coreReach 3 = false := by
  refine ⟨fun w hw s h => ?_, ⟨_, rfl, by decide +kernel⟩, by decide +kernel⟩
  rcases hw with hw | hw <;> subst hw <;> subst h <;>
    exact ⟨by decide +kernel, by decide +kernel, by decide +kernel, by decide +kernel, writable_of _ _ _ _ (by decide +kernel), reads_of _ _ _ _ _ (by decide +kernel)⟩

/-! ### Small checks, their expected values from the spec or from the published check values of a named code -/

/-- Page offsets given in spec/02_register_pages_and_hosts.md: layer 5, slice 25, panel lane 23. -/
theorem test_page_offsets : [lyrPage 5, slicePage 25, lanePage 23] = [0x406000, 0x51A000, 0x71F000] := by decide

/-- Two identical two-rank DIMMs of 64 GiB give RANKS 4 and CAPACITY 128 (R276's example). -/
theorem test_channel_sizes : (chanRanks (List.replicate 2 ⟨64, 2, 4, 32, true, 6400, 410⟩), chanGib (List.replicate 2 ⟨64, 2, 4, 32, true, 6400, 410⟩)) = (4, 128) := by decide

/-- A write of 0 to DRAIN_TIMEOUT and to ERR_THRESH reads back as 1 (R452's examples). -/
theorem test_write_reads_limited :
    (run (.registerWrite .mgt ⟨Reg.DRAIN_TIMEOUT (Reg.page 12 5) / 4, by decide⟩ 0 []) State.reset).rd (Reg.DRAIN_TIMEOUT (Reg.page 12 5)) = 1 ∧
    (run (.registerWrite .mgt ⟨Reg.ERR_THRESH (Reg.page 12 5) / 4, by decide⟩ 0 []) State.reset).rd (Reg.ERR_THRESH (Reg.page 12 5)) = 1 := by decide +kernel

/-- A dither seed of 0 acts as 1, and an anchor of 0 as 0x8000; the fields store what acts (R322, R394, R452). -/
theorem test_zero_acts_as :
    (run (.pllDitherSeed .h0 7 0) (put [(Reg.PAGE_OWNER (pllPage 7), 1)])).rd (Reg.PLL_DITHER 7) = 1 ∧
    (run (.registerWrite .mgt ⟨Reg.CAL_ANCHOR_LO 5 / 4, by decide⟩ 0x12340000 []) State.reset).rd (Reg.CAL_ANCHOR_LO 5) = 0x12348000 := by decide +kernel

/-- Fence counters wrap (R119). -/
theorem test_fence_wraps : (run (.fenceAddWrite .h0 255 3) (put [(Reg.PAGE_OWNER (Reg.page 2 8), 1), (Reg.FENCE_VAL 7 31, 0xFFFFFFFE)])).fenceVal 255 = 1 := by decide +kernel

/-- FILL repeats its pattern from the left edge of the row, in byte order (R232): bytes 0 and 8 of a burst are the first byte. -/
theorem test_fill_bytes :
    let t := run (.blkBurstDone 1) (moving (some (brun 2 1)))
    (t.cell (cellKey 0 0x3040), t.cell (cellKey 0 0x3047), t.cell (cellKey 0 0x3048), t.cell (cellKey 0 0x3050)) = (1, 8, 1, 0) := by decide +kernel

/-- The check value of CRC-32 over "123456789". -/
theorem test_crc32 : crc32 [0x31, 0x32, 0x33, 0x34, 0x35, 0x36, 0x37, 0x38, 0x39] = 0xCBF43926 := by decide +kernel

/-- The check value of CRC-32C over "123456789". -/
theorem test_crc32c : crc32c [0x31, 0x32, 0x33, 0x34, 0x35, 0x36, 0x37, 0x38, 0x39] = 0xE3069283 := by decide +kernel

/-- The first bytes of SHA-512 of "abc" (FIPS 180-4's example). -/
theorem test_sha512 : (sha512 [0x61, 0x62, 0x63]).take 8 = [0xDD, 0xAF, 0x35, 0xA1, 0x93, 0x61, 0x7A, 0xBA] := by decide +kernel

/-- A state with registers, bytes and a command waiting has the invariant, and its step answers a next state. -/
theorem witness_StepKeepsInvariant :
    ∀ s, s = ({ stored 0x100 [1, 0, 2] (put [(Reg.FENCE_VAL 7 31, 5)] ram) with pending := [.fenceAddWrite .h0 255 3] } : State) → s.Inv ∧ ∃ t, step s = .next t := by
  intro s h; subst h
  refine ⟨?_, _, rfl⟩
  constructor
  case shape => exact shape_of _ (by decide +kernel)
  case panel => exact no_image _ rfl
  all_goals decide +kernel

/-- A burn that ends: its step answers a next state, with the bits blown. -/
theorem witness_FuseBitsStayBlown :
    ∃ t, step ({ withSec (fun x => { x with burn := some (.svn 5) }) with pending := [.fuseDone true] } : State) = .next t ∧ t.sec.fuses.svn = 5 := ⟨_, rfl, by decide +kernel⟩

/-! ### The worked examples of the spec -/

/-- The ray map of the example after R54: tile 4, layout 0, T_REF 30 °C. -/
def exampleMap : Bank :=
  [ (0, 0x07700000), (1, 0x03880000), (2, 0x10000400), (3, 0x07FFF800), (4, 0x1000), (5, 0xFFFFF800), (6, 0x01000000), (7, 0x01080000), (8, 0x01000100), (9, 0x0080FF00), (16 + 107, 48 * 65536 + 65452)
  , (144 + 41 * 5 + 13, 65408 * 65536 + 512), (144 + 41 * 5 + 14, 65408 * 65536 + 256), (144 + 41 * 6 + 13, 65280), (144 + 41 * 6 + 14, 1024) ].foldl
    (fun b e => b.setWord .geo 4 e.1 e.2) ⟨0, 1, 0x0780, [], []⟩

/-- The effective model of the example (R52). -/
theorem test_example_effective : geoEffective exampleMap 4 0x0880 = ⟨0x076C0000, 0x038A0000, 0x10004400, 0x08001800⟩ := by decide +kernel

/-- The ray of emitter (27,403, 10,150) (R53): cell (1,712, 1,268), u 0x309E, v 0x25FB. -/
theorem test_example_ray : geoRay exampleMap (geoEffective exampleMap 4 0x0880) 0 4 6923 1510 = ⟨1712, 1268, 0x309E, 0x25FB, false, false⟩ := by decide +kernel

/-- The tables of the example of spec/07_tone_and_panel_encoding.md, red of region 4, over the nominal ones. -/
def exampleTables : Bank :=
  [ (640 + 38, 9610), (640 + 39, 9790), (3744 + 3 * (41 * 5 + 14), 0x8200), (3744 + 3 * (41 * 6 + 13), 0x8400), (3744 + 3 * (41 * 6 + 14), 0x8400), (8064 + 3 * 107, 0x7F00) ].foldl
    (fun b e => b.setWord .ton 4 e.1 e.2) ⟨0, 1, 0, [], []⟩

/-- Its red value is 151: matrix identity, PER_COMPONENT, TEMPORAL dither, frame count 5 (R143 to R148). -/
theorem test_example_red :
    (tonEmit exampleTables (fun _ => 0x8100) [(Reg.TON_OUT_CTRL 4, 0x200)] 4 ⟨5, 432, 188, 1712, 1268, 11, 6⟩ 23728 0 0).val % 1024 = 151 := by decide +kernel

/-- The example of spec/05_ray_synthesis.md: layers 0, 1 and 2 give red 23,728, and layer 3 is not sampled (R100). -/
theorem test_example_blend :
    let x := blendLayers (fun l => nth Smp.zero [⟨18304, 0, 0, 36608⟩, ⟨8192, 0, 0, 32769⟩, ⟨8192, 0, 0, 65536⟩] l.idx) ((List.range 4).map fun k => { layer0 false with idx := k }) ⟨Smp.zero, 0, 0, false⟩
    (x.c.r, x.c.a, x.samples, x.cycles, x.term) = (23728, 65536, 3, 3, true) := by decide +kernel

/-- The sample of its layer 0 (R98): disparity 384, coverage on the right-hand column of cells only (as a merged entry's pixels: red 0.5, alpha 1). -/
theorem test_example_sample :
    let x := (withSyn (fun y => { y with reel := [⟨5, 0, 1271, 1716, [some 0, some 0x3C00000000003800]⟩, ⟨5, 0, 1272, 1716, [some 0, some 0x3C00000000003800]⟩] }) State.reset).sampleLayer frame0
      { layer0 true with merged := true, slate := upd (layer0 true).slate slDisparity 384 } 1248 1279 1712 1268 12446 9723
    (x.r, x.a) = (18304, 36608) := by decide +kernel

/-- The example of spec/06_epochs_flips_takes.md at 59.94 Hz: from 1,800,000,000 s, epoch 107,892,107,893 is 14.883333 ms ahead (R112). -/
theorem test_example_epoch : epochTime 8 107892107893 / nsUnit = 1800000000 * 1000000000 + 14883333 := by decide +kernel

/-- The photometric point of spec/17_calibration_and_wear.md: gain 0x8000 and wear 0x8100 with R 0x7C00 become 0x8529 (R383). -/
theorem test_example_photometry :
    (State.reset.photoBank { crun 2 1 0 0 false [4] with photo := [(4 * 4305 + 3 * (41 * 5 + 13), (0x7C00, 0x8100))] }).1.word .ton 4 (3744 + 3 * (41 * 5 + 13)) = 0x8529 := by decide +kernel

/-- Cue line 2 in mode ROW with row 0, as a frame without layers begins: its band has no row to fetch, so the cue fires at the fill (R126). -/
theorem test_row_cue_without_layers :
    ((withSyn (fun y => { y with frames := [{ frame0 with rows := [none, none, some 0, none] }] }) linked).band0Fill.rowCues.cmt.cueCount = [0, 0, 1, 0]) := by decide +kernel

end Sys2Proof.Tests
end

/-! # Registers and pairs (spec/00_scope.md R5 to R8, R23)

What a register read and a register write by one party come to, as equations; the three statements of the scope chapter follow from them. -/
namespace Sys2Proof.Machine

/-! ### Latched and held words, and frames -/

@[simp] theorem State.latched_setLatched_same (s : State) (p : Party) (a : Nat) (v : Option Word) : (s.setLatched p a v).latched p a = v :=
  Sparse.get_set_same ..

@[simp] theorem State.latched_answered (s : State) (r : Reply) (p : Party) (a : Nat) : (s.answer r).endCycle.latched p a = s.latched p a := rfl

theorem State.setLatched_within (s : State) (p : Party) (a : Nat) (v : Option Word) {q : Nat → Bool} : Within [.hif] q s (s.setLatched p a v) :=
  .of_same (fun f => by cases f <;> first | (left; decide) | (right; rfl)) rfl

@[simp] theorem State.held_setHeld_same (s : State) (p : Party) (a : Nat) (v : Option Word) : (s.setHeld p a v).held p a = v :=
  Sparse.get_set_same ..

@[simp] theorem State.held_wr (s : State) (p : Party) (a b : Nat) (v : Word) : (s.wr b v).held p a = s.held p a := rfl

@[simp] theorem State.held_endCycle (s : State) (p : Party) (a : Nat) : s.endCycle.held p a = s.held p a := rfl

theorem State.setHeld_within (s : State) (p : Party) (a : Nat) (v : Option Word) {q : Nat → Bool} : Within [.hif] q s (s.setHeld p a v) :=
  .of_same (fun f => by cases f <;> first | (left; decide) | (right; rfl)) rfl

theorem State.cntWrap_within (s : State) (a : Nat) : Within [.regs] (fun b => b == a) s (s.cntWrap a) := s.wr_within a _

theorem State.store_within (s : State) (a : Nat) (r : RegRow) (v : Word) : Within [.regs] (fun b => b == a) s (s.store a r v) := s.wr_within a _

/-- A frame widened to more fields. -/
theorem Within.widen {l m : List Fld} {q : Nat → Bool} {s t : State} (h : Within l q s t) (hl : ∀ f ∈ l, f ∈ m) : Within m q s t :=
  h.mono hl fun _ h => h

/-- The end of the command's fabric cycle belongs to every frame with HIF. -/
theorem Within.ended {l : List Fld} {q : Nat → Bool} {s t : State} (h : Within l q s t) (hh : Fld.hif ∈ l) : Within l q s t.endCycle :=
  h.trans (t.endCycle_within.widen (by simpa using hh))

/-- The frame of a read command: that of the register's own read, with the reply and the end of the cycle. -/
theorem Within.answered {l : List Fld} {q : Nat → Bool} {s t : State} (h : Within l q s t) (hr : Fld.reply ∈ l) (hh : Fld.hif ∈ l) (r : Reply) :
    Within l q s (t.answer r).endCycle :=
  (h.trans ((t.answer_within r).widen (by simpa using hr))).ended hh

/-! ### Commands that read or write one register -/

/-- A command that completes with effect `t` ends in `t` with the fabric cycle over. -/
theorem ends_of_done {c : Instr} {s t : State} {P : State → Prop} (hc : exec c s = done t) (h : P t.endCycle) : Ends c s P := ⟨_, hc, h⟩

/-- The grants of no proposal change nothing. -/
@[simp] theorem State.csGrant_nil (s : State) : s.csGrant [] = s := rfl

/-- A fabric cycle with one write is that write. -/
theorem State.writeCycle_single (s : State) (p : Party) (a : Nat) (v : Word) : s.writeCycle [(p, a, v)] = s.writeWord p a v := by
  cases p <;> rfl

theorem exec_registerWrite_alone (p : Party) (reg : Fin 16777216) (v : Word) (s : State) :
    exec (.registerWrite p reg v []) s = done (s.writeWord p (4 * reg) v) :=
  congrArg done (s.writeCycle_single p (4 * reg) v)

theorem exec_pairLowWrite (p : Party) (reg : Fin 16777216) (v : Word) (s : State) :
    exec (.pairLowWrite p reg v) s = done (s.writeWord p (4 * reg) v) := rfl

theorem exec_pairHighWrite (p : Party) (reg : Fin 16777216) (v : Word) (s : State) :
    exec (.pairHighWrite p reg v) s = done (s.writeWord p (4 * reg) v) := rfl

theorem exec_pairLowRead (p : Party) (reg : Fin 16777216) (s : State) : exec (.pairLowRead p reg) s = done (s.readCmd p (4 * reg)) := rfl

theorem exec_pairHighRead (p : Party) (reg : Fin 16777216) (s : State) : exec (.pairHighRead p reg) s = done (s.readCmd p (4 * reg)) := rfl

theorem exec_rcRead (p : Party) (reg : Fin 16777216) (s : State) : exec (.rcRead p reg) s = done (s.readCmd p (4 * reg)) := rfl

/-- A party that reaches the device is answered with the word of its read. -/
theorem State.readCmd_reaches {s : State} {p : Party} (h : s.reaches p = true) (a : Nat) :
    s.readCmd p a = (s.readReg p a).1.answer (.word (s.readReg p a).2) := by
  simp [State.readCmd, h]

/-! ### Pages and rows -/

theorem pagePresent_bound {n b p : Nat} (h : pagePresent n b p = true) : b < 22 ∧ p ≤ lastPage b := by
  simp only [pagePresent, Bool.and_eq_true, decide_eq_true_eq] at h
  exact h.1

/-- BAR0 above the 22 blocks is reserved (R23). -/
theorem State.present_above (s : State) {a : Nat} (h : 0x1600000 ≤ a) : s.present a = false := by
  have hb : ¬ a / 0x100000 < 22 := by omega
  exact Bool.eq_false_iff.mpr fun hp => hb (pagePresent_bound hp).1

/-- Where the offset `off` of a page lies: its block, its page of BAR0, its offset. -/
theorem pageOffset (pg : Nat) {off : Nat} (h : off < 0x1000) :
    (pg * 0x1000 + off) / 0x100000 = pg / 256 ∧ (pg * 0x1000 + off) / 0x1000 = pg ∧ (pg * 0x1000 + off) % 0x1000 = off := by
  omega

theorem State.present_page (s : State) (b : Nat) {p off : Nat} (hp : p < 256) (ho : off < 0x1000) :
    s.present (Reg.page b p + off) = pagePresent s.ports b p := by
  have hb : (Reg.page b p + off) / 0x100000 = b := by simp only [Reg.page]; omega
  have hq : (Reg.page b p + off) / 0x1000 % 256 = p := by simp only [Reg.page]; omega
  rw [State.present, hb, hq]

/-- A port that the strap does not create has no port page, tray page or queue page (R20, R23). -/
theorem pagePresent_port {n q : Nat} (h : q < 4) (hn : n ≤ q) :
    pagePresent n 0 (1 + q) = false ∧ pagePresent n 8 (5 + q) = false ∧ pagePresent n 11 (1 + q) = false := by
  have hq : ¬ q < n := by omega
  refine ⟨?_, ?_, ?_⟩
  · simp [pagePresent, show 1 + q ≤ 4 by omega, hq]
  · simp [pagePresent, hq]
  · simp [pagePresent, hq]

/-- The offset is that of CS_CMD of a countersign slot, whose writes have checks of their own (R32). -/
abbrev IsCsCmd (a : Nat) : Prop := 6 ≤ a / 0x1000 ∧ a / 0x1000 ≤ 11 ∧ a % 0x1000 = 0x40

/-- CS_CMD of each slot is present and defined, whatever the strap. -/
theorem IsCsCmd.defined {a : Nat} (h : IsCsCmd a) (s : State) : s.present a = true ∧ regRow a ≠ none := by
  obtain ⟨hl, hh, ho⟩ := h
  have hk : ∃ k < 6, a = Reg.page 0 (6 + k) + 0x40 := ⟨a / 0x1000 - 6, by omega, by simp only [Reg.page]; omega⟩
  obtain ⟨k, hk, rfl⟩ := hk
  constructor
  · rw [s.present_page 0 (by omega) (by omega)]
    simp [pagePresent, lastPage, show ¬ 6 + k ≤ 4 by omega, show 6 + k ≤ 23 by omega, show 6 + k < 12 by omega]
  · exact (by decide : ∀ k < 6, regRow (Reg.page 0 (6 + k) + 0x40) ≠ none) k hk

/-! ### Absent pages and undefined offsets (R7, R23) -/

theorem State.readReg_undefined {s : State} {a : Nat} (h : s.present a = false ∨ regRow a = none) (p : Party) : s.readReg p a = (s, 0) := by
  unfold State.readReg
  rcases h with h | h
  · simp [h]
  · simp [h]

theorem State.writeFate_undefined {s : State} {a : Nat} (h : s.present a = false ∨ regRow a = none) (p : Party) (v : Word) :
    s.writeFate p a v = .ignored := by
  unfold State.writeFate
  rcases h with h | h
  · simp [h]
  · simp [h]

theorem State.writeBy_ignored {s : State} {p : Party} {a : Nat} {v : Word} (h : s.writeFate p a v = .ignored) (eff : RegRow → State → State) :
    s.writeBy p a v eff = s := by
  simp [State.writeBy, h]

/-- A write that is no write of CS_CMD goes through the checks of R28 and is put in its register. -/
theorem State.writeWord_plain (s : State) (p : Party) {a : Nat} (h : ¬ IsCsCmd a) (v : Word) :
    s.writeWord p a v = s.writeBy p a v fun r s => s.putWord p a r v := by
  simp only [State.writeWord, State.takeWrite, if_neg h, State.csGrant_nil]

theorem State.writeWord_undefined {s : State} {a : Nat} (h : s.present a = false ∨ regRow a = none) (p : Party) (v : Word) :
    s.writeWord p a v = s := by
  have hcs : ¬ IsCsCmd a := fun hcs => by
    obtain ⟨hp, hr⟩ := hcs.defined s
    simp [hp, hr] at h
  rw [s.writeWord_plain p hcs v, State.writeBy_ignored (State.writeFate_undefined h p v)]

theorem State.readCmd_undefined {s : State} {a : Nat} (h : s.present a = false ∨ regRow a = none) {p : Party} (hp : s.reaches p = true) :
    s.readCmd p a = s.answer (.word 0) := by
  rw [State.readCmd_reaches hp, State.readReg_undefined h]

/-- Settles O7: the three page facts, and for each command its read or write of an undefined place. -/
theorem reservedSpaceReadsZero : Obligations.ReservedSpaceReadsZero := by
  unfold Obligations.ReservedSpaceReadsZero
  intro s
  refine ⟨fun a ha => s.present_above ha, fun q hq hs off ho => ?_, fun p reg v c h => ⟨fun hc => ?_, fun hc hp => ?_⟩⟩
  · rw [s.present_page 0 (by omega) ho, s.present_page 8 (by omega) ho, s.present_page 11 (by omega) ho]
    exact pagePresent_port hq hs
  · have hw : exec c s = done (s.writeWord p (4 * reg) v) := by
      rcases hc with rfl | rfl | rfl
      · exact exec_registerWrite_alone p reg v s
      · exact exec_pairLowWrite p reg v s
      · exact exec_pairHighWrite p reg v s
    rw [State.writeWord_undefined h] at hw
    exact ends_of_done hw s.endCycle_within
  · have hr : exec c s = done (s.readCmd p (4 * reg)) := by
      rcases hc with rfl | rfl | rfl
      · exact exec_rcRead p reg s
      · exact exec_pairLowRead p reg s
      · exact exec_pairHighRead p reg s
    rw [State.readCmd_undefined h hp] at hr
    exact ends_of_done hr ⟨rfl, (Within.refl s).answered (by decide) (by decide) _⟩

/-! ### Reads of a register that is there (R5, R8) -/

/-- The words that a read of a low word latches (R5), at the offsets `l` from it. -/
def State.latchWords (s : State) (p : Party) (a : Nat) (l : List Nat) : State :=
  l.foldl (fun s o => s.setLatched p (a + o) (some (s.regValue p (a + o)))) s

@[simp] theorem State.latchWords_nil (s : State) (p : Party) (a : Nat) : s.latchWords p a [] = s := rfl

@[simp] theorem State.latchWords_one (s : State) (p : Party) (a o : Nat) :
    s.latchWords p a [o] = s.setLatched p (a + o) (some (s.regValue p (a + o))) := rfl

/-- A register that is no PLK_GRP_BC_HI takes no message when read (R178). -/
theorem find_bcHi_none {a : Nat} (h : ∀ g < 6, a ≠ Reg.PLK_GRP_BC_HI g) :
    (List.range 6).find? (fun g => a == Reg.PLK_GRP_BC_HI g) = none := by
  simpa using h

/-- A latched word is returned once (R5). -/
theorem State.readReg_latched {s : State} {p : Party} {a : Nat} {r : RegRow} {w : Word} (hp : s.present a = true) (hr : regRow a = some r)
    (hl : s.latched p a = some w) (hb : ∀ g < 6, a ≠ Reg.PLK_GRP_BC_HI g) : s.readReg p a = (s.setLatched p a none, w) := by
  simp only [State.readReg, hp, hr, hl, find_bcHi_none hb, Bool.not_true, Bool.false_eq_true, if_false]

/-- Without a latched word, the value is returned, the words of its pair are latched, and an RC register clears (R5, R8). -/
theorem State.readReg_unlatched {s : State} {p : Party} {a : Nat} {r : RegRow} (hp : s.present a = true) (hr : regRow a = some r)
    (hl : s.latched p a = none) (hs : a ≠ Reg.SYN_SLACK_MIN) (hb : ∀ g < 6, a ≠ Reg.PLK_GRP_BC_HI g) :
    s.readReg p a = (if r.acc = .rc then (s.latchWords p a r.lat).wr a 0 else s.latchWords p a r.lat, s.regValue p a) := by
  simp only [State.readReg, hp, hr, hl, find_bcHi_none hb, if_neg hs, Bool.not_true, Bool.false_eq_true, if_false, State.latchWords]

/-- SYN_SLACK_MIN, whose read has an effect of its own (R108), is an RC register. -/
theorem ne_slackMin_of_acc {a : Nat} {r : RegRow} (hr : regRow a = some r) (h : r.acc ≠ .rc) : a ≠ Reg.SYN_SLACK_MIN := by
  rintro rfl
  have hrow : (regRow Reg.SYN_SLACK_MIN).map (·.acc) = some .rc := by decide
  rw [hr] at hrow
  exact h (Option.some.inj hrow)

/-- PLK_GRP_BC_HI is the low word of no pair. -/
theorem ne_bcHi_of_lat {a : Nat} {r : RegRow} (hr : regRow a = some r) (h : r.lat = [4]) : ∀ g < 6, a ≠ Reg.PLK_GRP_BC_HI g := by
  rintro g hg rfl
  have hrow : ∀ g < 6, (regRow (Reg.PLK_GRP_BC_HI g)).map (·.lat) ≠ some [4] := by decide
  exact hrow g hg (by rw [hr, Option.map_some, h])

/-- A read command that answers with `w` and leaves `t` before its answer. -/
theorem ends_of_read {c : Instr} {s t : State} {p : Party} {a : Nat} {w : Word} {P : State → Prop} (hc : exec c s = done (s.readCmd p a))
    (hp : s.reaches p = true) (hr : s.readReg p a = (t, w)) (h : P (t.answer (.word w)).endCycle) : Ends c s P := by
  rw [State.readCmd_reaches hp, hr] at hc
  exact ends_of_done hc h

/-! ### ERR_CNT (R8, R24) -/

theorem errCnt_place (pg : Nat) : Reg.ERR_CNT (pg * 0x1000) / 0x100000 = pg / 256 ∧ Reg.ERR_CNT (pg * 0x1000) / 0x1000 = pg ∧
    Reg.ERR_CNT (pg * 0x1000) % 0x1000 = 0x24 :=
  pageOffset pg (by decide)

theorem State.present_errCnt (s : State) (pg : Nat) : s.present (Reg.ERR_CNT (pg * 0x1000)) = pagePresent s.ports (pg / 256) (pg % 256) := by
  obtain ⟨hb, hq, -⟩ := errCnt_place pg
  rw [State.present, hb, hq]

theorem State.present_base (s : State) (pg : Nat) : s.present (pg * 0x1000) = pagePresent s.ports (pg / 256) (pg % 256) := by
  obtain ⟨hb, hq, -⟩ := pageOffset pg (off := 0) (by decide)
  rw [Nat.add_zero] at hb hq
  rw [State.present, hb, hq]

theorem regRow_errCnt {n pg : Nat} (hp : pagePresent n (pg / 256) (pg % 256) = true) (hh : hasHeader (pg / 256) (pg % 256) = true) :
    regRow (Reg.ERR_CNT (pg * 0x1000)) = some ⟨0x24, 0, 1, .rc, 0, 0, [], []⟩ := by
  obtain ⟨hb, hq, ho⟩ := errCnt_place pg
  simp only [regRow, hb, hq, ho, if_pos (pagePresent_bound hp), hh]
  rfl

/-- ERR_CNT reads as the register file holds it: no register of a header but EVT_RAW is computed, and a page with a header is none of MSI-X. -/
theorem State.regValue_errCnt {s : State} {pg : Nat} (hp : s.present (Reg.ERR_CNT (pg * 0x1000)) = true)
    (hh : hasHeader (pg / 256) (pg % 256) = true) (p : Party) :
    s.regValue p (Reg.ERR_CNT (pg * 0x1000)) = s.rd (Reg.ERR_CNT (pg * 0x1000)) := by
  obtain ⟨hb, hq, ho⟩ := errCnt_place pg
  have hr := regRow_errCnt (s.present_errCnt pg ▸ hp) hh
  have hm : ¬ (16 ≤ pg ∧ pg ≤ 23) := fun ⟨hl, hu⟩ => by
    simp [hasHeader, show pg / 256 = 0 by omega, show 16 ≤ pg % 256 by omega] at hh
  have hmsix : ¬ (16 ≤ pg ∧ pg ≤ 23 ∧ partyPort p ≠ some ((pg - 16) % 4)) := fun ⟨hl, hu, _⟩ => hm ⟨hl, hu⟩
  have hv : s.regView (Reg.ERR_CNT (pg * 0x1000)) = none := by simp [State.regView, hb, hq, ho, hh]
  simp only [State.regValue, hp, hr, hv, hq, if_neg hmsix]
  rfl

theorem errCnt_ne_slackMin (pg : Nat) : Reg.ERR_CNT (pg * 0x1000) ≠ Reg.SYN_SLACK_MIN := by
  simp only [Reg.ERR_CNT, Reg.SYN_SLACK_MIN]; omega

theorem errCnt_ne_bcHi (pg g : Nat) : Reg.ERR_CNT (pg * 0x1000) ≠ Reg.PLK_GRP_BC_HI g := by
  simp only [Reg.ERR_CNT, Reg.PLK_GRP_BC_HI]; omega

/-- A read of ERR_CNT that finds no latched word returns it and clears it. -/
theorem State.readReg_errCnt {s : State} {p : Party} {pg : Nat} (hp : s.present (Reg.ERR_CNT (pg * 0x1000)) = true)
    (hh : hasHeader (pg / 256) (pg % 256) = true) (hl : s.latched p (Reg.ERR_CNT (pg * 0x1000)) = none) :
    s.readReg p (Reg.ERR_CNT (pg * 0x1000)) = (s.wr (Reg.ERR_CNT (pg * 0x1000)) 0, s.rd (Reg.ERR_CNT (pg * 0x1000))) := by
  rw [State.readReg_unlatched hp (regRow_errCnt (s.present_errCnt pg ▸ hp) hh) hl (errCnt_ne_slackMin pg) fun g _ => errCnt_ne_bcHi pg g,
    State.regValue_errCnt hp hh]
  rfl

/-- Settles O12: the row of ERR_CNT is RC and latches nothing, and it reads as the register file holds it. -/
theorem readClears : Obligations.ReadClears := by
  unfold Obligations.ReadClears
  intro p pg s hp hpres hh hl
  have hpres' : s.present (Reg.ERR_CNT (pg.val * 0x1000)) = true := by rw [s.present_errCnt, ← s.present_base, hpres]
  have ha : 4 * ((pg.val * 0x1000 + 0x24) / 4) = Reg.ERR_CNT (pg.val * 0x1000) := by simp only [Reg.ERR_CNT]; omega
  have hread := (congrArg (s.readReg p) ha).trans (State.readReg_errCnt hpres' hh hl)
  refine ends_of_read (exec_rcRead p _ s) hp hread ⟨rfl, ?_, ?_⟩
  · simp
  · exact ((s.wr_within _ 0).widen (by decide)).answered (by decide) (by decide) _

/-! ### A pair read (R5) -/

/-- A read of a low word returns it and latches the high word. -/
theorem State.readReg_pairLow {s : State} {p : Party} {a : Nat} {r : RegRow} (hp : s.present a = true) (hr : regRow a = some r)
    (hlat : r.lat = [4]) (hacc : r.acc ≠ .rc) (hl : s.latched p a = none) :
    s.readReg p a = (s.setLatched p (a + 4) (some (s.regValue p (a + 4))), s.regValue p a) := by
  rw [State.readReg_unlatched hp hr hl (ne_slackMin_of_acc hr hacc) (ne_bcHi_of_lat hr hlat), if_neg hacc, hlat, State.latchWords_one]

/-- A read of a word that latches none and clears none changes nothing. -/
theorem State.readReg_single {s : State} {p : Party} {a : Nat} {r : RegRow} (hp : s.present a = true) (hr : regRow a = some r)
    (hlat : r.lat = []) (hacc : r.acc ≠ .rc) (hl : s.latched p a = none) (hb : ∀ g < 6, a ≠ Reg.PLK_GRP_BC_HI g) :
    s.readReg p a = (s, s.regValue p a) := by
  rw [State.readReg_unlatched hp hr hl (ne_slackMin_of_acc hr hacc) hb, if_neg hacc, hlat, State.latchWords_nil]

/-! ### A pair write (R5), of GEO_LOAD_ADDR -/

/-- SEQ of the GEO common page counts a write there (R30). -/
theorem State.seqInc_geo (s : State) {a : Nat} (h : a / 0x1000 = 0x300) : s.seqInc a = s.cntWrap (Reg.SEQ (Reg.page 3 0)) := by
  have hb : a / 0x100000 = 3 := by omega
  simp only [State.seqInc, hb, h]
  rfl

theorem State.writeFate_applied_row {s : State} {p : Party} {a : Nat} {v : Word} {r : RegRow} (h : s.writeFate p a v = .applied r) :
    regRow a = some r := by
  cases hr : regRow a with
  | none => simp [State.writeFate, hr] at h
  | some r' =>
    simp only [State.writeFate, hr] at h
    split_ifs at h <;> cases h <;> rfl

/-- An allowed write counts in SEQ and is put in its register. -/
theorem State.writeWord_allowed {s : State} {p : Party} {a : Nat} {v : Word} {r : RegRow} (h : Allowed s p a v) (hr : regRow a = some r)
    (hcs : ¬ IsCsCmd a) :
    s.writeWord p a v = (s.seqInc a).putWord p a r v := by
  rw [s.writeWord_plain p hcs, State.writeBy]
  cases hf : s.writeFate p a v with
  | ignored => simp [Allowed, hf, WriteFate.isApplied] at h
  | dropped => simp [Allowed, hf, WriteFate.isApplied] at h
  | applied r' =>
    have hrr : r' = r := Option.some.inj ((State.writeFate_applied_row hf).symm.trans hr)
    rw [hrr]

/-- The row of GEO_LOAD_ADDR_LO: bits [31:6] of the address, the low word of a pair. -/
def rowGeoLoadAddrLo : RegRow := ⟨0x48, 0, 1, .rw, 0, 0xFFFFFFC0, [], [4]⟩

/-- The row of GEO_LOAD_ADDR_HI: bits [39:32] of the address. -/
def rowGeoLoadAddrHi : RegRow := ⟨0x4C, 0, 1, .rw, 0, 0xFF, [], []⟩

theorem regRow_geoLoadAddrLo : regRow Reg.GEO_LOAD_ADDR_LO = some rowGeoLoadAddrLo := by decide

theorem regRow_geoLoadAddrHi : regRow Reg.GEO_LOAD_ADDR_HI = some rowGeoLoadAddrHi := by decide

/-- The words of GEO_LOAD_ADDR are stored, and nothing acts on them until a load. -/
theorem State.applied_geoLoadAddr (s : State) (p : Party) {a : Nat} (ha : a = Reg.GEO_LOAD_ADDR_LO ∨ a = Reg.GEO_LOAD_ADDR_HI) (r : RegRow)
    (v : Word) : s.applied p a r v false = s.store a r v := by
  rcases ha with rfl | rfl
  · rfl
  · rfl

/-- A low word is held, and nothing is stored. -/
theorem State.putWord_low (s : State) (p : Party) (a : Nat) {r : RegRow} (h : isPairLow r = true) (v : Word) :
    s.putWord p a r v = s.setHeld p a (some v) := by
  simp [State.putWord, h]

/-- GEO_LOAD_ADDR_HI applies the held low word, or the present one, and itself. -/
theorem State.putWord_geoLoadAddrHi (s : State) (p : Party) (v : Word) :
    s.putWord p Reg.GEO_LOAD_ADDR_HI rowGeoLoadAddrHi v =
      ((s.setHeld p Reg.GEO_LOAD_ADDR_LO none).store Reg.GEO_LOAD_ADDR_LO rowGeoLoadAddrLo
        ((s.held p Reg.GEO_LOAD_ADDR_LO).getD (s.rd Reg.GEO_LOAD_ADDR_LO))).store Reg.GEO_LOAD_ADDR_HI rowGeoLoadAddrHi v := by
  have hlow : isPairLow rowGeoLoadAddrHi = false := rfl
  have hhigh : isPairHigh Reg.GEO_LOAD_ADDR_HI = true := by decide
  have hlo : Reg.GEO_LOAD_ADDR_HI - 4 = Reg.GEO_LOAD_ADDR_LO := rfl
  simp only [State.putWord, hlow, hhigh, hlo, regRow_geoLoadAddrLo, Bool.false_eq_true, if_false, if_true]
  rw [State.applied_geoLoadAddr _ p (.inl rfl), State.applied_geoLoadAddr _ p (.inr rfl)]

/-- A bit of a masked write: the written value's under the mask, the old word's beside it. -/
theorem getLsbD_masked (old v m : Word) (i : Nat) :
    ((old &&& ~~~m) ||| (v &&& m)).getLsbD i = if m.getLsbD i then v.getLsbD i else old.getLsbD i := by
  simp only [BitVec.getLsbD_or, BitVec.getLsbD_and, BitVec.getLsbD_not]
  by_cases hi : i < 32
  · cases m.getLsbD i <;> simp [hi]
  · simp [hi, BitVec.getLsbD_of_ge _ i (Nat.le_of_not_lt hi)]

/-- Words that agree from bit `n` on agree as numbers divided by `2 ^ n`. -/
theorem toNat_div_eq_of_bits {x y : Word} (n : Nat) (h : ∀ i, n ≤ i → i < 32 → x.getLsbD i = y.getLsbD i) : x.toNat / 2 ^ n = y.toNat / 2 ^ n := by
  refine Nat.eq_of_testBit_eq fun i => ?_
  rw [Nat.testBit_div_two_pow, Nat.testBit_div_two_pow, BitVec.testBit_toNat, BitVec.testBit_toNat]
  by_cases hi : i + n < 32
  · exact h _ (by omega) hi
  · rw [BitVec.getLsbD_of_ge x _ (by omega), BitVec.getLsbD_of_ge y _ (by omega)]

/-- Words that agree below bit `n` agree as numbers modulo `2 ^ n`. -/
theorem toNat_mod_eq_of_bits {x y : Word} (n : Nat) (h : ∀ i < n, x.getLsbD i = y.getLsbD i) : x.toNat % 2 ^ n = y.toNat % 2 ^ n := by
  refine Nat.eq_of_testBit_eq fun i => ?_
  rw [Nat.testBit_mod_two_pow, Nat.testBit_mod_two_pow, BitVec.testBit_toNat, BitVec.testBit_toNat]
  by_cases hi : i < n
  · rw [h i hi]
  · simp [hi]

theorem storedWord_geoLoadAddrLo_div (old v : Word) : (storedWord Reg.GEO_LOAD_ADDR_LO rowGeoLoadAddrLo old v).toNat / 64 = v.toNat / 64 := by
  have hm : ∀ i, 6 ≤ i → i < 32 → (wd 0xFFFFFFC0).getLsbD i = true := by decide
  exact toNat_div_eq_of_bits 6 fun i hl hu => (getLsbD_masked old v (wd 0xFFFFFFC0) i).trans (if_pos (hm i hl hu))

theorem storedWord_geoLoadAddrHi_mod (old v : Word) : (storedWord Reg.GEO_LOAD_ADDR_HI rowGeoLoadAddrHi old v).toNat % 256 = v.toNat % 256 := by
  have hm : ∀ i < 8, (wd 0xFF).getLsbD i = true := by decide
  exact toNat_mod_eq_of_bits 8 fun i hi => (getLsbD_masked old v (wd 0xFF) i).trans (if_pos (hm i hi))

/-- An allowed write of the low word is held for its party; of all registers only SEQ of the page moves. -/
theorem ends_pairLowWrite_geoLoadAddr {s : State} {p : Party} {v : Word} (h : Allowed s p Reg.GEO_LOAD_ADDR_LO v) :
    Ends (.pairLowWrite p ⟨Reg.GEO_LOAD_ADDR_LO / 4, by decide⟩ v) s fun t =>
      t.held p Reg.GEO_LOAD_ADDR_LO = some v ∧ t.rd Reg.GEO_LOAD_ADDR_LO = s.rd Reg.GEO_LOAD_ADDR_LO ∧
      Within [.regs, .hif] (fun a => a == Reg.SEQ (Reg.page 3 0)) s t := by
  have hw : s.writeWord p Reg.GEO_LOAD_ADDR_LO v =
      (s.cntWrap (Reg.SEQ (Reg.page 3 0))).setHeld p Reg.GEO_LOAD_ADDR_LO (some v) := by
    rw [State.writeWord_allowed h regRow_geoLoadAddrLo (by decide), s.seqInc_geo (by decide), State.putWord_low _ _ _ rfl]
  have hwithin : Within [.regs, .hif] (fun a => a == Reg.SEQ (Reg.page 3 0)) s (s.writeWord p Reg.GEO_LOAD_ADDR_LO v).endCycle := by
    rw [hw]
    exact (((s.cntWrap_within _).widen (by decide)).trans ((State.setHeld_within _ _ _ _).widen (by decide))).ended (by decide)
  refine ends_of_done (exec_pairLowWrite p _ v s) ⟨?_, hwithin.rd (by decide), hwithin⟩
  change (s.writeWord p Reg.GEO_LOAD_ADDR_LO v).endCycle.held p Reg.GEO_LOAD_ADDR_LO = some v
  rw [hw, State.held_endCycle, State.held_setHeld_same]

/-- The state after an allowed write of the high word of GEO_LOAD_ADDR. -/
theorem State.writeWord_geoLoadAddrHi {s : State} {p : Party} {v : Word} (h : Allowed s p Reg.GEO_LOAD_ADDR_HI v) :
    s.writeWord p Reg.GEO_LOAD_ADDR_HI v =
      (((s.cntWrap (Reg.SEQ (Reg.page 3 0))).setHeld p Reg.GEO_LOAD_ADDR_LO none).store Reg.GEO_LOAD_ADDR_LO rowGeoLoadAddrLo
        ((s.held p Reg.GEO_LOAD_ADDR_LO).getD (s.rd Reg.GEO_LOAD_ADDR_LO))).store Reg.GEO_LOAD_ADDR_HI rowGeoLoadAddrHi v := by
  have hlo : (s.cntWrap (Reg.SEQ (Reg.page 3 0))).rd Reg.GEO_LOAD_ADDR_LO = s.rd Reg.GEO_LOAD_ADDR_LO := (s.cntWrap_within _).rd (by decide)
  rw [State.writeWord_allowed h regRow_geoLoadAddrHi (by decide), s.seqInc_geo (by decide), State.putWord_geoLoadAddrHi, hlo]
  rfl

/-- An allowed write of the high word stores the pair, and nothing stays held. -/
theorem ends_pairHighWrite_geoLoadAddr {s : State} {p : Party} {v : Word} (h : Allowed s p Reg.GEO_LOAD_ADDR_HI v) :
    Ends (.pairHighWrite p ⟨Reg.GEO_LOAD_ADDR_HI / 4, by decide⟩ v) s fun t =>
      t.held p Reg.GEO_LOAD_ADDR_LO = none ∧ t.rf Reg.GEO_LOAD_ADDR_HI 7 0 = v.toNat % 256 ∧
      t.rn Reg.GEO_LOAD_ADDR_LO / 64 = ((s.held p Reg.GEO_LOAD_ADDR_LO).getD (s.rd Reg.GEO_LOAD_ADDR_LO)).toNat / 64 ∧
      Within [.regs, .hif] (fun a => a == Reg.SEQ (Reg.page 3 0) || a == Reg.GEO_LOAD_ADDR_LO || a == Reg.GEO_LOAD_ADDR_HI) s t := by
  refine ends_of_done ((exec_pairHighWrite p _ v s).trans (congrArg done (State.writeWord_geoLoadAddrHi h))) ⟨?_, ?_, ?_, ?_⟩
  · simp [State.store]
  · rw [State.rf, State.rd_endCycle, State.store, State.rd_wr_same]
    exact storedWord_geoLoadAddrHi_mod _ v
  · rw [State.rn, State.rd_endCycle, State.store, State.rd_wr_other _ _ _ _ (by decide), State.store, State.rd_wr_same]
    exact storedWord_geoLoadAddrLo_div _ _
  · exact (((((s.cntWrap_within _).mono (by decide) (by simp)).trans ((State.setHeld_within _ _ _ _).widen (by decide))).trans
      ((State.store_within _ _ _ _).mono (by decide) (by simp))).trans ((State.store_within _ _ _ _).mono (by decide) (by simp))).ended (by decide)

/-- Settles O11: each of the three reads by what the register's own read comes to, and each write by the state it leaves. -/
theorem pairsReadAndWrite : Obligations.PairsReadAndWrite := by
  unfold Obligations.PairsReadAndWrite
  intro p s
  refine ⟨fun lo hi r rh hhi hp hplo hphi hrlo hrhi hlat hacc hlath hacch hb => ⟨fun hl => ?_, fun w hl => ?_, fun hl => ?_⟩,
    fun v h => ends_pairLowWrite_geoLoadAddr h, fun v h => ?_⟩
  · have ha : 4 * lo.val + 4 = 4 * hi.val := by omega
    refine ends_of_read (exec_pairLowRead p lo s) hp (State.readReg_pairLow hplo hrlo hlat hacc hl) ?_
    rw [ha]
    exact ⟨rfl, by simp, ((s.setLatched_within p _ _).widen (by decide)).answered (by decide) (by decide) _⟩
  · exact ends_of_read (exec_pairHighRead p hi s) hp (State.readReg_latched hphi hrhi hl hb)
      ⟨rfl, by simp, ((s.setLatched_within p _ _).widen (by decide)).answered (by decide) (by decide) _⟩
  · exact ends_of_read (exec_pairHighRead p hi s) hp (State.readReg_single hphi hrhi hlath hacch hl hb)
      ⟨rfl, (Within.refl s).answered (by decide) (by decide) _⟩
  · obtain ⟨t, ht, hheld, hhi, hlo, hw⟩ := ends_pairHighWrite_geoLoadAddr h
    refine ⟨t, ht, hheld, hhi, fun w hs => ?_, fun hs => ?_, hw⟩
    · rw [hlo, hs, Option.getD_some]
    · rw [hlo, hs, Option.getD_none]; rfl

end Sys2Proof.Machine

/-! # Register pages and hosts (spec/02_register_pages_and_hosts.md R20 to R44, R455)

## Words, frames, and writes that are dropped (R28, R31) -/
namespace Sys2Proof.Machine

/-! ### Bits and fields of words -/

theorem getLsbD_shifted (x lo i : Nat) : (BitVec.ofNat 32 (x <<< lo)).getLsbD i = (decide (i < 32) && (decide (lo ≤ i) && x.testBit (i - lo))) := by
  rw [BitVec.getLsbD_ofNat, Nat.testBit_shiftLeft]

/-- A bit after one bit is set. -/
theorem bit_setBit (w : Word) {i : Nat} (hi : i < 32) (j : Nat) (b : Bool) : bit (setBit w i b) j = if i = j then b else bit w j := by
  have hone : (BitVec.ofNat 32 (1 <<< i)).getLsbD j = decide (i = j) := by
    rw [BitVec.getLsbD_ofNat, Nat.one_shiftLeft, Nat.testBit_two_pow, Bool.eq_iff_iff]
    simp only [Bool.and_eq_true, decide_eq_true_eq]
    omega
  have hw : w.getLsbD j = true → j < 32 := BitVec.lt_of_getLsbD
  cases b
  · simp only [setBit, bit, Bool.false_eq_true, if_false, BitVec.getLsbD_and, BitVec.getLsbD_not, hone]
    by_cases h : i = j
    · simp [h]
    · rw [if_neg h, decide_eq_false h]
      simpa using hw
  · simp only [setBit, bit, if_true, BitVec.getLsbD_or, hone]
    by_cases h : i = j <;> simp [h]

/-- A bit after a field is set. -/
theorem bit_setFld (w : Word) {hi lo : Nat} (h : hi < 32) (hl : lo ≤ hi) (v i : Nat) :
    bit (setFld w hi lo v) i = if lo ≤ i ∧ i ≤ hi then v.testBit (i - lo) else bit w i := by
  have hw : w.getLsbD i = true → i < 32 := BitVec.lt_of_getLsbD
  simp only [setFld, bit, fldMask, BitVec.getLsbD_or, BitVec.getLsbD_and, BitVec.getLsbD_not, getLsbD_shifted, Nat.testBit_mod_two_pow,
    Nat.testBit_two_pow_sub_one]
  by_cases hr : lo ≤ i ∧ i ≤ hi
  · rw [if_pos hr]
    simp [hr.1, show i < 32 by omega, show i - lo < hi - lo + 1 by omega]
  · rw [if_neg hr]
    have hm : (decide (lo ≤ i) && decide (i - lo < hi - lo + 1)) = false := by
      simp only [Bool.and_eq_false_iff, decide_eq_false_iff_not]
      omega
    rw [← Bool.and_assoc (decide (lo ≤ i)), hm]
    simpa using hw

theorem testBit_fld (w : Word) (hi lo i : Nat) : (fld w hi lo).testBit i = (decide (i < hi - lo + 1) && bit w (lo + i)) := by
  simp [fld, bit, BitVec.getLsbD]

/-- Fields agree where their bits do. -/
theorem fld_eq_of_bits {w x : Word} {hi lo : Nat} (hl : lo ≤ hi) (h : ∀ i, lo ≤ i → i ≤ hi → bit w i = bit x i) : fld w hi lo = fld x hi lo := by
  refine Nat.eq_of_testBit_eq fun i => ?_
  rw [testBit_fld, testBit_fld]
  by_cases hi' : i < hi - lo + 1
  · rw [h (lo + i) (by omega) (by omega)]
  · simp [hi']

theorem fld_setFld_same (w : Word) {hi lo : Nat} (h : hi < 32) (hl : lo ≤ hi) (v : Nat) : fld (setFld w hi lo v) hi lo = v % 2 ^ (hi - lo + 1) := by
  refine Nat.eq_of_testBit_eq fun i => ?_
  rw [testBit_fld, bit_setFld w h hl, Nat.testBit_mod_two_pow]
  by_cases hi' : i < hi - lo + 1
  · rw [if_pos (by omega), Nat.add_sub_cancel_left]
  · simp [hi']

theorem fld_setFld_other (w : Word) {hi lo hi' lo' : Nat} (h : hi < 32) (hl : lo ≤ hi) (hl' : lo' ≤ hi') (hd : hi < lo' ∨ hi' < lo) (v : Nat) :
    fld (setFld w hi lo v) hi' lo' = fld w hi' lo' := by
  refine fld_eq_of_bits hl' fun i h1 h2 => ?_
  rw [bit_setFld w h hl, if_neg (by omega)]

theorem fld_setBit_other (w : Word) {i hi lo : Nat} (h : i < 32) (hl : lo ≤ hi) (hd : i < lo ∨ hi < i) (b : Bool) :
    fld (setBit w i b) hi lo = fld w hi lo := by
  refine fld_eq_of_bits hl fun j h1 h2 => ?_
  rw [bit_setBit w h, if_neg (by omega)]

theorem word_ext {v w : Word} (h : ∀ i < 32, bit v i = bit w i) : v = w := BitVec.eq_of_getLsbD_eq h

/-- A 32-bit word is its own field. -/
theorem fld_full (w : Word) : fld w 31 0 = w.toNat := by
  have := w.isLt
  simp only [fld, Nat.shiftRight_zero]
  exact Nat.mod_eq_of_lt this

/-! ### Reads of a register after a write of it, and through a frame -/

theorem State.rb_wr_same (s : State) (a i : Nat) (v : Word) : (s.wr a v).rb a i = bit v i := by
  rw [State.rb, State.rd_wr_same]

theorem State.rf_wr_same (s : State) (a hi lo : Nat) (v : Word) : (s.wr a v).rf a hi lo = fld v hi lo := by
  rw [State.rf, State.rd_wr_same]

theorem State.rn_wr_same (s : State) (a : Nat) (v : Word) : (s.wr a v).rn a = v.toNat := by
  rw [State.rn, State.rd_wr_same]

theorem State.rb_wb_same (s : State) (a : Nat) {i : Nat} (hi : i < 32) (j : Nat) (b : Bool) : (s.wb a i b).rb a j = if i = j then b else s.rb a j := by
  rw [State.wb, State.rb_wr_same, bit_setBit _ hi]
  rfl

theorem State.rf_wf_same (s : State) (a : Nat) {hi lo : Nat} (h : hi < 32) (hl : lo ≤ hi) (v : Nat) :
    (s.wf a hi lo v).rf a hi lo = v % 2 ^ (hi - lo + 1) := by
  rw [State.wf, State.rf_wr_same, fld_setFld_same _ h hl]

theorem State.pgState_setPgState (s : State) (pg v : Nat) : (s.setPgState pg v).pgState pg = v % 8 :=
  s.rf_wf_same _ (by decide) (by decide) v

section
variable {l : List Fld} {q : Nat → Bool} {s t : State} {a : Nat}

theorem Within.rb (h : Within l q s t) (ha : q a = false) (i : Nat) : t.rb a i = s.rb a i := by
  rw [State.rb, h.rd ha, State.rb]

theorem Within.rf (h : Within l q s t) (ha : q a = false) (hi lo : Nat) : t.rf a hi lo = s.rf a hi lo := by
  rw [State.rf, h.rd ha, State.rf]

theorem Within.rn (h : Within l q s t) (ha : q a = false) : t.rn a = s.rn a := by
  rw [State.rn, h.rd ha, State.rn]

theorem Within.hif (h : Within l q s t) (hl : Fld.hif ∉ l) : t.hif = s.hif := (h.1 .hif).resolve_left hl

theorem Within.pwr (h : Within l q s t) (hl : Fld.pwr ∉ l) : t.pwr = s.pwr := (h.1 .pwr).resolve_left hl

/-- A frame with its registers named in another way. -/
theorem Within.regs_mono {q' : Nat → Bool} (h : Within l q s t) (hq : ∀ a, q a = true → q' a = true) : Within l q' s t := h.mono (fun _ h => h) hq

end

/-! ### Registers that events and faults leave alone -/

/-- An event leaves a register alone that is no EVT_PEND by its offset, lies in no PBA page and is not the service die's event count. -/
theorem evtReg_eq_false {a : Nat} (ho : a % 0x1000 ≠ 0x1C) (hp : a < 0x14000 ∨ 0x18000 ≤ a) (hs : a ≠ Reg.SVC_BMC_EVT) : evtReg a = false := by
  have h1 : (a % 0x1000 == 0x1C) = false := by simpa using ho
  have h2 : (decide (0x14000 ≤ a) && decide (a < 0x18000)) = false := by
    simp only [Bool.and_eq_false_iff, decide_eq_false_iff_not]
    omega
  have h3 : (a == Reg.SVC_BMC_EVT) = false := by simpa using hs
  simp only [evtReg, h1, h2, h3, Bool.and_false, Bool.or_false]

/-- A NOTICE fault leaves a register alone that its event leaves alone and that is no register of the collector's record. -/
theorem faultReg_eq_false {a : Nat} (he : evtReg a = false) (hl : a ≠ Reg.FLT_LOG_WR) (hp : a < Reg.FLT_PEND 0 ∨ Reg.FLT_PEND 15 < a) :
    faultReg a = false := by
  have h1 : (a == Reg.FLT_LOG_WR) = false := by simpa using hl
  have h2 : (decide (Reg.FLT_PEND 0 ≤ a) && decide (a ≤ Reg.FLT_PEND 15)) = false := by
    simp only [Bool.and_eq_false_iff, decide_eq_false_iff_not]
    omega
  simp only [faultReg, he, h1, h2, Bool.or_false]

/-- A page whose number is not among 20 to 23, those of the PBA: every page with a header. -/
theorem header_not_pba {a : Nat} (hh : hasHeader (a / 0x100000) (a / 0x1000 % 256) = true) : a < 0x10000 ∨ 0x100000 ≤ a := by
  simp only [hasHeader, Bool.not_eq_true', Bool.and_eq_false_iff, beq_eq_false_iff_ne, decide_eq_false_iff_not] at hh
  omega

/-- No event and no NOTICE fault changes a header register other than EVT_PEND. -/
theorem faultReg_header {a : Nat} (hh : hasHeader (a / 0x100000) (a / 0x1000 % 256) = true) (ho : a % 0x1000 < 0x40) (hne : a % 0x1000 ≠ 0x1C) :
    faultReg a = false := by
  have hb := header_not_pba hh
  refine faultReg_eq_false (evtReg_eq_false hne (by omega) ?_) ?_ ?_
  · rintro rfl; revert ho; decide
  · rintro rfl; revert ho; decide
  · simp only [Reg.FLT_PEND]; omega

theorem evtReg_of_faultReg {a : Nat} (h : faultReg a = false) : evtReg a = false := by
  simp only [faultReg, Bool.or_eq_false_iff] at h
  exact h.1.1

/-! ### Violations of ownership (R28) -/

/-- A count of 32 bits that saturates. -/
theorem satAdd_one {x : Nat} (h : x < 2 ^ 32) : satAdd 32 x 1 = min (2 ^ 32 - 1) (x + 1) := by
  unfold satAdd
  split <;> omega

theorem satAdd_word (w : Word) : (wd (satAdd 32 w.toNat 1)).toNat = min (2 ^ 32 - 1) (w.toNat + 1) := by
  rw [satAdd_one w.isLt, BitVec.toNat_ofNat]
  omega

/-- What a dropped write does to a register that the report of it leaves alone. -/
theorem State.rd_ownViol (s : State) (p : Party) (a : Nat) {b : Nat} (h : faultReg b = false) :
    (s.ownViol p a).rd b =
      ((s.wn Reg.HIF_OWN_VIOL (satAdd 32 (s.rn Reg.HIF_OWN_VIOL) 1)).wr Reg.HIF_OWN_LAST (wd (partyCode p * 2 ^ 28 + a % 2 ^ 26))).rd b := by
  unfold State.ownViol
  rw [(State.evt_within _ _).rd (evtReg_of_faultReg h), (State.notice_within _ _ _ _ _ (by decide) (by decide)).rd h]

theorem State.ownViol_count (s : State) (p : Party) (a : Nat) : (s.ownViol p a).rn Reg.HIF_OWN_VIOL = min (2 ^ 32 - 1) (s.rn Reg.HIF_OWN_VIOL + 1) := by
  rw [State.rn, s.rd_ownViol p a (by decide), State.rd_wr_other _ _ _ _ (by decide), State.wn, State.rd_wr_same]
  exact satAdd_word _

theorem State.ownViol_last (s : State) (p : Party) (a : Nat) : (s.ownViol p a).rd Reg.HIF_OWN_LAST = wd (partyCode p * 2 ^ 28 + a % 2 ^ 26) := by
  rw [s.rd_ownViol p a (by decide), State.rd_wr_same]

theorem State.rd_ownViol_other (s : State) (p : Party) (a : Nat) {b : Nat} (h : faultReg b = false) (hv : b ≠ Reg.HIF_OWN_VIOL) (hl : b ≠ Reg.HIF_OWN_LAST) :
    (s.ownViol p a).rd b = s.rd b := by
  rw [s.rd_ownViol p a h, State.rd_wr_other _ _ _ _ hl.symm, State.wn, State.rd_wr_other _ _ _ _ hv.symm]

/-- The frame of a dropped write, with the registers of the count listed. -/
theorem State.ownViol_frame (s : State) (p : Party) (a : Nat) :
    Within noticeFields (fun b => faultReg b || among [Reg.HIF_OWN_VIOL, Reg.HIF_OWN_LAST] b) s (s.ownViol p a) :=
  (s.ownViol_within p a).regs_mono fun b hb => by simpa [among, Bool.or_assoc] using hb

theorem State.writeWord_dropped {s : State} {p : Party} {a : Nat} {v : Word} (h : s.writeFate p a v = .dropped) (hcs : ¬ IsCsCmd a) :
    s.writeWord p a v = s.ownViol p a := by
  rw [s.writeWord_plain p hcs, State.writeBy, h]

/-! ### Writes that are dropped (R28, R31) -/

/-- A party without rights on the page, where no rule names the parties: the write is dropped (R28). -/
theorem State.writeFate_foreign {s : State} {p : Party} {a : Nat} {v : Word} {r : RegRow} (hp : s.reaches p = true) (hpres : s.present a = true)
    (hr : regRow a = some r) (hrule : s.partyRule p a v.toNat = none) (hown : s.rb (Reg.PAGE_OWNER (a / 0x1000 * 0x1000)) (partyCode p) = false)
    (hdbg : p ≠ .dbg) (hmgt : p = .mgt → s.sealed = true) : s.writeFate p a v = .dropped := by
  have howns : s.owns p a = false := by
    cases p with
    | dbg => exact absurd rfl hdbg
    | mgt => simp [State.owns, hown, hmgt rfl]
    | _ => simp [State.owns, hown]
  have hrwk : p ≠ .mgt ∨ s.sealed = true := (em (p = .mgt)).elim (fun h => .inr (hmgt h)) .inl
  simp [State.writeFate, hp, hpres, hr, hrule, howns, hrwk]

/-- CS_CMD has a rule of its own (R32). -/
theorem State.partyRule_csCmd (s : State) (p : Party) {a : Nat} (h : IsCsCmd a) (v : Nat) : s.partyRule p a v ≠ none := by
  obtain ⟨hl, hu, ho⟩ := h
  have h1 : ¬ (a = Reg.HIF_SEAL ∨ a = Reg.FLT_READY) := by simp only [Reg.HIF_SEAL, Reg.FLT_READY]; omega
  simp [State.partyRule, h1, hl, hu]

/-- Settles O8: the write is dropped, and what a dropped write leaves alone includes the page's header registers. -/
theorem foreignWriteIsDropped : Obligations.ForeignWriteIsDropped := by
  unfold Obligations.ForeignWriteIsDropped
  intro p reg v r s hp hpres hr hrule hh hown hdbg hmgt
  have hcs : ¬ IsCsCmd (4 * reg) := fun hcs => s.partyRule_csCmd p hcs _ hrule
  have hw := State.writeWord_dropped (State.writeFate_foreign hp hpres hr hrule hown hdbg hmgt) hcs
  have hkeep : ∀ off < 0x40, off ≠ 0x1C →
      (s.ownViol p (4 * reg)).rd (4 * reg / 0x1000 * 0x1000 + off) = s.rd (4 * reg / 0x1000 * 0x1000 + off) := fun off ho h1 =>
    s.rd_ownViol_other p _ (faultReg_header (by rw [← hh]; congr 1 <;> omega) (by omega) (by omega)) (by simp only [Reg.HIF_OWN_VIOL]; omega)
      (by simp only [Reg.HIF_OWN_LAST]; omega)
  have hframe := s.ownViol_frame p (4 * reg)
  refine ends_of_done ((exec_registerWrite_alone p reg v s).trans (congrArg done hw))
    ⟨s.ownViol_count p _, s.ownViol_last p _, hframe.mem (by decide), hkeep 8 (by decide) (by decide), hkeep 0x34 (by decide) (by decide), hframe.ended (by decide)⟩

/-- An RWK register is written by no party once SEALED is set (R31). -/
theorem State.writeFate_sealed {s : State} {p : Party} {a : Nat} {v : Word} {r : RegRow} (hs : s.sealed = true) (hp : s.reaches p = true)
    (hpres : s.present a = true) (hr : regRow a = some r) (hacc : r.acc = .rwk) : s.writeFate p a v = .dropped := by
  simp [State.writeFate, hp, hpres, hr, hacc, hs]

/-! ### Rows of the register tables (R23, R24) -/

theorem findRow_mem {off : Nat} {l : List RegRow} {r : RegRow} (h : findRow off l = some r) : r ∈ l := by
  induction l with
  | nil => cases h
  | cons x t ih =>
    rcases ite_eq_iff.mp h with ⟨-, hx⟩ | ⟨-, ht⟩
    · injection hx with hx; simp [hx]
    · exact List.mem_cons_of_mem _ (ih ht)

/-- A register's row is one of its page's header or one of its page's own table. -/
theorem regRow_some {a : Nat} {r : RegRow} (h : regRow a = some r) :
    (hasHeader (a / 0x100000) (a / 0x1000 % 256) = true ∧ a % 0x1000 < 0x40 ∧ findRow (a % 0x1000) rowsHeader = some r) ∨
      (¬ (hasHeader (a / 0x100000) (a / 0x1000 % 256) = true ∧ a % 0x1000 < 0x40) ∧
        findRow (a % 0x1000) (rowsOf (a / 0x100000) (a / 0x1000 % 256)) = some r) := by
  unfold regRow at h
  dsimp only at h
  split at h
  · split at h
    · rename_i hh
      split at h
      · cases h
      · exact .inl ⟨hh.1, hh.2, h⟩
    · rename_i hh
      exact .inr ⟨hh, h⟩
  · cases h

/-- Rows beyond a page's header are rows of the page's own table. -/
theorem regRow_own {a b p : Nat} {r : RegRow} (h : regRow a = some r) (hb : a / 0x100000 = b) (hp : a / 0x1000 % 256 = p)
    (hn : hasHeader b p = false ∨ 0x40 ≤ a % 0x1000) : r ∈ rowsOf b p := by
  subst hb hp
  rcases regRow_some h with ⟨hh, ho, -⟩ | ⟨-, h⟩
  · rcases hn with hn | hn
    · simp [hh] at hn
    · omega
  · exact findRow_mem h

theorem rwk_not_pba {a : Nat} {r : RegRow} (hr : regRow a = some r) (hacc : r.acc = .rwk) : ¬ (0x14000 ≤ a ∧ a < 0x18000) := by
  rintro ⟨hl, hu⟩
  have hb : a / 0x100000 = 0 := by omega
  have hq : a / 0x1000 % 256 = 20 ∨ a / 0x1000 % 256 = 21 ∨ a / 0x1000 % 256 = 22 ∨ a / 0x1000 % 256 = 23 := by omega
  have hm : r ∈ rowsPba := by
    rcases hq with hq | hq | hq | hq <;> exact regRow_own hr hb hq (.inl (by decide))
  exact (by decide : ∀ r ∈ rowsPba, r.acc ≠ .rwk) r hm hacc

theorem rwk_not_evtPend {a : Nat} {r : RegRow} (hr : regRow a = some r) (hacc : r.acc = .rwk)
    (hh : hasHeader (a / 0x100000) (a / 0x1000 % 256) = true) : a % 0x1000 ≠ 0x1C := by
  intro ho
  rcases regRow_some hr with ⟨-, -, h⟩ | ⟨hn, -⟩
  · rw [ho] at h
    have hrow : (findRow 0x1C rowsHeader).map (·.acc) = some .w1c := by decide
    rw [h, Option.map_some, hacc] at hrow
    cases hrow
  · exact hn ⟨hh, by omega⟩

theorem rwk_not_fltPend {a : Nat} {r : RegRow} (hr : regRow a = some r) (hacc : r.acc = .rwk) : a < Reg.FLT_PEND 0 ∨ Reg.FLT_PEND 15 < a := by
  by_contra hn
  simp only [Reg.FLT_PEND] at hn
  have hm : r ∈ rowsOf 16 1 := regRow_own hr (by omega) (by omega) (.inr (by omega))
  exact (by decide : ∀ r ∈ rowsOf 16 1, r.acc ≠ .rwk) r hm hacc

theorem rwk_ne {a b : Nat} {r : RegRow} (hr : regRow a = some r) (hacc : r.acc = .rwk) (hb : (regRow b).map (·.acc) ≠ some .rwk) : a ≠ b := by
  rintro rfl
  exact hb (by rw [hr, Option.map_some, hacc])

/-- No event and no NOTICE fault changes a protected register. -/
theorem faultReg_rwk {a : Nat} {r : RegRow} (hr : regRow a = some r) (hacc : r.acc = .rwk) : faultReg a = false := by
  have hpba := rwk_not_pba hr hacc
  have hev : evtReg a = false := by
    have h1 : (hasHeader (a / 0x100000) (a / 0x1000 % 256) && a % 0x1000 == 0x1C) = false := by
      rw [Bool.and_eq_false_imp]
      exact fun hh => by simpa using rwk_not_evtPend hr hacc hh
    have h2 : (decide (0x14000 ≤ a) && decide (a < 0x18000)) = false := by simpa using hpba
    have h3 : (a == Reg.SVC_BMC_EVT) = false := by simpa using rwk_ne hr hacc (by decide : (regRow Reg.SVC_BMC_EVT).map (·.acc) ≠ some .rwk)
    simp only [evtReg, h1, h2, h3, Bool.or_false]
  exact faultReg_eq_false hev (rwk_ne hr hacc (by decide)) (rwk_not_fltPend hr hacc)

/-- CS_CMD is no protected register. -/
theorem rwk_not_csCmd {a : Nat} {r : RegRow} (hr : regRow a = some r) (hacc : r.acc = .rwk) : ¬ IsCsCmd a := by
  rintro ⟨hl, hu, ho⟩
  have hk : ∃ k < 6, a = Reg.CS_CMD k := ⟨a / 0x1000 - 6, by omega, by simp only [Reg.CS_CMD]; omega⟩
  obtain ⟨k, hk, rfl⟩ := hk
  exact rwk_ne hr hacc ((by decide : ∀ k < 6, (regRow (Reg.CS_CMD k)).map (·.acc) ≠ some .rwk) k hk) rfl

/-- Settles O9: sealing drops the write whatever the party, and the report of it changes no protected register. -/
theorem sealedProtectionIsDropped : Obligations.SealedProtectionIsDropped := by
  unfold Obligations.SealedProtectionIsDropped
  intro p reg v r s hs hp hpres hr hacc
  have hw := State.writeWord_dropped (v := v) (State.writeFate_sealed hs hp hpres hr hacc) (rwk_not_csCmd hr hacc)
  have hkeep := s.rd_ownViol_other p (4 * reg) (faultReg_rwk hr hacc) (rwk_ne hr hacc (by decide)) (rwk_ne hr hacc (by decide))
  exact ends_of_done ((exec_registerWrite_alone p reg v s).trans (congrArg done hw))
    ⟨s.ownViol_count p _, s.ownViol_last p _, hkeep, (s.ownViol_frame p _).mem (by decide)⟩

end Sys2Proof.Machine

/-! ## Writes of header registers (R24, R28 to R30) -/
namespace Sys2Proof.Machine

/-! ### Allowed writes of header registers (R24, R28, R30) -/

theorem State.writeFate_applied {s : State} {p : Party} {a : Nat} {v : Word} {r : RegRow} (h : s.writeFate p a v = .applied r) :
    s.reaches p = true ∧ s.present a = true := by
  unfold State.writeFate at h
  split at h
  · cases h
  · rename_i hn
    simpa using hn

theorem Allowed.applied {s : State} {p : Party} {a : Nat} {v : Word} (h : Allowed s p a v) : ∃ r, s.writeFate p a v = .applied r := by
  cases hf : s.writeFate p a v with
  | ignored => simp [Allowed, hf, WriteFate.isApplied] at h
  | dropped => simp [Allowed, hf, WriteFate.isApplied] at h
  | applied r => exact ⟨r, rfl⟩

theorem Allowed.present {s : State} {p : Party} {a : Nat} {v : Word} (h : Allowed s p a v) : s.present a = true := by
  obtain ⟨r, hf⟩ := h.applied
  exact (State.writeFate_applied hf).2

/-- The row of a header register that every page with a header has: any but SHADOW_CTRL. -/
theorem regRow_header {n a : Nat} (hp : pagePresent n (a / 0x100000) (a / 0x1000 % 256) = true) (hh : hasHeader (a / 0x100000) (a / 0x1000 % 256) = true)
    (ho : a % 0x1000 < 0x40) (hs : a % 0x1000 ≠ 0x30) : regRow a = findRow (a % 0x1000) rowsHeader := by
  simp only [regRow, if_pos (pagePresent_bound hp), hh, ho, hs, and_self, false_and, if_true, if_false]

theorem header_no_pairs : ∀ r ∈ rowsHeader, r.lat = [] := by decide

/-- No header register is the high word of a pair. -/
theorem isPairHigh_header {a : Nat} (hh : hasHeader (a / 0x100000) (a / 0x1000 % 256) = true) (hl : 4 ≤ a % 0x1000) (ho : a % 0x1000 < 0x40) :
    isPairHigh a = false := by
  unfold isPairHigh
  cases hr : regRow (a - 4) with
  | none => rfl
  | some r =>
    have hb : (a - 4) / 0x100000 = a / 0x100000 := by omega
    have hp : (a - 4) / 0x1000 % 256 = a / 0x1000 % 256 := by omega
    have hm : r ∈ rowsHeader := by
      rcases regRow_some hr with ⟨-, -, h⟩ | ⟨hn, -⟩
      · exact findRow_mem h
      · exact absurd ⟨by rw [hb, hp, hh], by omega⟩ hn
    simp [header_no_pairs r hm]

/-- The registers of a header are stored and act by their offset. -/
theorem State.applied_header (s : State) (p : Party) {a : Nat} (hh : hasHeader (a / 0x100000) (a / 0x1000 % 256) = true) (ho : a % 0x1000 < 0x40)
    (r : RegRow) (v : Word) (cs : Bool) : s.applied p a r v cs = (s.store a r v).headerWritten a v (s.rd a) := by
  have h1 : ¬ (Reg.FLT_PEND 0 ≤ a ∧ a ≤ Reg.FLT_PEND 15) := by simp only [Reg.FLT_PEND]; omega
  have h2 : a ≠ Reg.FLT_READY := by simp only [Reg.FLT_READY]; omega
  have h3 : ¬ (gateReg 0 ≤ a ∧ a ≤ gateReg 2) := by simp only [gateReg, Reg.PWR_GATE_SLICE]; omega
  have h4 : a ≠ Reg.PWR_RESET := by simp only [Reg.PWR_RESET]; omega
  simp only [State.applied, if_neg h1, if_neg h2, if_neg h3, if_neg h4, State.regEffect, hh, ho, and_self, if_true]

/-- EVT_FORCE raises the conditions written 1 (R41). -/
theorem State.headerWritten_force (s : State) {a : Nat} (h : a % 0x1000 = 0x20) (v old : Word) :
    s.headerWritten a v old = s.evtForce (a / 0x1000 * 0x1000) v := by
  simp only [State.headerWritten, h]

/-- The other registers of a header but PAGE_CTRL and EVT_EN are stored, and no more. -/
theorem State.headerWritten_plain (s : State) {a : Nat} (hc : a % 0x1000 ≠ 0xC) (he : a % 0x1000 ≠ 0x18) (hf : a % 0x1000 ≠ 0x20) (v old : Word) :
    s.headerWritten a v old = s := by
  unfold State.headerWritten
  dsimp only
  split
  · exact absurd ‹_› hc
  · exact absurd ‹_› he
  · exact absurd ‹_› hf
  · rfl

theorem State.seqInc_header (s : State) {a : Nat} (hh : hasHeader (a / 0x100000) (a / 0x1000 % 256) = true) :
    s.seqInc a = s.cntWrap (Reg.SEQ (a / 0x1000 * 0x1000)) := by
  simp only [State.seqInc, hh, if_true]

/-- An allowed write of a header register counts in SEQ, is stored, and acts by its offset. -/
theorem State.writeWord_header {s : State} {p : Party} {a : Nat} {v : Word} {r : RegRow} (h : Allowed s p a v)
    (hh : hasHeader (a / 0x100000) (a / 0x1000 % 256) = true) (hl : 4 ≤ a % 0x1000) (ho : a % 0x1000 < 0x40)
    (hr : findRow (a % 0x1000) rowsHeader = some r) (hs : a % 0x1000 ≠ 0x30) :
    s.writeWord p a v = ((s.cntWrap (Reg.SEQ (a / 0x1000 * 0x1000))).store a r v).headerWritten a v
      ((s.cntWrap (Reg.SEQ (a / 0x1000 * 0x1000))).rd a) := by
  have hrow : regRow a = some r := (regRow_header h.present hh ho hs).trans hr
  have hlow : isPairLow r = false := by simp [isPairLow, header_no_pairs r (findRow_mem hr)]
  have hreset : a ≠ Reg.PWR_RESET := by simp only [Reg.PWR_RESET]; omega
  have hcs : ¬ IsCsCmd a := fun hcs => by have := hcs.2.2; omega
  rw [State.writeWord_allowed h hrow hcs, s.seqInc_header hh, State.putWord]
  simp only [hlow, isPairHigh_header hh hl ho, if_neg hreset, Bool.false_eq_true, if_false]
  exact State.applied_header _ p hh ho r v false

/-- A write of an offset of page number `pg`, with what lies where. -/
theorem State.writeWord_page {s : State} {p : Party} {pg off : Nat} {v : Word} {r : RegRow} (hh : hasHeader (pg / 256) (pg % 256) = true)
    (h : Allowed s p (pg * 0x1000 + off) v) (hl : 4 ≤ off) (ho : off < 0x40) (hr : findRow off rowsHeader = some r) (hs : off ≠ 0x30) (hseq : off ≠ 0x34) :
    s.writeWord p (pg * 0x1000 + off) v =
      ((s.cntWrap (Reg.SEQ (pg * 0x1000))).store (pg * 0x1000 + off) r v).headerWritten (pg * 0x1000 + off) v (s.rd (pg * 0x1000 + off)) := by
  obtain ⟨hb, hq, hoff⟩ := pageOffset pg (off := off) (by omega)
  rw [State.writeWord_header h (by rw [hb, hq, hh]) (by omega) (by omega) (by rw [hoff, hr]) (by omega), hq]
  congr 1
  exact State.rd_wr_other _ _ _ _ (by simp only [Reg.SEQ]; omega)

/-- The state before the effect of such a write: SEQ has counted it, its register holds it, and nothing else has changed. -/
theorem State.counted_stored (s : State) (b : Nat) {a : Nat} (ha : a ≠ Reg.SEQ b) (r : RegRow) (v : Word) :
    ((s.cntWrap (Reg.SEQ b)).store a r v).rd a = storedWord a r (s.rd a) v ∧ ((s.cntWrap (Reg.SEQ b)).store a r v).rd (Reg.SEQ b) = s.rd (Reg.SEQ b) + 1 ∧
      Within [.regs] (fun c => c == a || c == Reg.SEQ b) s ((s.cntWrap (Reg.SEQ b)).store a r v) := by
  refine ⟨?_, ?_, ((s.cntWrap_within _).mono (by decide) (by simp +contextual)).trans ((State.store_within _ _ _ _).mono (by decide) (by simp +contextual))⟩
  · rw [State.store, State.rd_wr_same, State.cntWrap, State.rd_wr_other _ _ _ _ ha.symm]
  · rw [State.store, State.rd_wr_other _ _ _ _ ha, State.cntWrap, State.rd_wr_same]

/-! ### ERR_WINDOW (R29, R452) -/

/-- The row of ERR_WINDOW: a count of seconds, limited to 1 to 3,600. -/
def rowErrWindow : RegRow := ⟨0x28, 0, 1, .rw, 0x3C, 0xFFFFFFFF, [.clamp 15 0 1 3600], []⟩

/-- Writable bits of a header register, by its offset in page number `pg`. -/
theorem writeMask_page {pg off : Nat} (hh : hasHeader (pg / 256) (pg % 256) = true) (ho : off < 0x40) (r : RegRow) :
    writeMask (pg * 0x1000 + off) r = headerMask (pg / 256) (pg % 256) off := by
  obtain ⟨hb, hq, hoff⟩ := pageOffset pg (off := off) (by omega)
  simp only [writeMask, hb, hq, hoff, hh, ho, and_self, if_true]

theorem storedWord_rw {r : RegRow} (hacc : r.acc = .rw) (a : Nat) (old v : Word) :
    storedWord a r old v = r.lims.foldl applyLim ((old &&& ~~~wd (writeMask a r)) ||| (v &&& wd (writeMask a r))) := by
  simp [storedWord, hacc]

/-- A field under the mask is the written value's. -/
theorem fld_masked {old v m : Word} {hi lo : Nat} (hl : lo ≤ hi) (hm : ∀ i, lo ≤ i → i ≤ hi → m.getLsbD i = true) :
    fld ((old &&& ~~~m) ||| (v &&& m)) hi lo = fld v hi lo :=
  fld_eq_of_bits hl fun i h1 h2 => (getLsbD_masked old v m i).trans (if_pos (hm i h1 h2))

theorem clampN_le {lo hi : Nat} (h : lo ≤ hi) (x : Nat) : clampN lo hi x ≤ hi := by
  unfold clampN; split_ifs <;> omega

theorem storedWord_errWindow {pg : Nat} (hh : hasHeader (pg / 256) (pg % 256) = true) (old v : Word) :
    fld (storedWord (Reg.ERR_WINDOW (pg * 0x1000)) rowErrWindow old v) 15 0 = clampN 1 3600 (v.toNat % 65536) := by
  have h16 : ∀ i, 0 ≤ i → i ≤ 15 → (wd 0xFFFF).getLsbD i = true := by decide
  have hlow : fld ((old &&& ~~~wd 0xFFFF) ||| (v &&& wd 0xFFFF)) 15 0 = v.toNat % 65536 := fld_masked (by decide) h16
  rw [storedWord_rw rfl, writeMask_page hh (by decide)]
  change fld (setFld ((old &&& ~~~wd 0xFFFF) ||| (v &&& wd 0xFFFF)) 15 0 (clampN 1 3600 (fld ((old &&& ~~~wd 0xFFFF) ||| (v &&& wd 0xFFFF)) 15 0))) 15 0 = _
  rw [hlow, fld_setFld_same _ (by decide) (by decide)]
  exact Nat.mod_eq_of_lt (Nat.lt_of_le_of_lt (clampN_le (by decide) _) (by decide))

/-- The state after an allowed write of ERR_WINDOW. -/
theorem State.writeWord_errWindow {s : State} {p : Party} {pg : Nat} {v : Word} (hh : hasHeader (pg / 256) (pg % 256) = true)
    (h : Allowed s p (Reg.ERR_WINDOW (pg * 0x1000)) v) :
    s.writeWord p (Reg.ERR_WINDOW (pg * 0x1000)) v = (s.cntWrap (Reg.SEQ (pg * 0x1000))).store (Reg.ERR_WINDOW (pg * 0x1000)) rowErrWindow v := by
  obtain ⟨-, -, ho⟩ := pageOffset pg (off := 0x28) (by decide)
  rw [State.writeWord_page hh h (by decide) (by decide) (by rfl) (by decide) (by decide) (r := rowErrWindow)]
  exact State.headerWritten_plain _ (by omega) (by omega) (by omega) _ _

/-- What an allowed write of ERR_WINDOW does. -/
theorem State.errWindow_written {s : State} {p : Party} {pg : Nat} {v : Word} (hh : hasHeader (pg / 256) (pg % 256) = true)
    (h : Allowed s p (Reg.ERR_WINDOW (pg * 0x1000)) v) :
    (s.writeWord p (Reg.ERR_WINDOW (pg * 0x1000)) v).rf (Reg.ERR_WINDOW (pg * 0x1000)) 15 0 = clampN 1 3600 (v.toNat % 65536) ∧
      (s.writeWord p (Reg.ERR_WINDOW (pg * 0x1000)) v).rd (Reg.SEQ (pg * 0x1000)) = s.rd (Reg.SEQ (pg * 0x1000)) + 1 ∧
      Within [.regs] (fun a => a == Reg.ERR_WINDOW (pg * 0x1000) || a == Reg.SEQ (pg * 0x1000)) s (s.writeWord p (Reg.ERR_WINDOW (pg * 0x1000)) v) := by
  rw [State.writeWord_errWindow hh h]
  obtain ⟨hrd, hseq, hw⟩ := s.counted_stored (pg * 0x1000) (a := Reg.ERR_WINDOW (pg * 0x1000)) (by simp only [Reg.ERR_WINDOW, Reg.SEQ]; omega) rowErrWindow v
  exact ⟨by rw [State.rf, hrd, storedWord_errWindow hh], hseq, hw⟩

/-! ### Rights after a write (R28, R31) -/

/-- Registers that the checks of a write read: the strap, SEALED, STATE of the ports, PAGE_OWNER, the slots' STATE, the debug level. -/
def rightsReg (a : Nat) : Bool :=
  a == Reg.HIF_BIFUR || a == Reg.HIF_SEAL || a == Reg.SEC_DBG_STATUS || a % 0x1000 == 8 || a % 0x1000 == 0x10 || a % 0x1000 == 0x44

/-- Two states in which the checks of R28 and R31 read the same registers and the die has the same power answer every write alike. -/
theorem State.writeFate_congr {s t : State} (hpwr : t.pwr = s.pwr) (hregs : ∀ a, rightsReg a = true → t.rd a = s.rd a) (p : Party) (a : Nat) (v : Word) :
    t.writeFate p a v = s.writeFate p a v := by
  have hports : t.ports = s.ports := by simp only [State.ports, State.rf, hregs Reg.HIF_BIFUR (by decide)]
  have hpresent : t.present a = s.present a := by simp only [State.present, hports]
  have hon : t.computeOn = s.computeOn := by simp only [State.computeOn, hpwr]
  have hfenced : ∀ k, t.portFenced k = s.portFenced k := fun k => by
    simp only [State.portFenced, State.pgState, State.rf]
    rw [hregs]
    have : Reg.PAGE_STATUS (Reg.page 0 (1 + k)) % 0x1000 = 0x10 := by simp only [Reg.PAGE_STATUS, Reg.page]; omega
    simp [rightsReg, this]
  have hreaches : t.reaches p = s.reaches p := by simp only [State.reaches, hon, hports, hfenced]
  have hsealed : t.sealed = s.sealed := by simp only [State.sealed, State.rb, hregs Reg.HIF_SEAL (by decide)]
  have hlevel : t.dbgLevel = s.dbgLevel := by simp only [State.dbgLevel, State.rf, hregs Reg.SEC_DBG_STATUS (by decide)]
  have hcs : ∀ k, t.csState k = s.csState k := fun k => by
    simp only [State.csState, State.rf]
    rw [hregs]
    have : Reg.CS_STATUS k % 0x1000 = 0x44 := by simp only [Reg.CS_STATUS]; omega
    simp [rightsReg, this]
  have howner : t.rd (Reg.PAGE_OWNER (a / 0x1000 * 0x1000)) = s.rd (Reg.PAGE_OWNER (a / 0x1000 * 0x1000)) := by
    refine hregs _ ?_
    have : Reg.PAGE_OWNER (a / 0x1000 * 0x1000) % 0x1000 = 8 := by simp only [Reg.PAGE_OWNER]; omega
    simp [rightsReg, this]
  have hrule : t.partyRule p a v.toNat = s.partyRule p a v.toNat := by
    simp only [State.partyRule, State.slotRule, hsealed, hlevel, hcs]
  have howns : t.owns p a = s.owns p a := by
    simp only [State.owns, State.rb, howner, hsealed, hlevel]
  simp only [State.writeFate, hreaches, hpresent, hsealed, hrule, howns]

theorem Allowed.of_within {l : List Fld} {q : Nat → Bool} {s t : State} {p : Party} {a : Nat} {v : Word} (h : Allowed s p a v) (hw : Within l q s t)
    (hl : Fld.pwr ∉ l) (hq : ∀ b, rightsReg b = true → q b = false) : Allowed t p a v := by
  rw [Allowed, State.writeFate_congr (hw.pwr hl) fun b hb => hw.rd (hq b hb)]
  exact h

/-- Two writes of one fabric cycle by two parties apply in the order of R29. -/
theorem State.writeCycle_two (s : State) {p q : Party} (hne : q ≠ p) {a b : Nat} (ha : ¬ IsCsCmd a) (hb : ¬ IsCsCmd b) (v w : Word) :
    s.writeCycle [(p, a, v), (q, b, w)] =
      if cyclePlace p < cyclePlace q then (s.writeWord p a v).writeWord q b w else (s.writeWord q b w).writeWord p a v := by
  have hord : (cycleOrder.flatMap fun x => [(p, a, v), (q, b, w)].filter fun y => y.1 = x) =
      if cyclePlace p < cyclePlace q then [(p, a, v), (q, b, w)] else [(q, b, w), (p, a, v)] := by
    cases p <;> cases q <;> first | exact absurd rfl hne | rfl
  have hone : ∀ (u : State) (x : Party) (c : Nat), ¬ IsCsCmd c → ∀ y, u.takeWrite x c y = (u.writeWord x c y, []) := fun u x c hc y => by
    simp only [State.writeWord, State.takeWrite, if_neg hc, State.csGrant_nil]
  simp only [State.writeCycle, hord]
  split_ifs <;> simp [hone, ha, hb]

/-- What the registers that the checks read are not: ERR_WINDOW and SEQ of a page. -/
theorem rightsReg_not_window (pg b : Nat) (h : rightsReg b = true) :
    (b == Reg.ERR_WINDOW (pg * 0x1000) || b == Reg.SEQ (pg * 0x1000)) = false := by
  have hne : b % 0x1000 ≠ 0x28 ∧ b % 0x1000 ≠ 0x34 := by
    simp only [rightsReg, Bool.or_eq_true, beq_iff_eq] at h
    rcases h with ((((rfl | rfl) | rfl) | h) | h) | h
    · decide
    · decide
    · decide
    · omega
    · omega
    · omega
  obtain ⟨h1, h2⟩ := hne
  simp only [Bool.or_eq_false_iff, beq_eq_false_iff_ne, Reg.ERR_WINDOW, Reg.SEQ]
  omega

/-- Two allowed writes of ERR_WINDOW, one after the other. -/
theorem State.errWindow_written_twice {s : State} {p q : Party} {pg : Nat} {v w : Word} (hh : hasHeader (pg / 256) (pg % 256) = true)
    (hp : Allowed s p (Reg.ERR_WINDOW (pg * 0x1000)) v) (hq : Allowed s q (Reg.ERR_WINDOW (pg * 0x1000)) w) {t : State}
    (ht : t = (s.writeWord p (Reg.ERR_WINDOW (pg * 0x1000)) v).writeWord q (Reg.ERR_WINDOW (pg * 0x1000)) w) :
    t.rf (Reg.ERR_WINDOW (pg * 0x1000)) 15 0 = clampN 1 3600 (w.toNat % 65536) ∧ t.rd (Reg.SEQ (pg * 0x1000)) = s.rd (Reg.SEQ (pg * 0x1000)) + 2 ∧
      Within [.regs] (fun a => a == Reg.ERR_WINDOW (pg * 0x1000) || a == Reg.SEQ (pg * 0x1000)) s t := by
  subst ht
  obtain ⟨-, hseq, hw⟩ := State.errWindow_written hh hp
  have hq' := hq.of_within hw (by decide) fun b hb => rightsReg_not_window pg b hb
  obtain ⟨hval, hseq', hw'⟩ := State.errWindow_written hh hq'
  refine ⟨hval, ?_, hw.trans hw'⟩
  rw [hseq', hseq, BitVec.add_assoc]
  rfl

/-- Settles O10: one write by what it stores; two by the order in which they apply, the later on what the earlier left. -/
theorem headerWriteIsStored : Obligations.HeaderWriteIsStored := by
  unfold Obligations.HeaderWriteIsStored
  intro p pg v s hh h
  have hreg : 4 * ((pg.val * 0x1000 + 0x28) / 4) = Reg.ERR_WINDOW (pg.val * 0x1000) := by simp only [Reg.ERR_WINDOW]; omega
  have hcs : ¬ IsCsCmd (Reg.ERR_WINDOW (pg.val * 0x1000)) := fun hcs => by have := hcs.2.2; simp only [Reg.ERR_WINDOW] at this; omega
  refine ⟨?_, fun q w hne hq => ?_⟩
  · obtain ⟨hval, hseq, hw⟩ := State.errWindow_written hh h
    exact ends_of_done ((exec_registerWrite_alone p _ v s).trans (congrArg done (congrArg (s.writeWord p · v) hreg)))
      ⟨hval, hseq, (hw.widen (by decide)).ended (by decide)⟩
  · have hexec : exec (.registerWrite p ⟨(pg.val * 0x1000 + 0x28) / 4, by omega⟩ v [⟨q, ⟨(pg.val * 0x1000 + 0x28) / 4, by omega⟩, w⟩]) s =
        done (s.writeCycle [(p, Reg.ERR_WINDOW (pg.val * 0x1000), v), (q, Reg.ERR_WINDOW (pg.val * 0x1000), w)]) := by
      rw [← hreg]; rfl
    rw [s.writeCycle_two hne hcs hcs] at hexec
    by_cases hlt : cyclePlace p < cyclePlace q
    · rw [if_pos hlt] at hexec ⊢
      obtain ⟨hval, hseq, hw⟩ := State.errWindow_written_twice hh h hq rfl
      exact ends_of_done hexec ⟨hval, hseq, (hw.widen (by decide)).ended (by decide)⟩
    · rw [if_neg hlt] at hexec ⊢
      obtain ⟨hval, hseq, hw⟩ := State.errWindow_written_twice hh hq h rfl
      exact ends_of_done hexec ⟨hval, hseq, (hw.widen (by decide)).ended (by decide)⟩

end Sys2Proof.Machine

/-! ## Events and MSI-X (R41 to R43) -/
namespace Sys2Proof.Machine

/-! ### Where a source lies (R41, R453) -/

theorem pageSrc_mem {l : List SrcRange} {b p i : Nat} (h : i < (pageSrc l b p).2) :
    ∃ r ∈ l, r.block = b ∧ r.page ≤ p ∧ p < r.page + r.pages ∧ pageSrc l b p = (r.first + r.per * (p - r.page), r.per) := by
  induction l with
  | nil => simp [pageSrc] at h
  | cons r t ih =>
    unfold pageSrc at h ⊢
    by_cases hr : r.block = b ∧ r.page ≤ p ∧ p < r.page + r.pages
    · exact ⟨r, by simp, hr.1, hr.2.1, hr.2.2, if_pos hr⟩
    · rw [if_neg hr] at h ⊢
      obtain ⟨r', hm, h⟩ := ih h
      exact ⟨r', List.mem_cons_of_mem _ hm, h⟩

/-- No source is in both runs. -/
abbrev SrcRange.Apart (x y : SrcRange) : Prop := x.first + x.per * x.pages ≤ y.first ∨ y.first + y.per * y.pages ≤ x.first

theorem evtRanges_apart : evtRanges.Pairwise SrcRange.Apart := by decide

/-- A source of a run lies where the run says, where no source is in two runs. -/
theorem srcLoc_of_mem {l : List SrcRange} (hl : l.Pairwise SrcRange.Apart) {r : SrcRange} (hr : r ∈ l) {src : Nat} (h : r.first ≤ src ∧ src < r.first + r.per * r.pages) :
    srcLoc l src = some (Reg.page r.block (r.page + (src - r.first) / r.per), (src - r.first) % r.per) := by
  induction l with
  | nil => cases hr
  | cons x t ih =>
    obtain ⟨hx, ht⟩ := List.pairwise_cons.mp hl
    unfold srcLoc
    rcases List.mem_cons.mp hr with rfl | hm
    · rw [if_pos h]
    · have := hx r hm
      rw [if_neg (by omega), ih ht hm]

/-- Source `i` of a page lies at bit `i` of that page. -/
theorem srcLoc_pageSrc {b p i : Nat} (h : i < (pageSrc evtRanges b p).2) :
    srcLoc evtRanges ((pageSrc evtRanges b p).1 + i) = some (Reg.page b p, i) := by
  obtain ⟨r, hr, rfl, hl, hu, heq⟩ := pageSrc_mem h
  rw [heq] at h ⊢
  simp only at h ⊢
  have hsub : r.first + r.per * (p - r.page) + i - r.first = r.per * (p - r.page) + i := by omega
  have hlt : r.per * (p - r.page) + i < r.per * r.pages := by
    calc r.per * (p - r.page) + i < r.per * (p - r.page) + r.per := by omega
      _ = r.per * (p - r.page + 1) := by ring
      _ ≤ r.per * r.pages := Nat.mul_le_mul_left _ (by omega)
  rw [srcLoc_of_mem evtRanges_apart hr ⟨by omega, by omega⟩, hsub, Nat.mul_add_div (by omega), Nat.div_eq_of_lt h, Nat.mul_add_mod, Nat.mod_eq_of_lt h]
  congr 3
  omega

/-! ### What the router may write (R42, R43, R374) -/

/-- PBA bits and the service die's event count. -/
def routeReg (a : Nat) : Bool := (decide (0x14000 ≤ a) && decide (a < 0x18000)) || a == Reg.SVC_BMC_EVT

/-- HIF state that is neither the cycle's vectors nor the sources held for the router's test. -/
def Hif.sameBut (x y : Hif) : Prop := y = { x with cycleVecs := y.cycleVecs, routerHeld := y.routerHeld }

theorem Hif.sameBut.trans {x y z : Hif} (h : x.sameBut y) (k : y.sameBut z) : x.sameBut z := by
  rw [Hif.sameBut] at *
  rw [k, h]

/-- `t` is `s` after events have gone their ways: PBA bits and the service die's queue are written, messages are sent, and HIF otherwise stands. -/
structure State.Routed (s t : State) : Prop where
  within : Within evtFields routeReg s t
  hif : s.hif.sameBut t.hif

theorem State.Routed.refl (s : State) : s.Routed s := ⟨.refl s, rfl⟩

theorem State.Routed.trans {s t u : State} (h : s.Routed t) (k : t.Routed u) : s.Routed u := ⟨h.within.trans k.within, h.hif.trans k.hif⟩

theorem State.toVector_routed (s : State) {p v : Nat} (hp : p < 4) (hv : v < 256) : s.Routed (s.toVector p v) := by
  unfold State.toVector
  split
  · refine ⟨(s.wb_within _ _ _).mono (by decide) fun a ha => ?_, rfl⟩
    simp only [beq_iff_eq, Reg.PBA] at ha
    simp only [routeReg, Bool.or_eq_true, Bool.and_eq_true, decide_eq_true_eq]
    omega
  · split
    · exact .refl s
    · exact ⟨.of_same (fun f => by cases f <;> first | (left; decide) | (right; rfl)) rfl, rfl⟩

theorem State.toSvc_routed (s : State) (src : Nat) : s.Routed (s.toSvc src) := by
  have hreg : ∀ a, (a == Reg.SVC_BMC_EVT) = true → routeReg a = true := fun a ha => by simp [routeReg, ha]
  unfold State.toSvc
  split
  · refine ⟨(Within.trans ?_ ((State.wf_within _ _ _ _ _).mono (by decide) hreg)).trans (State.alertUpdate_within _ |>.widen (by decide)), rfl⟩
    exact .of_same (fun f => by cases f <;> first | (left; decide) | (right; rfl)) rfl
  · exact ⟨(State.wf_within _ _ _ _ _).mono (by decide) hreg, rfl⟩

theorem State.toTarget_routed (s : State) (src t : Nat) : s.Routed (s.toTarget src t) := by
  unfold State.toTarget
  dsimp only
  split
  · split
    · split
      · exact s.toVector_routed ‹_› (s.route_lt t src)
      · exact .refl s
    · split
      · exact ⟨.of_same (fun f => by cases f <;> first | (left; decide) | (right; rfl)) rfl, rfl⟩
      · exact s.toSvc_routed src
  · exact .refl s

theorem State.each_routed (n : Nat) (f : Nat → State → State) (s : State) (h : ∀ i (x : State), x.Routed (f i x)) : s.Routed (s.each n f) := by
  induction n with
  | zero => exact .refl s
  | succ n ih => exact ih.trans (h n _)

theorem State.routeEvt_routed (s : State) (src : Nat) : s.Routed (s.routeEvt src) := s.each_routed 6 _ fun t s => s.toTarget_routed src t

/-! ### One rising edge (R41) -/

/-- A source that no page has, that is not enabled or that is pending already raises nothing. -/
theorem State.evt_none {s : State} {src pg i : Nat} (h : srcLoc evtRanges src = some (pg, i)) (hq : s.rb (Reg.EVT_EN pg) i = false ∨ s.rb (Reg.EVT_PEND pg) i = true) :
    s.evt src = s := by
  have hc : (s.rb (Reg.EVT_EN pg) i && !s.rb (Reg.EVT_PEND pg) i) = false := by rcases hq with hq | hq <;> simp [hq]
  simp only [State.evt, h, hc, Bool.false_eq_true, if_false]

/-- An enabled source that is not pending sets its bit, and the router does the rest. -/
theorem State.evt_raised {s : State} {src pg i : Nat} (h : srcLoc evtRanges src = some (pg, i)) (hen : s.rb (Reg.EVT_EN pg) i = true)
    (hp : s.rb (Reg.EVT_PEND pg) i = false) : (s.wb (Reg.EVT_PEND pg) i true).Routed (s.evt src) := by
  simp only [State.evt, h, hen, hp, Bool.not_false, Bool.and_true, if_true]
  split
  · exact ⟨.of_same (fun f => by cases f <;> first | (left; decide) | (right; rfl)) rfl, rfl⟩
  · exact State.routeEvt_routed _ src

/-- What an event does to HIF beyond the vectors of the cycle and the sources held. -/
theorem State.evt_hif (s : State) (src : Nat) : s.hif.sameBut (s.evt src).hif := by
  cases h : srcLoc evtRanges src with
  | none => simp only [State.evt, h]; rfl
  | some l =>
    obtain ⟨pg, i⟩ := l
    by_cases hq : s.rb (Reg.EVT_EN pg) i = false ∨ s.rb (Reg.EVT_PEND pg) i = true
    · rw [State.evt_none h hq]; rfl
    · simp only [not_or, Bool.not_eq_false, Bool.not_eq_true] at hq
      exact (State.evt_raised h hq.1 hq.2).hif

/-- A source's pending bit after its rising edge. -/
theorem State.evt_pend {s : State} {src pg i : Nat} (h : srcLoc evtRanges src = some (pg, i)) (hi : i < 32)
    (hr : routeReg (Reg.EVT_PEND pg) = false) :
    (s.evt src).rb (Reg.EVT_PEND pg) i = (s.rb (Reg.EVT_PEND pg) i || s.rb (Reg.EVT_EN pg) i) := by
  by_cases hq : s.rb (Reg.EVT_EN pg) i = false ∨ s.rb (Reg.EVT_PEND pg) i = true
  · rw [State.evt_none h hq]
    rcases hq with hq | hq <;> simp [hq]
  · simp only [not_or, Bool.not_eq_false, Bool.not_eq_true] at hq
    rw [(State.evt_raised h hq.1 hq.2).within.rb hr, State.rb_wb_same _ _ hi, if_pos rfl, hq.1, Bool.or_true]

/-! ### EVT_FORCE (R41) -/

/-- The row of EVT_FORCE, which stores nothing. -/
def rowEvtForce : RegRow := ⟨0x20, 0, 1, .wo, 0, 0xFFFFFFFF, [], []⟩

/-- A loop of which one turn alone does anything is that turn. -/
theorem State.each_one (s : State) {n i : Nat} (hi : i < n) (f : Nat → State → State) (hf : ∀ j < n, j ≠ i → ∀ s, f j s = s) : s.each n f = f i s := by
  have hzero : ∀ m ≤ i, s.each m f = s := by
    intro m hm
    induction m with
    | zero => rfl
    | succ m ih => rw [State.each, ih (by omega), hf m (by omega) (by omega)]
  induction n with
  | zero => omega
  | succ n ih =>
    rw [State.each]
    by_cases h : i = n
    · rw [← h, hzero i (Nat.le_refl i)]
    · rw [ih (by omega) fun j hj => hf j (by omega), hf n (by omega) (Ne.symm h)]

theorem bit_two_pow {i j : Nat} (hi : i < 32) : bit (wd (2 ^ i)) j = decide (i = j) := by
  have h : wd (2 ^ i) = setBit 0 i true := by simp [setBit, wd, Nat.one_shiftLeft]
  rw [h, bit_setBit _ hi]
  by_cases hij : i = j <;> simp [hij, bit]

/-- One bit of EVT_FORCE written is one rising edge. -/
theorem State.evtForce_one (s : State) {pg i : Nat} (hi : i < 32) (hc : i < (pageSrc evtRanges (pg / 256) (pg % 256)).2) :
    s.evtForce (pg * 0x1000) (wd (2 ^ i)) = s.evt ((pageSrc evtRanges (pg / 256) (pg % 256)).1 + i) := by
  obtain ⟨hb, hq, -⟩ := pageOffset pg (off := 0) (by decide)
  rw [Nat.add_zero] at hb hq
  rw [State.evtForce, hb, hq]
  rw [s.each_one hc]
  · simp only [State.when, bit_two_pow hi, decide_true, if_true]
  · intro j _ hj s
    simp only [State.when, bit_two_pow hi, decide_eq_false (Ne.symm hj), Bool.false_eq_true, if_false]

theorem storedWord_wo {r : RegRow} (hacc : r.acc = .wo) (a : Nat) (old v : Word) : storedWord a r old v = old := by
  simp [storedWord, hacc]

/-- The page of a number, as its block and its page there. -/
theorem page_eq (pg : Nat) : Reg.page (pg / 256) (pg % 256) = pg * 0x1000 := by simp only [Reg.page]; omega

/-- An allowed write of one bit of EVT_FORCE: SEQ counts it, and on a state that is otherwise as it was the edge rises. -/
theorem State.writeWord_evtForce {s : State} {p : Party} {pg i : Nat} (hh : hasHeader (pg / 256) (pg % 256) = true) (hi : i < 32)
    (hc : i < (pageSrc evtRanges (pg / 256) (pg % 256)).2) (h : Allowed s p (Reg.EVT_FORCE (pg * 0x1000)) (wd (2 ^ i))) :
    ∃ u, s.writeWord p (Reg.EVT_FORCE (pg * 0x1000)) (wd (2 ^ i)) = u.evt ((pageSrc evtRanges (pg / 256) (pg % 256)).1 + i) ∧
      Within [.regs] (fun a => a == Reg.SEQ (pg * 0x1000)) s u := by
  obtain ⟨-, hq, ho⟩ := pageOffset pg (off := 0x20) (by decide)
  refine ⟨(s.cntWrap (Reg.SEQ (pg * 0x1000))).store (Reg.EVT_FORCE (pg * 0x1000)) rowEvtForce (wd (2 ^ i)), ?_, ?_⟩
  · rw [State.writeWord_page hh h (by decide) (by decide) (by rfl) (by decide) (by decide) (r := rowEvtForce), State.headerWritten_force _ ho, hq]
    exact State.evtForce_one _ hi hc
  · obtain ⟨hrd, -, hw⟩ := s.counted_stored (pg * 0x1000) (a := Reg.EVT_FORCE (pg * 0x1000)) (by simp only [Reg.EVT_FORCE, Reg.SEQ]; omega) rowEvtForce (wd (2 ^ i))
    rw [storedWord_wo rfl] at hrd
    refine ⟨hw.1, fun a => ?_⟩
    by_cases ha : a = Reg.EVT_FORCE (pg * 0x1000)
    · exact .inr (ha ▸ hrd)
    · exact (hw.2 a).imp (fun hr => by simpa [ha] using hr) id

/-- Settles O13: the write is one rising edge on a state where only SEQ has moved. -/
theorem forcedEdgePends : Obligations.ForcedEdgePends := by
  unfold Obligations.ForcedEdgePends
  intro p pg i s hh hc h
  obtain ⟨u, hw, hu⟩ := State.writeWord_evtForce hh i.isLt hc h
  have hloc := srcLoc_pageSrc hc
  rw [page_eq] at hloc
  have hen : u.rb (Reg.EVT_EN (pg.val * 0x1000)) i = s.rb (Reg.EVT_EN (pg.val * 0x1000)) i := hu.rb (by simp [Reg.EVT_EN, Reg.SEQ]) i
  have hpend : u.rb (Reg.EVT_PEND (pg.val * 0x1000)) i = s.rb (Reg.EVT_PEND (pg.val * 0x1000)) i := hu.rb (by simp [Reg.EVT_PEND, Reg.SEQ]) i
  have hroute : routeReg (Reg.EVT_PEND (pg.val * 0x1000)) = false := by
    obtain ⟨hb, hq, -⟩ := pageOffset pg.val (off := 0x1C) (by decide)
    have := header_not_pba (a := pg.val * 0x1000 + 0x1C) (by rw [hb, hq, hh])
    simp only [routeReg, Reg.EVT_PEND, Bool.or_eq_false_iff, Bool.and_eq_false_iff, decide_eq_false_iff_not, beq_eq_false_iff_ne, Reg.SVC_BMC_EVT]
    omega
  refine ends_of_done (s := s) (congrArg done hw) ⟨?_, fun hq => ?_, ?_⟩
  · change (u.evt _).rb _ _ = _
    rw [State.evt_pend hloc i.isLt hroute, hpend, hen]
  · rw [State.evt_none hloc (by rw [hen, hpend]; exact hq)]
    exact (hu.widen (by decide)).ended (by decide)
  · exact ((hu.mono (by decide) (by simp +contextual)).trans ((State.evt_within u _).mono (by decide) (by simp +contextual))).ended (by decide)

/-! ### EVT_PEND (R8, R25) -/

/-- The row of EVT_PEND, whose bits clear where 1 is written. -/
def rowEvtPend : RegRow := ⟨0x1C, 0, 1, .w1c, 0, 0xFFFFFFFF, [], []⟩

/-- A bit of a word of ones. -/
theorem bit_ones {n i : Nat} (hi : i < 32) : bit (wd (2 ^ n - 1)) i = decide (i < n) := by
  simp only [bit, BitVec.getLsbD_ofNat, hi, decide_true, Bool.true_and, Nat.testBit_two_pow_sub_one]

theorem storedWord_evtPend {pg i : Nat} (hh : hasHeader (pg / 256) (pg % 256) = true) (hc : i < (pageSrc evtRanges (pg / 256) (pg % 256)).2) (hi : i < 32)
    (old v : Word) : bit (storedWord (Reg.EVT_PEND (pg * 0x1000)) rowEvtPend old v) i = (bit old i && !bit v i) := by
  have hm : writeMask (Reg.EVT_PEND (pg * 0x1000)) rowEvtPend = 2 ^ (pageSrc evtRanges (pg / 256) (pg % 256)).2 - 1 := writeMask_page hh (by decide) _
  have hone : (wd (2 ^ (pageSrc evtRanges (pg / 256) (pg % 256)).2 - 1)).getLsbD i = true := (bit_ones hi).trans (decide_eq_true hc)
  have hst : storedWord (Reg.EVT_PEND (pg * 0x1000)) rowEvtPend old v = old &&& ~~~(v &&& wd (writeMask (Reg.EVT_PEND (pg * 0x1000)) rowEvtPend)) := rfl
  rw [hst, hm]
  simp only [bit, BitVec.getLsbD_and, BitVec.getLsbD_not, hone, hi, decide_true, Bool.true_and, Bool.and_true]

theorem evtRanges_per : ∀ r ∈ evtRanges, r.per ≤ 32 := by decide

/-- A page has at most 32 events. -/
theorem pageSrc_le {b p i : Nat} (h : i < (pageSrc evtRanges b p).2) : i < 32 := by
  obtain ⟨r, hr, -, -, -, heq⟩ := pageSrc_mem h
  have := evtRanges_per r hr
  rw [heq] at h
  simp only at h
  omega

/-- Settles O14: the write stores the bits that no 1 was written to. -/
theorem pendClears : Obligations.PendClears := by
  unfold Obligations.PendClears
  intro p pg v s hh h
  obtain ⟨-, -, ho⟩ := pageOffset pg.val (off := 0x1C) (by decide)
  have hw : s.writeWord p (Reg.EVT_PEND (pg.val * 0x1000)) v = (s.cntWrap (Reg.SEQ (pg.val * 0x1000))).store (Reg.EVT_PEND (pg.val * 0x1000)) rowEvtPend v := by
    rw [State.writeWord_page hh h (by decide) (by decide) (by rfl) (by decide) (by decide) (r := rowEvtPend)]
    exact State.headerWritten_plain _ (by omega) (by omega) (by omega) _ _
  obtain ⟨hrd, -, hframe⟩ := s.counted_stored (pg.val * 0x1000) (a := Reg.EVT_PEND (pg.val * 0x1000)) (by simp [Reg.EVT_PEND, Reg.SEQ]) rowEvtPend v
  refine ends_of_done (s := s) (congrArg done hw) ⟨fun i hc => ?_, (hframe.widen (by decide)).ended (by decide)⟩
  rw [State.rb, State.rd_endCycle, hrd]
  exact storedWord_evtPend hh hc (pageSrc_le hc) _ v

/-! ### Unmasking (R43) -/

/-- The row of a vector's control word: the mask bit. -/
def rowMsixControl : RegRow := ⟨0xC, 16, 256, .rw, 1, 0x1, [], []⟩

theorem findRow_msixControl (vec : Nat) (h : vec < 256) : findRow (16 * vec + 12) rowsMsix = some rowMsixControl := by
  simp only [findRow, rowsMsix]
  rw [if_neg, if_neg, if_neg, if_pos]
  · rfl
  all_goals
    simp only [OfNat.ofNat_ne_zero, if_false]
    omega

theorem msix_no_pairs : ∀ r ∈ rowsMsix, r.lat = [] := by decide

/-- Where a vector's words lie. -/
theorem msix_place {p v w : Nat} (hp : p < 4) (hv : v < 256) (hw : w < 4) : Reg.MSIX p v w / 0x100000 = 0 ∧ Reg.MSIX p v w / 0x1000 = 16 + p ∧
    Reg.MSIX p v w / 0x1000 % 256 = 16 + p ∧ Reg.MSIX p v w % 0x1000 = 16 * v + 4 * w := by
  simp only [Reg.MSIX]
  omega

theorem msix_rows {p : Nat} (hp : p < 4) : rowsOf 0 (16 + p) = rowsMsix ∧ hasHeader 0 (16 + p) = false := by
  constructor
  · simp only [rowsOf]
    rw [if_neg (by omega), if_neg (by omega), if_neg (by omega), if_neg (by omega), if_pos (by omega)]
  · simp [hasHeader]

/-- A vector's control word is no half of a pair. -/
theorem isPairHigh_msix {p v : Nat} (hp : p < 4) (hv : v < 256) : isPairHigh (Reg.MSIX p v 3) = false := by
  have hb : Reg.MSIX p v 3 - 4 = Reg.MSIX p v 2 := rfl
  obtain ⟨h1, -, h2, -⟩ := msix_place hp hv (w := 2) (by decide)
  unfold isPairHigh
  rw [hb]
  cases hr : regRow (Reg.MSIX p v 2) with
  | none => rfl
  | some r =>
    have hm := regRow_own hr h1 h2 (.inl (msix_rows hp).2)
    rw [(msix_rows hp).1] at hm
    simp [msix_no_pairs r hm]

theorem regRow_msixControl {p v : Nat} (hp : p < 4) (hv : v < 256) : regRow (Reg.MSIX p v 3) = some rowMsixControl := by
  obtain ⟨h1, -, h2, h3⟩ := msix_place hp hv (w := 3) (by decide)
  simp only [regRow, h1, h2, h3, (msix_rows hp).1, (msix_rows hp).2]
  rw [if_pos (by simp [lastPage]; omega), if_neg (by simp)]
  exact findRow_msixControl v hv

/-- An allowed write of a vector's control word stores the mask bit, and the vector sends if it may now. -/
theorem State.writeWord_msixControl {s : State} {q : Party} {p v : Nat} {w : Word} (hp : p < 4) (hv : v < 256) (h : Allowed s q (Reg.MSIX p v 3) w) :
    s.writeWord q (Reg.MSIX p v 3) w = (s.store (Reg.MSIX p v 3) rowMsixControl w).sendPending p v := by
  obtain ⟨h1, h2, h3, h4⟩ := msix_place hp hv (w := 3) (by decide)
  have hcs : ¬ IsCsCmd (Reg.MSIX p v 3) := fun hcs => by have := hcs.2.1; omega
  have hseq : s.seqInc (Reg.MSIX p v 3) = s := by simp only [State.seqInc, h1, h3, (msix_rows hp).2, Bool.false_eq_true, if_false]
  have hlt : Reg.MSIX p v 3 < 0x14000 := by simp only [Reg.MSIX]; omega
  have hne : ∀ a, 0x14000 ≤ a → Reg.MSIX p v 3 ≠ a := fun a ha => by omega
  rw [State.writeWord_allowed h (regRow_msixControl hp hv) hcs, hseq, State.putWord, if_neg (by decide), isPairHigh_msix hp hv,
    if_neg (by decide), if_neg (hne _ (by decide)), State.applied, if_neg fun hr => absurd hr.1 (Nat.not_le.mpr (Nat.lt_trans hlt (by decide))), if_neg (hne _ (by decide)),
    if_neg fun hr => absurd hr.1 (Nat.not_le.mpr (Nat.lt_trans hlt (by decide))), if_neg (hne _ (by decide))]
  have hh : hasHeader (Reg.MSIX p v 3 / 0x100000) (Reg.MSIX p v 3 / 0x1000 % 256) = false := by rw [h1, h3, (msix_rows hp).2]
  simp only [State.regEffect, hh, Bool.false_eq_true, false_and, if_false]
  simp only [h1, State.hifWritten, h2, h4]
  rw [if_pos (by omega), if_pos (by omega)]
  congr 1 <;> omega

/-- A mask bit stored as 0. -/
theorem storedWord_unmask {p v : Nat} (hp : p < 4) (hv : v < 256) (old : Word) : bit (storedWord (Reg.MSIX p v 3) rowMsixControl old 0) 0 = false := by
  obtain ⟨h1, -, h3, -⟩ := msix_place hp hv (w := 3) (by decide)
  have hm : writeMask (Reg.MSIX p v 3) rowMsixControl = 1 := by
    simp only [writeMask, h1, h3, (msix_rows hp).2, Bool.false_eq_true, false_and, if_false]
    rfl
  rw [storedWord_rw rfl, hm]
  exact (getLsbD_masked old 0 (wd 1) 0).trans (if_pos (by decide))

/-- The state before a vector sends: its mask bit is clear, and nothing else has changed. -/
theorem State.unmasked {s : State} {p v : Nat} (hp : p < 4) (hv : v < 256) :
    (s.store (Reg.MSIX p v 3) rowMsixControl 0).rb (Reg.MSIX p v 3) 0 = false ∧
      Within [.regs] (fun a => a == Reg.MSIX p v 3) s (s.store (Reg.MSIX p v 3) rowMsixControl 0) := by
  refine ⟨?_, s.store_within _ _ _⟩
  rw [State.store, State.rb_wr_same, storedWord_unmask hp hv]

/-- Whether the function may send rests on no vector's registers. -/
theorem Within.msixReady {l : List Fld} {q : Nat → Bool} {s t : State} (h : Within l q s t) (hl : Fld.hif ∉ l) {p : Nat}
    (hs : q (Reg.HIF_PORT_STATUS p) = false) (hf : q (Reg.PAGE_STATUS (Reg.page 0 (1 + p))) = false) : t.msixReady p = s.msixReady p := by
  simp only [State.msixReady, State.portFenced, State.pgState, h.hif hl, h.rb hs, h.rf hf]

/-- A vector that may send, is unmasked and pending sends its message once, and its PBA bit clears. -/
theorem State.sendPending_sends {s : State} {p v : Nat} (hm : s.rb (Reg.MSIX p v 3) 0 = false) (hb : s.rb (Reg.PBA p (v / 32)) (v % 32) = true)
    (hr : s.msixReady p = true) (hc : s.hif.cycleVecs = []) (hv : v < 256) :
    (s.sendPending p v).sent = s.sent ++ [.msix p v (s.rd (Reg.MSIX p v 0)) (s.rd (Reg.MSIX p v 1)) (s.rd (Reg.MSIX p v 2))] ∧
      (s.sendPending p v).rb (Reg.PBA p (v / 32)) (v % 32) = false ∧
      Within [.regs, .hif, .sent] (fun a => a == Reg.PBA p (v / 32)) s (s.sendPending p v) := by
  have hpba : ∀ w < 4, Reg.PBA p (v / 32) ≠ Reg.MSIX p v w := fun w hw => by simp only [Reg.PBA, Reg.MSIX]; omega
  have hw := s.wb_within (Reg.PBA p (v / 32)) (v % 32) false
  have hkeep : ∀ w < 4, (s.wb (Reg.PBA p (v / 32)) (v % 32) false).rd (Reg.MSIX p v w) = s.rd (Reg.MSIX p v w) := fun w hlt =>
    hw.rd (by simpa using (hpba w hlt).symm)
  have hready : (s.wb (Reg.PBA p (v / 32)) (v % 32) false).msixReady p = true := by
    rw [hw.msixReady (by decide), hr]
    · simp only [beq_eq_false_iff_ne, Reg.HIF_PORT_STATUS, Reg.PBA]; omega
    · simp only [beq_eq_false_iff_ne, Reg.PAGE_STATUS, Reg.page, Reg.PBA]; omega
  have hmask : (s.wb (Reg.PBA p (v / 32)) (v % 32) false).rb (Reg.MSIX p v 3) 0 = false := by rw [State.rb, hkeep 3 (by decide)]; exact hm
  have hsend : s.sendPending p v = (s.wb (Reg.PBA p (v / 32)) (v % 32) false).toVector p v := by
    simp only [State.sendPending, hm, hb, hr, Bool.not_false, Bool.and_true, if_true]
  rw [hsend, State.toVector, hmask, hready, State.wb_hif, hc]
  simp only [Bool.not_true, Bool.or_false, Bool.false_eq_true, if_false, List.contains_nil]
  refine ⟨?_, ?_, ?_⟩
  · rw [hkeep 0 (by decide), hkeep 1 (by decide), hkeep 2 (by decide)]; rfl
  · exact (s.rb_wb_same _ (Nat.mod_lt _ (by decide)) _ _).trans (if_pos rfl)
  · exact (hw.widen (by decide)).trans (.of_same (fun f => by cases f <;> first | (left; decide) | (right; rfl)) rfl)

theorem State.sendPending_waits {s : State} {p : Nat} (hr : s.msixReady p = false) (v : Nat) : s.sendPending p v = s := by
  simp only [State.sendPending, hr, Bool.and_false, Bool.false_eq_true, if_false]

/-- Settles O15: the mask bit clears first, and the vector then sends or waits. -/
theorem unmaskingSends : Obligations.UnmaskingSends := by
  unfold Obligations.UnmaskingSends
  intro port vec s h hb hc
  obtain ⟨hm, hw⟩ := s.unmasked port.isLt vec.isLt
  have hexec : exec (.msixUnmask port vec) s = done ((s.store (Reg.MSIX port vec 3) rowMsixControl 0).sendPending port vec) :=
    congrArg done (State.writeWord_msixControl port.isLt vec.isLt h)
  generalize hu : s.store (Reg.MSIX port vec 3) rowMsixControl 0 = u at hm hw hexec
  have hready : u.msixReady port = s.msixReady port := by
    refine hw.msixReady (by decide) ?_ ?_
    · simp only [beq_eq_false_iff_ne, Reg.HIF_PORT_STATUS, Reg.MSIX]; omega
    · simp only [beq_eq_false_iff_ne, Reg.PAGE_STATUS, Reg.page, Reg.MSIX]; omega
  refine ⟨fun hr => ?_, fun hr => ?_⟩
  · have hpba : u.rb (Reg.PBA port (vec / 32)) (vec % 32) = true := by
      rw [hw.rb, hb]
      simp only [beq_eq_false_iff_ne, Reg.PBA, Reg.MSIX]; omega
    obtain ⟨hsent, hclear, hframe⟩ := State.sendPending_sends hm hpba (hready.trans hr) (by rw [hw.hif (by decide), hc]) vec.isLt
    have hword : ∀ w < 3, u.rd (Reg.MSIX port vec w) = s.rd (Reg.MSIX port vec w) := fun w hlt =>
      hw.rd (by simp only [beq_eq_false_iff_ne, Reg.MSIX]; omega)
    refine ends_of_done hexec ⟨?_, hclear, ?_, ?_⟩
    · refine (hframe.rb ?_ 0).trans hm
      simp only [beq_eq_false_iff_ne, Reg.PBA, Reg.MSIX]; omega
    · rw [State.endCycle_sent, hsent, hword 0 (by decide), hword 1 (by decide), hword 2 (by decide), ← hu]; rfl
    · exact ((hw.mono (by decide) (by simp +contextual)).trans (hframe.regs_mono (by simp +contextual))).ended (by decide)
  · rw [State.sendPending_waits (hready.trans hr)] at hexec
    exact ends_of_done hexec ⟨hm, (hw.widen (by decide)).ended (by decide)⟩

end Sys2Proof.Machine

/-! ## Pages at work: ENABLE and drains (R24, R26) -/
namespace Sys2Proof.Machine

/-! ### Places of a page, and PAGE_CTRL (R24) -/

/-- Where an offset of the page at base `pg` lies. -/
theorem basePlace {pg off : Nat} (hpg : pg % 0x1000 = 0) (ho : off < 0x1000) :
    (pg + off) / 0x100000 = pg / 0x100000 ∧ (pg + off) / 0x1000 = pg / 0x1000 ∧ (pg + off) % 0x1000 = off := by
  omega

/-- The row of PAGE_CTRL. -/
def rowPageCtrl : RegRow := ⟨0xC, 0, 1, .rw, 0, 0xFFFFFFFF, [], []⟩

/-- A write that leaves the reserved bits of PAGE_CTRL as they are is stored as it comes. -/
theorem storedWord_pageCtrl {pg : Nat} (hpg : pg % 0x1000 = 0) (hh : hasHeader (pg / 0x100000) (pg / 0x1000 % 256) = true) {old v : Word}
    (hv : ∀ i, 5 ≤ i → i < 32 → bit v i = bit old i) : storedWord (Reg.PAGE_CTRL pg) rowPageCtrl old v = v := by
  obtain ⟨hb, hq, ho⟩ := basePlace hpg (off := 0xC) (by decide)
  have hm : writeMask (Reg.PAGE_CTRL pg) rowPageCtrl = 0x1F := by
    simp only [writeMask, Reg.PAGE_CTRL, hb, hq, ho, hh, true_and]
    rfl
  rw [storedWord_rw rfl, hm]
  refine word_ext fun i hi => (getLsbD_masked old v (wd 0x1F) i).trans ?_
  have hbits : ∀ i < 32, (wd 0x1F).getLsbD i = decide (i < 5) := by decide
  rw [hbits i hi]
  by_cases h5 : i < 5
  · simp [h5, bit]
  · simp only [h5, decide_false, Bool.false_eq_true, if_false]
    exact (hv i (by omega) hi).symm

/-- The state in which a write of `v` to PAGE_CTRL starts to act: the register holds `v`, SEQ has counted it, and nothing else has changed. -/
structure State.WroteCtrl (s u : State) (pg : Nat) (v : Word) : Prop where
  ctrl : u.rd (Reg.PAGE_CTRL pg) = v
  seq : u.rd (Reg.SEQ pg) = s.rd (Reg.SEQ pg) + 1
  within : Within [.regs] (among [Reg.PAGE_CTRL pg, Reg.SEQ pg]) s u

/-- The gate registers are three. -/
theorem gateOf_lt {pg k i : Nat} (h : gateOf pg = some (k, i)) : k < 3 := by
  unfold gateOf at h
  split at h <;> cases h <;> decide

/-- No gate lies in a page's header. -/
theorem State.gated_congr {s u : State} {pg q : Nat} {v : Word} (h : s.WroteCtrl u pg v) (hpg : pg % 0x1000 = 0) : u.gated q = s.gated q := by
  unfold State.gated
  cases hg : gateOf q with
  | none => rfl
  | some g =>
    have hk := gateOf_lt (k := g.1) (i := g.2) hg
    refine h.within.rb ?_ g.2
    simp only [among, List.contains_cons, List.contains_nil, Bool.or_false, Bool.or_eq_false_iff, beq_eq_false_iff_ne, Reg.PAGE_CTRL, Reg.SEQ, Reg.PWR_GATE_SLICE]
    omega

/-- A command that writes PAGE_CTRL, as its party may: the value is stored, and the write acts. -/
theorem State.writeCtrl_allowed {s : State} {p : Party} {pg : Nat} {f : Word → Word} (hpg : pg % 0x1000 = 0)
    (hh : hasHeader (pg / 0x100000) (pg / 0x1000 % 256) = true) (h : Allowed s p (Reg.PAGE_CTRL pg) (f (s.rd (Reg.PAGE_CTRL pg)))) :
    s.writeCtrl p pg f = ((s.cntWrap (Reg.SEQ pg)).store (Reg.PAGE_CTRL pg) rowPageCtrl (f (s.rd (Reg.PAGE_CTRL pg)))).ctrlWritten pg (s.rd (Reg.PAGE_CTRL pg)) := by
  obtain ⟨hb, hq, ho⟩ := basePlace hpg (off := 0xC) (by decide)
  have hh' : hasHeader (Reg.PAGE_CTRL pg / 0x100000) (Reg.PAGE_CTRL pg / 0x1000 % 256) = true := by rw [hb, hq, hh]
  have hbase : pg / 0x1000 * 0x1000 = pg := by omega
  obtain ⟨r, hf⟩ := h.applied
  have hrow : regRow (Reg.PAGE_CTRL pg) = some rowPageCtrl := (regRow_header h.present hh' (by rw [ho]; decide) (by rw [ho]; decide)).trans (by rw [ho]; rfl)
  have hr : r = rowPageCtrl := Option.some.inj ((State.writeFate_applied_row hf).symm.trans hrow)
  rw [State.writeCtrl, State.regWrite, State.writeBy, hf, hr, s.seqInc_header hh', hq, hbase]

/-- A write of PAGE_CTRL that leaves TEST at 0 changes ENABLE and FENCE_REQ where the page's unit is not gated. -/
theorem State.ctrlWritten_acts {s : State} {pg : Nat} {old : Word} (hold : bit old 4 = false) (hnew : s.rb (Reg.PAGE_CTRL pg) 4 = false)
    (hg : (s.wb (Reg.PAGE_CTRL pg) 4 false).gated pg = false) : s.ctrlWritten pg old = (s.wb (Reg.PAGE_CTRL pg) 4 false).ctrlAct pg old := by
  simp only [State.ctrlWritten, hold, hnew, hg, Bool.or_self, Bool.false_and, Bool.false_eq_true, if_false]

theorem State.writeCtrl_acts {s : State} {p : Party} {pg : Nat} {f : Word → Word} {v : Word} (hpg : pg % 0x1000 = 0)
    (hh : hasHeader (pg / 0x100000) (pg / 0x1000 % 256) = true) (hfv : f (s.rd (Reg.PAGE_CTRL pg)) = v) (h : Allowed s p (Reg.PAGE_CTRL pg) v)
    (hv : ∀ i, 5 ≤ i → i < 32 → bit v i = bit (s.rd (Reg.PAGE_CTRL pg)) i) (hold : s.rb (Reg.PAGE_CTRL pg) 4 = false) (hnew : bit v 4 = false)
    (hg : s.gated pg = false) : ∃ u, s.WroteCtrl u pg v ∧ s.writeCtrl p pg f = u.ctrlAct pg (s.rd (Reg.PAGE_CTRL pg)) := by
  have hne : Reg.PAGE_CTRL pg ≠ Reg.SEQ pg := by simp [Reg.PAGE_CTRL, Reg.SEQ]
  obtain ⟨hrd, hseq, hw⟩ := s.counted_stored pg hne rowPageCtrl v
  rw [storedWord_pageCtrl hpg hh hv] at hrd
  have hwrote : s.WroteCtrl (((s.cntWrap (Reg.SEQ pg)).store (Reg.PAGE_CTRL pg) rowPageCtrl v).wb (Reg.PAGE_CTRL pg) 4 false) pg v := by
    refine ⟨?_, ?_, (hw.regs_mono (by simp [among])).trans ((State.wb_within _ _ _ _).regs_mono (by simp +contextual [among]))⟩
    · rw [State.wb, State.rd_wr_same, hrd]
      refine word_ext fun i _ => ?_
      rw [bit_setBit _ (by decide)]
      split
      · rename_i h4; rw [← h4, hnew]
      · rfl
    · rw [State.wb, State.rd_wr_other _ _ _ _ hne, hseq]
  refine ⟨_, hwrote, ?_⟩
  rw [State.writeCtrl_allowed hpg hh (hfv ▸ h), hfv]
  exact State.ctrlWritten_acts hold (by rw [State.rb, hrd, hnew]) (by rw [State.gated_congr hwrote hpg, hg])

/-- ENABLE set and FENCE_REQ kept: the page starts (R26). -/
theorem State.ctrlAct_start {s : State} {pg : Nat} {old : Word} (h0 : s.rb (Reg.PAGE_CTRL pg) 0 = true) (h1 : bit old 0 = false)
    (h3 : s.rb (Reg.PAGE_CTRL pg) 3 = bit old 3) : s.ctrlAct pg old = s.pageStart pg := by
  simp only [State.rb] at h0 h3
  simp only [State.ctrlAct, h0, h1, h3, Bool.not_false, Bool.and_true, Bool.and_not_self, Bool.not_and_self, Bool.false_eq_true, if_true, if_false]

/-- ENABLE cleared and FENCE_REQ kept: the page stops (R26). -/
theorem State.ctrlAct_stop {s : State} {pg : Nat} {old : Word} (h0 : s.rb (Reg.PAGE_CTRL pg) 0 = false) (h1 : bit old 0 = true)
    (h3 : s.rb (Reg.PAGE_CTRL pg) 3 = bit old 3) : s.ctrlAct pg old = s.pageStop pg := by
  simp only [State.rb] at h0 h3
  simp only [State.ctrlAct, h0, h1, h3, Bool.not_false, Bool.not_true, Bool.and_true, Bool.and_false, Bool.and_not_self, Bool.not_and_self,
    Bool.false_eq_true, if_true, if_false]

/-- FENCE_REQ set and ENABLE kept (R24). -/
theorem State.ctrlAct_fence {s : State} {pg : Nat} {old : Word} (h0 : s.rb (Reg.PAGE_CTRL pg) 0 = bit old 0) (h1 : bit old 3 = false)
    (h3 : s.rb (Reg.PAGE_CTRL pg) 3 = true) : s.ctrlAct pg old = s.fenceReq pg := by
  simp only [State.rb] at h0 h3
  simp only [State.ctrlAct, h0, h1, h3, Bool.not_false, Bool.and_true, Bool.and_not_self, Bool.not_and_self, Bool.false_eq_true, if_true, if_false]

/-- FENCE_REQ cleared and ENABLE kept (R347). -/
theorem State.ctrlAct_return {s : State} {pg : Nat} {old : Word} (h0 : s.rb (Reg.PAGE_CTRL pg) 0 = bit old 0) (h1 : bit old 3 = true)
    (h3 : s.rb (Reg.PAGE_CTRL pg) 3 = false) : s.ctrlAct pg old = s.fenceClear pg := by
  simp only [State.rb] at h0 h3
  simp only [State.ctrlAct, h0, h1, h3, Bool.not_false, Bool.not_true, Bool.and_true, Bool.and_false, Bool.and_not_self, Bool.not_and_self,
    Bool.false_eq_true, if_true, if_false]

/-! ### STATE of a page (R24) -/

/-- A change of STATE without an event. -/
theorem State.toState_silent (s : State) (pg : Nat) {v : Nat} (hv : v < 8) :
    (s.toState pg v none).pgState pg = v ∧ (∀ i, 3 ≤ i → (s.toState pg v none).rb (Reg.PAGE_STATUS pg) i = s.rb (Reg.PAGE_STATUS pg) i) ∧
      Within [.regs] (fun a => a == Reg.PAGE_STATUS pg) s (s.toState pg v none) := by
  unfold State.toState
  split
  · exact ⟨‹_›, fun _ _ => rfl, .refl s⟩
  · refine ⟨(s.pgState_setPgState pg v).trans (Nat.mod_eq_of_lt hv), fun i hi => ?_, s.wf_within _ _ _ _⟩
    change (s.setPgState pg v).rb _ i = _
    rw [State.setPgState, State.wf, State.rb_wr_same, bit_setFld _ (by decide) (by decide), if_neg (by omega)]
    rfl

theorem State.setDiscard_within (s : State) (pg : Nat) (b : Bool) {q : Nat → Bool} : Within [.hif] q s (s.setDiscard pg b) :=
  .of_same (fun f => by cases f <;> first | (left; decide) | (right; rfl)) rfl

@[simp] theorem State.discarding_setDiscard_same (s : State) (pg : Nat) (b : Bool) : (s.setDiscard pg b).discarding pg = b := Sparse.get_set_same ..

/-! ### Pages of no unit and no queue (R26) -/

/-- What a plain page is the page of. -/
theorem plainPage_cases {pg : Nat} (h : plainPage pg = true) : hasHeader (pg / 0x100000) (pg / 0x1000 % 256) = true ∧
    (pageFn pg = .other ∨ pageFn pg = .evt ∨ pageFn pg = .geo ∨ pageFn pg = .ton ∨ (∃ t, pageFn pg = .tonTile t) ∨ pageFn pg = .print ∨
      pageFn pg = .cal ∨ pageFn pg = .sec ∨ pageFn pg = .pwr) := by
  unfold plainPage at h
  rw [Bool.and_eq_true] at h
  refine ⟨h.1, ?_⟩
  have h2 := h.2
  cases hf : pageFn pg <;> simp_all

theorem gated_plain {pg : Nat} (h : plainPage pg = true) (s : State) : s.gated pg = false := by
  obtain ⟨-, hf⟩ := plainPage_cases h
  rcases hf with hf | hf | hf | hf | ⟨t, hf⟩ | hf | hf | hf | hf <;> simp only [State.gated, gateOf, hf]

/-- A plain page's change of STATE raises no event. -/
theorem State.toPage_plain {pg : Nat} (h : plainPage pg = true) (s : State) (v : Nat) : s.toPage pg v = s.toState pg v none := by
  obtain ⟨-, hf⟩ := plainPage_cases h
  have hs : stateEvt pg = none := by
    rcases hf with hf | hf | hf | hf | ⟨t, hf⟩ | hf | hf | hf | hf <;> simp only [stateEvt, hf]
  rw [State.toPage, hs]

/-- Work of a plain page is a table load or a calibration run. -/
theorem State.pageBusy_plain {pg : Nat} (h : plainPage pg = true) {s t : State} (hg : t.geo = s.geo) (ht : t.ton = s.ton) (hc : t.cal = s.cal) :
    t.pageBusy pg = s.pageBusy pg := by
  obtain ⟨-, hf⟩ := plainPage_cases h
  rcases hf with hf | hf | hf | hf | ⟨t, hf⟩ | hf | hf | hf | hf <;> simp only [State.pageBusy, hf, State.tab, hg, ht, hc]

/-- The start of a plain page: DRAIN_TO clears, a discard ends, and STATE follows its work. -/
theorem State.pageStart_plain {pg : Nat} (h : plainPage pg = true) {s : State} (hs : s.pgState pg ≤ 3) :
    s.pageStart pg = ((s.wb (Reg.PAGE_STATUS pg) 8 false).setDiscard pg false).toState pg (if s.pageBusy pg then 2 else 1) none := by
  have hst : ((s.wb (Reg.PAGE_STATUS pg) 8 false).setDiscard pg false).pgState pg = s.pgState pg := by
    change (s.wb (Reg.PAGE_STATUS pg) 8 false).pgState pg = _
    rw [State.pgState, State.wb, State.rf_wr_same, fld_setBit_other _ (by decide) (by decide) (by decide)]
    rfl
  have hbusy : ((s.wb (Reg.PAGE_STATUS pg) 8 false).setDiscard pg false).pageBusy pg = s.pageBusy pg := State.pageBusy_plain h rfl rfl rfl
  rw [← State.toPage_plain h, ← hbusy]
  obtain ⟨-, hf⟩ := plainPage_cases h
  unfold State.pageStart
  rw [if_neg (by rw [hst]; simp only [stFenced]; omega)]
  rcases hf with hf | hf | hf | hf | ⟨t, hf⟩ | hf | hf | hf | hf <;> simp only [hf]

/-- The end of a plain page's drain: IDLE, once its work is done. -/
theorem State.drainEnd_plain {pg : Nat} (h : plainPage pg = true) (s : State) :
    s.drainEnd pg = if s.enabled pg ∨ s.pgState pg ≠ 3 ∨ s.pageBusy pg then s else (s.setDiscard pg false).toState pg 1 none := by
  obtain ⟨-, hf⟩ := plainPage_cases h
  unfold State.drainEnd
  rw [← State.toPage_plain h]
  rcases hf with hf | hf | hf | hf | ⟨t, hf⟩ | hf | hf | hf | hf <;> simp only [hf, drainedState]

/-- A plain page stopped with a drain. -/
theorem State.pageStop_plain {pg : Nat} (h : plainPage pg = true) {s : State} (hl : 1 ≤ s.pgState pg) (hu : s.pgState pg ≤ 3)
    (hm : s.rf (Reg.PAGE_CTRL pg) 2 1 ≠ 1) : s.pageStop pg = (s.toState pg 3 none).drainEnd pg := by
  obtain ⟨-, hf⟩ := plainPage_cases h
  have hd : (s.rf (Reg.PAGE_CTRL pg) 2 1 == 1) = false := by simpa using hm
  have h0 : ¬ s.pgState pg = stOff := by simp only [stOff]; omega
  unfold State.pageStop
  rw [if_neg (by simp only [stFenced]; omega), ← State.toPage_plain h]
  rcases hf with hf | hf | hf | hf | ⟨t, hf⟩ | hf | hf | hf | hf <;> simp only [hf, hd, if_neg h0, Bool.false_eq_true, if_false]

/-- A plain page other than the CAL common page: a discard stops nothing beyond the drain. -/
theorem State.pageDiscard_plain {pg : Nat} (h : plainPage pg = true) (hc : pageFn pg ≠ .cal) (s : State) : s.pageDiscard pg = s.setDiscard pg true := by
  obtain ⟨-, hf⟩ := plainPage_cases h
  unfold State.pageDiscard
  rcases hf with hf | hf | hf | hf | ⟨t, hf⟩ | hf | hf | hf | hf <;> simp only [hf]
  exact absurd hf hc

/-- A plain page's drain whose work is done. -/
theorem State.drainEnd_ended {pg : Nat} (hp : plainPage pg = true) {s : State} (hen : s.enabled pg = false) (hst : s.pgState pg = 3)
    (hb : s.pageBusy pg = false) : (s.drainEnd pg).pgState pg = 1 ∧ (s.drainEnd pg).discarding pg = false ∧
      Within [.regs, .hif] (fun a => a == Reg.PAGE_STATUS pg) s (s.drainEnd pg) := by
  have heq : s.drainEnd pg = (s.setDiscard pg false).toState pg 1 none := by
    rw [State.drainEnd_plain hp, if_neg (by simp [hen, hst, hb])]
  obtain ⟨hone, -, hw⟩ := State.toState_silent (s.setDiscard pg false) pg (v := 1) (by decide)
  rw [heq]
  refine ⟨hone, ?_, ((s.setDiscard_within pg false).widen (by decide)).trans (hw.widen (by decide))⟩
  rw [State.discarding, hw.hif (by decide)]
  exact s.discarding_setDiscard_same pg false

theorem State.drainEnd_waits {pg : Nat} (hp : plainPage pg = true) {s : State} (hb : s.pageBusy pg = true) : s.drainEnd pg = s := by
  rw [State.drainEnd_plain hp, if_pos (.inr (.inr hb))]

/-- The work of a plain page stands through a change of registers and of HIF. -/
theorem Within.pageBusy {s t : State} {l : List Fld} {q : Nat → Bool} (h : Within l q s t) (hl : Fld.geo ∉ l ∧ Fld.ton ∉ l ∧ Fld.cal ∉ l) {pg : Nat}
    (hp : plainPage pg = true) : t.pageBusy pg = s.pageBusy pg :=
  State.pageBusy_plain hp ((h.1 .geo).resolve_left hl.1) ((h.1 .ton).resolve_left hl.2.1) ((h.1 .cal).resolve_left hl.2.2)

/-- A plain page's STATE once it is told to drain: DRAINING while its work lasts, else IDLE. -/
theorem State.drainStart_plain {pg : Nat} (hp : plainPage pg = true) {s : State} (hen : s.enabled pg = false) :
    ((s.toState pg 3 none).drainEnd pg).pgState pg = (if s.pageBusy pg then 3 else 1) ∧
      Within [.regs, .hif] (fun a => a == Reg.PAGE_STATUS pg) s ((s.toState pg 3 none).drainEnd pg) := by
  obtain ⟨h3, -, hw⟩ := s.toState_silent pg (v := 3) (by decide)
  have hbusy := hw.pageBusy (by decide) hp
  have hen' : (s.toState pg 3 none).enabled pg = false := (hw.rb (by simp [Reg.PAGE_CTRL, Reg.PAGE_STATUS]) 0).trans hen
  cases hb : s.pageBusy pg with
  | true =>
    rw [State.drainEnd_waits hp (hbusy.trans hb)]
    exact ⟨h3, hw.widen (by decide)⟩
  | false =>
    obtain ⟨h1, -, hw'⟩ := State.drainEnd_ended hp hen' h3 (hbusy.trans hb)
    exact ⟨h1, (hw.widen (by decide)).trans hw'⟩

/-- ENABLE set on a plain page. -/
theorem State.pageEnable_plain {s : State} {p : Party} {pg : Nat} (hpg : pg % 0x1000 = 0) (hp : plainPage pg = true)
    (h : Allowed s p (Reg.PAGE_CTRL pg) (s.rd (Reg.PAGE_CTRL pg) ||| 1)) (h0 : s.rb (Reg.PAGE_CTRL pg) 0 = false) (h4 : s.rb (Reg.PAGE_CTRL pg) 4 = false)
    (hst : s.pgState pg ≤ 3) : ∃ t, s.writeCtrl p pg (fun w => w ||| 1) = t ∧ t.rd (Reg.PAGE_CTRL pg) = s.rd (Reg.PAGE_CTRL pg) ||| 1 ∧
      t.pgState pg = (if s.pageBusy pg then 2 else 1) ∧ t.rb (Reg.PAGE_STATUS pg) 8 = false ∧ t.rd (Reg.SEQ pg) = s.rd (Reg.SEQ pg) + 1 ∧
      Within [.regs, .hif] (among [Reg.PAGE_CTRL pg, Reg.PAGE_STATUS pg, Reg.SEQ pg]) s t := by
  have hbit : ∀ i, bit (s.rd (Reg.PAGE_CTRL pg) ||| 1) i = if 0 = i then true else bit (s.rd (Reg.PAGE_CTRL pg)) i := fun i =>
    bit_setBit (s.rd (Reg.PAGE_CTRL pg)) (i := 0) (by decide) i true
  obtain ⟨u, hu, hact⟩ := State.writeCtrl_acts (f := fun w => w ||| 1) hpg (plainPage_cases hp).1 rfl h
    (fun i hi _ => (hbit i).trans (if_neg (by omega))) h4 ((hbit 4).trans h4) (gated_plain hp s)
  have hkeep : ∀ i, u.rb (Reg.PAGE_CTRL pg) i = if 0 = i then true else s.rb (Reg.PAGE_CTRL pg) i := fun i => by rw [State.rb, hu.ctrl]; exact hbit i
  have hust : u.pgState pg = s.pgState pg := hu.within.rf (by simp [among, Reg.PAGE_STATUS, Reg.PAGE_CTRL, Reg.SEQ]) _ _
  have hubusy : u.pageBusy pg = s.pageBusy pg := hu.within.pageBusy (by decide) hp
  rw [State.ctrlAct_start (hkeep 0) h0 (hkeep 3), State.pageStart_plain hp (hust ▸ hst), hubusy] at hact
  refine ⟨_, hact, ?_⟩
  have hv : (if s.pageBusy pg then 2 else 1) < 8 := by split <;> decide
  obtain ⟨hstate, hbits, hw⟩ := State.toState_silent ((u.wb (Reg.PAGE_STATUS pg) 8 false).setDiscard pg false) pg hv
  have hbefore : Within [.regs, .hif] (fun a => a == Reg.PAGE_STATUS pg) u ((u.wb (Reg.PAGE_STATUS pg) 8 false).setDiscard pg false) :=
    ((u.wb_within _ _ _).widen (by decide)).trans ((State.setDiscard_within _ _ _).widen (by decide))
  have hafter := hbefore.trans (hw.widen (by decide))
  have hne : ∀ a, a = Reg.PAGE_CTRL pg ∨ a = Reg.SEQ pg → (a == Reg.PAGE_STATUS pg) = false := by
    rintro a (rfl | rfl) <;> simp [Reg.PAGE_STATUS, Reg.PAGE_CTRL, Reg.SEQ]
  refine ⟨?_, hstate, ?_, ?_, (hu.within.mono (by decide) (by simp +contextual [among])).trans (hafter.regs_mono (by simp +contextual [among]))⟩
  · rw [hafter.rd (hne _ (.inl rfl)), hu.ctrl]
  · rw [hbits 8 (by decide)]
    exact (u.rb_wb_same _ (by decide) _ _).trans (if_pos rfl)
  · rw [hafter.rd (hne _ (.inr rfl)), hu.seq]

/-- PAGE_CTRL with ENABLE cleared and DRAIN_MODE written. -/
theorem bit_disabled (w : Word) (mode i : Nat) : bit (setBit (setFld w 2 1 mode) 0 false) i =
    if 0 = i then false else if 1 ≤ i ∧ i ≤ 2 then mode.testBit (i - 1) else bit w i := by
  rw [bit_setBit _ (by decide), bit_setFld _ (by decide) (by decide)]

/-- ENABLE cleared on a plain page, with a mode other than DISCARD. -/
theorem State.pageDisable_plain {s : State} {p : Party} {pg : Nat} {mode : Fin 4} (hpg : pg % 0x1000 = 0) (hp : plainPage pg = true)
    (h : Allowed s p (Reg.PAGE_CTRL pg) (setBit (setFld (s.rd (Reg.PAGE_CTRL pg)) 2 1 mode) 0 false)) (h0 : s.rb (Reg.PAGE_CTRL pg) 0 = true)
    (h4 : s.rb (Reg.PAGE_CTRL pg) 4 = false) (hl : 1 ≤ s.pgState pg) (hst : s.pgState pg ≤ 3) (hm : mode.val ≠ 1) :
    ∃ t, s.writeCtrl p pg (fun w => setBit (setFld w 2 1 mode) 0 false) = t ∧ t.rb (Reg.PAGE_CTRL pg) 0 = false ∧ t.rf (Reg.PAGE_CTRL pg) 2 1 = mode ∧
      t.pgState pg = (if s.pageBusy pg then 3 else 1) ∧ t.rd (Reg.SEQ pg) = s.rd (Reg.SEQ pg) + 1 ∧
      Within [.regs, .hif] (among [Reg.PAGE_CTRL pg, Reg.PAGE_STATUS pg, Reg.SEQ pg]) s t := by
  have hbit := bit_disabled (s.rd (Reg.PAGE_CTRL pg)) mode
  obtain ⟨u, hu, hact⟩ := State.writeCtrl_acts (f := fun w => setBit (setFld w 2 1 mode) 0 false) hpg (plainPage_cases hp).1 rfl h
    (fun i hi _ => (hbit i).trans ((if_neg (by omega)).trans (if_neg (by omega)))) h4 ((hbit 4).trans h4) (gated_plain hp s)
  have hu0 : u.rb (Reg.PAGE_CTRL pg) 0 = false := by rw [State.rb, hu.ctrl]; exact hbit 0
  have hu3 : u.rb (Reg.PAGE_CTRL pg) 3 = s.rb (Reg.PAGE_CTRL pg) 3 := by rw [State.rb, hu.ctrl]; exact hbit 3
  have humode : u.rf (Reg.PAGE_CTRL pg) 2 1 = mode := by
    rw [State.rf, hu.ctrl, fld_setBit_other _ (by decide) (by decide) (by decide), fld_setFld_same _ (by decide) (by decide)]
    exact Nat.mod_eq_of_lt mode.isLt
  have hust : u.pgState pg = s.pgState pg := hu.within.rf (by simp [among, Reg.PAGE_STATUS, Reg.PAGE_CTRL, Reg.SEQ]) _ _
  rw [State.ctrlAct_stop hu0 h0 hu3, State.pageStop_plain hp (hust ▸ hl) (hust ▸ hst) (humode ▸ hm)] at hact
  obtain ⟨hstate, hw⟩ := State.drainStart_plain hp hu0
  rw [hu.within.pageBusy (by decide) hp] at hstate
  have hne : ∀ a, a = Reg.PAGE_CTRL pg ∨ a = Reg.SEQ pg → (a == Reg.PAGE_STATUS pg) = false := by
    rintro a (rfl | rfl) <;> simp [Reg.PAGE_STATUS, Reg.PAGE_CTRL, Reg.SEQ]
  refine ⟨_, hact, ?_, ?_, hstate, ?_, (hu.within.mono (by decide) (by simp +contextual [among])).trans (hw.regs_mono (by simp +contextual [among]))⟩
  · rw [hw.rb (hne _ (.inl rfl)), hu0]
  · rw [hw.rf (hne _ (.inl rfl)), humode]
  · rw [hw.rd (hne _ (.inr rfl)), hu.seq]

/-! ### Drain timeouts (R26) -/

/-- A source that a page's drain may be reported as is of class NOTICE. -/
theorem pageNotices_notice (pg : Nat) : ∀ x ∈ pageNotices pg, baseClass x = some 0 := by
  have hf : ∀ p, ∀ x ∈ (List.range (pageSrc fltRanges (pg / 0x100000) p).2).filterMap
      (fun i => if baseClass ((pageSrc fltRanges (pg / 0x100000) p).1 + i) = some 0 then some ((pageSrc fltRanges (pg / 0x100000) p).1 + i) else none),
      baseClass x = some 0 := by
    intro p x hx
    obtain ⟨i, -, hi⟩ := List.mem_filterMap.mp hx
    split at hi
    · rename_i hc
      injection hi with hi
      rw [← hi, hc]
    · cases hi
  intro x hx
  unfold pageNotices at hx
  dsimp only at hx
  split at hx
  · exact hf _ x hx
  · split at hx
    · exact hf 0 x hx
    · split at hx
      · obtain ⟨p, -, hp⟩ := List.mem_flatMap.mp hx
        exact hf p x hp
      · simpa using (List.mem_filter.mp hx).2

/-- Sources of class NOTICE lie below 512. -/
theorem notice_lt {x : Nat} (h : baseClass x = some 0) : x < 512 := by
  by_contra hx
  have hnone : baseClass x = none := by
    unfold baseClass
    simp (disch := omega) only [if_neg]
  rw [hnone] at h
  cases h

theorem nth_mem_or_default {α : Type} (d : α) (l : List α) (i : Nat) : nth d l i ∈ l ∨ nth d l i = d := by
  unfold nth
  by_cases h : i < l.length
  · rw [List.getD_eq_getElem _ _ h]; exact .inl (List.getElem_mem h)
  · rw [List.getD_eq_default _ _ (by omega)]; exact .inr rfl

/-- Whichever source is taken, it is of class NOTICE. -/
theorem nth_pageNotices (pg i : Nat) : baseClass (nth 0 (pageNotices pg) i) = some 0 := by
  rcases nth_mem_or_default 0 (pageNotices pg) i with h | h
  · exact pageNotices_notice pg _ h
  · rw [h]; rfl

/-- A drain of a plain page that its work outlasts: DRAIN_TO sets, a NOTICE fault is raised, and the drain is a discard from then on. -/
theorem State.drainTimeout_plain {pg : Nat} (hpg : pg % 0x1000 = 0) (hp : plainPage pg = true) {s : State} (hen : s.enabled pg = false)
    (hst : s.pgState pg = 3) (hb : s.pageBusy pg = true) (hd : s.discarding pg = false) (hc : pageFn pg ≠ .cal) :
    (s.drainTimeout pg).rb (Reg.PAGE_STATUS pg) 8 = true ∧ (s.drainTimeout pg).pgState pg = 3 ∧ (s.drainTimeout pg).discarding pg = true ∧
      Within noticeFields (fun a => faultReg a || a == Reg.PAGE_STATUS pg) s (s.drainTimeout pg) := by
  have hstatus : faultReg (Reg.PAGE_STATUS pg) = false := by
    obtain ⟨h1, h2, ho⟩ := basePlace hpg (off := 0x10) (by decide)
    exact faultReg_header (by rw [h1, h2, (plainPage_cases hp).1]) (by rw [ho]; decide) (by rw [ho]; decide)
  have hnot : ¬ (s.enabled pg = true ∨ s.pgState pg ≠ stDraining ∨ s.discarding pg = true) := by simp [hen, hst, hd]
  unfold State.drainTimeout
  rw [if_neg hnot]
  dsimp only
  generalize hx : (s.wb (Reg.PAGE_STATUS pg) 8 true).free 16 = x
  have hfree : Within noticeFields (fun a => faultReg a || a == Reg.PAGE_STATUS pg) (s.wb (Reg.PAGE_STATUS pg) 8 true) x.2 := by
    rw [← hx]
    exact .of_same (fun f => by cases f <;> first | (left; decide) | (right; rfl)) rfl
  have hregs : ∀ a, x.2.rd a = (s.wb (Reg.PAGE_STATUS pg) 8 true).rd a := fun a => by rw [← hx]; rfl
  have hnote := x.2.notice_within (nth 0 (pageNotices pg) (x.1.toNat % (pageNotices pg).length)) 0 0 [] (nth_pageNotices pg _) (notice_lt (nth_pageNotices pg _))
  generalize x.2.notice (nth 0 (pageNotices pg) (x.1.toNat % (pageNotices pg).length)) 0 0 [] = u at hnote
  have hall : Within noticeFields (fun a => faultReg a || a == Reg.PAGE_STATUS pg) s u :=
    (((s.wb_within _ 8 true).mono (by decide) (by simp +contextual)).trans hfree).trans (hnote.regs_mono (by simp +contextual))
  have hword : u.rd (Reg.PAGE_STATUS pg) = setBit (s.rd (Reg.PAGE_STATUS pg)) 8 true := by
    rw [hnote.rd hstatus, hregs, State.wb, State.rd_wr_same]
  have hbusy : (u.setDiscard pg true).pageBusy pg = true := by
    rw [((State.setDiscard_within u pg true (q := fun _ => false)).pageBusy (by decide) hp), hall.pageBusy (by decide) hp, hb]
  rw [State.pageDiscard_plain hp hc, State.drainEnd_waits hp hbusy]
  refine ⟨?_, ?_, u.discarding_setDiscard_same pg true, hall.trans ((u.setDiscard_within pg true).widen (by decide))⟩
  · change bit (u.rd _) 8 = true
    rw [hword, bit_setBit _ (by decide), if_pos rfl]
  · change fld (u.rd _) 2 0 = 3
    rw [hword, fld_setBit_other _ (by decide) (by decide) (by decide)]
    exact hst

/-- Settles O16: a plain page starts, stops, ends its drain and times out as its four commands say. -/
theorem pagesEnableAndDrain : Obligations.PagesEnableAndDrain := by
  unfold Obligations.PagesEnableAndDrain
  rintro p k pg s rfl hp
  have hpg : k.val * 0x1000 % 0x1000 = 0 := by omega
  refine ⟨?_, ?_, fun hen hst hb => ?_, fun hen hst hb hd hc => ?_⟩
  · rintro v rfl h h0 h4 hst
    obtain ⟨t, ht, hctrl, hstate, hto, hseq, hw⟩ := State.pageEnable_plain hpg hp h h0 h4 hst
    exact ends_of_done (s := s) (congrArg done ht) ⟨hctrl, hstate, hto, hseq, hw.ended (by decide)⟩
  · rintro mode v rfl h h0 h4 hl hst hm
    obtain ⟨t, ht, hctrl, hmode, hstate, hseq, hw⟩ := State.pageDisable_plain hpg hp h h0 h4 hl hst hm
    exact ends_of_done (s := s) (congrArg done ht) ⟨hctrl, hmode, hstate, hseq, hw.ended (by decide)⟩
  · obtain ⟨hstate, hdisc, hw⟩ := State.drainEnd_ended hp hen hst hb
    exact ends_of_done (s := s) (t := s.drainEnd (k.val * 0x1000)) rfl ⟨hstate, hdisc, (hw.regs_mono (by simp [among])).ended (by decide)⟩
  · obtain ⟨hto, hstate, hdisc, hw⟩ := State.drainTimeout_plain hpg hp hen hst hb hd hc
    exact ends_of_done (s := s) (t := s.drainTimeout (k.val * 0x1000)) rfl ⟨hto, hstate, hdisc, hw.ended (by decide)⟩

end Sys2Proof.Machine

/-! ## Fences and returns (R24, R347) -/
namespace Sys2Proof.Machine

/-! ### Changes of STATE with an event -/

/-- STATE after a change, whatever event the change raises. -/
theorem State.pgState_toState (s : State) {pg v : Nat} (hv : v < 8) (hs : evtReg (Reg.PAGE_STATUS pg) = false) (src : Option Nat) :
    (s.toState pg v src).pgState pg = v := by
  unfold State.toState
  split
  · assumption
  · have h : (s.setPgState pg v).pgState pg = v := (s.pgState_setPgState pg v).trans (Nat.mod_eq_of_lt hv)
    cases src with
    | none => exact h
    | some e => exact ((State.evt_within _ e).rf hs 2 0).trans h

theorem State.rd_toState (s : State) (pg v : Nat) (src : Option Nat) {a : Nat} (he : evtReg a = false) (ha : a ≠ Reg.PAGE_STATUS pg) :
    (s.toState pg v src).rd a = s.rd a :=
  (s.toState_within pg v src).rd (by simp [he, ha])

/-- A count of 32 bits advanced by one. -/
theorem State.rn_cntSat (s : State) (a : Nat) : (s.cntSat a 32 1).rn a = min (2 ^ 32 - 1) (s.rn a + 1) := by
  rw [State.cntSat, State.rn, State.wf, State.rd_wr_same, ← fld_full, fld_setFld_same _ (by decide) (by decide), State.rf, fld_full,
    satAdd_one (s.rd a).isLt]
  exact Nat.mod_eq_of_lt (by omega)

theorem State.cntSat_within (s : State) (a n k : Nat) : Within [.regs] (fun b => b == a) s (s.cntSat a n k) := s.wf_within _ _ _ _

/-! ### Units that return by an isolated test -/

/-- A unit with a SELFTEST register, its page, and what the page is the page of. -/
theorem pageFn_units : (∀ n : Fin 26, pageFn (Reg.page 5 (1 + n)) = .slice n) ∧ (∀ e : Fin 24, pageFn (Reg.page 9 (1 + e)) = .dcp e) ∧
    (∀ e : Fin 4, pageFn (Reg.page 10 (1 + e)) = .cmp e) ∧ (∀ c : Fin 6, pageFn (Reg.page 12 (1 + c)) = .chan c) ∧
    ∀ p : Fin 4, pageFn (Reg.page 13 (1 + p)) = .net p := by decide

/-- The page of such a unit: its base, a page with a header, outside HIF and the service die. -/
theorem returnPage_place {u : FUnit} {a pg : Nat} (ha : selftestReg u = some a) (hp : returnPage u = some pg) :
    pg % 0x1000 = 0 ∧ 0x100000 ≤ pg ∧ pg / 0x100000 ≠ 17 := by
  cases u <;> cases ha <;> cases hp <;> simp only [Reg.page] <;> omega

theorem hasHeader_of_le {a : Nat} (h : 0x100000 ≤ a) : hasHeader (a / 0x100000) (a / 0x1000 % 256) = true := by
  have : a / 0x100000 ≠ 0 := by omega
  simp [hasHeader, this]

/-! ### FENCE_REQ (R24, R347) -/

/-- Two bits of a word, by the mask that names them. -/
theorem bit_of_and {w m x : Word} (h : w &&& m = x) {i : Nat} (hm : bit m i = true) : bit w i = bit x i := by
  rw [← h]
  simp only [bit, BitVec.getLsbD_and] at hm ⊢
  rw [hm, Bool.and_true]

theorem State.slice_setSlice_same {s : State} {n : Nat} (h : n < s.syn.slices.length) (v : Slice) : (s.setSlice n v).slice n = v := by
  simp [State.slice, State.setSlice, nth, upd, h]

theorem State.slice_setSlice_other (s : State) {n m : Nat} (h : n ≠ m) (v : Slice) : (s.setSlice n v).slice m = s.slice m := by
  simp [State.slice, State.setSlice, nth, upd, List.getElem?_set_ne h]

theorem State.setSlice_within (s : State) (n : Nat) (v : Slice) {q : Nat → Bool} : Within [.syn] q s (s.setSlice n v) :=
  .of_same (fun f => by cases f <;> first | (left; decide) | (right; rfl)) rfl

theorem slicePage_eq (n : Nat) : slicePage n = Reg.page 5 (1 + n) := by simp only [slicePage, Nat.add_comm]

theorem pageFn_slice (n : Fin 26) : pageFn (slicePage n) = .slice n := by
  rw [slicePage_eq]
  exact pageFn_units.1 n

/-- FENCE_REQ on a slice in service marks it to leave. -/
theorem State.fenceReq_slice {s : State} (n : Fin 26) (hst : s.pgState (slicePage n) ≤ 3) :
    s.fenceReq (slicePage n) = s.setSlice n { s.slice n with leaving := true } := by
  unfold State.fenceReq
  rw [if_neg (by simp only [stFenced]; omega), pageFn_slice]
  dsimp only
  rw [if_neg (by simp only [stTest, stReturning]; omega)]

theorem slicePage_place (n : Fin 26) : slicePage n % 0x1000 = 0 ∧ slicePage n / 0x1000 * 0x1000 = slicePage n ∧
    hasHeader (slicePage n / 0x100000) (slicePage n / 0x1000 % 256) = true := by
  revert n; decide

/-- FENCE_REQ set on a slice in service (R24). -/
theorem State.fenceReqSet_slice {s : State} (hs : s.Shape) {p : Party} (n : Fin 26)
    (h : Allowed s p (Reg.PAGE_CTRL (slicePage n)) (setBit (s.rd (Reg.PAGE_CTRL (slicePage n))) 3 true))
    (hc : s.rd (Reg.PAGE_CTRL (slicePage n)) &&& 0x18 = 0) (hg : s.gated (slicePage n) = false) (hst : s.pgState (slicePage n) ≤ 3) :
    ∃ t, s.writeCtrl p (slicePage n) (fun w => setBit w 3 true) = t ∧ t.rb (Reg.PAGE_CTRL (slicePage n)) 3 = true ∧ (t.slice n).leaving = true ∧
      t.pgState (slicePage n) = s.pgState (slicePage n) ∧ (∀ m < 26, m ≠ n.val → t.slice m = s.slice m) ∧
      Within [.regs, .hif, .syn] (among [Reg.PAGE_CTRL (slicePage n), Reg.SEQ (slicePage n)]) s t := by
  obtain ⟨hpg, -, hh⟩ := slicePage_place n
  have hbit := bit_setBit (s.rd (Reg.PAGE_CTRL (slicePage n))) (i := 3) (by decide) (b := true)
  have h3 : bit (s.rd (Reg.PAGE_CTRL (slicePage n))) 3 = false := bit_of_and (i := 3) hc (by decide)
  have h4 : bit (s.rd (Reg.PAGE_CTRL (slicePage n))) 4 = false := bit_of_and (i := 4) hc (by decide)
  obtain ⟨u, hu, hact⟩ := State.writeCtrl_acts (f := fun w => setBit w 3 true) hpg hh rfl h (fun i hi _ => (hbit i).trans (if_neg (by omega))) h4
    ((hbit 4).trans h4) hg
  have hword : ∀ i, u.rb (Reg.PAGE_CTRL (slicePage n)) i = if 3 = i then true else s.rb (Reg.PAGE_CTRL (slicePage n)) i := fun i => by
    rw [State.rb, hu.ctrl]; exact hbit i
  have hust : u.pgState (slicePage n) = s.pgState (slicePage n) := hu.within.rf (by simp [among, Reg.PAGE_STATUS, Reg.PAGE_CTRL, Reg.SEQ]) _ _
  have husyn : u.syn = s.syn := (hu.within.1 .syn).resolve_left (by decide)
  rw [State.ctrlAct_fence (hword 0) h3 (hword 3), State.fenceReq_slice n (hust ▸ hst)] at hact
  refine ⟨_, hact, hword 3, ?_, hust, fun m _ hm => ?_, (hu.within.widen (by decide)).trans ((u.setSlice_within n _).widen (by decide))⟩
  · rw [State.slice_setSlice_same (by rw [husyn, hs.slices]; exact n.isLt)]
  · rw [State.slice_setSlice_other _ (Ne.symm hm), State.slice, husyn, State.slice]

/-- FENCE_REQ cleared on a fenced unit with a SELFTEST register starts its test (R347). -/
theorem State.fenceClear_unit {s : State} {u : FUnit} {a pg : Nat} (ha : selftestReg u = some a) (hp : returnPage u = some pg) (hst : s.pgState pg = 4) :
    ∃ e, s.fenceClear pg = s.toState pg 5 e := by
  obtain ⟨hslice, hdcp, hcmp, hchan, hnet⟩ := pageFn_units
  unfold State.fenceClear
  rw [if_pos hst]
  cases u <;> cases ha <;> cases hp
  case slice n => rw [hslice, ← slicePage_eq]; exact ⟨some (544 + 4 * n), rfl⟩
  case dcp e => rw [hdcp]; exact ⟨_, rfl⟩
  case cmp e => rw [hcmp]; exact ⟨_, rfl⟩
  case channel c => rw [hchan]; exact ⟨_, rfl⟩
  case netPort p => rw [hnet]; exact ⟨_, rfl⟩

/-- FENCE_REQ cleared on the page of a fenced unit. -/
theorem State.fenceReqClear_unit {s : State} {p : Party} {u : FUnit} {a pg : Nat} (ha : selftestReg u = some a) (hp : returnPage u = some pg)
    (h : Allowed s p (Reg.PAGE_CTRL pg) (setBit (s.rd (Reg.PAGE_CTRL pg)) 3 false)) (hc : s.rd (Reg.PAGE_CTRL pg) &&& 0x18 = 8) (hg : s.gated pg = false)
    (hst : s.pgState pg = 4) : ∃ t, s.writeCtrl p pg (fun w => setBit w 3 false) = t ∧ t.rb (Reg.PAGE_CTRL pg) 3 = false ∧ t.pgState pg = 5 ∧
      Within evtFields (fun b => evtReg b || among [Reg.PAGE_CTRL pg, Reg.PAGE_STATUS pg, Reg.SEQ pg] b) s t := by
  obtain ⟨hpg, hle, -⟩ := returnPage_place ha hp
  have hh := hasHeader_of_le hle
  have hbit := bit_setBit (s.rd (Reg.PAGE_CTRL pg)) (i := 3) (by decide) (b := false)
  have h3 : bit (s.rd (Reg.PAGE_CTRL pg)) 3 = true := bit_of_and (i := 3) hc (by decide)
  have h4 : bit (s.rd (Reg.PAGE_CTRL pg)) 4 = false := bit_of_and (i := 4) hc (by decide)
  obtain ⟨x, hx, hact⟩ := State.writeCtrl_acts (f := fun w => setBit w 3 false) hpg hh rfl h (fun i hi _ => (hbit i).trans (if_neg (by omega))) h4
    ((hbit 4).trans h4) hg
  have hword : ∀ i, x.rb (Reg.PAGE_CTRL pg) i = if 3 = i then false else s.rb (Reg.PAGE_CTRL pg) i := fun i => by
    rw [State.rb, hx.ctrl]; exact hbit i
  have hxst : x.pgState pg = s.pgState pg := hx.within.rf (by simp [among, Reg.PAGE_STATUS, Reg.SEQ]) _ _
  obtain ⟨e, he⟩ := State.fenceClear_unit ha hp (hxst.trans hst)
  rw [State.ctrlAct_return (hword 0) h3 (hword 3), he] at hact
  have hstatus : ∀ off < 0x40, off ≠ 0x1C → evtReg (pg + off) = false := fun off ho hne => by
    obtain ⟨h1, h2, h3⟩ := basePlace hpg (off := off) (by omega)
    exact evtReg_of_faultReg (faultReg_header (by rw [h1, h2, hh]) (by omega) (by omega))
  refine ⟨_, hact, ?_, x.pgState_toState (by decide) (hstatus 0x10 (by decide) (by decide)) e,
    (hx.within.mono (by decide) (by simp +contextual [among])).trans ((x.toState_within pg 5 e).regs_mono (by simp +contextual [among, or_imp]))⟩
  rw [State.rb, x.rd_toState pg 5 e (hstatus 0xC (by decide) (by decide)) (by simp [Reg.PAGE_STATUS])]
  exact hword 3

/-! ### The end of the isolated test (R347) -/

/-- What the test's end does to a unit with a page, a SELFTEST register `a` and a count of fences `b`: the result, STATE, the count where it failed, the event. -/
structure State.Tested (s t : State) (a b pg : Nat) (pass : Bool) : Prop where
  result : t.rf a 31 30 = 2 + b2n pass
  state : t.pgState pg = if pass then 6 else 4
  count : pass = false → t.rn b = min (2 ^ 32 - 1) (s.rn b + 1)
  within : Within [.regs, .hif, .svc, .sent, .freeCtr] (fun c => evtReg c || c == a || c == Reg.PAGE_STATUS pg || c == b) s t

/-- Registers of a unit that are distinct, and that no event changes. -/
structure UnitRegs (a b pg : Nat) : Prop where
  selftest : evtReg a = false
  fences : evtReg b = false
  status : evtReg (Reg.PAGE_STATUS pg) = false
  apart : a ≠ b ∧ a ≠ Reg.PAGE_STATUS pg ∧ b ≠ Reg.PAGE_STATUS pg

theorem b2n_res_lt (pass : Bool) : 2 + b2n pass < 4 := by cases pass <;> decide

/-- The result is written, then STATE and the count change in either order, then the event is raised. -/
theorem State.Tested.of_steps {s x z : State} {a b pg : Nat} {pass : Bool} (h : UnitRegs a b pg) (hres : x.rf a 31 30 = 2 + b2n pass)
    (hx : Within [.regs, .freeCtr] (fun c => c == a) s x) (hst : z.pgState pg = if pass then 6 else 4)
    (hcount : pass = false → z.rn b = min (2 ^ 32 - 1) (x.rn b + 1)) (hz : Within evtFields (fun c => evtReg c || c == Reg.PAGE_STATUS pg || c == b) x z) (f : Nat) :
    s.Tested (z.evt f) a b pg pass := by
  obtain ⟨hab, has, -⟩ := h.apart
  have hev := z.evt_within f
  refine ⟨?_, (hev.rf h.status 2 0).trans hst, fun hp => ?_, ?_⟩
  · rw [hev.rf h.selftest, hz.rf (by simp [h.selftest, has, hab]), hres]
  · rw [hev.rn h.fences, hcount hp, hx.rn (by simpa using hab.symm)]
  · exact ((hx.mono (by decide) (by simp +contextual)).trans (hz.mono (by decide) (by simp +contextual [or_imp]))).trans
      (hev.mono (by decide) (by simp +contextual))

/-- The count of fences moves where the test failed. -/
theorem State.fenceCount (s : State) (b : Nat) (pass : Bool) : Within [.regs] (fun c => c == b) s (s.when (!pass) fun s => s.cntSat b 32 1) ∧
    (pass = false → (s.when (!pass) fun s => s.cntSat b 32 1).rn b = min (2 ^ 32 - 1) (s.rn b + 1)) := by
  cases pass
  · exact ⟨s.cntSat_within b 32 1, fun _ => s.rn_cntSat b⟩
  · exact ⟨.refl s, fun h => by cases h⟩

theorem goal_lt (pass : Bool) : (if pass = true then 6 else 4) < 8 := by split <;> decide

/-- STATE first, then the count: engines, compressors, channels, network ports. -/
theorem State.tested_engine (s : State) {a b pg : Nat} (h : UnitRegs a b pg) (pass : Bool) (e : Option Nat) (f : Nat) :
    s.Tested (((((s.wf a 31 30 (2 + b2n pass)).toState pg (if pass then 6 else 4) e).when (!pass) fun s => s.cntSat b 32 1)).evt f) a b pg pass := by
  have hres : (s.wf a 31 30 (2 + b2n pass)).rf a 31 30 = 2 + b2n pass :=
    (s.rf_wf_same a (by decide) (by decide) _).trans (Nat.mod_eq_of_lt (b2n_res_lt pass))
  have hyw := (s.wf a 31 30 (2 + b2n pass)).toState_within pg (if pass = true then 6 else 4) e
  have hst := (s.wf a 31 30 (2 + b2n pass)).pgState_toState (goal_lt pass) h.status e
  obtain ⟨hzw, hzn⟩ := ((s.wf a 31 30 (2 + b2n pass)).toState pg (if pass = true then 6 else 4) e).fenceCount b pass
  refine .of_steps h hres ((s.wf_within _ _ _ _).widen (by decide)) ?_ (fun hp => ?_) ((hyw.regs_mono ?_).trans (hzw.mono (by decide) ?_)) f
  · exact (hzw.rf (by simpa using h.apart.2.2.symm) 2 0).trans hst
  · rw [hzn hp, hyw.rn (by simp [h.fences, h.apart.2.2])]
  · simp +contextual
  · simp +contextual

/-- The count first, then STATE: slices, whose result comes with a free signature. -/
theorem State.tested_slice (s : State) {a b pg : Nat} (h : UnitRegs a b pg) (pass : Bool) (e : Option Nat) (f : Nat) {x : State}
    (hx : x = (s.free 16).2.wn a ((2 + b2n pass) * 2 ^ 30 + (s.free 16).1.toNat)) :
    s.Tested (((x.when (!pass) fun s => s.cntSat b 32 1).toState pg (if pass then 6 else 4) e).evt f) a b pg pass := by
  have hres : x.rf a 31 30 = 2 + b2n pass := by
    have hsig := (s.free 16).1.isLt
    have hlt := b2n_res_lt pass
    rw [hx, State.wn, State.rf_wr_same, fld, BitVec.toNat_ofNat, Nat.shiftRight_eq_div_pow]
    omega
  have hfree : Within [.regs, .freeCtr] (fun c => c == a) s (s.free 16).2 :=
    .of_same (fun f => by cases f <;> first | (left; decide) | (right; rfl)) rfl
  have hxw : Within [.regs, .freeCtr] (fun c => c == a) s x := hx ▸ hfree.trans ((State.wn_within _ _ _).widen (by decide))
  obtain ⟨hyw, hyn⟩ := x.fenceCount b pass
  have hzw := (x.when (!pass) fun s => s.cntSat b 32 1).toState_within pg (if pass = true then 6 else 4) e
  refine .of_steps h hres hxw (State.pgState_toState _ (goal_lt pass) h.status e) (fun hp => ?_) ((hyw.mono (by decide) ?_).trans (hzw.regs_mono ?_)) f
  · rw [hzw.rn (by simp [h.fences, h.apart.2.2]), hyn hp]
  · simp +contextual
  · simp +contextual

/-- A result and the count beside it, on a page outside HIF and the service die. -/
theorem UnitRegs.of_offset {a b pg o : Nat} (ha : a = pg + o) (hb : b = pg + (o + 4)) (hpg : pg % 0x1000 = 0) (hl : 0x40 ≤ o) (hu : o + 4 < 0x1000) (hp : 0x100000 ≤ pg)
    (hs : pg / 0x100000 ≠ 17) : UnitRegs a b pg := by
  have hev : ∀ off < 0x1000, off ≠ 0x1C → evtReg (pg + off) = false := fun off ho hne =>
    evtReg_eq_false (by omega) (by omega) (by simp only [Reg.SVC_BMC_EVT]; omega)
  subst ha hb
  exact ⟨hev o (by omega) (by omega), hev (o + 4) (by omega) (by omega), hev 0x10 (by decide) (by decide), by simp only [Reg.PAGE_STATUS]; omega⟩

/-- The registers of a unit's test are apart. -/
theorem unitRegs {u : FUnit} {a b pg : Nat} (ha : selftestReg u = some a) (hb : fencesReg u = some b) (hp : returnPage u = some pg) : UnitRegs a b pg := by
  obtain ⟨hpg, hle, hsvc⟩ := returnPage_place ha hp
  have hof : ∀ o, a = pg + o → b = pg + (o + 4) → 0x40 ≤ o → o + 4 < 0x1000 → UnitRegs a b pg := fun o h1 h2 h3 h4 => .of_offset h1 h2 hpg h3 h4 hle hsvc
  cases u <;> cases ha <;> cases hp <;> cases hb
  case slice n => exact hof 0x58 (by simp only [Reg.page, Reg.SLC_SELFTEST]; omega) (by simp only [Reg.page, Reg.SLC_FENCES]; omega) (by decide) (by decide)
  case dcp e => exact hof 0x54 (by simp only [Reg.page, Reg.DCP_SELFTEST]; omega) (by simp only [Reg.page, Reg.DCP_FENCES]; omega) (by decide) (by decide)
  case cmp e => exact hof 0x8C (by simp only [Reg.page, Reg.CMP_SELFTEST]; omega) (by simp only [Reg.page, Reg.CMP_FENCES]; omega) (by decide) (by decide)
  case channel c => exact hof 0x88 (by simp only [Reg.page, Reg.DMC_CH_SELFTEST]; omega) (by simp only [Reg.page, Reg.DMC_CH_FENCES]; omega) (by decide) (by decide)
  case netPort p => exact hof 0xC4 (by simp only [Reg.page, Reg.NET_SELFTEST]; omega) (by simp only [Reg.page, Reg.NET_FENCES]; omega) (by decide) (by decide)

/-- A slice that goes from TEST to RETURNING or FENCED: a failure is counted first. -/
theorem State.sliceState_tested {s : State} {n : Nat} (hst : s.pgState (slicePage n) = 5) (pass : Bool) :
    s.sliceState n (if pass then stReturning else stFenced) =
      (s.when (!pass) fun s => s.cntSat (Reg.SLC_FENCES n) 32 1).toState (slicePage n) (if pass then 6 else 4) (some (544 + 4 * n)) := by
  cases pass
  · have hne : (s.pgState (slicePage n) != stFenced) = true := by rw [hst]; rfl
    simp only [State.sliceState, hne, Bool.false_eq_true, if_false, Bool.not_false, Bool.and_true]
    rfl
  · rfl

/-- What RETURN_TEST_END does to a unit in its isolated test. -/
theorem State.returnTest_tested {s : State} {u : FUnit} {a b pg : Nat} (ha : selftestReg u = some a) (hb : fencesReg u = some b) (hp : returnPage u = some pg)
    (h4 : s.rb (Reg.PAGE_CTRL pg) 4 = false) (hst : s.pgState pg = 5) (pass : Bool) : s.Tested (s.returnTest u pass) a b pg pass := by
  have hr := unitRegs ha hb hp
  have hrun : ¬ (s.rb (Reg.PAGE_CTRL pg) 4 = true ∨ (!decide (s.pgState pg = stTest ∨ s.pgState pg = stReturning ∧ (!pass) = true)) = true) := by
    simp [h4, hst]
  cases u <;> cases ha <;> cases hb <;> simp only [State.returnTest, hp] <;> rw [if_neg hrun] <;> cases hp
  case slice n =>
    generalize hx : (s.free 16).2.wn (Reg.SLC_SELFTEST n) ((2 + b2n pass) * 2 ^ 30 + (s.free 16).1.toNat) = x
    have hkeep : x.pgState (slicePage n) = 5 := by
      rw [← hx, slicePage_eq]
      refine ((State.wn_within _ _ _).rf ?_ 2 0).trans hst
      simpa using hr.apart.2.1.symm
    rw [State.sliceState_tested hkeep, slicePage_eq]
    exact s.tested_slice hr pass _ _ hx.symm
  case dcp e => exact s.tested_engine hr pass _ _
  case cmp e => exact s.tested_engine hr pass _ _
  case channel c => exact s.tested_engine hr pass _ _
  case netPort p => exact s.tested_engine hr pass _ _

/-! ### Joining (R347) -/

theorem State.lane_setLane_same {s : State} {l : Nat} (h : l < s.plk.lanes.length) (v : Lane) : (s.setLane l v).lane l = v := by
  simp [State.lane, State.setLane, nth, upd, h]

/-- A returning slice whose page is enabled joins at the next band boundary. -/
theorem State.unitJoin_slice {s : State} (n : Fin 26) (hst : s.pgState (slicePage n) = 6) (hen : s.enabled (slicePage n) = true) :
    s.unitJoin (.slice n) = s.setSlice n { s.slice n with joining := true } := by
  rw [slicePage_eq] at hst hen
  have hrun : ¬ s.pgState (Reg.page 5 (1 + n)) ≠ stReturning := by simp [hst]
  change (if s.pgState (Reg.page 5 (1 + n)) ≠ stReturning then s else if s.enabled (Reg.page 5 (1 + n)) then _ else _) = _
  rw [if_neg hrun, if_pos hen]

/-- A qualified lane is ready for the next release. -/
theorem State.unitJoin_lane {s : State} (l : Fin 96) (h : s.laneQualified l = true) : s.unitJoin (.lane l) = s.setLane l { s.lane l with ready := true } := by
  have hst : ¬ s.pgState (lanePage l) ≠ stReturning := by
    simp only [State.laneQualified, Bool.and_eq_true, beq_iff_eq] at h
    simp [h.1.1]
  change (if s.pgState (lanePage l) ≠ stReturning then s else if s.laneQualified l then _ else s) = _
  rw [if_neg hst, if_pos h]

/-- A returned management pair stands by. -/
theorem State.unitJoin_pair {s : State} (i : Fin 2) (h : s.mgtState i = 6) : s.unitJoin (.mgtPair i) = s.setMgtState i 1 := by
  change (if s.mgtState i ≠ stReturning then s else s.setMgtState i stIdle) = _
  rw [if_neg (by simp [h])]

theorem State.mgtState_setMgtState (s : State) (i : Nat) {v : Nat} (hv : v < 8) : (s.setMgtState i v).mgtState i = v := by
  unfold State.setMgtState State.mgtState
  split
  · exact (s.rf_wf_same _ (by decide) (by decide) v).trans (Nat.mod_eq_of_lt hv)
  · exact (s.rf_wf_same _ (by decide) (by decide) v).trans (Nat.mod_eq_of_lt hv)

theorem State.setMgtState_within (s : State) (i v : Nat) : Within [.regs] (among [Reg.MGT_PAIR]) s (s.setMgtState i v) := by
  unfold State.setMgtState
  split
  · exact (s.wf_within _ _ _ _).regs_mono (by simp [among])
  · exact (s.wf_within _ _ _ _).regs_mono (by simp [among])

theorem fencesReg_of_selftestReg {u : FUnit} {a : Nat} (h : selftestReg u = some a) : ∃ b, fencesReg u = some b := by
  cases u <;> cases h <;> exact ⟨_, rfl⟩

/-- Settles O18: each command by what it comes to on its unit. -/
theorem unitsFenceAndReturn : Obligations.UnitsFenceAndReturn := by
  unfold Obligations.UnitsFenceAndReturn
  intro s hs
  refine ⟨fun p n h hc hg hst => ?_, fun p u a pg hlt ha hp h hc hg hst => ?_, fun u a pg pass ha hp h4 hst => ?_, fun u a b pg ha hb hp h4 hst => ?_,
    fun n hst hen => ?_, fun l hq => ?_, fun i hi => ?_⟩
  · obtain ⟨t, ht, hctrl, hleave, hstate, hother, hw⟩ := State.fenceReqSet_slice hs n h hc hg hst
    have hexec : exec (.fenceReqSet p ⟨slicePage n / 0x1000, by have := n.isLt; simp [slicePage, Reg.page]; omega⟩) s = done t := by
      rw [← ht]
      exact congrArg (fun pg => done (s.writeCtrl p pg fun w => setBit w 3 true)) (slicePage_place n).2.1
    exact ends_of_done hexec ⟨hctrl, hleave, hstate, hother, hw.ended (by decide)⟩
  · obtain ⟨t, ht, hctrl, hstate, hw⟩ := State.fenceReqClear_unit ha hp h hc hg hst
    have hbase : pg / 0x1000 * 0x1000 = pg := by have := (returnPage_place ha hp).1; omega
    have hexec : exec (.fenceReqClear p ⟨pg / 0x1000, hlt⟩) s = done t := by
      rw [← ht]
      exact congrArg (fun pg => done (s.writeCtrl p pg fun w => setBit w 3 false)) hbase
    exact ends_of_done hexec ⟨hctrl, hstate, hw.ended (by decide)⟩
  · obtain ⟨b, hb⟩ := fencesReg_of_selftestReg ha
    have ht := State.returnTest_tested ha hb hp h4 hst pass
    refine ends_of_done (s := s) (t := s.returnTest u pass) rfl ⟨ht.result, ht.state, ht.within.mem (by decide), (ht.within.regs_mono ?_).ended (by decide)⟩
    intro c hc
    rw [Bool.or_eq_true] at hc ⊢
    exact hc.imp id fun h => by rw [hb, eq_of_beq h]; exact beq_self_eq_true _
  · exact ends_of_done (s := s) (t := s.returnTest u false) rfl ((State.returnTest_tested ha hb hp h4 hst false).count rfl)
  · refine ends_of_done (s := s) (congrArg done (State.unitJoin_slice n hst hen)) ⟨?_, ((s.setSlice_within n _).widen (by decide)).ended (by decide)⟩
    change ((s.setSlice n _).slice n).joining = true
    rw [State.slice_setSlice_same (by rw [hs.slices]; exact n.isLt)]
  · refine ends_of_done (s := s) (congrArg done (State.unitJoin_lane l hq)) ⟨?_, ?_⟩
    · change ((s.setLane l _).lane l).ready = true
      rw [State.lane_setLane_same (by rw [hs.lanes]; exact l.isLt)]
    · exact Within.ended (.of_same (fun f => by cases f <;> first | (left; decide) | (right; rfl)) rfl) (by decide)
  · exact ends_of_done (s := s) (congrArg done (State.unitJoin_pair i hi))
      ⟨s.mgtState_setMgtState i (by decide), ((s.setMgtState_within i 1).widen (by decide)).ended (by decide)⟩

end Sys2Proof.Machine

/-! ## Countersign slots (R31 to R35) -/
namespace Sys2Proof.Machine

/-! ### Slots close and open (R31 to R35) -/

/-- SEQ of the page of slot `k`. -/
abbrev csSeq (k : Nat) : Nat := Reg.SEQ (0x6000 + 0x1000 * k)

theorem among_mono {l m : List Nat} (h : l ⊆ m) {a : Nat} (ha : among l a = true) : among m a = true :=
  List.contains_iff_mem.mpr (h (List.contains_iff_mem.mp ha))

/-- The registers of events and those of a longer list. -/
theorem evt_or_among {l m : List Nat} (h : l ⊆ m) {a : Nat} (ha : (evtReg a || among l a) = true) : (evtReg a || among m a) = true :=
  Bool.or_eq_true _ _ ▸ (Bool.or_eq_true _ _ ▸ ha).imp id (among_mono h)

/-- Registers of a slot's page but EVT_PEND stand through every event and every NOTICE fault. -/
theorem faultReg_slot {k off : Nat} (hk : k < 6) (ho : off < 0x1000) (hne : off ≠ 0x1C) : faultReg (0x6000 + 0x1000 * k + off) = false := by
  refine faultReg_eq_false (evtReg_eq_false (by omega) (by omega) ?_) ?_ ?_
  · simp only [Reg.SVC_BMC_EVT]; omega
  · simp only [Reg.FLT_LOG_WR]; omega
  · simp only [Reg.FLT_PEND]; omega

theorem faultReg_csStatus {k : Nat} (hk : k < 6) : faultReg (Reg.CS_STATUS k) = false := by
  have h := faultReg_slot (off := 0x44) hk (by decide) (by decide)
  rwa [show 0x6000 + 0x1000 * k + 0x44 = Reg.CS_STATUS k by simp only [Reg.CS_STATUS]; omega] at h

theorem faultReg_csRemain {k : Nat} (hk : k < 6) : faultReg (Reg.CS_REMAIN k) = false := by
  have h := faultReg_slot (off := 0x54) hk (by decide) (by decide)
  rwa [show 0x6000 + 0x1000 * k + 0x54 = Reg.CS_REMAIN k by simp only [Reg.CS_REMAIN]; omega] at h

/-- A slot's STATE changes, with its event. -/
theorem State.toCs_spec (s : State) {k v : Nat} (hk : k < 6) (hv : v < 16) : (s.toCs k v).csState k = v ∧
    Within evtFields (fun a => evtReg a || a == Reg.CS_STATUS k) s (s.toCs k v) := by
  unfold State.toCs
  split
  · exact ⟨‹_›, .refl s⟩
  · have hev := (s.wf (Reg.CS_STATUS k) 3 0 v).evt_within (2 + k)
    refine ⟨?_, ((s.wf_within _ _ _ _).mono (by decide) (by simp +contextual)).trans (hev.regs_mono (by simp +contextual))⟩
    rw [State.csState, hev.rf (evtReg_of_faultReg (faultReg_csStatus hk)), s.rf_wf_same _ (by decide) (by decide)]
    exact Nat.mod_eq_of_lt hv

/-- Whatever else CS_STATUS holds stands when STATE changes. -/
theorem State.toCs_rf (s : State) {k hi lo : Nat} (v : Nat) (hk : k < 6) (hlo : 4 ≤ lo) (hl : lo ≤ hi) :
    (s.toCs k v).rf (Reg.CS_STATUS k) hi lo = s.rf (Reg.CS_STATUS k) hi lo := by
  unfold State.toCs
  split
  · rfl
  · rw [(State.evt_within _ _).rf (evtReg_of_faultReg (faultReg_csStatus hk)), State.wf, State.rf_wr_same,
      fld_setFld_other _ (by decide) (by decide) hl (by omega)]
    rfl

/-- The fields and registers that closing slot `k` changes. -/
def closeReg (k a : Nat) : Bool := evtReg a || among [Reg.CS_STATUS k, Reg.CS_REMAIN k] a

/-- A slot closes: STATE, no window, and its event. -/
theorem State.csClose_spec (s : State) {k v : Nat} (hk : k < 6) (hv : v < 16) : (s.csClose k v).csState k = v ∧ (s.csClose k v).rn (Reg.CS_REMAIN k) = 0 ∧
    Within evtFields (closeReg k) s (s.csClose k v) := by
  unfold State.csClose
  generalize hx : ({ s with hif := { s.hif with csSign := Sparse.dropKeys (fun i => i / 128 == k) s.hif.csSign } } : State) = x
  have hxw : Within evtFields (closeReg k) s x := hx ▸ .of_same (fun f => by cases f <;> first | (left; decide) | (right; rfl)) rfl
  obtain ⟨hst, hw⟩ := (x.wn (Reg.CS_REMAIN k) 0).toCs_spec (k := k) (v := v) hk hv
  refine ⟨hst, ?_, (hxw.trans ((x.wn_within _ _).mono (by decide) ?_)).trans (hw.regs_mono ?_)⟩
  · rw [hw.rn, State.wn, State.rn_wr_same]
    · rfl
    · simp [evtReg_of_faultReg (faultReg_csRemain hk), Reg.CS_REMAIN, Reg.CS_STATUS]
  · simp +contextual [closeReg, among]
  · exact fun a ha => evt_or_among (l := [Reg.CS_STATUS k]) (by simp) (by simpa [among] using ha)

/-! ### What a proposal reads (R33) -/

/-- The registers of a proposal stand where only registers at the offset of SEQ have changed. -/
theorem State.csEntries_congr {s t : State} (h : ∀ a, a % 0x1000 ≠ 0x34 → t.rd a = s.rd a) (k : Nat) : t.csEntries k = s.csEntries k := by
  have hcount : t.rf (Reg.CS_COUNT k) 3 0 = s.rf (Reg.CS_COUNT k) 3 0 := by
    rw [State.rf, h _ (by simp only [Reg.CS_COUNT]; omega), State.rf]
  have hlt : s.rf (Reg.CS_COUNT k) 3 0 < 16 := Nat.mod_lt _ (by decide)
  rw [State.csEntries, State.csEntries, hcount]
  refine List.map_congr_left fun i hi => ?_
  have := List.mem_range.mp hi
  rw [State.rn, h _ (by simp only [Reg.CS_OFFSET]; omega), h _ (by simp only [Reg.CS_VALUE]; omega), State.rn]

theorem State.csDigest_congr {s t : State} (h : ∀ a, a % 0x1000 ≠ 0x34 → t.rd a = s.rd a) (k : Nat) : t.csDigest k = s.csDigest k := by
  have hword : ∀ a, a % 0x1000 ≠ 0x34 → t.rn a = s.rn a ∧ t.rf a 3 0 = s.rf a 3 0 := fun a ha => by
    simp only [State.rn, State.rf, h a ha, and_self]
  simp only [State.csDigest, State.csEntries_congr h, (hword (Reg.CS_SIGNERS k) (by simp only [Reg.CS_SIGNERS]; omega)).1,
    (hword (Reg.CS_COUNT k) (by simp only [Reg.CS_COUNT]; omega)).2, (hword (Reg.CS_NONCE k) (by simp only [Reg.CS_NONCE]; omega)).1]

theorem State.csTarget_congr {s t : State} (h : t.rd Reg.HIF_BIFUR = s.rd Reg.HIF_BIFUR) (a : Nat) : t.csTarget a = s.csTarget a := by
  simp only [State.csTarget, State.present, State.ports, State.rf, h]

/-- A count in SEQ of a slot's page. -/
theorem State.seqInc_csCmd (s : State) {k : Nat} (hk : k < 6) : s.seqInc (Reg.CS_CMD k) = s.cntWrap (csSeq k) := by
  have hp : Reg.CS_CMD k / 0x1000 * 0x1000 = 0x6000 + 0x1000 * k := by simp only [Reg.CS_CMD]; omega
  have hh : hasHeader (Reg.CS_CMD k / 0x100000) (Reg.CS_CMD k / 0x1000 % 256) = true := by
    simp only [hasHeader, Reg.CS_CMD, Bool.not_eq_true', Bool.and_eq_false_iff, decide_eq_false_iff_not]
    omega
  rw [s.seqInc_header hh, hp]

theorem State.rd_cntWrap_same (s : State) (a : Nat) : (s.cntWrap a).rd a = s.rd a + 1 := State.rd_wr_same ..

theorem State.rd_cntWrap_other (s : State) {a b : Nat} (h : b ≠ a) : (s.cntWrap a).rd b = s.rd b := State.rd_wr_other _ _ _ _ h.symm

/-- Only SEQ of a page has changed. -/
theorem State.cntWrap_off (s : State) (k a : Nat) (h : a % 0x1000 ≠ 0x34) : (s.cntWrap (csSeq k)).rd a = s.rd a :=
  (s.cntWrap_within _).rd (by simp only [beq_eq_false_iff_ne, csSeq, Reg.SEQ]; omega)

theorem partyCode_partyOf (k : Fin 6) : partyCode (partyOf k) = k := by revert k; decide

theorem partyOf_ne_dbg (k : Fin 6) : partyOf k ≠ .dbg := by revert k; decide

/-- PROPOSE by the slot's party, where no proposal is open (R33). -/
theorem State.csCmd_propose {s : State} {k : Fin 6} (hp : s.reaches (partyOf k) = true) (hst : s.csState k ≠ 1) :
    (s.csCmd (partyOf k) k 1).1 = (s.cntWrap (csSeq k)).csPropose k := by
  simp only [State.csCmd, hp, partyCode_partyOf, if_neg hst, s.seqInc_csCmd k.isLt, beq_self_eq_true]
  rfl

/-- WITHDRAW by the slot's party of its open proposal (R35). -/
theorem State.csCmd_withdraw {s : State} {k : Fin 6} (hp : s.reaches (partyOf k) = true) (hst : s.csState k = 1) :
    (s.csCmd (partyOf k) k 2).1 = (s.cntWrap (csSeq k)).csClose k 6 := by
  simp only [State.csCmd, hp, partyCode_partyOf, if_pos hst, s.seqInc_csCmd k.isLt, beq_self_eq_true]
  rfl


/-- Registers written one by one, at addresses that differ, each hold their word. -/
theorem State.rd_each_wr (s : State) {r : Nat → Nat} (hr : ∀ i j, r i = r j → i = j) (g : Nat → Word) (n : Nat) :
    ∀ w < n, (s.each n fun w s => s.wr (r w) (g w)).rd (r w) = g w := by
  induction n with
  | zero => intro w hw; omega
  | succ n ih =>
    intro w hw
    rw [State.each]
    by_cases h : w = n
    · rw [h, State.rd_wr_same]
    · rw [State.rd_wr_other _ _ _ _ fun he => h (hr _ _ he).symm, ih w (by omega)]

/-- Registers that a proposal opened in slot `k` writes. -/
def openReg (k a : Nat) : Bool :=
  evtReg a || among [Reg.CS_STATUS k, Reg.CS_NONCE k, Reg.CS_REMAIN k, Reg.SEQ (0x6000 + 0x1000 * k)] a || (List.range 16).any fun w => a == Reg.CS_DIGEST k w

theorem openReg_of_among {k a : Nat} (h : a ∈ [Reg.CS_STATUS k, Reg.CS_NONCE k, Reg.CS_REMAIN k, csSeq k]) : openReg k a = true := by
  have : among [Reg.CS_STATUS k, Reg.CS_NONCE k, Reg.CS_REMAIN k, Reg.SEQ (0x6000 + 0x1000 * k)] a = true := by simpa [among] using h
  simp [openReg, this]

theorem openReg_digest {k w : Nat} (hw : w < 16) : openReg k (Reg.CS_DIGEST k w) = true := by
  simp only [openReg, Bool.or_eq_true, List.any_eq_true, List.mem_range]
  exact .inr ⟨w, hw, by simp⟩

/-- A register of a slot other than STATUS and EVT_PEND stands when STATE changes. -/
theorem State.rd_toCs (s : State) {k v off : Nat} (hk : k < 6) (hv : v < 16) (ho : off < 0x1000) (hne : off ≠ 0x1C) (hs : off ≠ 0x44) :
    (s.toCs k v).rd (0x6000 + 0x1000 * k + off) = s.rd (0x6000 + 0x1000 * k + off) := by
  refine (s.toCs_spec hk hv).2.rd ?_
  rw [evtReg_of_faultReg (faultReg_slot hk ho hne), Bool.false_or, beq_eq_false_iff_ne]
  simp only [Reg.CS_STATUS]
  omega

/-- A proposal that is well formed opens its slot (R33). -/
theorem State.csPropose_opens {s : State} {k : Nat} (hk : k < 6) (h1 : 1 ≤ s.rf (Reg.CS_COUNT k) 3 0) (h8 : s.rf (Reg.CS_COUNT k) 3 0 ≤ 8)
    (ht : ∀ i < s.rf (Reg.CS_COUNT k) 3 0, s.csTarget (s.rn (Reg.CS_OFFSET k i)) = true) (hsig : s.rb (Reg.CS_SIGNERS k) k = false) {t : State} (hpr : s.csPropose k = t) :
    t.csState k = 1 ∧ t.rd (Reg.CS_NONCE k) = s.rd (Reg.CS_NONCE k) + 1 ∧ t.rn (Reg.CS_REMAIN k) = s.rf Reg.HIF_CS_WINDOW 15 0 ∧
      (∀ w < 16, t.rd (Reg.CS_DIGEST k w) = nth 0 ((s.cntWrap (Reg.CS_NONCE k)).csDigest k) w) ∧ Within evtFields (openReg k) s t := by
  have hall : (s.csEntries k).all (fun e => s.csTarget e.1) = true := by
    simp only [State.csEntries, List.all_map, List.all_eq_true, List.mem_range]
    exact ht
  simp only [State.csPropose, hall, hsig, h1, h8, and_self, decide_true, Bool.not_false, Bool.and_self, Bool.not_true, Bool.false_eq_true, if_false] at hpr
  generalize hs : s.cntWrap (Reg.CS_NONCE k) = x at hpr ⊢
  generalize hy : x.each 16 (fun w s => s.wr (Reg.CS_DIGEST k w) (nth 0 (x.csDigest k) w)) = y at hpr
  have hinj : ∀ i j, Reg.CS_DIGEST k i = Reg.CS_DIGEST k j → i = j := fun i j => by simp only [Reg.CS_DIGEST]; omega
  have hdig : ∀ w < 16, y.rd (Reg.CS_DIGEST k w) = nth 0 (x.csDigest k) w := hy ▸ x.rd_each_wr hinj _ 16
  have hx : Within [.regs] (fun a => a == Reg.CS_NONCE k) s x := hs ▸ s.cntWrap_within _
  have hyw : Within [.regs] (fun a => (List.range 16).any fun w => a == Reg.CS_DIGEST k w) x y := by
    refine hy ▸ State.each_within _ _ _ fun i hi s => (s.wr_within _ _).mono (by decide) ?_
    simp only [beq_iff_eq, List.any_eq_true, List.mem_range]
    exact fun a ha => ⟨i, hi, ha⟩
  have hnodig : ∀ a, (∀ w < 16, a ≠ Reg.CS_DIGEST k w) → y.rd a = x.rd a := fun a ha => hyw.rd (by simpa using ha)
  generalize hz : y.wn (Reg.CS_REMAIN k) (y.rf Reg.HIF_CS_WINDOW 15 0) = z at hpr
  have hzw : Within [.regs] (fun a => a == Reg.CS_REMAIN k) y z := hz ▸ y.wn_within _ _
  obtain ⟨hst, htw⟩ := z.toCs_spec (v := 1) hk (by decide)
  have hkeep : ∀ off < 0x1000, off ≠ 0x1C → off ≠ 0x44 → t.rd (0x6000 + 0x1000 * k + off) = z.rd (0x6000 + 0x1000 * k + off) := fun off ho h1 h2 =>
    hpr ▸ z.rd_toCs hk (by decide) ho h1 h2
  have hnonce : t.rd (Reg.CS_NONCE k) = x.rd (Reg.CS_NONCE k) := by
    rw [show Reg.CS_NONCE k = 0x6000 + 0x1000 * k + 0x50 by simp only [Reg.CS_NONCE]; omega, hkeep _ (by decide) (by decide) (by decide), hzw.rd, hnodig]
    · simp only [Reg.CS_DIGEST]; omega
    · simp only [Reg.CS_REMAIN, beq_eq_false_iff_ne]; omega
  have hwindow : y.rf Reg.HIF_CS_WINDOW 15 0 = s.rf Reg.HIF_CS_WINDOW 15 0 := by
    rw [State.rf, hnodig _ (by simp only [Reg.HIF_CS_WINDOW, Reg.CS_DIGEST]; omega)]
    exact hx.rf (by simp only [Reg.HIF_CS_WINDOW, Reg.CS_NONCE, beq_eq_false_iff_ne]; omega) _ _
  refine ⟨hpr ▸ hst, ?_, ?_, fun w hw => ?_, ?_⟩
  · rw [hnonce, ← hs, State.rd_cntWrap_same]
  · have hlt : s.rf Reg.HIF_CS_WINDOW 15 0 < 2 ^ 16 := Nat.mod_lt _ (by decide)
    rw [State.rn, show Reg.CS_REMAIN k = 0x6000 + 0x1000 * k + 0x54 by simp only [Reg.CS_REMAIN]; omega, hkeep _ (by decide) (by decide) (by decide),
      show 0x6000 + 0x1000 * k + 0x54 = Reg.CS_REMAIN k by simp only [Reg.CS_REMAIN]; omega, ← hz, State.wn, State.rd_wr_same, hwindow]
    exact Nat.mod_eq_of_lt (by omega)
  · rw [← hdig w hw, show Reg.CS_DIGEST k w = 0x6000 + 0x1000 * k + (0x100 + 4 * w) by simp only [Reg.CS_DIGEST]; omega,
      hkeep _ (by omega) (by omega) (by omega), hzw.rd]
    simp only [Reg.CS_REMAIN, beq_eq_false_iff_ne]
    omega
  · refine (((hx.mono (by decide) ?_).trans (hyw.mono (by decide) ?_)).trans (hzw.mono (by decide) ?_)).trans (hpr ▸ htw.regs_mono ?_)
    · exact fun a ha => openReg_of_among (by simp [eq_of_beq ha])
    · intro a ha
      obtain ⟨w, hw, rfl⟩ := by simpa using ha
      exact openReg_digest hw
    · exact fun a ha => openReg_of_among (by simp [eq_of_beq ha])
    · intro a ha
      rcases Bool.or_eq_true _ _ ▸ ha with h | h
      · simp [openReg, h]
      · exact openReg_of_among (by simp [eq_of_beq h])

/-- A proposal that is not well formed reads MALFORMED (R33). -/
theorem State.csPropose_malformed {s : State} {k : Nat} (h : s.rf (Reg.CS_COUNT k) 3 0 = 0 ∨ 8 < s.rf (Reg.CS_COUNT k) 3 0 ∨ s.rb (Reg.CS_SIGNERS k) k = true) :
    s.csPropose k = s.csClose k 7 := by
  have hok : (decide (1 ≤ s.rf (Reg.CS_COUNT k) 3 0 ∧ s.rf (Reg.CS_COUNT k) 3 0 ≤ 8) && (s.csEntries k).all (fun e => s.csTarget e.1) && !s.rb (Reg.CS_SIGNERS k) k) = false := by
    rcases h with h | h | h
    · simp [h]
    · simp [Nat.not_le.mpr h]
    · simp [h]
  simp only [State.csPropose, hok, Bool.not_false, if_true]

/-- A count in SEQ of the slot's page leaves a proposal as it was. -/
theorem State.cntWrap_seq_keeps (s : State) (k : Nat) : (∀ i, (s.cntWrap (csSeq k)).rf (Reg.CS_COUNT i) 3 0 = s.rf (Reg.CS_COUNT i) 3 0) ∧
    (∀ i j, (s.cntWrap (csSeq k)).rb (Reg.CS_SIGNERS i) j = s.rb (Reg.CS_SIGNERS i) j) := by
  have h := s.cntWrap_off k
  refine ⟨fun i => ?_, fun i j => ?_⟩
  · rw [State.rf, h _ (by simp only [Reg.CS_COUNT]; omega)]; rfl
  · rw [State.rb, h _ (by simp only [Reg.CS_SIGNERS]; omega)]; rfl

/-- Frame of a command on a slot that closes it, from the frame of the closing. -/
theorem closed_frame {k : Nat} {s t : State} (h : Within evtFields (closeReg k) (s.cntWrap (csSeq k)) t) :
    Within evtFields (fun a => evtReg a || among [Reg.CS_STATUS k, Reg.CS_REMAIN k, Reg.SEQ (0x6000 + 0x1000 * k)] a) s t := by
  refine ((s.cntWrap_within _).mono (by decide) ?_).trans (h.regs_mono ?_)
  · simp +contextual [among]
  · exact fun a => evt_or_among (by simp)

/-- A command that closes slot `k` ends so. -/
theorem closed_ends {c : Instr} {s t : State} {k v : Nat} {q : Nat → Bool} (hc : exec c s = done t) (hst : t.csState k = v) (hr : t.rn (Reg.CS_REMAIN k) = 0)
    (hw : Within evtFields q s t) : Ends c s fun t => t.csState k = v ∧ t.rn (Reg.CS_REMAIN k) = 0 ∧ Within evtFields q s t :=
  ends_of_done hc ⟨hst, hr, hw.ended (by decide)⟩

/-- Settles O20, command by command: SEQ of the slot's page counts, then the proposal opens or the slot closes. -/
theorem slotsOpenAndClose : Obligations.SlotsOpenAndClose := by
  unfold Obligations.SlotsOpenAndClose
  rintro p k n s rfl rfl
  obtain ⟨hcount, hsigners⟩ := s.cntWrap_seq_keeps k
  have hoff := s.cntWrap_off k
  refine ⟨fun hreach hst h1 h8 htarget hsig => ?_, fun hreach hst hbad => ?_, fun hreach hst => ?_, fun hst => ?_⟩
  · obtain ⟨t, ht⟩ : ∃ t, (s.cntWrap (csSeq k)).csPropose k = t := ⟨_, rfl⟩
    have hexec : exec (.csPropose (partyOf k) k) s = done t := congrArg done ((State.csCmd_propose hreach hst).trans ht)
    have htarget' : ∀ i < (s.cntWrap (csSeq k)).rf (Reg.CS_COUNT k) 3 0, (s.cntWrap (csSeq k)).csTarget ((s.cntWrap (csSeq k)).rn (Reg.CS_OFFSET k i)) = true := by
      intro i hi
      rw [hcount] at hi
      rw [State.csTarget_congr (hoff _ (by decide)), State.rn, hoff _ (by simp only [Reg.CS_OFFSET]; omega)]
      exact htarget i hi
    obtain ⟨hopen, hnonce, hremain, hdigest, hw⟩ := State.csPropose_opens k.isLt (by rw [hcount]; exact h1) (by rw [hcount]; exact h8) htarget'
      ((hsigners _ _).trans hsig) ht
    refine ends_of_done hexec ⟨hopen, ?_, ?_, fun w hlt => ?_, Within.ended (((s.cntWrap_within _).mono (by decide) ?_).trans hw) (by decide)⟩
    · exact hnonce.trans (by rw [hoff _ (by simp only [Reg.CS_NONCE]; omega)])
    · exact hremain.trans (by rw [State.rf, hoff _ (by decide)]; rfl)
    · refine (hdigest w hlt).trans (congrArg (nth 0 · w) (State.csDigest_congr (fun a ha => ?_) k))
      by_cases hn : a = Reg.CS_NONCE k
      · rw [hn, State.rd_cntWrap_same, State.rd_cntWrap_same, hoff _ (by simp only [Reg.CS_NONCE]; omega)]
      · rw [State.rd_cntWrap_other _ hn, State.rd_cntWrap_other _ hn, hoff a ha]
    · exact fun a ha => openReg_of_among (by simp [eq_of_beq ha])
  · obtain ⟨hclosed, -, hw⟩ := (s.cntWrap (csSeq k)).csClose_spec (v := 7) k.isLt (by decide)
    obtain ⟨t, ht⟩ : ∃ t, (s.cntWrap (csSeq k)).csClose k 7 = t := ⟨_, rfl⟩
    rw [ht] at hclosed hw
    have hexec : exec (.csPropose (partyOf k) k) s = done t :=
      congrArg done ((State.csCmd_propose hreach hst).trans ((State.csPropose_malformed (by rw [hcount, hsigners]; exact hbad)).trans ht))
    refine ends_of_done hexec ⟨hclosed, (closed_frame hw).rd ?_, (closed_frame hw).ended (by decide)⟩
    rw [show Reg.CS_NONCE k = 0x6000 + 0x1000 * k + 0x50 by simp only [Reg.CS_NONCE]; omega,
      evtReg_of_faultReg (faultReg_slot k.isLt (by decide) (by decide))]
    simp [among, Reg.CS_STATUS, Reg.CS_REMAIN, Reg.SEQ]
    omega
  · obtain ⟨hclosed, hremain, hw⟩ := (s.cntWrap (csSeq k)).csClose_spec (v := 6) k.isLt (by decide)
    exact closed_ends (congrArg done (State.csCmd_withdraw hreach hst)) hclosed hremain (closed_frame hw)
  · obtain ⟨hclosed, hremain, hw⟩ := s.csClose_spec (v := 4) k.isLt (by decide)
    exact closed_ends (congrArg done (if_pos hst)) hclosed hremain hw

end Sys2Proof.Machine

/-! ## Confirmation of a proposal (R34, R36) -/
namespace Sys2Proof.Machine

/-! ### What CONFIRM reads -/

/-- Who may write PAGE_OWNER of a page (R34) depends on that register alone. -/
theorem State.csAuthority_owner {s t : State} {pg : Nat} (hpg : pg % 0x1000 = 0) (h : t.rd (Reg.PAGE_OWNER pg) = s.rd (Reg.PAGE_OWNER pg)) (x y : Nat) :
    t.csAuthority x y (Reg.PAGE_OWNER pg) = s.csAuthority x y (Reg.PAGE_OWNER pg) := by
  have hrights : ¬ (Reg.PAGE_OWNER pg / 0x1000 = 5 ∧ 0x40 ≤ Reg.PAGE_OWNER pg % 0x1000) := by simp only [Reg.PAGE_OWNER]; omega
  have hwindow : Reg.PAGE_OWNER pg ≠ Reg.HIF_CS_WINDOW := by simp only [Reg.PAGE_OWNER, Reg.HIF_CS_WINDOW]; omega
  have hbase : Reg.PAGE_OWNER (Reg.PAGE_OWNER pg / 0x1000 * 0x1000) = Reg.PAGE_OWNER pg := by simp only [Reg.PAGE_OWNER]; omega
  simp only [State.csAuthority, if_neg hrights, if_neg hwindow, hbase, State.rb, h]

/-- Whether a party's window is open depends on the strap, its page's STATE and the power. -/
theorem State.reaches_congr {s t : State} (hpwr : t.pwr = s.pwr) (hbifur : t.rd Reg.HIF_BIFUR = s.rd Reg.HIF_BIFUR)
    (hst : ∀ k < 4, t.pgState (Reg.page 0 (1 + k)) = s.pgState (Reg.page 0 (1 + k))) (p : Party) : t.reaches p = s.reaches p := by
  have hon : t.computeOn = s.computeOn := by simp only [State.computeOn, hpwr]
  have hports : t.ports = s.ports := by simp only [State.ports, State.rf, hbifur]
  have hfenced : ∀ k < 4, t.portFenced k = s.portFenced k := fun k hk => by simp only [State.portFenced, hst k hk]
  have hport : ∀ k, partyPort p = some k → k < 4 := fun k => by cases p <;> simp only [partyPort, reduceCtorEq, Option.some.injEq, false_implies] <;> omega
  unfold State.reaches
  cases hp : partyPort p with
  | none => simp only [hon]
  | some k => simp only [hon, hports, hfenced k (hport k hp)]

/-! ### The slot after CONFIRM (R34) -/

/-- A confirmation under judgement: SEQ has counted it and CONFIRMER names its party. -/
def State.judged (s : State) (p : Party) (k : Nat) : State := (s.cntWrap (csSeq k)).wf (Reg.CS_STATUS k) 10 8 (partyCode p)

theorem State.judged_hif (s : State) (p : Party) (k : Nat) : (s.judged p k).hif = s.hif := rfl

theorem State.judged_within (s : State) (p : Party) (k : Nat) : Within [.regs] (among [csSeq k, Reg.CS_STATUS k]) s (s.judged p k) :=
  ((s.cntWrap_within _).mono (by decide) (by simp +contextual [among])).trans ((State.wf_within _ _ _ _ _).mono (by decide) (by simp +contextual [among]))

theorem State.judged_confirmer (s : State) {p : Party} (k : Nat) : (s.judged p k).rf (Reg.CS_STATUS k) 10 8 = partyCode p := by
  rw [State.judged, State.rf_wf_same _ _ (by decide) (by decide)]
  cases p <;> rfl

/-- Registers of slot `k`, and those of its events, that a confirmation may write. -/
def slotReg (k a : Nat) : Bool := evtReg a || among [Reg.CS_STATUS k, Reg.CS_REMAIN k, csSeq k] a

/-- The words staged for other slots, as they were. -/
def State.signsKept (s t : State) (k : Nat) : Prop :=
  ∀ i, i / 128 ≠ k → Sparse.get (fun _ => none) t.hif.csSign i = Sparse.get (fun _ => none) s.hif.csSign i

theorem State.csSign_evt (s : State) (src : Nat) : (s.evt src).hif.csSign = s.hif.csSign := by
  rw [s.evt_hif src]

theorem State.csClose_signs (s : State) (k v : Nat) : s.signsKept (s.csClose k v) k := by
  intro i hi
  have hclose : (s.csClose k v).hif.csSign = Sparse.dropKeys (fun i => i / 128 == k) s.hif.csSign := by
    unfold State.csClose State.toCs
    dsimp only
    split
    · rfl
    · rw [State.csSign_evt]; rfl
  rw [hclose, Sparse.get_dropKeys]
  simp [hi]

/-- What closing a slot leaves of CS_STATUS: all but STATE. -/
theorem State.csClose_status (s : State) {k hi lo : Nat} (v : Nat) (hk : k < 6) (hlo : 4 ≤ lo) (hl : lo ≤ hi) :
    (s.csClose k v).rf (Reg.CS_STATUS k) hi lo = s.rf (Reg.CS_STATUS k) hi lo := by
  unfold State.csClose
  dsimp only
  rw [State.toCs_rf _ v hk hlo hl, State.wn, State.rf, State.rd_wr_other _ _ _ _ (by simp only [Reg.CS_REMAIN, Reg.CS_STATUS]; omega)]
  rfl

/-- A confirmation judged and its slot closed with STATE `v`. -/
structure State.Judged (s t : State) (p : Party) (k v : Nat) : Prop where
  state : t.csState k = v
  confirmer : t.rf (Reg.CS_STATUS k) 10 8 = partyCode p
  frame : Within evtFields (slotReg k) s t
  signs : s.signsKept t k

theorem State.judged_closed (s : State) (p : Party) {k v : Nat} (hk : k < 6) (hv : v < 16) : s.Judged ((s.judged p k).csClose k v) p k v where
  state := ((s.judged p k).csClose_spec hk hv).1
  confirmer := ((s.judged p k).csClose_status v hk (by decide) (by decide)).trans (s.judged_confirmer k)
  frame := by
    refine ((s.judged_within p k).mono (by decide) ?_).trans (((s.judged p k).csClose_spec hk hv).2.2.regs_mono ?_)
    · exact fun a ha => evt_or_among (l := [csSeq k, Reg.CS_STATUS k]) (by simp) (by rw [ha, Bool.or_true])
    · exact fun a => evt_or_among (by simp)
  signs := fun i hi => (((s.judged p k).csClose_signs k v) i hi).trans (by rw [State.judged_hif])

/-! ### A confirmation judged (R34) -/

/-- The entries of a proposal of one register. -/
theorem State.csEntries_one {s : State} {k a : Nat} (hc : s.rf (Reg.CS_COUNT k) 3 0 = 1) (ho : s.rn (Reg.CS_OFFSET k 0) = a) :
    s.csEntries k = [(a, s.rd (Reg.CS_VALUE k 0))] := by
  simp only [State.csEntries, hc, List.range_one, List.map_cons, List.map_nil, ho]

/-- The state in which the signers' authority is judged has the owner as before. -/
theorem State.judged_owner (s : State) (p : Party) {k pg : Nat} (hpg : pg % 0x1000 = 0) : (s.judged p k).rd (Reg.PAGE_OWNER pg) = s.rd (Reg.PAGE_OWNER pg) := by
  refine (s.judged_within p k).rd ?_
  simp [among, csSeq, Reg.SEQ, Reg.CS_STATUS, Reg.PAGE_OWNER]
  omega

/-- Party `p` has staged the digest of the proposal in slot `k`, word for word. -/
def State.signed (s : State) (p : Party) (k : Nat) : Bool :=
  (List.range 16).all fun w => Sparse.get (fun _ => none) s.hif.csSign ((k * 8 + partyCode p) * 16 + w) == some (s.rd (Reg.CS_DIGEST k w))

theorem State.signed_iff (s : State) (p : Party) (k : Nat) : s.signed p k = true ↔
    ∀ w < 16, Sparse.get (fun _ => none) s.hif.csSign ((k * 8 + partyCode p) * 16 + w) = some (s.rd (Reg.CS_DIGEST k w)) := by
  simp only [State.signed, List.all_eq_true, List.mem_range, beq_iff_eq]

/-- CONFIRM of an open proposal of one PAGE_OWNER by a signer: the digest's words are compared, then the authority. -/
theorem State.csConfirm_judged {s : State} {p : Party} {k pg : Nat} (hpg : pg % 0x1000 = 0) (hst : s.csState k = 1)
    (hsig : s.rf (Reg.CS_SIGNERS k) 5 0 = 0 ∨ (s.rf (Reg.CS_SIGNERS k) 5 0).testBit (partyCode p) = true)
    (hc : s.rf (Reg.CS_COUNT k) 3 0 = 1) (ho : s.rn (Reg.CS_OFFSET k 0) = Reg.PAGE_OWNER pg) (hk : k < 6) :
    s.csConfirm p k =
      if s.signed p k then
        if s.csAuthority k (partyCode p) (Reg.PAGE_OWNER pg) then
          ((s.judged p k).csClose k 2, [(k, [(Reg.PAGE_OWNER pg, s.rd (Reg.CS_VALUE k 0))])])
        else ((s.judged p k).csClose k 8, [])
      else (((s.judged p k).csClose k 3).notice 2, []) := by
  have hauth := State.csAuthority_owner hpg (s.judged_owner p (k := k) hpg) k (partyCode p)
  have hopen : ¬ (s.csState k ≠ 1 ∨ !(s.rf (Reg.CS_SIGNERS k) 5 0 = 0 ∨ (s.rf (Reg.CS_SIGNERS k) 5 0).testBit (partyCode p))) := by simp [hst, hsig]
  rw [State.judged, ← s.seqInc_csCmd hk] at hauth ⊢
  simp only [State.csConfirm, if_neg hopen, State.csEntries_one hc ho, List.all_cons, List.all_nil, Bool.and_true, hauth]
  change (if !s.signed p k then _ else _) = _
  cases s.signed p k <;> cases s.csAuthority k (partyCode p) (Reg.PAGE_OWNER pg) <;> rfl

/-- CONFIRM by a party that is neither DBG nor the proposer is judged at its write (R33). -/
theorem State.takeWrite_confirm {s : State} {p : Party} {k : Nat} (hk : k < 6) (hdbg : p ≠ .dbg) (hown : partyCode p ≠ k) (hreach : s.reaches p = true) :
    s.takeWrite p (Reg.CS_CMD k) 3 = s.csConfirm p k := by
  have hplace : 6 ≤ Reg.CS_CMD k / 0x1000 ∧ Reg.CS_CMD k / 0x1000 ≤ 11 ∧ Reg.CS_CMD k % 0x1000 = 0x40 := by simp only [Reg.CS_CMD]; omega
  have hslot : Reg.CS_CMD k / 0x1000 - 6 = k := by simp only [Reg.CS_CMD]; omega
  rw [State.takeWrite, if_pos hplace, hslot]
  simp [State.csCmd, hreach, hown, hdbg]

/-- A confirmation alone in its fabric cycle. -/
theorem State.confirm_alone {s : State} {p : Party} {k : Fin 6} (hdbg : p ≠ .dbg) (hown : partyCode p ≠ k) (hreach : s.reaches p = true) {t : State} {gs : List Grant}
    (hc : s.csConfirm p k = (t, gs)) : exec (.csConfirm p k []) s = done (t.csGrant gs) := by
  refine congrArg done ((s.writeCycle_single p _ _).trans ?_)
  rw [State.writeWord, State.takeWrite_confirm k.isLt hdbg hown hreach, hc]

/-! ### What a granted proposal applies (R34) -/

/-- The row of PAGE_OWNER. -/
def rowPageOwner : RegRow := ⟨0x8, 0x0, 1, .rwk, 0x20, 0xFFFFFFFF, [], []⟩

/-- A page whose PAGE_OWNER a proposal may write. -/
structure State.OwnedPage (s : State) (pg : Nat) : Prop where
  base : pg % 0x1000 = 0
  present : s.present pg = true
  header : hasHeader (pg / 0x100000) (pg / 0x1000 % 256) = true
  unfixed : fixedOwner (pg / 0x100000) (pg / 0x1000 % 256) = none

/-- PAGE_OWNER with its writable bits from `v`. -/
def newOwner (old v : Word) : Word := (old &&& ~~~0x3F) ||| (v &&& 0x3F)

theorem storedWord_pageOwner {pg : Nat} (hpg : pg % 0x1000 = 0) (hh : hasHeader (pg / 0x100000) (pg / 0x1000 % 256) = true) (old v : Word) :
    storedWord (Reg.PAGE_OWNER pg) rowPageOwner old v = newOwner old v := by
  obtain ⟨hb, hq, ho⟩ := basePlace hpg (off := 8) (by decide)
  have hmask : writeMask (Reg.PAGE_OWNER pg) rowPageOwner = 0x3F := by
    simp only [writeMask, hb, hq, ho, hh]
    rfl
  rw [storedWord, hmask]
  rfl

/-- A proposal of one PAGE_OWNER applies: SEQ counts it, and the register has its value. -/
theorem State.csApply_owner {s : State} {pg : Nat} (h : s.OwnedPage pg) (p : Party) (v : Word) :
    s.csApply p [(Reg.PAGE_OWNER pg, v)] = (s.cntWrap (Reg.SEQ pg)).wr (Reg.PAGE_OWNER pg) (newOwner (s.rd (Reg.PAGE_OWNER pg)) v) := by
  obtain ⟨hpg, hpres, hh, hfix⟩ := h
  obtain ⟨hb, hq, ho⟩ : Reg.PAGE_OWNER pg / 0x100000 = pg / 0x100000 ∧ Reg.PAGE_OWNER pg / 0x1000 = pg / 0x1000 ∧ Reg.PAGE_OWNER pg % 0x1000 = 8 :=
    basePlace hpg (by decide)
  have hbase : Reg.PAGE_OWNER pg / 0x1000 * 0x1000 = pg := by omega
  have hhead : hasHeader (Reg.PAGE_OWNER pg / 0x100000) (Reg.PAGE_OWNER pg / 0x1000 % 256) = true := by rw [hb, hq, hh]
  have hrow : regRow (Reg.PAGE_OWNER pg) = some rowPageOwner := by
    rw [regRow_header (by rw [hb, hq]; exact hpres) hhead (by omega) (by omega), ho]
    rfl
  have hopen : ownerFixed (Reg.PAGE_OWNER pg) = false := by simp only [ownerFixed, hb, hq, hfix, Option.isSome_none, Bool.and_false]
  have happlied : s.csApply p [(Reg.PAGE_OWNER pg, v)] = (s.seqInc (Reg.PAGE_OWNER pg)).applied p (Reg.PAGE_OWNER pg) rowPageOwner v true := by
    simp only [State.csApply, List.foldl_cons, List.foldl_nil, hrow, hopen]
    rfl
  rw [happlied, State.seqInc_header _ hhead, hbase, State.applied_header _ p hhead (by omega), State.headerWritten_plain _ (by omega) (by omega) (by omega),
    State.store, State.rd_cntWrap_other _ (by simp only [Reg.PAGE_OWNER, Reg.SEQ]; omega), storedWord_pageOwner hpg hh]

/-- A grant of a proposal that does not reset the die: its entries apply as the proposer's. -/
theorem State.csGrant_one (s : State) (k : Fin 6) {es : List (Nat × Word)} (h : (es.any fun e => e.1 == Reg.PWR_RESET && bit e.2 0) = false) :
    s.csGrant [(k.val, es)] = s.csApply (partyOf k) es := by
  have hord : (cycleOrder.flatMap fun p => [(k.val, es)].filter fun g => g.1 = partyCode p) = [(k.val, es)] := by fin_cases k <;> rfl
  simp only [State.csGrant, hord, List.any_cons, List.any_nil, h, Bool.or_false, Bool.false_eq_true, if_false]
  rfl

/-- Two such grants apply in the order of R29 by proposer. -/
theorem State.csGrant_two (s : State) {k m : Fin 6} (hne : m ≠ k) {es fs : List (Nat × Word)} (h : (es.any fun e => e.1 == Reg.PWR_RESET && bit e.2 0) = false)
    (h' : (fs.any fun e => e.1 == Reg.PWR_RESET && bit e.2 0) = false) :
    s.csGrant [(k.val, es), (m.val, fs)] = if cyclePlace (partyOf k) < cyclePlace (partyOf m) then (s.csApply (partyOf k) es).csApply (partyOf m) fs
      else (s.csApply (partyOf m) fs).csApply (partyOf k) es := by
  have hord : (cycleOrder.flatMap fun p => [(k.val, es), (m.val, fs)].filter fun g => g.1 = partyCode p) =
      if cyclePlace (partyOf k) < cyclePlace (partyOf m) then [(k.val, es), (m.val, fs)] else [(m.val, fs), (k.val, es)] := by
    fin_cases k <;> fin_cases m <;> first | exact absurd rfl hne | rfl
  simp only [State.csGrant, hord, List.any_cons, List.any_nil, h, h', Bool.or_false, Bool.false_eq_true, if_false]
  split_ifs <;> rfl

/-! ### What a confirmation leaves alone -/

/-- The registers of the owned page that a proposal writes are none of a confirmation's own. -/
theorem State.OwnedPage.apart {s : State} {pg : Nat} (h : s.OwnedPage pg) {k : Nat} (hk : k < 6) :
    slotReg k (Reg.PAGE_OWNER pg) = false ∧ slotReg k (Reg.SEQ pg) = false := by
  obtain ⟨hpg, -, hh, hfix⟩ := h
  have hslot : pg ≠ 0x6000 + 0x1000 * k := by
    rintro rfl
    rw [show (0x6000 + 0x1000 * k) / 0x100000 = 0 by omega, show (0x6000 + 0x1000 * k) / 0x1000 % 256 = 6 + k by omega] at hfix
    simp only [fixedOwner, if_pos (show 6 ≤ 6 + k ∧ 6 + k ≤ 11 by omega), reduceCtorEq] at hfix
  have hevt : ∀ off < 0x40, off ≠ 0x1C → evtReg (pg + off) = false := fun off ho hne => by
    obtain ⟨hb, hq, hoff⟩ := basePlace hpg (off := off) (by omega)
    exact evtReg_of_faultReg (faultReg_header (by rw [hb, hq, hh]) (by omega) (by omega))
  constructor
  · simp [slotReg, hevt 8 (by decide) (by decide), among, Reg.PAGE_OWNER, Reg.CS_STATUS, Reg.CS_REMAIN, csSeq, Reg.SEQ]
    omega
  · simp [slotReg, hevt 0x34 (by decide) (by decide), among, Reg.CS_STATUS, Reg.CS_REMAIN, csSeq, Reg.SEQ]
    omega

/-- Registers of another slot, but for STATUS, REMAIN, SEQ and EVT_PEND, are none of a confirmation's own. -/
theorem slotReg_other {k m off : Nat} (hm : m < 6) (ho : off < 0x1000) (hne : off ≠ 0x1C ∧ off ≠ 0x44 ∧ off ≠ 0x54 ∧ off ≠ 0x34 ) :
    slotReg k (0x6000 + 0x1000 * m + off) = false := by
  simp [slotReg, evtReg_of_faultReg (faultReg_slot hm ho hne.1), among, Reg.CS_STATUS, Reg.CS_REMAIN, csSeq, Reg.SEQ]
  omega

theorem slotReg_status {k m : Nat} (hm : m < 6) (hne : m ≠ k) : slotReg k (Reg.CS_STATUS m) = false := by
  simp [slotReg, evtReg_of_faultReg (faultReg_csStatus hm), among, Reg.CS_STATUS, Reg.CS_REMAIN, csSeq, Reg.SEQ]
  omega

/-- Parties keep their reach through a confirmation. -/
theorem State.Judged.reaches {s t : State} {p : Party} {k v : Nat} (h : s.Judged t p k v) (q : Party) : t.reaches q = s.reaches q := by
  have hreg : ∀ a, evtReg a = false → a % 0x1000 ≠ 0x44 → a % 0x1000 ≠ 0x54 → a % 0x1000 ≠ 0x34 → slotReg k a = false := fun a he h1 h2 h3 => by
    simp [slotReg, he, among, Reg.CS_STATUS, Reg.CS_REMAIN, csSeq, Reg.SEQ]
    omega
  refine State.reaches_congr (h.frame.pwr (by decide)) (h.frame.rd (hreg _ (by decide) (by decide) (by decide) (by decide))) (fun j hj => ?_) q
  refine h.frame.rf (hreg _ (evtReg_eq_false ?_ ?_ ?_) ?_ ?_ ?_) _ _ <;> simp only [Reg.PAGE_STATUS, Reg.page, Reg.SVC_BMC_EVT] <;> omega

/-- Another proposal is as ready to be confirmed after a confirmation as before. -/
theorem State.Judged.confirms {s t : State} {p q : Party} {k m v pg : Nat} (h : s.Judged t p k v) (hk : k < 6) (hm : m < 6) (hne : m ≠ k) (hpg : s.OwnedPage pg)
    (hc : s.Confirms q m (Reg.PAGE_OWNER pg)) : t.Confirms q m (Reg.PAGE_OWNER pg) := by
  obtain ⟨⟨hdbg, hown, hreach⟩, hopen, hsigner, ⟨hcount, htarget⟩, hdigest, hauth⟩ := hc
  have hslot : ∀ off < 0x1000, off ≠ 0x1C ∧ off ≠ 0x44 ∧ off ≠ 0x54 ∧ off ≠ 0x34 → t.rd (0x6000 + 0x1000 * m + off) = s.rd (0x6000 + 0x1000 * m + off) :=
    fun off ho hne => h.frame.rd (slotReg_other hm ho hne)
  have hcode : partyCode q < 8 := by cases q <;> decide
  have hcountReg : t.rd (Reg.CS_COUNT m) = s.rd (Reg.CS_COUNT m) := by
    rw [show Reg.CS_COUNT m = 0x6000 + 0x1000 * m + 0x48 by simp only [Reg.CS_COUNT]; omega, hslot _ (by decide) (by decide)]
  have hoffsetReg : t.rd (Reg.CS_OFFSET m 0) = s.rd (Reg.CS_OFFSET m 0) := by
    rw [show Reg.CS_OFFSET m 0 = 0x6000 + 0x1000 * m + 0x80 by simp only [Reg.CS_OFFSET]; omega, hslot _ (by decide) (by decide)]
  have hsignersReg : t.rf (Reg.CS_SIGNERS m) 5 0 = s.rf (Reg.CS_SIGNERS m) 5 0 := by
    rw [State.rf, show Reg.CS_SIGNERS m = 0x6000 + 0x1000 * m + 0x4C by simp only [Reg.CS_SIGNERS]; omega, hslot _ (by decide) (by decide), State.rf]
  refine ⟨⟨hdbg, hown, (h.reaches q).trans hreach⟩, ?_, ?_, ⟨?_, ?_⟩, fun w hw => ?_, ?_⟩
  · exact (h.frame.rf (slotReg_status hm hne) _ _).trans hopen
  · rw [hsignersReg]; exact hsigner
  · rw [State.rf, hcountReg]; exact hcount
  · rw [State.rn, hoffsetReg]; exact htarget
  · rw [h.signs _ (by omega), hdigest w hw, show Reg.CS_DIGEST m w = 0x6000 + 0x1000 * m + (0x100 + 4 * w) by simp only [Reg.CS_DIGEST]; omega,
      hslot _ (by omega) (by omega)]
  · rw [State.csAuthority_owner hpg.base (h.frame.rd (hpg.apart hk).1)]
    exact hauth

/-! ### Confirmation (R34, R36) -/

/-- A proposal of one PAGE_OWNER is confirmed: its slot closes APPLIED and its grant has still to apply. -/
theorem State.Confirms.granted {s : State} {p : Party} {k : Fin 6} {pg : Nat} (hpg : pg % 0x1000 = 0) (h : s.Confirms p k (Reg.PAGE_OWNER pg)) :
    s.takeWrite p (Reg.CS_CMD k) 3 = ((s.judged p k).csClose k 2, [(k.val, [(Reg.PAGE_OWNER pg, s.rd (Reg.CS_VALUE k 0))])]) := by
  obtain ⟨⟨hdbg, hown, hreach⟩, hopen, hsigner, ⟨hcount, htarget⟩, hdigest, hauth⟩ := h
  rw [State.takeWrite_confirm k.isLt hdbg hown hreach, State.csConfirm_judged hpg hopen hsigner hcount htarget k.isLt, if_pos ((s.signed_iff p k).mpr hdigest),
    if_pos hauth]

/-- A proposal of PAGE_OWNER resets nothing. -/
theorem owner_no_reset {pg : Nat} (hpg : pg % 0x1000 = 0) (v : Word) :
    ([(Reg.PAGE_OWNER pg, v)].any fun e => e.1 == Reg.PWR_RESET && bit e.2 0) = false := by
  have : Reg.PAGE_OWNER pg ≠ Reg.PWR_RESET := by simp only [Reg.PAGE_OWNER, Reg.PWR_RESET]; omega
  simp [this]

/-- `t` is `s` with the owner of a page written and counted. -/
structure State.OwnerWritten (s t : State) (pg : Nat) (v : Word) : Prop where
  owner : t.rd (Reg.PAGE_OWNER pg) = newOwner (s.rd (Reg.PAGE_OWNER pg)) v
  count : t.rd (Reg.SEQ pg) = s.rd (Reg.SEQ pg) + 1
  frame : Within [.regs] (among [Reg.PAGE_OWNER pg, Reg.SEQ pg]) s t

theorem State.OwnedPage.written {s : State} {pg : Nat} (h : s.OwnedPage pg) (p : Party) (v : Word) :
    s.OwnerWritten (s.csApply p [(Reg.PAGE_OWNER pg, v)]) pg v := by
  have hne : Reg.PAGE_OWNER pg ≠ Reg.SEQ pg := by simp only [Reg.PAGE_OWNER, Reg.SEQ]; omega
  rw [State.csApply_owner h]
  refine ⟨State.rd_wr_same .., ?_, ((s.cntWrap_within _).mono (by decide) ?_).trans ((State.wr_within _ _ _).mono (by decide) ?_)⟩
  · rw [State.rd_wr_other _ _ _ _ hne, State.rd_cntWrap_same]
  · simp +contextual [among]
  · simp +contextual [among]

/-- A page stays one whose owner a proposal may write while the strap stands. -/
theorem State.OwnedPage.of_within {l : List Fld} {q : Nat → Bool} {s t : State} {pg : Nat} (h : s.OwnedPage pg) (hw : Within l q s t)
    (hq : q Reg.HIF_BIFUR = false) : t.OwnedPage pg :=
  ⟨h.base, by simpa only [State.present, State.ports, hw.rf hq] using h.present, h.header, h.unfixed⟩

theorem slotReg_bifur (k : Nat) : slotReg k Reg.HIF_BIFUR = false := by
  simp [slotReg, show evtReg Reg.HIF_BIFUR = false by decide, among, Reg.HIF_BIFUR, Reg.CS_STATUS, Reg.CS_REMAIN, csSeq, Reg.SEQ]
  omega

theorem owner_regs_bifur {pg : Nat} (hpg : pg % 0x1000 = 0) : among [Reg.PAGE_OWNER pg, Reg.SEQ pg] Reg.HIF_BIFUR = false := by
  simp [among, Reg.PAGE_OWNER, Reg.SEQ, Reg.HIF_BIFUR]
  omega

/-- The registers of a slot's STATUS are none of the owned page's. -/
theorem owner_regs_status {pg k : Nat} (hpg : pg % 0x1000 = 0) : among [Reg.PAGE_OWNER pg, Reg.SEQ pg] (Reg.CS_STATUS k) = false := by
  simp [among, Reg.PAGE_OWNER, Reg.SEQ, Reg.CS_STATUS]
  omega

/-- An owner written twice has the later value. -/
theorem newOwner_newOwner (old v w : Word) : newOwner (newOwner old v) w = newOwner old w := by
  refine BitVec.eq_of_getLsbD_eq fun i _ => ?_
  simp only [newOwner, getLsbD_masked]
  split_ifs <;> rfl

/-- The two owners written, one after the other. -/
theorem State.OwnerWritten.trans {s t u : State} {pg : Nat} {v w : Word} (h : s.OwnerWritten t pg v) (k : t.OwnerWritten u pg w) :
    u.rd (Reg.PAGE_OWNER pg) = newOwner (s.rd (Reg.PAGE_OWNER pg)) w ∧ u.rd (Reg.SEQ pg) = s.rd (Reg.SEQ pg) + 2 ∧
      Within [.regs] (among [Reg.PAGE_OWNER pg, Reg.SEQ pg]) s u :=
  ⟨by rw [k.owner, h.owner, newOwner_newOwner], by rw [k.count, h.count, BitVec.add_assoc]; rfl, h.frame.trans k.frame⟩

/-- Both proposals of one owner confirmed, that of slot `k` first: both slots read APPLIED, and the owner is that of the proposer later in R29's order. -/
theorem State.confirmed_twice {s x y : State} {p q : Party} {k m : Fin 6} {pg : Nat} (hne : m ≠ k) (hpg : s.OwnedPage pg) (hx : s.Judged x p k 2) (hy : x.Judged y q m 2)
    {t : State} (ht : y.csGrant [(k.val, [(Reg.PAGE_OWNER pg, s.rd (Reg.CS_VALUE k 0))]), (m.val, [(Reg.PAGE_OWNER pg, x.rd (Reg.CS_VALUE m 0))])] = t) :
    t.csState k = 2 ∧ t.csState m = 2 ∧ t.rd (Reg.SEQ pg) = s.rd (Reg.SEQ pg) + 2 ∧ t.rd (Reg.PAGE_OWNER pg) =
      newOwner (s.rd (Reg.PAGE_OWNER pg)) (s.rd (Reg.CS_VALUE (if cyclePlace (partyOf k) < cyclePlace (partyOf m) then m else k) 0)) := by
  have hbase := hpg.base
  have hval : x.rd (Reg.CS_VALUE m 0) = s.rd (Reg.CS_VALUE m 0) := hx.frame.rd <| by
    rw [show Reg.CS_VALUE m 0 = 0x6000 + 0x1000 * m + 0x84 by simp only [Reg.CS_VALUE]; omega]
    exact slotReg_other m.isLt (by decide) (by decide)
  have hpx := hpg.of_within hx.frame (slotReg_bifur k)
  have hpy := hpx.of_within hy.frame (slotReg_bifur m)
  have howner : y.rd (Reg.PAGE_OWNER pg) = s.rd (Reg.PAGE_OWNER pg) := (hy.frame.rd (hpg.apart m.isLt).1).trans (hx.frame.rd (hpg.apart k.isLt).1)
  have hseq : y.rd (Reg.SEQ pg) = s.rd (Reg.SEQ pg) := (hy.frame.rd (hpg.apart m.isLt).2).trans (hx.frame.rd (hpg.apart k.isLt).2)
  have hstk : y.csState k = 2 := (hy.frame.rf (slotReg_status k.isLt (fun he => hne (Fin.ext he.symm))) _ _).trans hx.state
  have htwice : ∀ (a b : Party) (v w : Word) (t : State), (y.csApply a [(Reg.PAGE_OWNER pg, v)]).csApply b [(Reg.PAGE_OWNER pg, w)] = t →
      t.csState k = 2 ∧ t.csState m = 2 ∧ t.rd (Reg.SEQ pg) = s.rd (Reg.SEQ pg) + 2 ∧ t.rd (Reg.PAGE_OWNER pg) = newOwner (s.rd (Reg.PAGE_OWNER pg)) w := by
    rintro a b v w t rfl
    have h1 := hpy.written a v
    obtain ⟨ho, hs, hw⟩ := h1.trans ((hpy.of_within h1.frame (owner_regs_bifur hbase)).written b w)
    exact ⟨(hw.rf (owner_regs_status hbase) _ _).trans hstk, (hw.rf (owner_regs_status hbase) _ _).trans hy.state, by rw [hs, hseq], by rw [ho, howner]⟩
  rw [State.csGrant_two _ hne (owner_no_reset hbase _) (owner_no_reset hbase _), hval] at ht
  split_ifs at ht ⊢
  · exact htwice _ _ _ _ t ht
  · exact htwice _ _ _ _ t ht

/-- Both proposals confirmed by writes in one fabric cycle, that of slot `k` first. -/
theorem State.confirms_in_turn {s : State} {p q : Party} {k m : Fin 6} {pg : Nat} (hne : m ≠ k) (hpg : s.OwnedPage pg)
    (hp : s.Confirms p k (Reg.PAGE_OWNER pg)) (hq : s.Confirms q m (Reg.PAGE_OWNER pg)) {x y t : State} {gs hs : List Grant}
    (hx : s.takeWrite p (Reg.CS_CMD k) 3 = (x, gs)) (hy : x.takeWrite q (Reg.CS_CMD m) 3 = (y, hs)) (ht : y.csGrant (gs ++ hs) = t) :
    t.csState k = 2 ∧ t.csState m = 2 ∧ t.rd (Reg.SEQ pg) = s.rd (Reg.SEQ pg) + 2 ∧ t.rd (Reg.PAGE_OWNER pg) =
      newOwner (s.rd (Reg.PAGE_OWNER pg)) (s.rd (Reg.CS_VALUE (if cyclePlace (partyOf k) < cyclePlace (partyOf m) then m else k) 0)) := by
  obtain ⟨hxs, rfl⟩ := Prod.mk.inj (hx.symm.trans (hp.granted hpg.base))
  have hjx : s.Judged x p k 2 := hxs ▸ s.judged_closed p k.isLt (by decide)
  have hq' := hjx.confirms k.isLt m.isLt (fun he => hne (Fin.ext he)) hpg hq
  obtain ⟨hys, rfl⟩ := Prod.mk.inj (hy.symm.trans (hq'.granted hpg.base))
  have hjy : x.Judged y q m 2 := hys ▸ x.judged_closed q m.isLt (by decide)
  exact State.confirmed_twice hne hpg hjx hjy ht

/-- Two writes of one fabric cycle are taken in the order of R29, those of one party as they came, and their grants apply after both. -/
theorem State.writeCycle_taken (s : State) (p q : Party) (a b : Nat) (v w : Word) :
    s.writeCycle [(p, a, v), (q, b, w)] =
      if cyclePlace q < cyclePlace p then ((s.takeWrite q b w).1.takeWrite p a v).1.csGrant ((s.takeWrite q b w).2 ++ ((s.takeWrite q b w).1.takeWrite p a v).2)
      else ((s.takeWrite p a v).1.takeWrite q b w).1.csGrant ((s.takeWrite p a v).2 ++ ((s.takeWrite p a v).1.takeWrite q b w).2) := by
  have hord : (cycleOrder.flatMap fun x => [(p, a, v), (q, b, w)].filter fun y => y.1 = x) =
      if cyclePlace q < cyclePlace p then [(q, b, w), (p, a, v)] else [(p, a, v), (q, b, w)] := by
    cases p <;> cases q <;> rfl
  simp only [State.writeCycle, hord]
  split_ifs <;> simp only [List.foldl_cons, List.foldl_nil, List.nil_append]

/-- Proposers have their places in R29's order, and no two the same. -/
theorem later_proposer {k m : Fin 6} (h : m ≠ k) :
    (if cyclePlace (partyOf m) < cyclePlace (partyOf k) then k.val else m.val) = if cyclePlace (partyOf k) < cyclePlace (partyOf m) then m.val else k.val := by
  revert k m
  decide

/-- The registers of a confirmation, with SEQ by its address. -/
theorem slotReg_listed {k a : Nat} (h : slotReg k a = true) : (evtReg a || among [Reg.CS_STATUS k, Reg.CS_REMAIN k, Reg.SEQ (0x6000 + 0x1000 * k)] a) = true := h

/-- Settles O21: one confirmation by its judgement; two by the order in which they are judged, which leaves the grants to R29's order of proposers. -/
theorem confirmApplies : Obligations.ConfirmApplies := by
  unfold Obligations.ConfirmApplies
  intro p k pg s hdbg hown hreach hopen hsigner hcount hpg htarget hpres hh hfix
  have hpage : s.OwnedPage pg := ⟨hpg, hpres, hh, hfix⟩
  have hjudge := State.csConfirm_judged hpg hopen hsigner hcount htarget k.isLt
  refine ⟨fun hdigest => ⟨fun hauth => ?_, fun hauth => ?_⟩, fun w hw hdigest => ?_, fun q m hne hp hq => ?_⟩
  · have hj := s.judged_closed p (v := 2) k.isLt (by decide)
    rw [if_pos ((s.signed_iff p k).mpr hdigest), if_pos hauth] at hjudge
    obtain ⟨x, hx⟩ : ∃ x, (s.judged p k).csClose k 2 = x := ⟨_, rfl⟩
    rw [hx] at hj hjudge
    have hw := (hpage.of_within hj.frame (slotReg_bifur k)).written (partyOf k) (s.rd (Reg.CS_VALUE k 0))
    obtain ⟨t, ht⟩ : ∃ t, x.csApply (partyOf k) [(Reg.PAGE_OWNER pg, s.rd (Reg.CS_VALUE k 0))] = t := ⟨_, rfl⟩
    rw [ht] at hw
    have hexec : exec (.csConfirm p k []) s = done t :=
      (State.confirm_alone hdbg hown hreach hjudge).trans (congrArg done ((x.csGrant_one k (owner_no_reset hpg _)).trans ht))
    refine ends_of_done hexec ⟨?_, ?_, ?_, ?_, Within.ended ((hj.frame.regs_mono ?_).trans (hw.frame.mono (by decide) ?_)) (by decide)⟩
    · exact (hw.frame.rf (owner_regs_status hpg) _ _).trans hj.state
    · exact (hw.frame.rf (owner_regs_status hpg) _ _).trans hj.confirmer
    · exact hw.owner.trans (by rw [hj.frame.rd (hpage.apart k.isLt).1]; rfl)
    · exact hw.count.trans (by rw [hj.frame.rd (hpage.apart k.isLt).2])
    · exact fun a => evt_or_among (by simp)
    · exact fun a ha => evt_or_among (l := [Reg.PAGE_OWNER pg, Reg.SEQ pg]) (by simp) (by rw [ha, Bool.or_true])
  · have hj := s.judged_closed p (v := 8) k.isLt (by decide)
    rw [if_pos ((s.signed_iff p k).mpr hdigest), if_neg (by simp [hauth])] at hjudge
    obtain ⟨x, hx⟩ : ∃ x, (s.judged p k).csClose k 8 = x := ⟨_, rfl⟩
    rw [hx] at hj hjudge
    exact ends_of_done (State.confirm_alone hdbg hown hreach hjudge) ⟨hj.state, (hj.frame.regs_mono fun a => slotReg_listed).ended (by decide)⟩
  · have hj := s.judged_closed p (v := 3) k.isLt (by decide)
    have hsigned : s.signed p k = false := Bool.eq_false_iff.mpr fun h => hdigest ((s.signed_iff p k).mp h w hw)
    rw [hsigned, if_neg Bool.false_ne_true] at hjudge
    obtain ⟨x, hx⟩ : ∃ x, (s.judged p k).csClose k 3 = x := ⟨_, rfl⟩
    rw [hx] at hj hjudge
    have hn := x.notice_within 2 0 0 [] (by decide) (by decide)
    obtain ⟨t, ht⟩ : ∃ t, x.notice 2 = t := ⟨_, rfl⟩
    rw [ht] at hn hjudge
    refine ends_of_done (State.confirm_alone hdbg hown hreach hjudge) ⟨(hn.rf (faultReg_csStatus k.isLt) _ _).trans hj.state, ?_⟩
    refine Within.ended ((hj.frame.mono (by decide) fun a ha => ?_).trans (hn.regs_mono fun a ha => ?_)) (by decide)
    · rcases Bool.or_eq_true _ _ ▸ slotReg_listed ha with h | h
      · simp [faultReg, h]
      · simp [h]
    · simp [ha]
  · have hexec : exec (.csConfirm p k [(q, m)]) s = done (s.writeCycle [(p, Reg.CS_CMD k, 3), (q, Reg.CS_CMD m, 3)]) := rfl
    rw [State.writeCycle_taken] at hexec
    by_cases hlt : cyclePlace q < cyclePlace p
    · rw [if_pos hlt] at hexec
      obtain ⟨t, ht⟩ : ∃ t, ((s.takeWrite q (Reg.CS_CMD m) 3).1.takeWrite p (Reg.CS_CMD k) 3).1.csGrant
        ((s.takeWrite q (Reg.CS_CMD m) 3).2 ++ ((s.takeWrite q (Reg.CS_CMD m) 3).1.takeWrite p (Reg.CS_CMD k) 3).2) = t := ⟨_, rfl⟩
      obtain ⟨hm, hk, hseq, howner⟩ := State.confirms_in_turn hne.symm hpage hq hp rfl rfl ht
      rw [later_proposer hne] at howner
      exact ends_of_done (hexec.trans (congrArg done ht)) ⟨hk, hm, hseq, howner⟩
    · rw [if_neg hlt] at hexec
      obtain ⟨t, ht⟩ : ∃ t, ((s.takeWrite p (Reg.CS_CMD k) 3).1.takeWrite q (Reg.CS_CMD m) 3).1.csGrant
        ((s.takeWrite p (Reg.CS_CMD k) 3).2 ++ ((s.takeWrite p (Reg.CS_CMD k) 3).1.takeWrite q (Reg.CS_CMD m) 3).2) = t := ⟨_, rfl⟩
      obtain ⟨hk, hm, hseq, howner⟩ := State.confirms_in_turn hne hpage hp hq rfl rfl ht
      exact ends_of_done (hexec.trans (congrArg done ht)) ⟨hk, hm, hseq, howner⟩

end Sys2Proof.Machine

/-! ## Memory through BAR2 (R37 to R39, R252, R257) -/
namespace Sys2Proof.Machine

/-! ### Channels and their queues -/

/-- A channel changed in a way that keeps `f` keeps `f` of every channel. -/
theorem State.chan_setChan_keeps {α : Type} {s : State} {c : Nat} {v : DmcChan} (f : DmcChan → α) (h : f v = f (s.chan c)) (m : Nat) :
    f ((s.setChan c v).chan m) = f (s.chan m) := by
  simp only [State.chan, State.setChan, nth, upd, List.getD_eq_getElem?_getD, List.getElem?_set] at h ⊢
  split_ifs with hm hlt
  · rw [← hm, ← h]; rfl
  · rw [← hm, List.getElem?_eq_none (by omega)]
  · rfl

/-- Requests that wait in a sub-channel's queue. -/
def State.queueOf (s : State) (c : Nat) (b : Bool) : List Queued := (s.sub c b).queue

/-- Every queue stands. -/
def State.queuesKept (s t : State) : Prop := ∀ c b, t.queueOf c b = s.queueOf c b

theorem State.queuesKept.trans {s t u : State} (h : s.queuesKept t) (k : t.queuesKept u) : s.queuesKept u := fun c b => (k c b).trans (h c b)

/-- A channel changed in anything but its two sub-channels. -/
theorem State.setChan_queues {s : State} {c : Nat} {v : DmcChan} (ha : v.subA = (s.chan c).subA) (hb : v.subB = (s.chan c).subB) : s.queuesKept (s.setChan c v) := by
  intro m b
  have hA := State.chan_setChan_keeps DmcChan.subA ha m
  have hB := State.chan_setChan_keeps DmcChan.subB hb m
  simp only [State.queueOf, State.sub, hA, hB]

theorem State.rouse_queues (s : State) (c la : Nat) : s.queuesKept (s.rouse c la) := State.setChan_queues rfl rfl

theorem State.queuesKept.of_dmc {s t : State} (h : t.dmc = s.dmc) : s.queuesKept t := fun c b => by simp only [State.queueOf, State.sub, State.chan, h]

theorem State.countBytes_queues (s : State) (c n : Nat) (w : Bool) : s.queuesKept (s.countBytes c n w) := by
  unfold State.countBytes
  split
  · exact (State.setChan_queues (c := c) (v := { s.chan c with wrRem := ((s.chan c).wrRem + n) % 65536 }) rfl rfl).trans (.of_dmc rfl)
  · exact (State.setChan_queues (c := c) (v := { s.chan c with rdRem := ((s.chan c).rdRem + n) % 65536 }) rfl rfl).trans (.of_dmc rfl)

theorem State.setCells_within (l : List Byte) (s : State) (k : Nat) {q : Nat → Bool} : Within [.mem] q s (s.setCells k l) := by
  induction l generalizing s k with
  | nil => exact .refl s
  | cons b t ih =>
    have h : Within [.mem] q s (s.setCell k b) := .of_same (fun f => by cases f <;> first | (left; decide) | (right; rfl)) rfl
    exact h.trans (ih _ _)

theorem State.lineWrite_queues (s : State) (c la : Nat) (d : List Byte) : s.queuesKept (s.lineWrite c la d) := by
  have hcells : s.queuesKept (s.setCells (cellKey c la) d) := .of_dmc (((s.setCells_within d (cellKey c la) (q := fun _ => false)).1 .dmc).resolve_left (by decide))
  have hbase := hcells.trans (State.countBytes_queues _ c d.length true)
  unfold State.lineWrite
  dsimp only
  split
  · exact hbase.trans (State.setChan_queues rfl rfl)
  · exact hbase

/-- A channel the die does not have reads as one after reset, and a change of it is none. -/
theorem State.setChan_absent {s : State} {c : Nat} (h : s.dmc.chans.length ≤ c) (v : DmcChan) : s.setChan c v = s ∧ s.chan c = DmcChan.reset := by
  constructor
  · simp only [State.setChan, upd, List.set_eq_of_length_le h]
  · simp only [State.chan, nth, List.getD_eq_getElem?_getD, List.getElem?_eq_none h, Option.getD_none]

theorem State.chan_setChan {s : State} {c : Nat} (h : c < s.dmc.chans.length) (v : DmcChan) (m : Nat) : (s.setChan c v).chan m = if m = c then v else s.chan m := by
  simp only [State.chan, State.setChan, nth, upd, List.getD_eq_getElem?_getD, List.getElem?_set]
  split_ifs with h1 h2 h2
  · rfl
  · exact absurd h1.symm h2
  · exact absurd h2.symm h1
  · rfl

/-- A sub-channel's queue with some of its requests gone. -/
theorem State.queueOf_setSub (s : State) (c : Nat) (b : Bool) (p : Queued → Bool) (m : Nat) (x : Bool) :
    (s.setSub c b { s.sub c b with queue := (s.sub c b).queue.filter p }).queueOf m x = if m = c ∧ x = b then (s.queueOf c b).filter p else s.queueOf m x := by
  by_cases h : c < s.dmc.chans.length
  · by_cases hm : m = c
    · simp only [State.queueOf, State.sub, State.setSub, State.chan_setChan h, hm, true_and, if_true]
      cases b <;> cases x <;> rfl
    · simp only [State.queueOf, State.sub, State.setSub, State.chan_setChan h, hm, false_and, if_false]
  · obtain ⟨hset, hreset⟩ := State.setChan_absent (s := s) (Nat.le_of_not_lt h) DmcChan.reset
    have hempty : s.queueOf c b = [] := by simp only [State.queueOf, State.sub, hreset]; cases b <;> rfl
    rw [State.setSub, (State.setChan_absent (Nat.le_of_not_lt h) _).1]
    split_ifs with hmx
    · rw [hmx.1, hmx.2, hempty]; rfl
    · rfl

/-! ### The byte that waiting writes leave (R252, R257) -/

theorem byteOver_cons (q : Queued) (l : List Queued) (d : Byte) (la : Nat) : byteOver (q :: l) d la = byteOver l ((q.byte la).getD d) la := by
  simp only [byteOver, List.reverse_cons, List.findSome?_append, List.findSome?_cons, List.findSome?_nil]
  cases l.reverse.findSome? fun q => q.byte la with
  | some b => rfl
  | none => cases q.byte la <;> rfl

/-- Requests that write no byte at an address do not count there. -/
theorem byteOver_filter {p : Queued → Bool} {l : List Queued} {la : Nat} (h : ∀ q ∈ l, p q = false → q.byte la = none) (d : Byte) :
    byteOver (l.filter p) d la = byteOver l d la := by
  induction l generalizing d with
  | nil => rfl
  | cons q l ih =>
    have ih := ih fun x hx => h x (List.mem_cons_of_mem _ hx)
    rw [byteOver_cons, List.filter_cons]
    split_ifs with hp
    · rw [byteOver_cons, ih]
    · rw [h q (List.mem_cons_self ..) (Bool.not_eq_true _ ▸ hp), ih]
      rfl

theorem byteOver_none {l : List Queued} {la : Nat} (h : ∀ q ∈ l, q.byte la = none) (d : Byte) : byteOver l d la = d := by
  induction l with
  | nil => rfl
  | cons q l ih => rw [byteOver_cons, h q (List.mem_cons_self ..), Option.getD_none, ih fun x hx => h x (List.mem_cons_of_mem _ hx)]

/-- The bytes that a waiting write will write, all within its line. -/
def Queued.bytes (q : Queued) : List Byte := (q.rq.write.getD []).take (lineLeft q.la)

theorem Queued.bytes_length (q : Queued) : q.bytes.length ≤ lineLeft q.la := by simp only [Queued.bytes, List.length_take]; omega

theorem Queued.byte_eq (q : Queued) (la : Nat) :
    q.byte la = if q.la ≤ la ∧ la < q.la + q.bytes.length then some (nth 0 q.bytes (la - q.la)) else none := by
  unfold Queued.byte Queued.bytes
  cases q.rq.write with
  | none => simp
  | some w =>
    simp only [Option.getD_some, nth, List.getD_eq_getElem?_getD]
    split_ifs with h1 h2 h2
    · rw [List.getElem?_eq_getElem (by omega)]; rfl
    · exact List.getElem?_eq_none (by omega)
    · exact absurd h2.1 h1
    · rfl

/-- A waiting write writes within its line only. -/
theorem Queued.byte_line {q : Queued} {la : Nat} (h : q.byte la ≠ none) : q.rq.write.isSome = true ∧ q.la / 64 = la / 64 := by
  have hlen := q.bytes_length
  rw [q.byte_eq] at h
  split_ifs at h with hin
  · constructor
    · cases hw : q.rq.write with
      | some w => rfl
      | none =>
      simp [Queued.bytes, hw] at hin
      omega
    · simp only [lineLeft] at hlen
      omega
  · exact absurd rfl h

/-! ### A line written -/

/-- Cells after the bytes of one line are written: those of the line's channel at their addresses, and no other. -/
theorem State.cell_lineWrite (s : State) {c la : Nat} {d : List Byte} (hd : d.length ≤ lineLeft la) (hla : la < 2 ^ 37) (m : Nat) {x : Nat} (hx : x < 2 ^ 37) :
    (s.lineWrite c la d).cell (cellKey m x) = if m = c ∧ la ≤ x ∧ x < la + d.length then nth 0 d (x - la) else s.cell (cellKey m x) := by
  have hmem : (s.lineWrite c la d).mem = (s.setCells (cellKey c la) d).mem := by
    unfold State.lineWrite
    dsimp only
    split <;> simp only [State.setBad_mem, State.countBytes_mem]
  simp only [lineLeft] at hd
  rw [State.cell, hmem, ← State.cell, State.cell_setCells]
  by_cases hm : m = c
  · subst hm
    by_cases hin : la ≤ x ∧ x < la + d.length
    · rw [if_pos (by simp only [cellKey]; omega), if_pos ⟨rfl, hin⟩, show cellKey m x - cellKey m la = x - la by simp only [cellKey]; omega]
    · rw [if_neg (by simp only [cellKey]; omega), if_neg fun h => hin h.2]
  · rw [if_neg (by simp only [cellKey]; omega), if_neg (by omega)]

/-- Byte `x` of channel `m` after the waiting writes of a line of channel `c` are done in their order. -/
theorem State.cell_eachOf_lineWrite {c : Nat} (l : List Queued) (hl : ∀ q ∈ l, q.la < 2 ^ 37) (s : State) (m : Nat) {x : Nat} (hx : x < 2 ^ 37) :
    (s.eachOf l fun q s => s.lineWrite c q.la q.bytes).cell (cellKey m x) = if m = c then byteOver l (s.cell (cellKey m x)) x else s.cell (cellKey m x) := by
  induction l generalizing s with
  | nil => simp [State.eachOf, byteOver]
  | cons q l ih =>
    have hq := hl q (List.mem_cons_self ..)
    have hcell := s.cell_lineWrite (c := c) q.bytes_length hq m hx
    change ((s.lineWrite c q.la q.bytes).eachOf l fun q s => s.lineWrite c q.la q.bytes).cell (cellKey m x) = _
    rw [ih (fun y hy => hl y (List.mem_cons_of_mem _ hy)), hcell, byteOver_cons, q.byte_eq]
    by_cases hm : m = c
    · simp only [hm, true_and, if_true]
      split_ifs <;> rfl
    · simp only [hm, false_and, if_false]

theorem State.queues_eachOf_lineWrite {c : Nat} (l : List Queued) (s : State) : s.queuesKept (s.eachOf l fun q s => s.lineWrite c q.la q.bytes) := by
  induction l generalizing s with
  | nil => exact fun _ _ => rfl
  | cons q l ih => exact (s.lineWrite_queues c q.la q.bytes).trans (ih _)

/-! ### Waiting writes of a line done (R257) -/

/-- A waiting write of the line of `la`. -/
def ofLine (la : Nat) (q : Queued) : Bool := q.rq.write.isSome && q.la / 64 == la / 64

theorem State.settleLine_eq (s : State) (c la : Nat) : s.settleLine c la =
    (s.setSub c (la.testBit 6) { s.sub c (la.testBit 6) with queue := (s.sub c (la.testBit 6)).queue.filter fun q => !ofLine la q }).eachOf
      ((s.queueOf c (la.testBit 6)).filter (ofLine la)) fun q s => s.lineWrite c q.la q.bytes := rfl

/-- A request that is no waiting write of the line of `x` writes no byte there. -/
theorem byte_of_not_ofLine {q : Queued} {x : Nat} (h : ofLine x q = false) : q.byte x = none := by
  by_contra hb
  obtain ⟨hw, hl⟩ := Queued.byte_line hb
  simp [ofLine, hw, hl] at h

theorem ofLine_congr {x y : Nat} (h : x / 64 = y / 64) : ofLine x = ofLine y := by
  funext q
  simp only [ofLine, h]

/-- Both halves of a line's address agree on the sub-channel. -/
theorem testBit_of_line {x y : Nat} (h : x / 64 = y / 64) : x.testBit 6 = y.testBit 6 := by
  rw [Nat.testBit_eq_decide_div_mod_eq, Nat.testBit_eq_decide_div_mod_eq]
  norm_num [h]

theorem State.queueOf_settleLine (s : State) (c la m : Nat) (b : Bool) : (s.settleLine c la).queueOf m b =
    if m = c ∧ b = la.testBit 6 then (s.queueOf c (la.testBit 6)).filter (fun q => !ofLine la q) else s.queueOf m b := by
  rw [State.settleLine_eq, State.queues_eachOf_lineWrite _ _ m b, State.queueOf_setSub]

theorem State.byteAt_eq (s : State) (c la : Nat) : s.byteAt c la = byteOver (s.queueOf c (la.testBit 6)) (s.cell (cellKey c la)) la := rfl

/-- Doing the writes that wait for a line changes no byte as it reads. -/
theorem State.byteAt_settleLine (s : State) {c la : Nat} (hla : la < 2 ^ 37) (m : Nat) {x : Nat} (hx : x < 2 ^ 37) :
    (s.settleLine c la).byteAt m x = s.byteAt m x := by
  have hline : ∀ q ∈ (s.queueOf c (la.testBit 6)).filter (ofLine la), q.la < 2 ^ 37 := fun q hq => by
    have h := (List.mem_filter.mp hq).2
    simp only [ofLine, Bool.and_eq_true, beq_iff_eq] at h
    omega
  have hcell : (s.settleLine c la).cell (cellKey m x) =
      if m = c then byteOver ((s.queueOf c (la.testBit 6)).filter (ofLine la)) (s.cell (cellKey m x)) x else s.cell (cellKey m x) := by
    rw [State.settleLine_eq, State.cell_eachOf_lineWrite _ hline _ m hx]
    rfl
  rw [State.byteAt_eq, State.byteAt_eq, State.queueOf_settleLine, hcell]
  by_cases hm : m = c
  · subst hm
    by_cases hxl : x / 64 = la / 64
    · rw [testBit_of_line hxl, if_pos ⟨rfl, rfl⟩, if_pos rfl, ← ofLine_congr hxl, byteOver_none (fun q hq => ?_), byteOver_filter fun q _ => byte_of_not_ofLine]
      exact byte_of_not_ofLine (by simpa using (List.mem_filter.mp hq).2)
    · have hother : ∀ q, ofLine la q = true → q.byte x = none := fun q hq => byte_of_not_ofLine <| by
        simp only [ofLine, Bool.and_eq_true, beq_iff_eq] at hq
        simp only [ofLine, hq.1, hq.2, Bool.true_and, beq_eq_false_iff_ne]
        omega
      rw [if_pos rfl, byteOver_none fun q hq => hother q (List.mem_filter.mp hq).2]
      split_ifs with hb
      · rw [hb.2, byteOver_filter fun q _ hq => hother q (by simpa using hq)]
      · rfl
  · simp only [hm, false_and, if_false]

/-- After them no waiting write of the line is left. -/
theorem State.settled_line (s : State) {c la x : Nat} (hx : x / 64 = la / 64) : ∀ q ∈ (s.settleLine c la).queueOf c (x.testBit 6), q.byte x = none := by
  intro q hq
  rw [State.queueOf_settleLine, testBit_of_line hx, if_pos ⟨rfl, rfl⟩, ← ofLine_congr hx] at hq
  exact byte_of_not_ofLine (by simpa using (List.mem_filter.mp hq).2)

/-- A line settled and then written: the bytes written read there, every other as before. -/
theorem State.byteAt_written (s : State) {c la : Nat} {d : List Byte} (hla : la < 2 ^ 37) (hd : d.length ≤ lineLeft la) (m : Nat) {x : Nat} (hx : x < 2 ^ 37) :
    ((s.settleLine c la).lineWrite c la d).byteAt m x = if m = c ∧ la ≤ x ∧ x < la + d.length then nth 0 d (x - la) else s.byteAt m x := by
  rw [State.byteAt_eq, State.lineWrite_queues, State.cell_lineWrite _ hd hla m hx]
  split_ifs with hin
  · rw [hin.1]
    exact byteOver_none (s.settled_line (by simp only [lineLeft] at hd; omega)) _
  · rw [← State.byteAt_eq, s.byteAt_settleLine hla m hx]

/-! ### Bursts (R38, R252) -/

theorem State.setChan_within (s : State) (c : Nat) (v : DmcChan) {q : Nat → Bool} : Within [.dmc] q s (s.setChan c v) :=
  .of_same (fun f => by cases f <;> first | (left; decide) | (right; rfl)) rfl

theorem State.countBytes_read_within (s : State) (c n : Nat) : Within [.regs, .dmc] (among [Reg.DMC_CH_RD_BYTES c]) s (s.countBytes c n false) :=
  ((s.setChan_within c _).widen (by decide)).trans ((State.cntSat_within _ _ _ _).mono (by decide) (by simp [among]))

theorem State.countBytes_write_within (s : State) (c n : Nat) : Within [.regs, .dmc] (among [Reg.DMC_CH_WR_BYTES c]) s (s.countBytes c n true) :=
  ((s.setChan_within c _).widen (by decide)).trans ((State.cntSat_within _ _ _ _).mono (by decide) (by simp [among]))

/-- The fields and the register that writes of channel `c` change. -/
theorem State.lineWrite_within (s : State) (c la : Nat) (d : List Byte) : Within [.regs, .mem, .dmc] (among [Reg.DMC_CH_WR_BYTES c]) s (s.lineWrite c la d) := by
  have hbase := ((s.setCells_within d (cellKey c la) (q := among [Reg.DMC_CH_WR_BYTES c])).widen (m := [.regs, .mem, .dmc]) (by decide)).trans
    ((State.countBytes_write_within _ c d.length).widen (by decide))
  unfold State.lineWrite
  dsimp only
  split
  · exact hbase.trans ((State.setChan_within _ _ _).widen (by decide))
  · exact hbase

theorem State.settleLine_within (s : State) (c la : Nat) : Within [.regs, .mem, .dmc] (among [Reg.DMC_CH_WR_BYTES c]) s (s.settleLine c la) :=
  ((s.setChan_within c _).widen (by decide)).trans (State.eachOf_within _ _ _ fun q s => s.lineWrite_within c q.la _)

/-- A write within one line is one burst. -/
theorem State.writeMem_line (s : State) {a : Nat} {d : List Byte} (hd : d ≠ []) (ha : a % 64 + d.length ≤ 64) : (s.writeMem none a d).1 = (s.writeBurst none a d).1 := by
  have hlen : d.length ≤ lineLeft a := by simp only [lineLeft]; omega
  simp only [State.writeMem, State.writeBursts, List.isEmpty_iff, hd, if_false, List.take_of_length_le hlen, List.drop_eq_nil_of_le hlen, List.isEmpty_nil, if_true]

/-- A read within one line is one burst. -/
theorem State.readMem_line (s : State) {a n : Nat} (hn : 1 ≤ n) (ha : a % 64 + n ≤ 64) : s.readMem none a n = s.readBurst none a n := by
  have hlen : min n (lineLeft a) = n := by simp only [lineLeft]; omega
  simp only [State.readMem, State.readBursts, if_neg (show n ≠ 0 by omega), hlen, Nat.sub_self, if_true, List.append_nil, Bool.or_false]

/-- A channel changed in anything but its lines of bad data. -/
theorem State.badLine_setChan {s : State} {c : Nat} {v : DmcChan} (h : v.bad = (s.chan c).bad) (m la : Nat) : (s.setChan c v).badLine m la = s.badLine m la :=
  congrArg (fun l => Sparse.get (fun _ => false) l (la / 64)) (State.chan_setChan_keeps DmcChan.bad h m)

theorem State.badLine_rouse (s : State) (c la m x : Nat) : (s.rouse c la).badLine m x = s.badLine m x := State.badLine_setChan (by rfl) m x

theorem State.badLine_countBytes (s : State) (c n : Nat) (w : Bool) (m la : Nat) : (s.countBytes c n w).badLine m la = s.badLine m la := by
  unfold State.countBytes
  split
  · exact State.badLine_setChan (c := c) (v := { s.chan c with wrRem := ((s.chan c).wrRem + n) % 65536 }) rfl m la
  · exact State.badLine_setChan (c := c) (v := { s.chan c with rdRem := ((s.chan c).rdRem + n) % 65536 }) rfl m la

/-- A read without a port to check, of a line of good data. -/
theorem State.readBurst_good {s : State} {a c la : Nat} (n : Nat) (hloc : s.locate a = some (c, la)) (hgood : s.badLine c la = false) :
    s.readBurst none a n = ((s.rouse c la).countBytes c n false, ⟨(List.range n).map fun i => s.byteAt c (la + i), false, false⟩) := by
  simp only [State.readBurst, State.allowed, hloc, State.badLine_countBytes, State.badLine_rouse, hgood, if_true, Bool.false_eq_true, if_false]

theorem State.writeBurst_located {s : State} {a c la : Nat} (d : List Byte) (hloc : s.locate a = some (c, la)) :
    (s.writeBurst none a d).1 = ((s.rouse c la).settleLine c la).lineWrite c la d := by
  simp only [State.writeBurst, State.allowed, hloc, if_true]

theorem State.byteAt_rouse (s : State) (c la m x : Nat) : (s.rouse c la).byteAt m x = s.byteAt m x := by
  rw [State.byteAt_eq, State.rouse_queues]
  rfl

/-! ### Accesses denied (R38, R39) -/

/-- What a denied access does to a register that the report of it leaves alone. -/
theorem State.rd_phViol (s : State) (p a : Nat) (w : Bool) {b : Nat} (h : faultReg b = false) : (s.phViol p a w).rd b =
    (((s.wn Reg.HIF_PH_VIOL (satAdd 32 (s.rn Reg.HIF_PH_VIOL) 1)).wr Reg.HIF_PH_LAST_LO (wd a)).wr Reg.HIF_PH_LAST_HI
      (wd (a / 2 ^ 32 % 256 + p * 2 ^ 16 + b2n w * 2 ^ 20))).rd b := by
  unfold State.phViol
  rw [(State.evt_within _ _).rd (evtReg_of_faultReg h), (State.notice_within _ _ _ _ _ (by decide) (by decide)).rd h]

/-- The high word of the last violation: the port, and whether it was a write. -/
theorem phLast_fields {x p : Nat} (hx : x < 256) (hp : p < 4) (w : Bool) :
    fld (wd (x + p * 2 ^ 16 + b2n w * 2 ^ 20)) 18 16 = p ∧ fld (wd (x + p * 2 ^ 16 + b2n w * 2 ^ 20)) 20 20 = b2n w := by
  have hw : b2n w ≤ 1 := by cases w <;> decide
  simp only [fld, wd, BitVec.toNat_ofNat, Nat.shiftRight_eq_div_pow]
  omega

/-- A denied access as it reads afterwards: its count, the low word of its address, its port and its direction. -/
structure State.Denied (s t : State) (p a : Nat) (w : Bool) : Prop where
  count : t.rn Reg.HIF_PH_VIOL = min (2 ^ 32 - 1) (s.rn Reg.HIF_PH_VIOL + 1)
  low : t.rn Reg.HIF_PH_LAST_LO = a % 2 ^ 32
  port : t.rf Reg.HIF_PH_LAST_HI 18 16 = p
  write : t.rf Reg.HIF_PH_LAST_HI 20 20 = b2n w
  frame : Within noticeFields (fun b => faultReg b || among [Reg.HIF_PH_VIOL, Reg.HIF_PH_LAST_LO, Reg.HIF_PH_LAST_HI] b) s t

theorem State.phViol_denied (s : State) {p : Nat} (hp : p < 4) (a : Nat) (w : Bool) : s.Denied (s.phViol p a w) p a w where
  count := by
    rw [State.rn, s.rd_phViol p a w (by decide), State.rd_wr_other _ _ _ _ (by decide), State.rd_wr_other _ _ _ _ (by decide), State.wn, State.rd_wr_same]
    exact satAdd_word _
  low := by
    rw [State.rn, s.rd_phViol p a w (by decide), State.rd_wr_other _ _ _ _ (by decide), State.rd_wr_same, BitVec.toNat_ofNat]
  port := by
    rw [State.rf, s.rd_phViol p a w (by decide), State.rd_wr_same, (phLast_fields (Nat.mod_lt _ (by decide)) hp w).1]
  write := by
    rw [State.rf, s.rd_phViol p a w (by decide), State.rd_wr_same, (phLast_fields (Nat.mod_lt _ (by decide)) hp w).2]
  frame := (s.phViol_within p a w).regs_mono fun b hb => by simpa [among, Bool.or_assoc] using hb

/-- Settles O22: an allowed access within a line is one burst, whose bytes the queues' writes precede; a denied one is a violation. -/
theorem barReadsAndWrites : Obligations.BarReadsAndWrites := by
  unfold Obligations.BarReadsAndWrites
  intro port a s hreach
  refine ⟨fun len c la hlen hline hallow hloc hgood => ?_, fun d c la hd hline hallow hloc => ?_, fun len hdeny => ?_, fun d hdeny => ?_⟩
  · have hread : s.bar2Read port a.toNat len =
        ((s.rouse c la).countBytes c len false).answer (.bytes ((List.range len).map fun i => s.byteAt c (la + i))) := by
      simp only [State.bar2Read, hreach, hallow, s.readMem_line hlen hline, State.readBurst_good _ hloc hgood, Bool.not_true, Bool.false_eq_true, if_false]
    refine ends_of_done (congrArg done hread) ⟨rfl, Within.answered ?_ (by decide) (by decide) _⟩
    exact ((s.setChan_within c _).widen (by decide)).trans ((State.countBytes_read_within _ _ _).widen (by decide))
  · have hla := State.locate_lt hloc
    have hmod := State.locate_mod hloc
    have hfit : d.length ≤ lineLeft la := by simp only [lineLeft]; omega
    have hpos : 0 < d.length := List.length_pos_iff.mpr hd
    obtain ⟨t, ht⟩ : ∃ t, ((s.rouse c la).settleLine c la).lineWrite c la d = t := ⟨_, rfl⟩
    have hwrite : s.bar2Write port a.toNat d = t := by
      simp only [State.bar2Write, hreach, hallow, s.writeMem_line hd hline, State.writeBurst_located d hloc, Bool.not_true, Bool.false_eq_true, if_false, ht]
    have hbyte : ∀ m x, x < 2 ^ 37 → t.byteAt m x = if m = c ∧ la ≤ x ∧ x < la + d.length then nth 0 d (x - la) else s.byteAt m x := fun m x hx => by
      rw [← ht, State.byteAt_written _ hla hfit m hx, State.byteAt_rouse]
    simp only [lineLeft] at hfit
    refine ends_of_done (congrArg done hwrite) ⟨fun i hi => ?_, fun m x hx hout => ?_, Within.ended ?_ (by decide)⟩
    · exact (hbyte c (la + i) (by omega)).trans (by rw [if_pos ⟨rfl, by omega, by omega⟩, Nat.add_sub_cancel_left])
    · exact (hbyte m x hx).trans (if_neg (by omega))
    · exact ht ▸ (((s.setChan_within c _).widen (by decide)).trans ((State.settleLine_within _ _ _).widen (by decide))).trans
        ((State.lineWrite_within _ _ _ _).widen (by decide))
  · obtain ⟨t, ht⟩ : ∃ t, s.phViol port a.toNat false = t := ⟨_, rfl⟩
    have hread : s.bar2Read port a.toNat len = t.answer .unsupportedRequest := by
      simp only [State.bar2Read, hreach, hdeny, ht, Bool.not_true, Bool.not_false, Bool.false_eq_true, if_false, if_true]
    obtain ⟨hcount, hlow, hport, -, hw⟩ := ht ▸ s.phViol_denied port.isLt a.toNat false
    exact ends_of_done (congrArg done hread) ⟨rfl, hcount, hlow, hport, (hw.widen (by decide)).answered (by decide) (by decide) _⟩
  · obtain ⟨t, ht⟩ : ∃ t, s.phViol port a.toNat true = t := ⟨_, rfl⟩
    have hwrite : s.bar2Write port a.toNat d = t := by
      simp only [State.bar2Write, hreach, hdeny, ht, Bool.not_true, Bool.not_false, Bool.false_eq_true, if_false, if_true]
    obtain ⟨hcount, -, -, hdir, hw⟩ := ht ▸ s.phViol_denied port.isLt a.toNat true
    exact ends_of_done (congrArg done hwrite) ⟨hcount, hdir, hw.ended (by decide)⟩

end Sys2Proof.Machine

/-! ## Statements that fail on states outside their intent (R455, R420) -/
namespace Sys2Proof.Machine

/-- What a command that completes with effect `u` ends in has the property. -/
theorem Ends.of_done {c : Instr} {s u : State} {P : State → Prop} (h : Ends c s P) (hc : exec c s = done u) : P u.endCycle := by
  obtain ⟨t, ht, hP⟩ := h
  rw [hc] at ht
  injection ht with ht
  exact ht ▸ hP

/-! ### A self-test on a page that no unit has

R455 speaks of pages that are present. The statement asks nothing of that, and its list of the SELFTEST registers that may change is that of the six
channels. -/

/-- The state after reset, but with TEST set and STATE TEST on the seventh page behind the DMC common page, which is no channel's. -/
def absentTest : State := (State.reset.wn (Reg.PAGE_CTRL (Reg.page 12 7)) 0x10).wn (Reg.PAGE_STATUS (Reg.page 12 7)) 5

theorem absentTest_absent : absentTest.present (Reg.page 12 7) = false := by decide +kernel

/-- The test's end writes the place where a seventh channel would have its result. -/
theorem absentTest_end : (absentTest.testEnd (Reg.page 12 7) true true).endCycle.rd (Reg.DMC_CH_SELFTEST 6) ≠ absentTest.rd (Reg.DMC_CH_SELFTEST 6) := by
  decide +kernel

/-- Refutes O17: SELFTEST_END on a page of the DMC block behind its six channels, in a state that holds TEST there, writes a word outside the list of
the statement. -/
theorem not_pagesTestThemselves : ¬ Obligations.PagesTestThemselves := by
  unfold Obligations.PagesTestThemselves
  intro h
  obtain ⟨-, hend⟩ := h 0xC07 (Reg.page 12 7) absentTest (by decide) (by decide)
  obtain ⟨-, -, -, -, hw⟩ := (hend true true (by decide +kernel) (by decide +kernel) (by decide +kernel)).of_done rfl
  exact absentTest_end (hw.rd (by decide +kernel))

/-! ### A port without a function configuration

`State.Shape` says nothing of the length of `hif.msix`, the list of the functions' configurations. -/

/-- The state after reset, but with no function configuration listed for any port. -/
def unconfigured : State := { State.reset with hif := { State.reset.hif with msix := [] } }

theorem unconfigured_shape : unconfigured.Shape := by constructor <;> decide +kernel

/-- The configuration with MSI-X enabled, not masked, and bus mastering on. -/
def sendingCfg : PcieCfg := ⟨true, true, false⟩

/-- With no entry to write it to, the configuration that comes with the link is lost. -/
theorem unconfigured_linkUp : (unconfigured.pcieUp 0 4 5 sendingCfg).endCycle.msixReady 0 = false := by decide +kernel

/-- Refutes O23: PCIE_LINK_UP with a configuration that may send, in a state whose list of configurations is empty, leaves port 0 without one. -/
theorem not_portsReset : ¬ Obligations.PortsReset := by
  unfold Obligations.PortsReset
  intro h
  obtain ⟨-, hup⟩ := h 0 unconfigured unconfigured_shape (by decide +kernel) (by decide +kernel)
  obtain ⟨-, hready, -⟩ := (hup 4 5 sendingCfg).of_done rfl
  exact absurd (unconfigured_linkUp.symm.trans hready) (by decide +kernel)

end Sys2Proof.Machine

/-! # Ray geometry (spec/03_ray_geometry.md R50, R57 to R64, with R151 to R153 of spec/07)

## The table units: loads, arming, refusals (R57, R59, R60, R151) -/
namespace Sys2Proof.Machine

/-! ### Two fields of one register -/

theorem State.rf_wf_other (s : State) (a : Nat) {hi lo hi' lo' : Nat} (h : hi < 32) (hl : lo ≤ hi) (hl' : lo' ≤ hi') (hd : hi < lo' ∨ hi' < lo) (v : Nat) :
    (s.wf a hi lo v).rf a hi' lo' = s.rf a hi' lo' := by
  rw [State.wf, State.rf_wr_same, fld_setFld_other _ h hl hl' hd, State.rf]

theorem State.rb_wf_other (s : State) (a : Nat) {hi lo i : Nat} (h : hi < 32) (hl : lo ≤ hi) (hd : i < lo ∨ hi < i) (v : Nat) :
    (s.wf a hi lo v).rb a i = s.rb a i := by
  rw [State.wf, State.rb_wr_same, bit_setFld _ h hl, if_neg (by omega), State.rb]

theorem State.rf_wb_other (s : State) (a : Nat) {i hi lo : Nat} (h : i < 32) (hl : lo ≤ hi) (hd : i < lo ∨ hi < i) (b : Bool) :
    (s.wb a i b).rf a hi lo = s.rf a hi lo := by
  rw [State.wb, State.rf_wr_same, fld_setBit_other _ h hl hd, State.rf]

/-- A 40-bit address that a frame leaves alone. -/
theorem Within.addr40 {l : List Fld} {q : Nat → Bool} {s t : State} (h : Within l q s t) {a : Nat} (hlo : q a = false) (hhi : q (a + 4) = false) :
    t.addr40 a = s.addr40 a := by
  rw [State.addr40, h.rn hlo, h.rf hhi, State.addr40]

/-! ### An allowed write of one register (R28, R30) -/

/-- An allowed write of a register on a page with a header: SEQ counts it, the register stores it, and its effect follows. -/
theorem State.regWrite_allowed {s : State} {p : Party} {a : Nat} {v : Word} {r : RegRow} (h : Allowed s p a v) (hr : regRow a = some r)
    (hh : hasHeader (a / 0x100000) (a / 0x1000 % 256) = true) (eff : State → State) :
    s.regWrite p a v eff = eff ((s.cntWrap (Reg.SEQ (a / 0x1000 * 0x1000))).store a r v) := by
  obtain ⟨r', hf⟩ := h.applied
  have hrow : r' = r := Option.some.inj ((State.writeFate_applied_row hf).symm.trans hr)
  rw [State.regWrite, State.writeBy, hf, hrow, s.seqInc_header hh]

/-- A command register stores nothing: before its effect, SEQ alone has moved. -/
theorem State.regWrite_command {s : State} {p : Party} {a : Nat} {v : Word} {r : RegRow} (h : Allowed s p a v) (hr : regRow a = some r) (hacc : r.acc = .wo)
    (hh : hasHeader (a / 0x100000) (a / 0x1000 % 256) = true) (ha : a ≠ Reg.SEQ (a / 0x1000 * 0x1000)) (eff : State → State) :
    ∃ u, s.regWrite p a v eff = eff u ∧ Within [.regs] (among [Reg.SEQ (a / 0x1000 * 0x1000)]) s u := by
  obtain ⟨hrd, -, hw⟩ := s.counted_stored (a / 0x1000 * 0x1000) ha r v
  rw [storedWord_wo hacc] at hrd
  refine ⟨(s.cntWrap (Reg.SEQ (a / 0x1000 * 0x1000))).store a r v, State.regWrite_allowed h hr hh eff, hw.1, fun b => ?_⟩
  by_cases hb : b = a
  · subst hb
    exact .inr hrd
  · exact (hw.2 b).imp (fun hq => by simpa [hb, among] using hq) id

/-! ### The state of a table unit -/

/-- The field of the state that holds a table unit. -/
def TabKind.fld : TabKind → Fld
  | .geo => .geo
  | .ton => .ton

@[simp] theorem State.tab_setTab (s : State) (k : TabKind) (v : TabUnit) : (s.setTab k v).tab k = v := by cases k <;> rfl

theorem State.setTab_within (s : State) (k : TabKind) (v : TabUnit) {q : Nat → Bool} : Within [k.fld] q s (s.setTab k v) := by
  cases k <;> exact .of_same (fun f => by cases f <;> first | (left; decide) | (right; rfl)) rfl

theorem State.setRepair_within (s : State) (k : TabKind) (r : Repair) {q : Nat → Bool} : Within [k.fld] q s (s.setRepair k r) := s.setTab_within k _

theorem State.setBank_within (s : State) (k : TabKind) (i : Nat) (b : Bank) {q : Nat → Bool} : Within [k.fld] q s (s.setBank k i b) := s.setTab_within k _

/-- A frame that leaves the unit's field out leaves its banks, its load and its repair as they are. -/
theorem Within.tab {l : List Fld} {q : Nat → Bool} {s t : State} (h : Within l q s t) {k : TabKind} (hl : k.fld ∉ l) : t.tab k = s.tab k := by
  cases k with
  | geo => exact congrArg Geo.tab ((h.1 .geo).resolve_left hl)
  | ton => exact congrArg Ton.tab ((h.1 .ton).resolve_left hl)

theorem Within.bank {l : List Fld} {q : Nat → Bool} {s t : State} (h : Within l q s t) {k : TabKind} (hl : k.fld ∉ l) (i : Nat) : t.bank k i = s.bank k i :=
  congrArg (TabUnit.bank · i) (h.tab hl)

@[simp] theorem State.tab_setRepair (s : State) (k : TabKind) (r : Repair) : (s.setRepair k r).tab k = { s.tab k with repair := r } := s.tab_setTab k _

/-- The field of a unit is neither the register file nor a field that an event or a NOTICE fault may change. -/
theorem TabKind.fld_other (k : TabKind) : k.fld ∉ [Fld.regs] ∧ k.fld ∉ evtFields ∧ k.fld ∉ noticeFields := by cases k <;> decide

/-- A unit's command register lies on its common page, which has a header. -/
theorem TabKind.cmd_place (k : TabKind) : k.cmd / 0x1000 * 0x1000 = k.page ∧ hasHeader (k.cmd / 0x100000) (k.cmd / 0x1000 % 256) = true := by
  cases k <;> decide

/-- GEO_CMD and TON_CMD are written only. -/
theorem TabKind.cmd_row (k : TabKind) : ∃ r, regRow k.cmd = some r ∧ r.acc = .wo := by
  cases k with
  | geo => exact ⟨⟨0x44, 0, 1, .wo, 0, 0xFFFFFFFF, [], []⟩, by decide, rfl⟩
  | ton => exact ⟨⟨0x48, 0, 1, .wo, 0, 0xFFFFFFFF, [], []⟩, by decide, rfl⟩

/-- What a command of a unit does, once its write is allowed: SEQ of the page counts it, and the unit takes it (R60). -/
theorem exec_tabWrite {k : TabKind} {n : Nat} {p : Party} {s : State} (hl : 1 ≤ n) (hu : n ≤ 3) (h : Allowed s p k.cmd (wd n)) :
    ∃ u, exec (tabWrite k n p) s = done (u.tabCmd k p (wd n)) ∧ Within [.regs] (among [Reg.SEQ k.page]) s u := by
  have hexec : exec (tabWrite k n p) s = done (s.regWrite p k.cmd (wd n) fun s => s.tabCmd k p (wd n)) := by
    obtain rfl | rfl | rfl : n = 1 ∨ n = 2 ∨ n = 3 := by omega
    all_goals cases k <;> rfl
  obtain ⟨r, hr, hacc⟩ := k.cmd_row
  obtain ⟨hpage, hh⟩ := k.cmd_place
  obtain ⟨u, hu, hw⟩ := State.regWrite_command h hr hacc hh (by rw [hpage]; cases k <;> decide) fun s => s.tabCmd k p (wd n)
  exact ⟨u, hexec.trans (congrArg done hu), hpage ▸ hw⟩

/-! ### A load starts (R57) -/

/-- IDLE or RUN without an event. -/
theorem State.idleRun_silent (s : State) (pg : Nat) (busy : Bool) : Within [.regs] (fun a => a == Reg.PAGE_STATUS pg) s (s.idleRun pg busy none) := by
  have h : ∀ v, v < 8 → Within [.regs] (fun a => a == Reg.PAGE_STATUS pg) s (s.toState pg v none) := fun v hv => (s.toState_silent pg hv).2.2
  unfold State.idleRun
  split
  · exact h _ (by decide)
  · split
    · exact h _ (by decide)
    · exact .refl s

/-- A load started for party code `party`: LOADING with no error, its party shown, and the load noted with the rights it reads under. -/
structure State.LoadStarted (s t : State) (k : TabKind) (ld : TLoad) (party : Nat) : Prop where
  state : t.tabState k = 1
  error : t.rf k.status 15 8 = 0
  party : t.rf k.status 30 28 = party
  refused : t.rb k.status 16 = s.rb k.status 16
  unit : t.tab k = { s.tab k with load := some ld }
  within : Within [.regs, k.fld] (among [k.status, Reg.PAGE_STATUS k.page]) s t

theorem State.tabStart_started (s : State) (k : TabKind) (addr len : Nat) {party : Nat} (hp : party < 8) (rep : Bool) :
    s.LoadStarted (s.tabStart k addr len party rep) k ⟨addr, len, if party < 4 then some party else none, [], rep⟩ party := by
  generalize hld : (⟨addr, len, if party < 4 then some party else none, [], rep⟩ : TLoad) = ld
  have hrun := (s.setTab k { s.tab k with load := some ld }).idleRun_silent k.page true
  have hne : k.status ≠ Reg.PAGE_STATUS k.page := by cases k <;> decide
  have heq : s.tabStart k addr len party rep = (((s.setLoad k (some ld)).setTabState k 1).wf k.status 15 8 0).wf k.status 30 28 party := by
    rw [← hld]; rfl
  have hload : Within [.regs, k.fld] (among [k.status, Reg.PAGE_STATUS k.page]) s (s.setLoad k (some ld)) :=
    ((s.setTab_within k _).widen (by simp)).trans (hrun.mono (by simp) (by simp +contextual [among]))
  have hfield : ∀ (u : State) (hi lo v : Nat), Within [.regs, k.fld] (among [k.status, Reg.PAGE_STATUS k.page]) u (u.wf k.status hi lo v) := fun u hi lo v =>
    (u.wf_within _ _ _ _).mono (by simp) (by simp +contextual [among])
  rw [heq]
  refine ⟨?_, ?_, ?_, ?_, ?_, ((hload.trans (hfield _ _ _ _)).trans (hfield _ _ _ _)).trans (hfield _ _ _ _)⟩
  · rw [State.tabState, State.rf_wf_other _ _ (by decide) (by decide) (by decide) (by decide), State.rf_wf_other _ _ (by decide) (by decide) (by decide) (by decide)]
    exact State.rf_wf_same _ _ (by decide) (by decide) _
  · rw [State.rf_wf_other _ _ (by decide) (by decide) (by decide) (by decide)]
    exact State.rf_wf_same _ _ (by decide) (by decide) _
  · rw [State.rf_wf_same _ _ (by decide) (by decide)]
    exact Nat.mod_eq_of_lt hp
  · rw [State.rb_wf_other _ _ (by decide) (by decide) (by decide), State.rb_wf_other _ _ (by decide) (by decide) (by decide), State.setTabState,
      State.rb_wf_other _ _ (by decide) (by decide) (by decide)]
    exact (hrun.rb (by simpa using hne) 16).trans ((s.setTab_within k _ (q := fun _ => false)).rb rfl 16)
  · exact (hrun.tab k.fld_other.1).trans (s.tab_setTab k _)

theorem State.LoadStarted.bank {s t : State} {k : TabKind} {ld : TLoad} {party : Nat} (h : s.LoadStarted t k ld party) (i : Nat) : t.bank k i = s.bank k i := by
  simp only [State.bank, h.unit, TabUnit.bank]

theorem partyCode_lt (p : Party) : partyCode p < 8 := by cases p <;> decide

/-! ### Commands that are taken, and those that are refused (R60) -/

section
variable {s : State} {k : TabKind} (p : Party)

/-- LOAD reads the image at LOAD_ADDR under its party's rights (R57). -/
theorem State.tabCmd_load (he : s.enabled k.page = true) (hs : s.tabState k ≠ 1) (ha : s.tabArmed k = false) :
    ∃ t, s.tabCmd k p (wd 1) = t ∧ (s.wb k.status 16 false).LoadStarted t k
      ⟨s.addr40 k.loadAddr, s.rn k.loadLen, if partyCode p < 4 then some (partyCode p) else none, [], false⟩ (partyCode p) := by
  have hok : (s.tabState k != tabLoading) = true := by simpa using hs
  have hw := s.wb_within k.status 16 false
  have hload : ∀ a ∈ [k.loadAddr, k.loadAddr + 4, k.loadLen], (a == k.status) = false := by cases k <;> decide
  have heq : s.tabCmd k p (wd 1) = (s.wb k.status 16 false).tabStart k ((s.wb k.status 16 false).addr40 k.loadAddr) ((s.wb k.status 16 false).rn k.loadLen)
      (partyCode p) false := by
    simp [State.tabCmd, fld, he, hok, ha]
  rw [hw.addr40 (hload _ (by simp)) (hload _ (by simp)), hw.rn (hload _ (by simp))] at heq
  exact ⟨_, heq, State.tabStart_started _ k _ _ (partyCode_lt p) false⟩

/-- ARM sets ARMED and records its party (R59). -/
theorem State.tabCmd_arm (he : s.enabled k.page = true) (hs : s.tabState k = 1 ∨ s.tabState k = 2) (ha : s.tabArmed k = false) :
    ∃ t, s.tabCmd k p (wd 2) = t ∧ t.tabArmed k = true ∧ t.rf k.status 26 24 = partyCode p ∧ t.tabState k = s.tabState k ∧
      Within [.regs] (fun a => a == k.status) s t := by
  have heq : s.tabCmd k p (wd 2) = ((s.wb k.status 16 false).wb k.status 31 true).wf k.status 26 24 (partyCode p) := by
    rcases hs with hs | hs <;> simp [State.tabCmd, fld, he, hs, ha]
  refine ⟨_, heq, ?_, ?_, ?_, ((s.wb_within _ _ _).trans (State.wb_within _ _ _ _)).trans (State.wf_within _ _ _ _ _)⟩
  · rw [State.tabArmed, State.rb_wf_other _ _ (by decide) (by decide) (by decide), State.rb_wb_same _ _ (by decide), if_pos rfl]
  · rw [State.rf_wf_same _ _ (by decide) (by decide)]
    exact Nat.mod_eq_of_lt (partyCode_lt p)
  · rw [State.tabState, State.rf_wf_other _ _ (by decide) (by decide) (by decide) (by decide), State.rf_wb_other _ _ (by decide) (by decide) (by decide),
      State.rf_wb_other _ _ (by decide) (by decide) (by decide), State.tabState]

/-- DISARM clears ARMED; only a repair's arming would have more to end (R62). -/
theorem State.tabCmd_disarm (he : s.enabled k.page = true) (ha : s.tabArmed k = true) (hr : (s.tab k).repair ≠ .armed) :
    ∃ t, s.tabCmd k p (wd 3) = t ∧ t.tabArmed k = false ∧ t.tabState k = s.tabState k ∧ Within [.regs] (fun a => a == k.status) s t := by
  have hrep : (((s.wb k.status 16 false).wb k.status 31 false).tab k).repair ≠ .armed := hr
  have heq : s.tabCmd k p (wd 3) = (s.wb k.status 16 false).wb k.status 31 false := by simp [State.tabCmd, fld, he, ha, State.tabUnarm, hrep]
  refine ⟨_, heq, ?_, ?_, (s.wb_within _ _ _).trans (State.wb_within _ _ _ _)⟩
  · rw [State.tabArmed, State.rb_wb_same _ _ (by decide), if_pos rfl]
  · rw [State.tabState, State.rf_wb_other _ _ (by decide) (by decide) (by decide), State.rf_wb_other _ _ (by decide) (by decide) (by decide), State.tabState]

/-- A command whose condition does not hold sets REFUSED, and no more. -/
theorem State.tabCmd_refuse {n : Nat} (h : n = 1 ∧ (s.tabState k = 1 ∨ s.tabArmed k = true) ∨ n = 2 ∧ s.tabArmed k = true ∨ n = 3 ∧ s.tabArmed k = false) :
    ∃ t, s.tabCmd k p (wd n) = t ∧ t.rb k.status 16 = true ∧ t.tabState k = s.tabState k ∧ t.tabArmed k = s.tabArmed k ∧
      Within [.regs] (fun a => a == k.status) s t := by
  have heq : s.tabCmd k p (wd n) = s.wb k.status 16 true := by
    rcases h with ⟨rfl, h | h⟩ | ⟨rfl, h⟩ | ⟨rfl, h⟩ <;> simp [State.tabCmd, fld, h]
  refine ⟨_, heq, ?_, s.rf_wb_other _ (by decide) (by decide) (by decide) _, ?_, s.wb_within _ _ _⟩
  · rw [State.rb_wb_same _ _ (by decide), if_pos rfl]
  · rw [State.tabArmed, State.rb_wb_same _ _ (by decide), if_neg (by decide), State.tabArmed]

end

/-- What a unit's command reads is none of what its write has changed before the unit takes it. -/
theorem TabKind.regs_apart (k : TabKind) :
    ∀ a ∈ [k.status, k.loadAddr, k.loadAddr + 4, k.loadLen, Reg.PAGE_CTRL k.page], among [Reg.SEQ k.page] a = false := by
  cases k <;> decide

/-- Settles O24: SEQ counts the command, and the unit starts the load, arms, disarms, or refuses. -/
theorem tableCommands : Obligations.TableCommands := by
  unfold Obligations.TableCommands
  intro k p n s hl hu h he
  obtain ⟨u, hexec, hseq⟩ := exec_tabWrite hl hu h
  have hkeep := k.regs_apart
  have hstate : u.tabState k = s.tabState k := hseq.rf (hkeep _ (by simp)) 2 0
  have harmed : u.tabArmed k = s.tabArmed k := hseq.rb (hkeep _ (by simp)) 31
  have hen : u.enabled k.page = true := (hseq.rb (hkeep _ (by simp)) 0).trans he
  have hunit : u.tab k = s.tab k := hseq.tab k.fld_other.1
  have haddr : u.addr40 k.loadAddr = s.addr40 k.loadAddr := hseq.addr40 (hkeep _ (by simp)) (hkeep _ (by simp))
  have hlen : u.rn k.loadLen = s.rn k.loadLen := hseq.rn (hkeep _ (by simp))
  have hframe : ∀ {t : State}, Within [.regs] (fun a => a == k.status) u t → Within [.regs, .hif] (among [k.status, Reg.SEQ k.page]) s t := fun ht =>
    (hseq.mono (by decide) (by simp +contextual [among])).trans (ht.mono (by decide) (by simp +contextual [among]))
  rw [← hstate, ← harmed, ← hunit, ← haddr, ← hlen]
  refine ⟨?_, ?_, ?_, fun hno => ?_⟩
  · rintro rfl hs ha
    obtain ⟨t, ht, hload⟩ := State.tabCmd_load p hen hs ha
    have hall : Within [.regs, .hif, .geo, .ton] (among [k.status, Reg.PAGE_STATUS k.page, Reg.SEQ k.page]) s t :=
      ((hframe (u.wb_within _ _ _)).mono (by decide) (by simp +contextual [among])).trans
        (hload.within.mono (by cases k <;> decide) (by simp +contextual [among]))
    refine ends_of_done (ht ▸ hexec) ⟨hload.state, hload.party, hload.error, ?_, congrArg TabUnit.load hload.unit, fun i => ?_, hall.ended (by decide)⟩
    · exact hload.refused.trans ((u.rb_wb_same _ (by decide) _ _).trans (if_pos rfl))
    · exact (hload.bank i).trans (hseq.bank k.fld_other.1 i)
  · rintro rfl hs ha
    obtain ⟨t, ht, harm, hparty, hst, hw⟩ := State.tabCmd_arm p hen hs ha
    exact ends_of_done (ht ▸ hexec) ⟨harm, hparty, hst, (hframe hw).ended (by decide)⟩
  · rintro rfl ha hr
    obtain ⟨t, ht, harm, hst, hw⟩ := State.tabCmd_disarm p hen ha hr
    exact ends_of_done (ht ▸ hexec) ⟨harm, hst, (hframe hw).ended (by decide)⟩
  · obtain ⟨t, ht, href, hst, harm, hw⟩ := State.tabCmd_refuse p hno
    exact ends_of_done (ht ▸ hexec) ⟨href, hst, harm, (hframe hw).ended (by decide)⟩

end Sys2Proof.Machine

/-! ## Temperatures from the host, probes and commits (R50, R53, R64, R153) -/
namespace Sys2Proof.Machine

/-! ### Numbers stored as fields of a word -/

/-- A field of a word made from a number that fits. -/
theorem fld_wd {n : Nat} (h : n < 2 ^ 32) (hi lo : Nat) : fld (wd n) hi lo = n / 2 ^ lo % 2 ^ (hi - lo + 1) := by
  rw [fld, BitVec.toNat_ofNat, Nat.mod_eq_of_lt h, Nat.shiftRight_eq_div_pow]

theorem unsgn_lt (n : Nat) (x : Int) : unsgn n x < 2 ^ n := by
  have h : (0 : Int) < 2 ^ n := by positivity
  have h1 := Int.emod_lt_of_pos x h
  have h2 := Int.emod_nonneg x h.ne'
  have h3 : (2 : Int) ^ n = ((2 ^ n : Nat) : Int) := by push_cast; rfl
  unfold unsgn
  omega

/-! ### Tiles -/

theorem State.setGeoTile_within (s : State) (t : Nat) (v : GeoTile) {q : Nat → Bool} : Within [.geo] q s (s.setGeoTile t v) :=
  .of_same (fun f => by cases f <;> first | (left; decide) | (right; rfl)) rfl

theorem State.geoTile_setGeoTile_same {s : State} {t : Nat} (h : t < s.geo.tiles.length) (v : GeoTile) : (s.setGeoTile t v).geoTile t = v := by
  simp [State.geoTile, State.setGeoTile, nth, upd, h]

theorem State.geoTile_setGeoTile_other (s : State) {t i : Nat} (h : i ≠ t) (v : GeoTile) : (s.setGeoTile t v).geoTile i = s.geoTile i := by
  simp [State.geoTile, State.setGeoTile, nth, upd, List.getElem?_set_ne (Ne.symm h)]

theorem Within.geoTile {l : List Fld} {q : Nat → Bool} {s t : State} (h : Within l q s t) (hl : Fld.geo ∉ l) (i : Nat) : t.geoTile i = s.geoTile i := by
  rw [State.geoTile, (h.1 .geo).resolve_left hl, State.geoTile]

/-- The page that a register of a tile lies on. -/
theorem geoTile_page {t a : Nat} (hl : 0x301000 + 0x1000 * t ≤ a) (hu : a < 0x302000 + 0x1000 * t) : a / 0x1000 * 0x1000 = Reg.page 3 (1 + t) := by
  simp only [Reg.page]
  omega

/-! ### Temperatures from the host (R50) -/

/-- The row of GEO_T_HOST. -/
def rowGeoTHost : RegRow := ⟨0x44, 0, 1, .rw, 0, 0xFFFF, [], []⟩

theorem regRow_geoTHost : ∀ t < 6, regRow (Reg.GEO_T_HOST t) = some rowGeoTHost := by decide

/-- A write of GEO_T_HOST is a new reading from the host. -/
theorem State.geoWritten_tHost (s : State) (p : Party) {t : Nat} (ht : t < 6) (v : Word) :
    s.geoWritten p (Reg.GEO_T_HOST t) v = s.geoNewReading t 0 (fld v 15 0) := by
  have h1 : Reg.GEO_T_HOST t ≠ Reg.GEO_CMD := by simp only [Reg.GEO_T_HOST, Reg.GEO_CMD]; omega
  have h2 : 0x301000 ≤ Reg.GEO_T_HOST t ∧ Reg.GEO_T_HOST t < 0x307000 := by simp only [Reg.GEO_T_HOST]; omega
  have h3 : (Reg.GEO_T_HOST t - 0x301000) / 0x1000 = t := by simp only [Reg.GEO_T_HOST]; omega
  have h4 : Reg.GEO_T_HOST t % 0x1000 = 0x44 := by simp only [Reg.GEO_T_HOST]; omega
  rw [State.geoWritten, if_neg h1, if_pos h2, h3, h4]
  rfl

/-- A host's reading is taken by a tile whose source is HOST: its value, at age 0. -/
theorem State.geoNewReading_host {s : State} {t : Nat} (ht : t < s.geo.tiles.length) (hsrc : s.rf (Reg.GEO_T_SRC t) 1 0 = 0) (v : Nat) :
    (s.geoNewReading t 0 v).geoReading t = (true, v % 65536, 0) ∧ (∀ i ≠ t, (s.geoNewReading t 0 v).geoTile i = s.geoTile i) ∧
      Within [.geo] (fun _ => false) s (s.geoNewReading t 0 v) := by
  rw [State.geoNewReading, if_pos hsrc]
  have hw := s.setGeoTile_within t { s.geoTile t with has := true, val := v % 65536, age := 0 } (q := fun _ => false)
  have hsrc' := (hw.rf rfl 1 0).trans hsrc
  refine ⟨?_, fun i hi => s.geoTile_setGeoTile_other hi _, hw⟩
  rw [State.geoReading, hsrc', if_neg (by decide), State.geoTile_setGeoTile_same ht]

/-- GEO_T_HOST written (R50). -/
theorem ends_geoTHost {p : Party} {t : Fin 6} {v : Word} {s : State} (hs : s.Shape) (h : Allowed s p (Reg.GEO_T_HOST t) v)
    (hsrc : s.rf (Reg.GEO_T_SRC t) 1 0 = 0) : Ends (.geoTHost p t v) s fun u =>
      u.geoReading t = (true, v.toNat % 65536, 0) ∧ (∀ i < 6, i ≠ t.val → u.geoTile i = s.geoTile i) ∧
      Within [.regs, .hif, .geo] (among [Reg.GEO_T_HOST t, Reg.SEQ (Reg.page 3 (1 + t))]) s u := by
  have hh := hasHeader_of_le (a := Reg.GEO_T_HOST t) (by simp only [Reg.GEO_T_HOST]; omega)
  have hpage := geoTile_page (t := t) (a := Reg.GEO_T_HOST t) (by simp only [Reg.GEO_T_HOST]; omega) (by simp only [Reg.GEO_T_HOST]; omega)
  have hne : Reg.GEO_T_HOST t ≠ Reg.SEQ (Reg.page 3 (1 + t)) := by simp only [Reg.GEO_T_HOST, Reg.SEQ, Reg.page]; omega
  have hwrite := State.regWrite_allowed h (regRow_geoTHost t t.isLt) hh fun s => s.geoWritten p (Reg.GEO_T_HOST t) v
  rw [hpage, State.geoWritten_tHost _ p t.isLt] at hwrite
  obtain ⟨-, -, hw⟩ := s.counted_stored (Reg.page 3 (1 + t)) hne rowGeoTHost v
  generalize (s.cntWrap (Reg.SEQ (Reg.page 3 (1 + t)))).store (Reg.GEO_T_HOST t) rowGeoTHost v = u at hwrite hw
  have hsrc' : u.rf (Reg.GEO_T_SRC t) 1 0 = 0 := by
    rw [hw.rf, hsrc]
    simp only [Bool.or_eq_false_iff, beq_eq_false_iff_ne, Reg.GEO_T_SRC, Reg.GEO_T_HOST, Reg.SEQ, Reg.page]
    omega
  have hlen : t.val < u.geo.tiles.length := by rw [(hw.1 .geo).resolve_left (by decide), hs.tiles]; exact t.isLt
  obtain ⟨hread, hother, hw'⟩ := State.geoNewReading_host hlen hsrc' (fld v 15 0)
  have hval : fld v 15 0 % 65536 = v.toNat % 65536 := by simp [fld]
  refine ends_of_done (congrArg done hwrite) ⟨?_, fun i _ hi => ?_, ?_⟩
  · rw [← hval]; exact hread
  · exact (hother i hi).trans (hw.geoTile (by decide) i)
  · exact ((hw.mono (by decide) (by simp +contextual [among])).trans (hw'.mono (by decide) (by simp))).ended (by decide)

/-! ### Probes (R53, R64) -/

/-- The row of GEO_PROBE, which stores nothing. -/
def rowGeoProbe : RegRow := ⟨0x8C, 0, 1, .wo, 0, 0xFFFFFFFF, [], []⟩

theorem regRow_geoProbe : ∀ t < 6, regRow (Reg.GEO_PROBE t) = some rowGeoProbe := by decide

/-- GEO_PROBE written: DONE clears and the probe is under way. -/
theorem ends_geoProbe {p : Party} {t : Fin 6} {v : Word} {s : State} (hs : s.Shape) (h : Allowed s p (Reg.GEO_PROBE t) v) :
    Ends (.geoProbe p t v) s fun u => u.rb (Reg.GEO_PROBE_LENS t) 31 = false ∧ (u.geoTile t).probe = some v ∧
      Within [.regs, .hif, .geo] (among [Reg.GEO_PROBE t, Reg.GEO_PROBE_LENS t, Reg.SEQ (Reg.page 3 (1 + t))]) s u := by
  have hh := hasHeader_of_le (a := Reg.GEO_PROBE t) (by simp only [Reg.GEO_PROBE]; omega)
  have hpage := geoTile_page (t := t) (a := Reg.GEO_PROBE t) (by simp only [Reg.GEO_PROBE]; omega) (by simp only [Reg.GEO_PROBE]; omega)
  have hne : Reg.GEO_PROBE t ≠ Reg.SEQ (Reg.page 3 (1 + t)) := by simp only [Reg.GEO_PROBE, Reg.SEQ, Reg.page]; omega
  obtain ⟨u, hwrite, hw⟩ := State.regWrite_command h (regRow_geoProbe t t.isLt) rfl hh (by rw [hpage]; exact hne)
    fun s => s.geoProbe t v
  rw [hpage] at hw
  have hlen : t.val < u.geo.tiles.length := by rw [(hw.1 .geo).resolve_left (by decide), hs.tiles]; exact t.isLt
  have htile := State.geoTile_setGeoTile_same hlen { u.geoTile t with probe := some v }
  have hset := u.setGeoTile_within t { u.geoTile t with probe := some v } (q := fun _ => false)
  obtain ⟨x, hx⟩ : ∃ x, u.setGeoTile t { u.geoTile t with probe := some v } = x := ⟨_, rfl⟩
  rw [hx] at htile hset
  have heff : u.geoProbe t v = x.wb (Reg.GEO_PROBE_LENS t) 31 false := by rw [← hx]; rfl
  rw [heff] at hwrite
  refine ends_of_done (congrArg done hwrite) ⟨?_, ?_, ?_⟩
  · exact (x.rb_wb_same _ (by decide) _ _).trans (if_pos rfl)
  · exact congrArg GeoTile.probe htile
  · exact (((hw.mono (by decide) (by simp +contextual [among])).trans (hset.mono (by decide) (by simp))).trans
      ((x.wb_within _ _ _).mono (by decide) (by simp +contextual [among]))).ended (by decide)

/-- The lens cell of a ray of R53 lies in the panel. -/
theorem geoRay_cell {b : Bank} {e : GeoEff} {lay t xe ye : Nat} (ht : t < 6) (hx : xe < geoW lay) (hy : ye < geoH lay) :
    (geoRay b e lay t xe ye).lx < 3840 ∧ (geoRay b e lay t xe ye).ly < 2160 := by
  have hll : xe / geoNu lay < 1280 := Nat.div_lt_of_lt_mul (by rw [Nat.mul_comm]; exact hx)
  have hly : ye / geoNv < geoLensH lay := Nat.div_lt_of_lt_mul hy
  have hlen : geoLensH lay ≤ 1080 := by unfold geoLensH; split <;> decide
  have hrow : geoLensH lay * (t / 3) ≤ 1080 := by
    calc geoLensH lay * (t / 3) ≤ 1080 * 1 := Nat.mul_le_mul hlen (by omega)
      _ = 1080 := rfl
  exact ⟨show xe / geoNu lay + 1280 * (t % 3) < 3840 by omega, show ye / geoNv + geoLensH lay * (t / 3) < 2160 by omega⟩

/-- The words of GEO_PROBE_UV and GEO_PROBE_LENS that show a ray (R64). -/
def probeWords (r : GeoRay) : Word × Word := (wd (unsgn 16 r.v * 2 ^ 16 + unsgn 16 r.u), wd (2 ^ 31 + r.ly * 2 ^ 16 + r.lx))

theorem probeWords_uv (r : GeoRay) : fld (probeWords r).1 15 0 = unsgn 16 r.u ∧ fld (probeWords r).1 31 16 = unsgn 16 r.v := by
  have hu := unsgn_lt 16 r.u
  have hv := unsgn_lt 16 r.v
  have h : unsgn 16 r.v * 2 ^ 16 + unsgn 16 r.u < 2 ^ 32 := by omega
  rw [probeWords, fld_wd h, fld_wd h]
  omega

theorem probeWords_lens {r : GeoRay} (hx : r.lx < 3840) (hy : r.ly < 2160) :
    fld (probeWords r).2 11 0 = r.lx ∧ fld (probeWords r).2 27 16 = r.ly ∧ fld (probeWords r).2 31 31 = 1 := by
  have h : 2 ^ 31 + r.ly * 2 ^ 16 + r.lx < 2 ^ 32 := by omega
  rw [probeWords, fld_wd h, fld_wd h, fld_wd h]
  omega

theorem bit_of_fld {w : Word} {i : Nat} (h : fld w i i = 1) : bit w i = true := by
  have := testBit_fld w i i 0
  simpa [h] using this.symm

/-- What the probe `w` of tile `t` shows: its emitter's ray by the bank and the model as they stand, or 0 and DONE alone outside the region. -/
def State.probeShown (s : State) (t : Nat) (w : Word) : Word × Word :=
  if geoW s.geo.layout ≤ fld w 14 0 ∨ geoH s.geo.layout ≤ fld w 29 16 then (0, wd (2 ^ 31))
  else probeWords (geoRay (s.bank .geo (s.tabActive .geo)) (s.geoEff t) s.geo.layout t (fld w 14 0) (fld w 29 16))

theorem State.geoProbeDone_eq {s : State} {t : Nat} {w : Word} (h : (s.geoTile t).probe = some w) :
    s.geoProbeDone t = ((s.setGeoTile t { s.geoTile t with probe := none }).wr (Reg.GEO_PROBE_UV t) (s.probeShown t w).1).wr (Reg.GEO_PROBE_LENS t)
      (s.probeShown t w).2 := by
  by_cases hout : geoW s.geo.layout ≤ fld w 14 0 ∨ geoH s.geo.layout ≤ fld w 29 16
  · simp only [State.geoProbeDone, h, State.probeShown, if_pos hout]
    exact if_pos hout
  · simp only [State.geoProbeDone, h, State.probeShown, if_neg hout]
    exact if_neg hout

/-- Inside the region the ray is shown, with DONE; outside, DONE alone. -/
theorem State.probeShown_words (s : State) {t : Nat} (ht : t < 6) (w : Word) {r : GeoRay}
    (hr : r = geoRay (s.bank .geo (s.tabActive .geo)) (s.geoEff t) s.geo.layout t (fld w 14 0) (fld w 29 16)) :
    bit (s.probeShown t w).2 31 = true ∧
      (fld w 14 0 < geoW s.geo.layout → fld w 29 16 < geoH s.geo.layout →
        fld (s.probeShown t w).1 15 0 = unsgn 16 r.u ∧ fld (s.probeShown t w).1 31 16 = unsgn 16 r.v ∧
        fld (s.probeShown t w).2 11 0 = r.lx ∧ fld (s.probeShown t w).2 27 16 = r.ly) ∧
      (geoW s.geo.layout ≤ fld w 14 0 ∨ geoH s.geo.layout ≤ fld w 29 16 → (s.probeShown t w).1 = 0 ∧ (s.probeShown t w).2.toNat = 2 ^ 31) := by
  by_cases hout : geoW s.geo.layout ≤ fld w 14 0 ∨ geoH s.geo.layout ≤ fld w 29 16
  · rw [State.probeShown, if_pos hout]
    exact ⟨by decide, fun hx hy => by omega, fun _ => ⟨rfl, rfl⟩⟩
  · rw [State.probeShown, if_neg hout, ← hr]
    obtain ⟨hx, hy⟩ : r.lx < 3840 ∧ r.ly < 2160 := hr ▸ geoRay_cell ht (by omega) (by omega)
    obtain ⟨hlx, hly, hdone⟩ := probeWords_lens hx hy
    obtain ⟨hu, hv⟩ := probeWords_uv r
    exact ⟨bit_of_fld hdone, fun _ _ => ⟨hu, hv, hlx, hly⟩, fun h => absurd h hout⟩

/-- GEO_PROBE_DONE. -/
theorem ends_geoProbeDone {t : Fin 6} {s : State} (hs : s.Shape) (w : Word) (r : GeoRay) (hp : (s.geoTile t).probe = some w)
    (hr : r = geoRay (s.bank .geo (s.tabActive .geo)) (s.geoEff t) s.geo.layout t (fld w 14 0) (fld w 29 16)) : Ends (.geoProbeDone t) s fun u =>
      u.rb (Reg.GEO_PROBE_LENS t) 31 = true ∧ (u.geoTile t).probe = none ∧
      (fld w 14 0 < geoW s.geo.layout → fld w 29 16 < geoH s.geo.layout →
        u.rf (Reg.GEO_PROBE_UV t) 15 0 = unsgn 16 r.u ∧ u.rf (Reg.GEO_PROBE_UV t) 31 16 = unsgn 16 r.v ∧
        u.rf (Reg.GEO_PROBE_LENS t) 11 0 = r.lx ∧ u.rf (Reg.GEO_PROBE_LENS t) 27 16 = r.ly) ∧
      (geoW s.geo.layout ≤ fld w 14 0 ∨ geoH s.geo.layout ≤ fld w 29 16 → u.rd (Reg.GEO_PROBE_UV t) = 0 ∧ u.rn (Reg.GEO_PROBE_LENS t) = 2 ^ 31) ∧
      Within [.regs, .hif, .geo] (among [Reg.GEO_PROBE_UV t, Reg.GEO_PROBE_LENS t]) s u := by
  obtain ⟨hdone, hin, hout⟩ := s.probeShown_words t.isLt w hr
  have heq := State.geoProbeDone_eq hp
  have hlen : t.val < s.geo.tiles.length := by rw [hs.tiles]; exact t.isLt
  have htile := State.geoTile_setGeoTile_same hlen { s.geoTile t with probe := none }
  have hset := s.setGeoTile_within t { s.geoTile t with probe := none } (q := fun _ => false)
  generalize s.setGeoTile t { s.geoTile t with probe := none } = x at heq htile hset
  generalize s.probeShown t w = shown at heq hdone hin hout
  have huv : (s.geoProbeDone t).rd (Reg.GEO_PROBE_UV t) = shown.1 := by
    rw [heq, State.rd_wr_other _ _ _ _ (by simp only [Reg.GEO_PROBE_UV, Reg.GEO_PROBE_LENS]; omega), State.rd_wr_same]
  have hlens : (s.geoProbeDone t).rd (Reg.GEO_PROBE_LENS t) = shown.2 := by rw [heq, State.rd_wr_same]
  have hprobe : ((s.geoProbeDone t).geoTile t).probe = none := by rw [heq]; exact congrArg GeoTile.probe htile
  have hw : Within [.regs, .hif, .geo] (among [Reg.GEO_PROBE_UV t, Reg.GEO_PROBE_LENS t]) s (s.geoProbeDone t) := by
    rw [heq]
    exact ((hset.mono (by decide) (by simp)).trans ((x.wr_within _ _).mono (by decide) (by simp [among]))).trans
      ((State.wr_within _ _ _).mono (by decide) (by simp [among]))
  refine ends_of_done (t := s.geoProbeDone t) rfl ?_
  generalize s.geoProbeDone t = u at huv hlens hprobe hw
  rw [← huv, ← hlens] at hin hout
  rw [← hlens] at hdone
  exact ⟨hdone, hprobe, hin, hout, hw.ended (by decide)⟩

/-! ### Commits (R153) -/

theorem mem_insSorted {x q : Nat} {l : List Nat} : q ∈ insSorted x l ↔ q = x ∨ q ∈ l := by
  induction l with
  | nil => simp [insSorted]
  | cons y t ih =>
    unfold insSorted
    split_ifs with h1 h2
    · simp
    · simp [h2]
    · simp only [List.mem_cons, ih]
      tauto

/-- The row of TON_COMMIT, which stores nothing. -/
def rowTonCommit : RegRow := ⟨0x84, 0, 1, .wo, 0, 0xFFFFFFFF, [], []⟩

theorem regRow_tonCommit : regRow Reg.TON_COMMIT = some rowTonCommit := by decide

/-- TON_COMMIT marks its party for the next latch point. -/
theorem ends_tonCommit {p : Party} {v : Word} {s : State} (h : Allowed s p Reg.TON_COMMIT v) (hv : bit v 0 = true) : Ends (.tonCommit p v) s fun u =>
    (∀ q, q ∈ u.ton.commits ↔ q = partyCode p ∨ q ∈ s.ton.commits) ∧ Within [.regs, .hif, .ton] (among [Reg.SEQ (Reg.page 6 0)]) s u := by
  obtain ⟨u, hwrite, hw⟩ := State.regWrite_command h regRow_tonCommit rfl (by decide) (by decide) fun s => s.tonWritten p Reg.TON_COMMIT v
  have heff : u.tonWritten p Reg.TON_COMMIT v = { u with ton := { u.ton with commits := insSorted (partyCode p) u.ton.commits } } := by
    rw [State.tonWritten, if_neg (by decide), if_pos rfl, if_pos hv]
  rw [heff] at hwrite
  refine ends_of_done (congrArg done hwrite) ⟨fun q => ?_, ?_⟩
  · rw [← (hw.1 .ton).resolve_left (by decide)]
    exact mem_insSorted
  · have hmark : Within [.regs, .hif, .ton] (among [Reg.SEQ (Reg.page 6 0)]) u
        { u with ton := { u.ton with commits := insSorted (partyCode p) u.ton.commits } } :=
      .of_same (fun f => by cases f <;> first | (left; decide) | (right; rfl)) rfl
    exact ((hw.widen (by decide)).trans hmark).ended (by decide)

/-- Settles O27, command by command. -/
theorem readingsProbesCommits : Obligations.ReadingsProbesCommits := by
  unfold Obligations.ReadingsProbesCommits
  intro p t v s hs
  exact ⟨ends_geoTHost hs, ends_geoProbe hs, ends_geoProbeDone hs, ends_tonCommit⟩

end Sys2Proof.Machine

/-! ## Faults of the active table banks (R62, R151, R331 to R345) -/
namespace Sys2Proof.Machine

/-! ### What the report of a fault writes -/

/-- Registers that the report of a fault writes beside the pending bit: those of its events, the log's count, and the panel's where the fault pixel is
due (R338, R368). -/
def reportReg (a : Nat) : Bool := evtReg a || among [Reg.FLT_LOG_WR, Reg.SVC_PANEL_STATUS, Reg.PAGE_STATUS panelPage] a

theorem fenceReg_of_reportReg {a : Nat} (h : reportReg a = true) : fenceReg a = true := by
  simp only [reportReg, among, List.contains_cons, List.contains_nil, Bool.or_false, Bool.or_eq_true, beq_iff_eq] at h
  rcases h with h | rfl | rfl | rfl
  · simp [fenceReg, faultReg, h]
  · simp [fenceReg, faultReg]
  · simp [fenceReg]
  · simp [fenceReg]

theorem reportReg_pend {src : Nat} (h : src < 512) : reportReg (Reg.FLT_PEND (src / 32)) = false := by
  have he : evtReg (Reg.FLT_PEND (src / 32)) = false :=
    evtReg_eq_false (by simp only [Reg.FLT_PEND]; omega) (by simp only [Reg.FLT_PEND]; omega) (by simp only [Reg.FLT_PEND, Reg.SVC_BMC_EVT]; omega)
  simp only [reportReg, he, among, List.contains_cons, List.contains_nil, Bool.false_or, Bool.or_false, Bool.or_eq_false_iff, beq_eq_false_iff_ne, Reg.FLT_PEND,
    Reg.FLT_LOG_WR, Reg.SVC_PANEL_STATUS, Reg.PAGE_STATUS, panelPage, Reg.page]
  omega

/-- An event on the way of a report. -/
theorem Within.toReport {s t : State} (h : Within evtFields evtReg s t) : Within noticeFields reportReg s t :=
  h.mono (by decide) (by simp +contextual [reportReg])

theorem State.storeWr_report (s : State) (off : Nat) (l : List Byte) : Within noticeFields reportReg s (s.storeWr off l) :=
  (s.storeWr_within off l).widen (by decide)

/-- The collector's own state. -/
theorem State.withFlt_report (s : State) (v : Flt) : Within noticeFields reportReg s { s with flt := v } :=
  .of_same (fun f => by cases f <;> first | (left; decide) | (right; rfl)) rfl

/-- The service die's state. -/
theorem State.withSvc_report (s : State) (v : Svc) : Within noticeFields reportReg s { s with svc := v } :=
  .of_same (fun f => by cases f <;> first | (left; decide) | (right; rfl)) rfl

theorem State.setFltSrc_report (s : State) (src : Nat) (v : FltSrc) : Within noticeFields reportReg s (s.setFltSrc src v) := s.withFlt_report _

theorem State.absorb_report (s : State) (w : Window) : Within noticeFields reportReg s (s.absorb w) := by
  unfold State.absorb
  split
  · exact .refl s
  · exact (s.withFlt_report _).trans (State.evt_within _ _).toReport

theorem State.openWindow_report (s : State) (seq : Nat) (u : FUnit) : Within noticeFields reportReg s (s.openWindow seq u).1 := by
  unfold State.openWindow
  split
  · exact s.withFlt_report _
  · exact (State.evt_within _ _).toReport

theorem State.logRec_report (s : State) (r : FRec) : Within noticeFields reportReg s (s.logRec r) := by
  have hlog : Within noticeFields reportReg s
      (State.wn { s with flt := { s.flt with log := Sparse.set (fun _ => (0, [])) s.flt.log (s.rn Reg.FLT_LOG_WR % 1024) (s.rn Reg.FLT_LOG_WR, s.recWords r) } }
        Reg.FLT_LOG_WR (s.rn Reg.FLT_LOG_WR + 1)) :=
    (s.withFlt_report _).trans ((State.wn_within _ _ _).mono (by decide) (by simp [reportReg, among]))
  have hcopy : ∀ (u : State) (off i : Nat) (l : List Byte), Within noticeFields reportReg u ((u.storeWr off l).setStoreFlag i true) := fun u off i l =>
    (u.storeWr_report off l).trans (State.storeWr_report _ _ _)
  unfold State.logRec
  dsimp only
  split
  · exact hlog
  · exact ((hlog.trans (State.evt_within _ _).toReport).ite ((hcopy _ _ _ _).trans (State.evt_within _ _).toReport)).ite (hcopy _ _ _ _)

/-! ### The panel driver's next work (R361 to R371) -/

theorem State.idleRun_panel (s : State) (busy : Bool) (src : Option Nat) : Within noticeFields reportReg s (s.idleRun panelPage busy src) := by
  have h : ∀ v, Within noticeFields reportReg s (s.toState panelPage v src) := fun v =>
    (s.toState_within panelPage v src).mono (by decide) fun a ha => by
      rcases Bool.or_eq_true_iff.mp ha with ha | ha
      · simp [reportReg, ha]
      · simp [reportReg, among, beq_iff_eq.mp ha]
  unfold State.idleRun
  split
  · exact h _
  · split
    · exact h _
    · exact .refl s

/-- A run of the driver starts, on a state whose driver has taken its cause off the list. -/
theorem State.startRun_report (s : State) (v : Svc) (kind : PanelKind) (image : List Byte) (todo : List Nat) :
    Within noticeFields reportReg s (({ s with svc := v } : State).startRun kind image todo) :=
  ((s.withSvc_report v).trans (State.withSvc_report _ _)).trans (State.idleRun_panel _ _ _)

theorem State.startUpdate_report (s : State) (v : Svc) (image : List Byte) :
    Within noticeFields reportReg s (({ s with svc := v } : State).startUpdate image) := by
  have hstatus : ∀ u : State, Within noticeFields reportReg u (u.wf Reg.SVC_PANEL_STATUS 13 8 0) := fun u =>
    (u.wf_within _ _ _ _).mono (by decide) (by simp [reportReg, among])
  exact ((((s.withSvc_report v).trans (State.storeWr_report _ _ _)).trans (State.storeWr_report _ _ _)).trans (hstatus _)).trans (State.startRun_report _ _ _ _ _)

theorem State.panelKick_report (s : State) : Within noticeFields reportReg s s.panelKick := by
  unfold State.panelKick
  split
  · exact .refl s
  split
  · split
    · exact s.startUpdate_report _ _
    · exact .refl s
  split
  · exact .refl s
  split
  · exact s.startUpdate_report _ _
  split
  · exact s.startRun_report _ _ _ _
  split
  · exact s.startRun_report _ _ _ _
  split
  · exact s.startRun_report _ _ _ _
  · exact .refl s

/-! ### The report of a fault, seen from a table unit -/

/-- `t` is `s` after steps of the collector, seen from table unit `k`: no pending bit clears, the unit's banks stand, and a waiting repair waits. -/
structure State.Reported (k : TabKind) (s t : State) : Prop where
  within : Within (k.fld :: noticeFields) fenceReg s t
  pending : ∀ src < 512, s.fltPending src = true → t.fltPending src = true
  banks : ∀ i, t.bank k i = s.bank k i
  repair : (s.tab k).repair = .waiting → (t.tab k).repair = .waiting

section
variable {k : TabKind} {s t u : State}

theorem State.Reported.trans (h : s.Reported k t) (g : t.Reported k u) : s.Reported k u :=
  ⟨h.within.trans g.within, fun src hs hp => g.pending src hs (h.pending src hs hp), fun i => (g.banks i).trans (h.banks i), fun hr => g.repair (h.repair hr)⟩

/-- A step that writes none of the pending bits and leaves the unit's field alone. -/
theorem Within.reported (h : Within noticeFields reportReg s t) : s.Reported k t := by
  refine ⟨h.mono (fun _ hf => List.mem_cons_of_mem _ hf) fun a => fenceReg_of_reportReg, fun src hs hp => ?_, h.bank k.fld_other.2.2, fun hr => ?_⟩
  · exact (h.rb (reportReg_pend hs) _).trans hp
  · rw [h.tab k.fld_other.2.2, hr]

theorem State.Reported.refl : s.Reported k s := Within.reported (.refl s)

end

/-- A record sets the pending bit of its source. -/
theorem State.noteRec_pending (s : State) (r : FRec) : (s.noteRec r).fltPending r.rep.src = true := by
  rw [State.noteRec, State.setPending, State.fltPending]
  exact (State.rb_wb_same _ _ (Nat.mod_lt _ (by decide)) _ _).trans (if_pos rfl)

theorem State.noteRec_reported (s : State) (k : TabKind) {r : FRec} (h : r.rep.src < 512) : s.Reported k (s.noteRec r) := by
  have hw : Within [.regs, .flt] (fun a => a == Reg.FLT_PEND (r.rep.src / 32)) s (s.noteRec r) := by
    rw [State.noteRec, State.setPending]
    refine Within.trans ?_ ((State.wb_within _ _ _ _).widen (by decide))
    exact .of_same (fun f => by cases f <;> first | (left; decide) | (right; rfl)) rfl
  have hother : k.fld ∉ [Fld.regs, Fld.flt] := by cases k <;> decide
  refine ⟨hw.mono (by cases k <;> decide) fun a ha => ?_, fun src _ hp => ?_, hw.bank hother, fun hr => by rw [hw.tab hother, hr]⟩
  · rw [beq_iff_eq.mp ha]
    simp [fenceReg, finPend _ h]
  · by_cases hreg : Reg.FLT_PEND (src / 32) = Reg.FLT_PEND (r.rep.src / 32)
    · have hset : (s.noteRec r).rb (Reg.FLT_PEND (r.rep.src / 32)) (src % 32) =
          if r.rep.src % 32 = src % 32 then true else s.rb (Reg.FLT_PEND (r.rep.src / 32)) (src % 32) := by
        rw [State.noteRec, State.setPending]
        exact State.rb_wb_same _ _ (Nat.mod_lt _ (by decide)) _ _
      rw [State.fltPending] at hp ⊢
      rw [hreg] at hp ⊢
      rw [hset, hp, ite_self]
    · exact (hw.rb (by simpa using hreg) _).trans hp

/-! ### One report (R333) -/

/-- The judgement of a report that is of class NOTICE or FENCE and against no sub-array: a record of its class; for class FENCE always one. -/
theorem State.judge_single (s : State) (ws : List Window) {r : Report} {c : Nat} (hc : baseClass r.src = some c) (h02 : c = 0 ∨ c = 2) (hne : r.src ≠ 133) :
    ∃ u o, s.judge ws r = (u, o) ∧ Within noticeFields reportReg s u ∧ (∀ x, o = some x → x.rep = r ∧ x.cls = c ∧ x.lasting = false) ∧ (c = 2 → o ≠ none) := by
  have h133 : (r.src == 133) = false := by simpa using hne
  have hnot : ¬ c = 1 ∧ ¬ c = 3 := by omega
  have hone : (c == 1) = false := by simpa using hnot.1
  have hraise := s.setFltSrc_report r.src { s.fltSrc r.src with raises := satAdd 16 (s.fltSrc r.src).raises 1 }
  have hrec : ∀ (kind : Nat) (inw : Bool) (act seq n : Nat) (x : FRec), some (⟨r, c, kind, false, inw, act, seq, n⟩ : FRec) = some x →
      x.rep = r ∧ x.cls = c ∧ x.lasting = false := by
    rintro kind inw act seq n x ⟨⟩
    exact ⟨rfl, rfl, rfl⟩
  unfold State.judge
  simp only [hc, h133, hone, State.when, Bool.false_eq_true, if_false, hnot.1, hnot.2]
  cases srcLoc fltRanges r.src
  all_goals
    dsimp only at hraise ⊢
    generalize s.setFltSrc r.src _ = m at hraise ⊢
    split
    · split
      · rename_i hpend
        exact ⟨m, none, rfl, hraise, by simp, fun h2 => by simp [h2] at hpend⟩
      · exact ⟨_, _, rfl, hraise.trans (m.absorb_report _), hrec _ _ _ _ _, by simp⟩
    · split
      · rename_i hpend
        exact ⟨m, none, rfl, hraise, by simp, fun h2 => by simp [h2] at hpend⟩
      · exact ⟨m, _, rfl, hraise, hrec _ _ _ _ _, by simp⟩

/-- The state before the record of a single report, and the record's way from there: the reaction, the pending bit, the log. -/
theorem State.raiseGroup_single (s : State) (react : React) {r : Report} {c : Nat} (hc : baseClass r.src = some c) (h02 : c = 0 ∨ c = 2) (hne : r.src ≠ 133) :
    ∃ v, Within noticeFields reportReg s v ∧ (c ≠ 2 ∧ (s.raiseGroup react [r]).1 = v ∨
      ∃ y : FRec, y.rep = r ∧ y.cls = c ∧ y.lasting = false ∧ (s.raiseGroup react [r]).1 =
        ((v.reactRec react y).1.noteRec (v.reactRec react y).2.1).logRec (v.reactRec react y).2.1) := by
  obtain ⟨u, o, hj, hu, hx, hsome⟩ := s.judge_single s.flt.windows hc h02 hne
  have hstore : ∀ (b : Bool) l, Within noticeFields reportReg s (if b then u.storeWr 0x140 l else u) := fun b l => by
    split
    · exact hu.trans (u.storeWr_report _ _)
    · exact hu
  unfold State.raiseGroup
  simp only [List.foldl_cons, List.foldl_nil, List.nil_append, hj]
  cases o with
  | none => exact ⟨u, hu, .inl ⟨fun h2 => hsome h2 rfl, rfl⟩⟩
  | some x =>
    obtain ⟨hrep, hcls, hlast⟩ := hx x rfl
    refine ⟨_, hstore _ _, .inr ⟨if x.kind = 2 then x else { x with seq := nextSeq u.fltSeq, kind := 0 }, ?_, ?_, ?_, rfl⟩⟩
    · rw [← hrep]; split <;> rfl
    · rw [← hcls]; split <;> rfl
    · rw [← hlast]; split <;> rfl

/-- A record of class NOTICE takes no reaction (R331). -/
theorem State.reactRec_notice (s : State) (react : React) {y : FRec} (h : y.cls = 0) : s.reactRec react y = (s, y, false) := by
  simp [State.reactRec, h, s.unitDetail_notice h]

/-- A report of class NOTICE, seen from a table unit. -/
theorem State.raiseGroup_reported (s : State) (k : TabKind) (react : React) {r : Report} (hc : baseClass r.src = some 0) :
    s.Reported k (s.raiseGroup react [r]).1 := by
  have hne : r.src ≠ 133 := fun h => by rw [h] at hc; revert hc; decide
  obtain ⟨v, hv, ⟨-, h⟩ | ⟨y, hrep, hcls, -, h⟩⟩ := s.raiseGroup_single react hc (.inl rfl) hne
  · rw [h]; exact hv.reported
  · rw [h, v.reactRec_notice react hcls]
    exact (hv.reported.trans (v.noteRec_reported k (by rw [hrep]; exact notice_lt hc))).trans (State.logRec_report _ _).reported

/-! ### The reaction on an active bank (R62, R342) -/

/-- The unit that a table unit's active bank is, in the sense of R342. -/
def TabKind.unit : TabKind → FUnit
  | .geo => .geoBank
  | .ton => .tonBank

/-- The sources of damage in an active bank are of class FENCE, against the bank, which has no page. -/
theorem TabKind.fltActive_bank (k : TabKind) : baseClass k.fltActive = some 2 ∧ srcDetector k.fltActive = some k.unit ∧ unitPage k.unit = none ∧
    k.fltActive < 512 ∧ k.fltActive ≠ 133 := by
  cases k <;> decide

theorem State.bankFault_reported (s : State) (k : TabKind) : s.Reported k (s.bankFault k) := by
  unfold State.bankFault
  split
  · rename_i hc
    have hw := (s.setRepair_within k .waiting (q := fenceReg)).widen (m := k.fld :: noticeFields) (by simp)
    refine ⟨hw, fun src _ hp => ?_, fun i => ?_, fun _ => ?_⟩
    · exact ((s.setRepair_within k .waiting (q := fun _ => false)).rb rfl _).trans hp
    · rw [State.bank, State.tab_setRepair]; rfl
    · rw [State.tab_setRepair]
  · exact .refl

/-- The bank of a unit reacts: it is marked not switched since, and a repair waits where AUTO asks for one. -/
theorem fenceUnit_bank (k : TabKind) (lasting : Bool) (s : State) : s.Reported k (fenceUnit lasting k.unit s).1 := by
  cases k with
  | geo =>
    unfold fenceUnit TabKind.unit
    dsimp only
    split
    · exact .refl
    · refine State.Reported.trans ?_ (State.bankFault_reported _ .geo)
      exact (s.withFlt_report _).reported
  | ton =>
    unfold fenceUnit TabKind.unit
    dsimp only
    split
    · exact .refl
    · refine State.Reported.trans ?_ (State.bankFault_reported _ .ton)
      exact (s.withFlt_report _).reported

/-- The reaction of a record against the active bank keeps what the report keeps, and leaves the record's source. -/
theorem State.reactRec_bank (s : State) (k : TabKind) {y : FRec} (hsrc : y.rep.src = k.fltActive) (hcls : y.cls = 2) (hlast : y.lasting = false) :
    s.Reported k (s.reactRec fenceUnit y).1 ∧ (s.reactRec fenceUnit y).2.1.rep.src = k.fltActive := by
  obtain ⟨hbase, hdet, hpage, -, hne⟩ := k.fltActive_bank
  have hunit : srcUnit y.rep = some k.unit := by simp only [srcUnit, hsrc, if_neg hne, hbase, if_pos, hdet]
  have hdetail : s.unitDetail y = y := by simp [State.unitDetail, hunit, hpage]
  have hreact := fenceUnit_bank k false s
  have h23 : ¬ (2 : Nat) = 3 := by decide
  unfold State.reactRec
  simp only [hcls, hlast, hunit, hdetail, State.when, h23, Bool.false_eq_true, if_false, if_true]
  split
  · exact ⟨.refl, hsrc⟩
  · split
    · exact ⟨hreact.trans (State.openWindow_report _ _ _).reported, hsrc⟩
    · exact ⟨hreact, hsrc⟩

/-- The report of an active bank's fault: its pending bit is set. -/
theorem State.raiseGroup_bank (s : State) (k : TabKind) {r : Report} (hr : r.src = k.fltActive) :
    s.Reported k (s.raiseGroup fenceUnit [r]).1 ∧ (s.raiseGroup fenceUnit [r]).1.fltPending k.fltActive = true := by
  obtain ⟨hbase, -, -, hlt, hne⟩ := k.fltActive_bank
  obtain ⟨v, hv, ⟨h2, -⟩ | ⟨y, hrep, hcls, hlast, h⟩⟩ := s.raiseGroup_single fenceUnit (hr ▸ hbase) (.inr rfl) (hr ▸ hne)
  · exact absurd rfl h2
  obtain ⟨hreact, hsrc⟩ := v.reactRec_bank k (by rw [hrep, hr]) hcls hlast
  rw [h]
  generalize v.reactRec fenceUnit y = z at hreact hsrc
  have hnote := z.1.noteRec_reported k (r := z.2.1) (by rw [hsrc]; exact hlt)
  have hlog : (z.1.noteRec z.2.1).Reported k ((z.1.noteRec z.2.1).logRec z.2.1) := (State.logRec_report _ _).reported
  exact ⟨((hv.reported.trans hreact).trans hnote).trans hlog, hlog.pending _ hlt (hsrc ▸ z.1.noteRec_pending z.2.1)⟩

/-- The fault of an active bank, with what follows it: a full window list is reported, and the pair follows its causes. -/
theorem State.raiseWith_bank (s : State) (k : TabKind) {r : Report} (hr : r.src = k.fltActive) :
    s.Reported k (s.raiseWith fenceUnit [r]) ∧ (s.raiseWith fenceUnit [r]).fltPending k.fltActive = true := by
  obtain ⟨-, -, -, hlt, -⟩ := k.fltActive_bank
  obtain ⟨hgroup, hpend⟩ := s.raiseGroup_bank k hr
  unfold State.raiseWith
  generalize s.raiseGroup fenceUnit [r] = z at hgroup hpend
  obtain ⟨u, full⟩ := z
  have hafter : u.Reported k (if full then (u.raiseGroup noReact [⟨478, 0, 0, [], false⟩]).1 else u).pairUpdate := by
    refine State.Reported.trans ?_ (State.pairUpdate_within _).toReport.reported
    split
    · exact u.raiseGroup_reported k noReact (by decide)
    · exact .refl
  exact ⟨hgroup.trans hafter, hafter.pending _ hlt hpend⟩

/-- A fault of an active bank of the device's own (R62): it ends no core clock and no management pair, and the panel may have its fault pixel to drive. -/
theorem State.faultOne_bank (s : State) (k : TabKind) :
    s.Reported k (s.faultOne k.fltActive) ∧ (s.faultOne k.fltActive).fltPending k.fltActive = true := by
  obtain ⟨-, -, -, hlt, hne⟩ := k.fltActive_bank
  have hdetail : s.Reported k (s.detail k.fltActive 0 0).2 := by
    unfold State.detail
    split
    · exact Within.reported (.of_same (fun f => by cases f <;> first | (left; decide) | (right; rfl)) rfl)
    · exact .refl
  unfold State.faultOne
  generalize s.detail k.fltActive 0 0 = d at hdetail ⊢
  obtain ⟨lo, u⟩ := d
  have hnamed : u.nameSubs [⟨k.fltActive, lo, 0, [], false⟩] = ([⟨k.fltActive, lo, 0, [], false⟩], u) := by simp [State.nameSubs, State.nameSub, hne]
  obtain ⟨hraise, hpend⟩ := u.raiseWith_bank k (r := ⟨k.fltActive, lo, 0, [], false⟩) rfl
  simp only [State.fault, hnamed]
  generalize u.raiseWith fenceUnit [⟨k.fltActive, lo, 0, [], false⟩] = v at hraise hpend
  have hcore : v.coreActive = u.coreActive := hraise.within.rf (by decide) 9 8
  have hpairs : v.mgtLost = u.mgtLost := by
    simp only [State.mgtLost, State.mgtState, hraise.within.rf (a := Reg.MGT_PAIR) (by decide)]
  have hkick : v.Reported k v.panelKick := v.panelKick_report.reported
  have hrest : ((v.when (u.coreActive != 2 && v.coreActive == 2) fun s => s.grave 462).when
      (!u.mgtLost && (v.when (u.coreActive != 2 && v.coreActive == 2) fun s => s.grave 462).mgtLost) fun s => s.grave 506) = v := by
    simp only [hcore, bne, Bool.not_and_self, State.when, Bool.false_eq_true, if_false, hpairs]
  rw [hrest]
  exact ⟨(hdetail.trans hraise).trans hkick, hkick.pending _ hlt hpend⟩

end Sys2Proof.Machine

/-! ## Damaged table words and repairs (R62, R151, R152) -/
namespace Sys2Proof.Machine

/-! ### Banks -/

theorem State.tabActive_lt (s : State) (k : TabKind) : s.tabActive k < 2 := Nat.mod_lt _ (by decide)

@[simp] theorem State.bank_setBank_same (s : State) (k : TabKind) (i : Nat) (b : Bank) : (s.setBank k i b).bank k i = b := by
  rw [State.bank, State.setBank, State.tab_setTab]
  by_cases h : i = 0 <;> simp [TabUnit.bank, h]

theorem State.bank_setBank_other (s : State) (k : TabKind) {i j : Nat} (h : i + j = 1) (b : Bank) : (s.setBank k i b).bank k j = s.bank k j := by
  rw [State.bank, State.setBank, State.tab_setTab, State.bank]
  obtain ⟨rfl, rfl⟩ | ⟨rfl, rfl⟩ : i = 0 ∧ j = 1 ∨ i = 1 ∧ j = 0 := by omega
  all_goals simp [TabUnit.bank]

theorem State.repair_setBank (s : State) (k : TabKind) (i : Nat) (b : Bank) : ((s.setBank k i b).tab k).repair = (s.tab k).repair := by
  rw [State.setBank, State.tab_setTab]
  split <;> rfl

@[simp] theorem State.bank_setRepair (s : State) (k : TabKind) (r : Repair) (i : Nat) : (s.setRepair k r).bank k i = s.bank k i := by
  rw [State.bank, State.tab_setRepair]; rfl

/-- A damaged word reads as its nominal value. -/
theorem Bank.word_damaged {k : TabKind} {b : Bank} {t i : Nat} (h : tabKey k t i ∈ b.damaged) : b.word k t i = tabNominal k b.layout i := by
  simp [Bank.word, h]

theorem Bank.trefWord_damaged {b : Bank} (h : trefKey ∈ b.damaged) : b.trefWord = 0 := by
  simp [Bank.trefWord, h]

/-! ### A word of the active bank is found damaged (R62, R151) -/

/-- The key under which word `i` of tile `t` is noted as damaged: T_REF has one of its own. -/
def damageKey (k : TabKind) (t i : Nat) : Nat := if k = .geo ∧ i = 1579 then trefKey else tabKey k t i

/-- The active bank keeps its layout and has the word among its damaged ones, and with AUTO a repair waits. -/
theorem State.tabDamage_noted (s : State) (k : TabKind) (t i : Nat) :
    ((s.tabDamage k t i).bank k (s.tabActive k)).layout = (s.bank k (s.tabActive k)).layout ∧
      damageKey k t i ∈ ((s.tabDamage k t i).bank k (s.tabActive k)).damaged ∧
      (s.rb k.repair 0 = true → (s.tab k).repair = .none → ((s.tabDamage k t i).tab k).repair = .waiting) ∧
      Within [k.fld] (fun _ => false) s (s.tabDamage k t i) := by
  obtain ⟨b, hb⟩ : ∃ b, b = { s.bank k (s.tabActive k) with damaged := insSorted (damageKey k t i) (s.bank k (s.tabActive k)).damaged } := ⟨_, rfl⟩
  have hlay : b.layout = (s.bank k (s.tabActive k)).layout := by rw [hb]
  have hkey : damageKey k t i ∈ b.damaged := by rw [hb]; exact mem_insSorted.mpr (.inl rfl)
  have hset := s.setBank_within k (s.tabActive k) b (q := fun _ => false)
  have hbank := s.bank_setBank_same k (s.tabActive k) b
  have heq : s.tabDamage k t i = if (s.setBank k (s.tabActive k) b).rb k.repair 0 ∧ ((s.setBank k (s.tabActive k) b).tab k).repair = .none
      then (s.setBank k (s.tabActive k) b).setRepair k .waiting else s.setBank k (s.tabActive k) b := by
    rw [hb]; rfl
  rw [hset.rb rfl, s.repair_setBank] at heq
  generalize s.setBank k (s.tabActive k) b = x at hset hbank heq
  by_cases hauto : s.rb k.repair 0 = true ∧ (s.tab k).repair = .none
  · rw [if_pos hauto] at heq
    rw [heq, State.bank_setRepair, State.tab_setRepair, hbank]
    exact ⟨hlay, hkey, fun _ _ => rfl, hset.trans (x.setRepair_within k _)⟩
  · rw [if_neg hauto] at heq
    rw [heq, hbank]
    exact ⟨hlay, hkey, fun ha hn => absurd ⟨ha, hn⟩ hauto, hset⟩

/-- A word of the active bank is uncorrectable: what the fault leaves. -/
theorem State.activeUncorr (s : State) (k : TabKind) (t i : Nat) :
    ∃ u, (s.tabDamage k t i).faultOne k.fltActive = u ∧ (u.bank k (s.tabActive k)).layout = (s.bank k (s.tabActive k)).layout ∧
      damageKey k t i ∈ (u.bank k (s.tabActive k)).damaged ∧ u.fltPending k.fltActive = true ∧
      (s.rb k.repair 0 = true → (s.tab k).repair = .none → (u.tab k).repair = .waiting) ∧ Within (k.fld :: noticeFields) fenceReg s u := by
  obtain ⟨hlay, hdam, hrep, hw⟩ := s.tabDamage_noted k t i
  obtain ⟨hfault, hpend⟩ := (s.tabDamage k t i).faultOne_bank k
  refine ⟨_, rfl, ?_, ?_, hpend, fun ha hn => hfault.repair (hrep ha hn), (hw.mono (by simp) (by simp)).trans hfault.within⟩
  · rw [hfault.banks, hlay]
  · rw [hfault.banks]; exact hdam

/-- GEO_ACTIVE_UNCORR (R62): a word of the map, or T_REF. -/
theorem ends_geoActiveUncorr (t : Fin 6) (w : Fin 1580) (s : State) : Ends (.geoActiveUncorr t w) s fun u =>
    (w.val < 1579 → (u.bank .geo (s.tabActive .geo)).word .geo t w = geoNominal (s.bank .geo (s.tabActive .geo)).layout w) ∧
    (w.val = 1579 → (u.bank .geo (s.tabActive .geo)).trefWord = 0) ∧ u.fltPending 33 = true ∧
    (s.rb Reg.GEO_REPAIR 0 = true → (s.tab .geo).repair = .none → (u.tab .geo).repair = .waiting) ∧ Within (.geo :: noticeFields) fenceReg s u := by
  obtain ⟨u, hu, hlay, hdam, hpend, hrep, hw⟩ := s.activeUncorr .geo t w
  refine ends_of_done (congrArg done hu) ⟨fun hlt => ?_, fun heq => ?_, hpend, hrep, hw.ended (by decide)⟩
  · rw [damageKey, if_neg (by omega)] at hdam
    rw [← hlay]
    exact Bank.word_damaged hdam
  · rw [damageKey, if_pos ⟨rfl, heq⟩] at hdam
    exact Bank.trefWord_damaged hdam

/-- TON_ACTIVE_UNCORR (R151). -/
theorem ends_tonActiveUncorr (t : Fin 6) (w : Fin 8448) (s : State) : Ends (.tonActiveUncorr t w) s fun u =>
    (u.bank .ton (s.tabActive .ton)).word .ton t w = tonNominal w ∧ u.fltPending 141 = true ∧
    (s.rb Reg.TON_REPAIR 0 = true → (s.tab .ton).repair = .none → (u.tab .ton).repair = .waiting) ∧ Within (.ton :: noticeFields) fenceReg s u := by
  obtain ⟨u, hu, -, hdam, hpend, hrep, hw⟩ := s.activeUncorr .ton t w
  rw [damageKey, if_neg (by simp)] at hdam
  exact ends_of_done (congrArg done hu) ⟨Bank.word_damaged hdam, hpend, hrep, hw.ended (by decide)⟩

/-! ### A repair starts (R62) -/

theorem exec_tabRepairStart (k : TabKind) (s : State) : exec (tabRepairStart k) s = done (s.repairStart k) := by cases k <;> rfl

/-- The inactive bank is READY, with identifier 0 and no error shown (R57). -/
theorem State.nextReady (x : State) (k : TabKind) :
    (((x.wr64 k.next 0).setTabState k tabReady).wf k.status 15 8 0).tabState k = 2 ∧
      Within [.regs] (among [k.status, k.next, k.next + 4]) x (((x.wr64 k.next 0).setTabState k tabReady).wf k.status 15 8 0) := by
  constructor
  · rw [State.tabState, State.rf_wf_other _ _ (by decide) (by decide) (by decide) (by decide)]
    exact State.rf_wf_same _ _ (by decide) (by decide) _
  · exact ((((x.wn_within _ _).regs_mono (by simp [among])).trans ((State.wn_within _ _ _).regs_mono (by simp [among]))).trans
      ((State.wf_within _ _ _ _ _).regs_mono (by simp [among]))).trans ((State.wf_within _ _ _ _ _).regs_mono (by simp [among]))

section
variable {s : State} {k : TabKind} (hr : (s.tab k).repair = .waiting) (he : s.enabled k.page = true) (ha : s.tabArmed k = false)
  (hs : s.tabState k = 0 ∨ s.tabState k = 3 ∨ s.tabState k = 4)
include hr he ha hs

/-- A waiting repair whose conditions hold loads the active map's image anew, or makes the nominal bank. -/
theorem State.repairStart_due : s.repairStart k =
    if s.pair64 k.ident = 0 then if (s.tab k).frozen then s
      else ((((((s.setBank k (1 - s.tabActive k) (Bank.nominal (if k = .geo then s.geo.layout else 0))).wr64 k.next 0).setTabState k tabReady).wf k.status 15 8 0).evt
        k.evt).setRepair k .armed).wb k.status 31 true
    else (s.setRepair k .loading).tabStart k (s.addr40 k.lastAddr) (s.rn k.lastLen) (s.rf (k.lastAddr + 4) 18 16) true := by
  have hdue : ¬ ((s.tab k).repair ≠ .waiting ∨ (!s.enabled k.page) = true ∨ s.tabArmed k = true ∨
      (!(s.tabState k == tabIdle || s.tabState k == tabFailed || s.tabState k == tabCancelled)) = true) := by
    rcases hs with hs | hs | hs <;> simp [hr, he, ha, hs]
  unfold State.repairStart
  exact if_neg hdue

/-- A repair of a map with an identifier loads its image again, under the rights of the party that loaded it. -/
theorem ends_repairLoad (hid : s.pair64 k.ident ≠ 0) : Ends (tabRepairStart k) s fun u =>
    u.tabState k = 1 ∧ (u.tab k).repair = .loading ∧
    (∃ ld, (u.tab k).load = some ld ∧ ld.addr = s.addr40 k.lastAddr ∧ ld.len = s.rn k.lastLen ∧ ld.repair = true) ∧
    (∀ i, u.bank k i = s.bank k i) ∧ Within [.regs, .hif, .geo, .ton] (among [k.status, Reg.PAGE_STATUS k.page]) s u := by
  have hparty : s.rf (k.lastAddr + 4) 18 16 < 8 := Nat.mod_lt _ (by decide)
  have hload := (s.setRepair k .loading).tabStart_started k (s.addr40 k.lastAddr) (s.rn k.lastLen) hparty true
  have heq := (exec_tabRepairStart k s).trans (congrArg done ((State.repairStart_due hr he ha hs).trans (if_neg hid)))
  generalize (s.setRepair k .loading).tabStart k (s.addr40 k.lastAddr) (s.rn k.lastLen) (s.rf (k.lastAddr + 4) 18 16) true = u at hload heq
  have hrepair : (u.tab k).repair = .loading := by rw [hload.unit, State.tab_setRepair]
  have hw : Within [.regs, .hif, .geo, .ton] (among [k.status, Reg.PAGE_STATUS k.page]) s u :=
    ((s.setRepair_within k .loading).widen (by cases k <;> decide)).trans (hload.within.widen (by cases k <;> decide))
  refine ends_of_done heq ⟨hload.state, hrepair, ⟨_, congrArg TabUnit.load hload.unit, rfl, rfl, rfl⟩, fun i => ?_, hw.ended (by decide)⟩
  exact (hload.bank i).trans (s.bank_setRepair k _ i)

/-- A repair of the nominal map makes the inactive bank nominal and arms it. -/
theorem ends_repairNominal (hid : s.pair64 k.ident = 0) (hf : (s.tab k).frozen = false) : Ends (tabRepairStart k) s fun u =>
    u.tabState k = 2 ∧ u.tabArmed k = true ∧ (u.tab k).repair = .armed ∧
    u.bank k (1 - s.tabActive k) = Bank.nominal (if k = .geo then s.geo.layout else 0) ∧ u.bank k (s.tabActive k) = s.bank k (s.tabActive k) ∧
    Within [.regs, .hif, .svc, .sent, .geo, .ton] (fun a => evtReg a || among [k.status, k.next, k.next + 4] a) s u := by
  have heq := (exec_tabRepairStart k s).trans (congrArg done ((State.repairStart_due hr he ha hs).trans ((if_pos hid).trans (if_neg (by simp [hf])))))
  have hset := s.setBank_within k (1 - s.tabActive k) (Bank.nominal (if k = .geo then s.geo.layout else 0)) (q := fun _ => false)
  have hnew := s.bank_setBank_same k (1 - s.tabActive k) (Bank.nominal (if k = .geo then s.geo.layout else 0))
  have hold := s.bank_setBank_other k (i := 1 - s.tabActive k) (j := s.tabActive k) (by have := s.tabActive_lt k; omega)
    (Bank.nominal (if k = .geo then s.geo.layout else 0))
  generalize s.setBank k (1 - s.tabActive k) (Bank.nominal (if k = .geo then s.geo.layout else 0)) = x at heq hset hnew hold
  obtain ⟨hready, hw⟩ := x.nextReady k
  generalize ((x.wr64 k.next 0).setTabState k tabReady).wf k.status 15 8 0 = y at heq hready hw
  have hevt := y.evt_within k.evt
  generalize y.evt k.evt = z at heq hevt
  have hstatus : evtReg k.status = false := by cases k <;> decide
  have hbank : ∀ i, (z.setRepair k .armed).bank k i = x.bank k i := fun i =>
    (z.bank_setRepair k _ i).trans ((hevt.bank k.fld_other.2.1 i).trans (hw.bank k.fld_other.1 i))
  have hstate : (z.setRepair k .armed).tabState k = 2 :=
    (((z.setRepair_within k .armed (q := fun _ => false)).rf rfl 2 0).trans (hevt.rf hstatus 2 0)).trans hready
  have hrepair : ((z.setRepair k .armed).tab k).repair = .armed := by rw [State.tab_setRepair]
  have hall : Within [.regs, .hif, .svc, .sent, .geo, .ton] (fun a => evtReg a || among [k.status, k.next, k.next + 4] a) s
      ((z.setRepair k .armed).wb k.status 31 true) :=
    ((((hset.mono (by cases k <;> decide) (by simp)).trans (hw.mono (by decide) (by simp +contextual))).trans (hevt.mono (by decide) (by simp +contextual))).trans
      ((z.setRepair_within k .armed).widen (by cases k <;> decide))).trans ((State.wb_within _ _ _ _).mono (by decide) (by simp [among]))
  refine ends_of_done heq ⟨?_, ?_, hrepair, ?_, ?_, hall.ended (by decide)⟩
  · exact (State.rf_wb_other _ _ (by decide) (by decide) (by decide) _).trans hstate
  · exact (State.rb_wb_same _ _ (by decide) _ _).trans (if_pos rfl)
  · exact (hbank _).trans hnew
  · exact (hbank _).trans hold

end

/-! ### Words of the inactive GEO bank and of the wear banks (R62, R152) -/

/-- GEO_INACTIVE_UNCORR (R62): the READY bank fails with TABLE_UNCORR. -/
theorem ends_geoInactiveUncorr {s : State} (hs : s.tabState .geo = 2) (ha : s.tabArmed .geo = false) : Ends .geoInactiveUncorr s fun u =>
    u.tabState .geo = 3 ∧ u.rf Reg.GEO_LOAD_STATUS 15 8 = 9 ∧ Within noticeFields (fun a => faultReg a || a == Reg.GEO_LOAD_STATUS) s u := by
  have hfailed : ((s.setTabState .geo 3).wf Reg.GEO_LOAD_STATUS 15 8 9).tabState .geo = 3 :=
    (State.rf_wf_other _ _ (by decide) (by decide) (by decide) (by decide) _).trans (State.rf_wf_same _ _ (by decide) (by decide) _)
  have herror : ((s.setTabState .geo 3).wf Reg.GEO_LOAD_STATUS 15 8 9).rf Reg.GEO_LOAD_STATUS 15 8 = 9 := State.rf_wf_same _ _ (by decide) (by decide) _
  have harmed : ((s.setTabState .geo 3).wf Reg.GEO_LOAD_STATUS 15 8 9).tabArmed .geo = false :=
    ((State.rb_wf_other _ _ (by decide) (by decide) (by decide) _).trans (State.rb_wf_other _ _ (by decide) (by decide) (by decide) _)).trans ha
  have hw : Within [.regs] (fun a => a == Reg.GEO_LOAD_STATUS) s ((s.setTabState .geo 3).wf Reg.GEO_LOAD_STATUS 15 8 9) :=
    (s.wf_within _ _ _ _).trans (State.wf_within _ _ _ _ _)
  have heq : s.tabInactive .geo = ((((s.setTabState .geo 3).wf Reg.GEO_LOAD_STATUS 15 8 9).evt 353).when
      (((s.setTabState .geo 3).wf Reg.GEO_LOAD_STATUS 15 8 9).evt 353 |>.tabArmed .geo) (·.tabMissed .geo)).notice 36 := if_pos hs
  generalize (s.setTabState .geo 3).wf Reg.GEO_LOAD_STATUS 15 8 9 = x at hfailed herror harmed hw heq
  have hevt := x.evt_within 353
  have harmed' : (x.evt 353).tabArmed .geo = false := (hevt.rb (by decide) 31).trans harmed
  rw [harmed', State.when, if_neg (by decide)] at heq
  have hafter : Within noticeFields faultReg x (s.tabInactive .geo) := by
    rw [heq]
    exact hevt.toNotice.trans (State.notice_within _ _ _ _ _ (by decide) (by decide))
  refine ends_of_done (t := s.tabInactive .geo) rfl ⟨?_, ?_, ?_⟩
  · exact (hafter.rf (by decide) 2 0).trans hfailed
  · exact (hafter.rf (by decide) 15 8).trans herror
  · exact ((hw.mono (by decide) (by simp)).trans (hafter.regs_mono (by simp +contextual))).ended (by decide)

@[simp] theorem State.wearBank_setWear_same (s : State) (i : Nat) (w : List (Nat × Nat)) : (s.setWear i w).wearBank i = w := by
  by_cases h : i = 0 <;> simp [State.setWear, State.wearBank, h]

theorem State.wearBank_setWear_other (s : State) {i j : Nat} (h : i + j = 1) (w : List (Nat × Nat)) : (s.setWear i w).wearBank j = s.wearBank j := by
  obtain ⟨rfl, rfl⟩ | ⟨rfl, rfl⟩ : i = 0 ∧ j = 1 ∨ i = 1 ∧ j = 0 := by omega
  all_goals simp [State.setWear, State.wearBank]

theorem State.setWear_within (s : State) (i : Nat) (w : List (Nat × Nat)) {q : Nat → Bool} : Within [.ton] q s (s.setWear i w) := by
  unfold State.setWear
  split <;> exact .of_same (fun f => by cases f <;> first | (left; decide) | (right; rfl)) rfl

/-- A frame that leaves TON out leaves the wear banks as they are. -/
theorem Within.wearBank {l : List Fld} {q : Nat → Bool} {s t : State} (h : Within l q s t) (hl : Fld.ton ∉ l) (i : Nat) : t.wearBank i = s.wearBank i := by
  rw [State.wearBank, (h.1 .ton).resolve_left hl, State.wearBank]

/-- TON_WEAR_UNCORR (R152): the word leaves its bank's grid, so that it reads as 0x8000. -/
theorem ends_tonWearUncorr (other : Bool) (t : Fin 6) (w : Fin 4305) (s : State) (b : Nat) (hb : b = (if other then 1 - s.wearActive else s.wearActive)) :
    Ends (.tonWearUncorr other t w) s fun u =>
      Sparse.get wearDefault (u.wearBank b) (t.val * 4305 + w.val) = 0x8000 ∧
      (∀ i, i ≠ t.val * 4305 + w.val → Sparse.get wearDefault (u.wearBank b) i = Sparse.get wearDefault (s.wearBank b) i) ∧
      (∀ i, Sparse.get wearDefault (u.wearBank (1 - b)) i = Sparse.get wearDefault (s.wearBank (1 - b)) i) ∧
      Within (.ton :: noticeFields) faultReg s u := by
  have hlt : s.wearActive < 2 := Nat.mod_lt _ (by decide)
  have hone : b + (1 - b) = 1 := by rw [hb]; split <;> omega
  have heq : s.wearUncorr other t w = (s.setWear b (Sparse.erase (t * 4305 + w) (s.wearBank b))).notice 144 := by rw [hb]; rfl
  have hset := s.setWear_within b (Sparse.erase (t * 4305 + w) (s.wearBank b)) (q := faultReg)
  have hsame := s.wearBank_setWear_same b (Sparse.erase (t * 4305 + w) (s.wearBank b))
  have hother := s.wearBank_setWear_other hone (Sparse.erase (t * 4305 + w) (s.wearBank b))
  generalize s.setWear b (Sparse.erase (t * 4305 + w) (s.wearBank b)) = x at heq hset hsame hother
  have hnote := x.notice_within 144 0 0 [] (by decide) (by decide)
  rw [← heq] at hnote
  have hbank : (s.wearUncorr other t w).wearBank b = Sparse.erase (t * 4305 + w) (s.wearBank b) := (hnote.wearBank (by decide) b).trans hsame
  have hrest : (s.wearUncorr other t w).wearBank (1 - b) = s.wearBank (1 - b) := (hnote.wearBank (by decide) (1 - b)).trans hother
  have hw : Within (.ton :: noticeFields) faultReg s (s.wearUncorr other t w) := (hset.widen (by simp)).trans (hnote.widen (by simp +contextual))
  refine ends_of_done (t := s.wearUncorr other t w) rfl ?_
  generalize s.wearUncorr other t w = u at hbank hrest hw
  refine ⟨?_, fun i hi => ?_, fun i => ?_, hw.ended (by decide)⟩
  · exact (congrArg (Sparse.get wearDefault · _) hbank).trans ((Sparse.get_erase _ _ _ _).trans (if_pos rfl))
  · exact (congrArg (Sparse.get wearDefault · i) hbank).trans ((Sparse.get_erase _ _ _ _).trans (if_neg hi.symm))
  · exact congrArg (Sparse.get wearDefault · i) hrest

/-- Settles O26, command by command. -/
theorem tableWordsFail : Obligations.TableWordsFail := by
  unfold Obligations.TableWordsFail
  intro s
  exact ⟨fun t w => ends_geoActiveUncorr t w s, fun t w => ends_tonActiveUncorr t w s,
    fun k hr he ha hs => ⟨ends_repairLoad hr he ha hs, ends_repairNominal hr he ha hs⟩, ends_geoInactiveUncorr,
    fun other t w b hb => ends_tonWearUncorr other t w s b hb⟩

end Sys2Proof.Machine

/-! # Layers and Slates (spec/04_layers_and_slates.md, with R67, R119 to R123)

## A statement that fails on states outside its intent (R6, R67) -/
namespace Sys2Proof.Machine

/-! ### Reserved bits of the high word of an address

R6 has a write ignore reserved bits, so `storedWord` keeps what a register holds there. The statement has the high word of a shadow address read exactly
bits [7:0] of the value written, and asks nothing of what its reserved bits [31:8] held before. -/

/-- The state after reset, but with the reserved bit 8 of SL_ADDR_HI of layer 0 set. -/
def reservedAddress : State := State.reset.wr (lyrPage 0 + 0x44) 0x100

theorem reservedAddress_allowed : Allowed reservedAddress .mgt (lyrPage 0 + 0x44) 0 := by decide +kernel

/-- A write of 0 clears bits [7:0], and bit 8 stays. -/
theorem reservedAddress_written :
    (reservedAddress.writeReg .mgt (lyrPage 0 + 0x44) 0 fun _ _ s => s.slateWritten 0).endCycle.shadow 0 1 = 0x100 := by decide +kernel

/-- Refutes O31: SLATE_WRITE of word 1 of layer 0 with the value 0, in a state whose register holds a reserved bit, leaves the shadow word at 0x100. -/
theorem not_fencesTakesSlates : ¬ Obligations.FencesTakesSlates := by
  unfold Obligations.FencesTakesSlates
  intro h
  obtain ⟨-, -, -, -, -, -, hhigh⟩ := h .mgt 0 reservedAddress
  obtain ⟨-, hshadow, -⟩ := (hhigh 0 reservedAddress_allowed).of_done rfl
  exact absurd (reservedAddress_written.symm.trans hshadow) (by decide)

end Sys2Proof.Machine

/-! ## Fills of the Reel (R94 to R96, R126) -/
namespace Sys2Proof.Machine

/-- A change of synthesis alone. -/
theorem State.withSyn_within (s : State) (v : Syn) {q : Nat → Bool} : Within [.syn] q s { s with syn := v } :=
  .of_same (fun f => by cases f <;> first | (left; decide) | (right; rfl)) rfl

theorem Within.syn {l : List Fld} {q : Nat → Bool} {s t : State} (h : Within l q s t) (hl : Fld.syn ∉ l) : t.syn = s.syn := (h.1 .syn).resolve_left hl

/-! ### ROW cues of frames that have none (R126) -/

theorem State.each_same {n : Nat} {f : Nat → State → State} {s : State} (h : ∀ i < n, ∀ u, f i u = u) : s.each n f = s := by
  induction n with
  | zero => rfl
  | succ n ih => rw [State.each, h n (by omega), ih fun i hi => h i (by omega)]

theorem State.eachOf_same {α : Type} {l : List α} {f : α → State → State} {s : State} (h : ∀ x ∈ l, ∀ u, f x u = u) : s.eachOf l f = s :=
  List.foldlRecOn (motive := fun u => u = s) l _ rfl fun u hu x hx => (h x hx u).trans hu

/-- Where no frame has a cue line in mode ROW, none fires. -/
theorem State.rowCues_none {s : State} (h : ∀ g ∈ s.syn.frames, ∀ c < 4, nth none g.rows c = none) : s.rowCues = s := by
  refine State.eachOf_same fun g hg u => State.each_same fun c hc v => ?_
  rw [h g hg c hc]
  cases v.syn.frames.find? fun x => decide (x.num = g.num) <;> rfl

/-! ### The first fill of a frame (R94, R96) -/

/-- The window of one band fits the rings of row buffers. -/
theorem windowRows_le (lay b : Nat) : (windowRows lay b).2 + 1 - (windowRows lay b).1 ≤ 93 := by
  simp only [windowRows, bandRows]
  omega

/-- The fill of a lone frame's first band, where nothing of the Reel is there to be kept. -/
theorem State.band0Fill_alone {s : State} {f : Frame} (hf : s.syn.frames = [f]) (hfill : f.filled = 0) (hb : f.bands ≠ []) :
    s.band0Fill = { s with syn := { s.syn with
      frames := [{ f with filled := 1 }]
      fills := s.syn.fills ++ f.rowsToFill 0 (windowRows f.layout (f.band 0)).1 (windowRows f.layout (f.band 0)).2 (fun _ _ => false) } } := by
  have hlen : 0 < f.bands.length := List.length_pos_iff.mpr hb
  have hroom := windowRows_le f.layout (f.band 0)
  have hagain : (s.syn.spoilt.any fun _ => false) = false := List.any_eq_false.mpr fun _ _ => Bool.false_ne_true
  simp [State.band0Fill, State.issueFill, State.setFrame, hf, hfill, hb, hlen, hroom, hagain]

theorem ends_band0FillStart {s : State} {f : Frame} (hf : s.syn.frames = [f]) (hfill : f.filled = 0) (hb : f.bands ≠ [])
    (hrows : ∀ c < 4, nth none f.rows c = none) : Ends .band0FillStart s fun t =>
      t.syn.frames = [{ f with filled := 1 }] ∧
      t.syn.fills = s.syn.fills ++ f.rowsToFill 0 (windowRows f.layout (f.band 0)).1 (windowRows f.layout (f.band 0)).2 (fun _ _ => false) ∧
      Within [.syn, .hif] (fun _ => false) s t := by
  have hcues : s.band0Fill.rowCues = s.band0Fill := State.rowCues_none <| by
    rw [State.band0Fill_alone hf hfill hb]
    simpa using hrows
  refine ends_of_done (congrArg done (hcues.trans (State.band0Fill_alone hf hfill hb))) ⟨rfl, rfl, ?_⟩
  exact ((s.withSyn_within _).widen (by decide)).ended (by decide)

/-! ### Bursts of a fill (R38, R96, R267) -/

/-- A read within one line is one burst, whatever rights it is under. -/
theorem State.readMem_one (s : State) (port : Option Nat) {a n : Nat} (hn : 1 ≤ n) (ha : a % 64 + n ≤ 64) : s.readMem port a n = s.readBurst port a n := by
  have hlen : min n (lineLeft a) = n := by simp only [lineLeft]; omega
  simp only [State.readMem, State.readBursts, if_neg (show n ≠ 0 by omega), hlen, Nat.sub_self, if_true, List.append_nil, Bool.or_false]

/-- A burst that the requester may read, of a line of good data. -/
theorem State.readBurst_allowed {s : State} {port : Option Nat} {a c la : Nat} (n : Nat) (hallow : s.allowed port a false = true)
    (hloc : s.locate a = some (c, la)) (hgood : s.badLine c la = false) :
    s.readBurst port a n = ((s.rouse c la).countBytes c n false, ⟨(List.range n).map fun i => s.byteAt c (la + i), false, false⟩) := by
  simp only [State.readBurst, hallow, hloc, State.badLine_countBytes, State.badLine_rouse, hgood, if_true, Bool.false_eq_true, if_false]

/-- The frame of such a burst: what the channel counts. -/
theorem State.burst_within (s : State) (c la n : Nat) :
    Within [.regs, .dmc] (among [Reg.DMC_CH_RD_BYTES c]) s ((s.rouse c la).countBytes c n false) :=
  ((s.setChan_within c _).widen (by decide)).trans (State.countBytes_read_within _ _ _)

section
variable {s : State} {fr : FillRow} {rest : List FillRow} {f : Frame} {l : FLayer} (hfill : s.syn.fills = fr :: rest)
  (hframe : s.syn.frames.find? (fun x => decide (x.num = fr.frame)) = some f) (hlayer : f.layers.find? (fun x => decide (x.idx = fr.layer)) = some l)
  (hfree : s.bufferBusy f fr = false) (hrows : ∀ g ∈ s.syn.frames, ∀ c < 4, nth none g.rows c = none)
include hfill hframe hlayer hfree hrows

/-- A row of a layer that the Print serves is stored as the Print holds it, with no burst (R220). -/
theorem ends_reelBurstLands_print {r : PrintRow} (hprint : l.print = true) (hrow : l.stored.find? (fun x => decide (x.row = fr.row)) = some r) :
    Ends .reelBurstLands s fun t =>
      t.syn.fills = rest ∧ (⟨fr.frame, fr.layer, fr.row, r.first, r.cells⟩ : ReelRow) ∈ t.syn.reel ∧ Within [.syn, .cmp, .hif] (fun _ => false) s t := by
  have hland : s.burstLands = s.storeRow fr r.first r.cells [] := by
    simp [State.burstLands, hfill, hframe, hlayer, hfree, hprint, hrow]
  have hcapture : Within [.syn, .cmp] (fun _ => false) s (s.captureRow fr r.first r.cells) :=
    .of_same (fun f => by cases f <;> first | (left; decide) | (right; rfl)) rfl
  have hcues : (s.storeRow fr r.first r.cells []).rowCues = s.storeRow fr r.first r.cells [] := State.rowCues_none hrows
  refine ends_of_done (congrArg done ((congrArg State.rowCues hland).trans hcues)) ⟨?_, ?_, ?_⟩
  · exact congrArg (List.drop 1) hfill
  · exact List.mem_append_right _ (List.mem_singleton.mpr rfl)
  · exact ((hcapture.trans ((State.withSyn_within _ _).widen (by decide))).widen (by decide)).ended (by decide)

/-- A burst that is not its line's last adds its pixels to the line, and the row stays the next to fill. -/
theorem ends_reelBurstLands_pixels {y x a c la bpp k : Nat} {ys : List Nat} (hprint : l.print = false) (hsource : l.noSource = false)
    (hneed : (l.sourceRows fr.row).filter (fun y => !s.syn.lines.any fun t => decide (t.row = y)) = y :: ys)
    (hbpp : bpp = pxBytes (nfld (nth 0 l.slate slFormat) 1 0)) (hx : x = l.sourceSpan.1 + s.syn.line.length)
    (ha : a = ((nth 0 l.slate slAddrLo + 2 ^ 32 * nfld (nth 0 l.slate slAddrHi) 7 0) + y * nth 0 l.slate slPitch + x * bpp) % 2 ^ 40)
    (hk : k = min ((64 - a % 64) / bpp) (l.sourceSpan.2 + 1 - x)) (hallow : s.allowed l.port (a - a % 64) false = true)
    (hloc : s.locate (a - a % 64) = some (c, la)) (hgood : s.badLine c la = false)
    (hpart : s.syn.line.length + k < l.sourceSpan.2 + 1 - l.sourceSpan.1) : Ends .reelBurstLands s fun t =>
      t.syn.line = s.syn.line ++ burstPixels ((List.range 64).map fun i => s.byteAt c (la + i)) (a % 64) bpp k false ∧
      t.syn.fills = s.syn.fills ∧ t.syn.reel = s.syn.reel ∧ Within [.syn, .regs, .dmc, .hif] (among [Reg.DMC_CH_RD_BYTES c]) s t := by
  obtain ⟨line, hline⟩ : ∃ line, line = s.syn.line ++ burstPixels ((List.range 64).map fun i => s.byteAt c (la + i)) (a % 64) bpp k false := ⟨_, rfl⟩
  have hlen : line.length ≠ l.sourceSpan.2 + 1 - l.sourceSpan.1 := by
    simp only [hline, burstPixels, List.length_append, List.length_map, List.length_range]
    omega
  have hread : s.readMem l.port (a - a % 64) 64 =
      ((s.rouse c la).countBytes c 64 false, ⟨(List.range 64).map fun i => s.byteAt c (la + i), false, false⟩) :=
    (s.readMem_one _ (by decide) (by omega)).trans (State.readBurst_allowed 64 hallow hloc hgood)
  have hw := s.burst_within c la 64
  generalize (s.rouse c la).countBytes c 64 false = u at hread hw
  have hsyn : u.syn = s.syn := hw.syn (by decide)
  have hland : s.burstLands = { u with syn := { s.syn with line := line } } := by
    simp only [State.burstLands, hfill, List.head?_cons, hframe, hlayer, hfree, hprint, hsource, hneed, Bool.false_eq_true, if_false, ← hx, ← hbpp, ← ha, ← hk,
      hread, hsyn, Bool.or_false, ← hline, if_neg hlen]
  have hcues : ({ u with syn := { s.syn with line := line } } : State).rowCues = { u with syn := { s.syn with line := line } } := State.rowCues_none hrows
  refine ends_of_done (congrArg done ((congrArg State.rowCues hland).trans hcues)) ⟨hline, rfl, rfl, ?_⟩
  exact ((hw.widen (by decide)).trans ((u.withSyn_within _).widen (by decide))).ended (by decide)

end

end Sys2Proof.Machine

/-! ## Uncorrectable words of the staging and of the Reel (R88, R107, R331 to R345) -/
namespace Sys2Proof.Machine

/-! ### A report that makes a record (R333) -/

/-- The way of a single report that the judgement gives a record: the reaction, the pending bit, the log. -/
theorem State.raiseGroup_recorded (s : State) (react : React) {r : Report} {u : State} {x : FRec} (hj : s.judge s.flt.windows r = (u, some x)) :
    ∃ (v : State) (y : FRec), Within noticeFields reportReg u v ∧ y.rep = x.rep ∧ y.cls = x.cls ∧ y.lasting = x.lasting ∧
      (s.raiseGroup react [r]).1 = ((v.reactRec react y).1.noteRec (v.reactRec react y).2.1).logRec (v.reactRec react y).2.1 := by
  have hstore : ∀ (b : Bool) l, Within noticeFields reportReg u (if b then u.storeWr 0x140 l else u) := fun b l => by
    split
    · exact u.storeWr_report _ _
    · exact .refl u
  unfold State.raiseGroup
  simp only [List.foldl_cons, List.foldl_nil, List.nil_append, hj]
  refine ⟨_, if x.kind = 2 then x else { x with seq := nextSeq u.fltSeq, kind := 0 }, hstore _ _, ?_, ?_, ?_, rfl⟩
  · split <;> rfl
  · split <;> rfl
  · split <;> rfl

/-- The steps of a report that come before and after its record write no pending bit. -/
theorem Within.pendingKept {s t : State} (h : Within noticeFields reportReg s t) {src : Nat} (hs : src < 512) : t.fltPending src = s.fltPending src :=
  h.rb (reportReg_pend hs) _

/-- A NOTICE fault whose pending bit is clear is recorded (R331). -/
theorem State.judge_unpending {s : State} (ws : List Window) {r : Report} (hc : baseClass r.src = some 0) (hp : s.fltPending r.src = false) :
    (s.judge ws r).2 ≠ none := by
  have hne := baseClass_notice_ne hc
  have hpend : ∀ v, (s.setFltSrc r.src v).fltPending r.src = false := fun _ => hp
  unfold State.judge
  simp only [hc, hne, State.when, Nat.reduceBEq, Bool.false_eq_true, ↓reduceIte, OfNat.zero_ne_ofNat, decide_true, Bool.true_and]
  cases srcLoc fltRanges r.src <;> dsimp only <;> split <;> simp [hpend]

/-- After a report of class NOTICE its pending bit is set: it was, or its record sets it. -/
theorem State.raiseGroup_pending (s : State) (react : React) {r : Report} (hc : baseClass r.src = some 0) : (s.raiseGroup react [r]).1.fltPending r.src = true := by
  have hlt := notice_lt hc
  by_cases hp : s.fltPending r.src = true
  · exact (s.raiseGroup_reported .geo react hc).pending _ hlt hp
  · obtain ⟨u, o, hj, -, hx, -⟩ := s.judge_single s.flt.windows hc (.inl rfl) (by simpa using baseClass_notice_ne hc)
    cases o with
    | none => exact absurd (congrArg Prod.snd hj) (State.judge_unpending _ hc (Bool.eq_false_iff.mpr hp))
    | some x =>
      obtain ⟨hrep, hcls, -⟩ := hx x rfl
      obtain ⟨v, y, -, hyrep, hycls, -, h⟩ := s.raiseGroup_recorded react hj
      rw [h, v.reactRec_notice react (hycls.trans hcls), (State.logRec_report _ _).pendingKept hlt, ← hrep, ← hyrep]
      exact v.noteRec_pending y

theorem State.notice_pending (s : State) {src : Nat} (lo hi : Word) (os : List FUnit) (hc : baseClass src = some 0) : (s.notice src lo hi os).fltPending src = true :=
  ((State.pairUpdate_within _).toReport.pendingKept (notice_lt hc)).trans (State.raiseGroup_pending _ noReact hc)

/-! ### An uncorrectable word of a layer's staging (R88) -/

/-- Synthesis after pixel `x` of source line `y` is lost, with `fr` the row being filled, of a layer `l` whose lines start at pixel `l.sourceSpan.1`. -/
def Syn.pixelLost (z : Syn) (fr : FillRow) (l : FLayer) (y x : Nat) : Syn :=
  let i := x - l.sourceSpan.1
  let need := (l.sourceRows fr.row).filter fun r => !z.lines.any fun t => t.row = r
  { z with
    lines := z.lines.map fun (t : SrcLine) => if t.row = y then { t with px := upd t.px i none } else t
    line := if need.head? = some y then upd z.line i none else z.line
    spoilt := if z.spoilt.any fun t => t.frame == fr.frame && t.layer == fr.layer && t.band == fr.band then z.spoilt else z.spoilt ++ [fr] }

section
variable (z : Syn) (fr : FillRow) (l : FLayer) (y x : Nat)

/-- A held line with the number of the damaged one has lost the pixel. -/
theorem Syn.pixelLost_lost {q : SrcLine} (hq : q ∈ (z.pixelLost fr l y x).lines) (hy : q.row = y) : nth none q.px (x - l.sourceSpan.1) = none := by
  obtain ⟨t, -, rfl⟩ := List.mem_map.mp hq
  split at hy
  · next h =>
    rw [if_pos h, nth, upd, List.getD_eq_getElem?_getD, List.getElem?_set]
    split_ifs <;> simp_all
  · next h => exact absurd hy h

/-- Every other line stands. -/
theorem Syn.pixelLost_kept {q : SrcLine} (hq : q ∈ z.lines) (hy : q.row ≠ y) : q ∈ (z.pixelLost fr l y x).lines :=
  List.mem_map.mpr ⟨q, hq, if_neg hy⟩

/-- The layer's fill for the band is noted as damaged. -/
theorem Syn.pixelLost_spoilt : ∃ q ∈ (z.pixelLost fr l y x).spoilt, q.frame = fr.frame ∧ q.layer = fr.layer ∧ q.band = fr.band := by
  unfold Syn.pixelLost
  dsimp only
  split
  · next h =>
    obtain ⟨q, hq, hmatch⟩ := List.any_eq_true.mp h
    simp only [Bool.and_eq_true, beq_iff_eq] at hmatch
    exact ⟨q, hq, hmatch.1.1, hmatch.1.2, hmatch.2⟩
  · exact ⟨fr, List.mem_append_right _ (List.mem_singleton.mpr rfl), rfl, rfl, rfl⟩

end

/-- What the damage of a staged pixel does to synthesis before it is reported: where the row being filled is one of the layer, the pixel is lost. -/
theorem State.stagingUncorr_lost (s : State) (n y x : Nat) : ∃ z, s.stagingUncorr n y x = State.notice { s with syn := z } 41 ∧ z.reel = s.syn.reel ∧
    (∀ fr rest f l, s.syn.fills = fr :: rest → s.syn.frames.find? (fun g => decide (g.num = fr.frame)) = some f →
      f.layers.find? (fun g => decide (g.idx = fr.layer)) = some l → fr.layer = n → l.sourceSpan.1 ≤ x → z = s.syn.pixelLost fr l y x) ∧
    ((∀ fr ∈ s.syn.fills.head?, fr.layer ≠ n) → z = s.syn) := by
  cases hfill : s.syn.fills with
  | nil => exact ⟨s.syn, by simp [State.stagingUncorr, hfill], rfl, by simp, fun _ => rfl⟩
  | cons fr rest =>
    cases hfind : (s.syn.frames.find? fun g => decide (g.num = fr.frame)).bind fun f => f.layers.find? fun g => decide (g.idx = fr.layer) with
    | none =>
      refine ⟨s.syn, by simp [State.stagingUncorr, hfill, hfind], rfl, ?_, fun _ => rfl⟩
      rintro _ _ f l ⟨rfl, rfl⟩ hf hl
      simp [hf, hl] at hfind
    | some l =>
      by_cases hout : fr.layer ≠ n ∨ x < l.sourceSpan.1
      · refine ⟨s.syn, by simp [State.stagingUncorr, hfill, hfind, hout], rfl, ?_, fun _ => rfl⟩
        rintro _ _ f l' ⟨rfl, rfl⟩ hf hl hn hx
        simp only [hf, hl, Option.bind_some, Option.some.injEq] at hfind
        subst hfind
        omega
      · obtain ⟨rfl, hx⟩ : fr.layer = n ∧ l.sourceSpan.1 ≤ x := by omega
        refine ⟨s.syn.pixelLost fr l y x, ?_, rfl, ?_, fun h => absurd rfl (h fr rfl)⟩
        · simp only [State.stagingUncorr, Syn.pixelLost, hfill, List.head?_cons, hfind, if_neg hout]
        · rintro _ _ f l' ⟨rfl, rfl⟩ hf hl - -
          simp only [hf, hl, Option.bind_some, Option.some.injEq] at hfind
          rw [hfind]

/-- LYR_SRAM_UNCORR (R88). -/
theorem ends_lyrSramUncorr (n : Fin 40) (y : Fin 16384) (x : Fin 8192) (s : State) : Ends (.lyrSramUncorr n y x) s fun t =>
    t.syn.reel = s.syn.reel ∧ t.fltPending 41 = true ∧
    (∀ fr rest f l, s.syn.fills = fr :: rest → s.syn.frames.find? (fun g => decide (g.num = fr.frame)) = some f →
      f.layers.find? (fun g => decide (g.idx = fr.layer)) = some l → fr.layer = n.val → l.sourceSpan.1 ≤ x.val →
      (∀ q ∈ t.syn.lines, q.row = y.val → nth none q.px (x.val - l.sourceSpan.1) = none) ∧ (∀ q ∈ s.syn.lines, q.row ≠ y.val → q ∈ t.syn.lines) ∧
      (∃ q ∈ t.syn.spoilt, q.frame = fr.frame ∧ q.layer = n.val ∧ q.band = fr.band)) ∧
    ((∀ fr ∈ s.syn.fills.head?, fr.layer ≠ n.val) → t.syn = s.syn) ∧ Within (.syn :: noticeFields) faultReg s t := by
  obtain ⟨z, heq, hreel, hlost, hkept⟩ := s.stagingUncorr_lost n y x
  have hnote := State.notice_within { s with syn := z } 41 0 0 [] (by decide) (by decide)
  have hpend := State.notice_pending { s with syn := z } (src := 41) 0 0 [] (by decide)
  have hw : Within (.syn :: noticeFields) faultReg s (s.stagingUncorr n y x) := by
    rw [heq]
    exact ((s.withSyn_within z).widen (by decide)).trans (hnote.widen (by simp +contextual))
  rw [← heq] at hnote hpend
  have hsyn : (s.stagingUncorr n y x).syn = z := hnote.syn (by decide)
  refine ends_of_done (t := s.stagingUncorr n y x) rfl ⟨?_, hpend, fun fr rest f l hfill hf hl hn hx => ?_, fun h => ?_, hw.ended (by decide)⟩
  · rw [State.endCycle_syn, hsyn, hreel]
  · rw [State.endCycle_syn, hsyn, hlost fr rest f l hfill hf hl hn hx, ← hn]
    exact ⟨fun q => s.syn.pixelLost_lost fr l y x, fun q => s.syn.pixelLost_kept fr l y x, s.syn.pixelLost_spoilt fr l y x⟩
  · rw [State.endCycle_syn, hsyn, hkept h]

/-! ### The fault of a sub-array of the Reel (R107, R342) -/

/-- `t` is `s` after steps of the collector and of its reaction, seen from the Reel: its rows and the frames stand. -/
structure State.ReelKept (s t : State) : Prop where
  within : Within (.syn :: noticeFields) fenceReg s t
  reel : t.syn.reel = s.syn.reel
  frames : t.syn.frames = s.syn.frames

theorem State.ReelKept.trans {s t u : State} (h : s.ReelKept t) (g : t.ReelKept u) : s.ReelKept u :=
  ⟨h.within.trans g.within, g.reel.trans h.reel, g.frames.trans h.frames⟩

/-- Steps of the collector do not touch synthesis. -/
theorem Within.reelKept {s t : State} (h : Within noticeFields fenceReg s t) : s.ReelKept t :=
  ⟨h.widen fun _ hf => List.mem_cons_of_mem _ hf, congrArg Syn.reel (h.syn (by decide)), congrArg Syn.frames (h.syn (by decide))⟩

theorem Within.toFence {s t : State} (h : Within noticeFields reportReg s t) : Within noticeFields fenceReg s t := h.regs_mono fun _ => fenceReg_of_reportReg

/-- The registers of a NOTICE fault are among those of any. -/
theorem Within.noticeToFence {s t : State} (h : Within noticeFields faultReg s t) : Within noticeFields fenceReg s t :=
  h.regs_mono fun a ha => by simp [fenceReg, ha]

/-- A sub-array at fault waits for its repair, if it does not yet. -/
theorem fenceUnit_subarray (lasting : Bool) (i : Fin 512) (s : State) : s.ReelKept (fenceUnit lasting (.subarray i) s).1 := by
  unfold fenceUnit
  dsimp only
  split
  · exact (Within.refl s).reelKept
  · exact ⟨(s.withSyn_within _).widen (by decide), rfl, rfl⟩

/-- A report of the device's own against sub-array `i` of the Reel. -/
def reelReport (lo : Word) (i : Fin 512) : Report := ⟨133, lo, 0, [.subarray i], false⟩

theorem reelReport_facts (lo : Word) (i : Fin 512) : baseClass 133 = some 2 ∧ srcLoc fltRanges 133 = some (Reg.page 5 0, 1) ∧ srcDetector 133 = none ∧
    srcUnit (reelReport lo i) = some (.subarray i) ∧ subArrayOf (reelReport lo i) = some (.subarray i) := ⟨rfl, rfl, rfl, rfl, rfl⟩

/-- The judgement of such a report always gives a record, of class FENCE. -/
theorem State.judge_reel (s : State) (ws : List Window) (lo : Word) (i : Fin 512) : ∃ u x, s.judge ws (reelReport lo i) = (u, some x) ∧
    Within noticeFields reportReg s u ∧ x.rep = reelReport lo i ∧ x.cls = 2 ∧ x.lasting = false := by
  obtain ⟨hbase, hloc, hdet, hunit, -⟩ := reelReport_facts lo i
  have hsrc : (reelReport lo i).src = 133 := rfl
  have hraise := s.setFltSrc_report 133 { s.fltSrc 133 with raises := satAdd 16 (s.fltSrc 133).raises 1 }
  unfold State.judge
  simp only [hsrc, hbase, hloc, hdet, State.when, Nat.reduceBEq, Nat.reduceEqDiff, Bool.false_eq_true, if_false, if_true]
  dsimp only at hraise
  generalize s.setFltSrc 133 _ = v at hraise ⊢
  have hnamed := hraise.trans (v.withFlt_report { v.flt with subarrays := insSorted i v.flt.subarrays })
  simp only [hunit]
  split
  · exact ⟨_, _, rfl, hnamed.trans (State.absorb_report _ _), rfl, rfl, rfl⟩
  · exact ⟨_, _, rfl, hnamed, rfl, rfl, rfl⟩

/-- The reaction of a record against a sub-array keeps the Reel, and leaves the record's source. -/
theorem State.reactRec_reel (s : State) {y : FRec} {lo : Word} {i : Fin 512} (hrep : y.rep = reelReport lo i) (hcls : y.cls = 2) (hlast : y.lasting = false) :
    s.ReelKept (s.reactRec fenceUnit y).1 ∧ (s.reactRec fenceUnit y).2.1.rep.src = 133 := by
  have hunit : srcUnit y.rep = some (.subarray i) := by rw [hrep]; exact (reelReport_facts lo i).2.2.2.1
  have hsrc : y.rep.src = 133 := by rw [hrep]; rfl
  have hdetail : s.unitDetail y = y := by simp [State.unitDetail, hunit, unitPage]
  have hreact := fenceUnit_subarray false i s
  have h23 : ¬ (2 : Nat) = 3 := by decide
  unfold State.reactRec
  simp only [hcls, hlast, hunit, hdetail, State.when, h23, Bool.false_eq_true, if_false, if_true]
  split
  · exact ⟨(Within.refl s).reelKept, hsrc⟩
  · split
    · exact ⟨hreact.trans (State.openWindow_report _ _ _).toFence.reelKept, hsrc⟩
    · exact ⟨hreact, hsrc⟩

/-- The report of a sub-array's fault: its pending bit is set. -/
theorem State.raiseGroup_reel (s : State) (lo : Word) (i : Fin 512) : s.ReelKept (s.raiseGroup fenceUnit [reelReport lo i]).1 ∧
    (s.raiseGroup fenceUnit [reelReport lo i]).1.fltPending 133 = true := by
  obtain ⟨u, x, hj, hu, hxrep, hxcls, hxlast⟩ := s.judge_reel s.flt.windows lo i
  obtain ⟨v, y, hv, hyrep, hycls, hylast, h⟩ := s.raiseGroup_recorded fenceUnit hj
  obtain ⟨hreact, hsrc⟩ := v.reactRec_reel (hyrep.trans hxrep) (hycls.trans hxcls) (hylast.trans hxlast)
  rw [h]
  generalize v.reactRec fenceUnit y = z at hreact hsrc
  have hnote := z.1.noteRec_within z.2.1 (by rw [hsrc]; decide)
  have hlog := (z.1.noteRec z.2.1).logRec_report z.2.1
  refine ⟨(((hu.trans hv).toFence.reelKept.trans hreact).trans hnote.noticeToFence.reelKept).trans hlog.toFence.reelKept, ?_⟩
  exact (hlog.pendingKept (by decide)).trans (hsrc ▸ z.1.noteRec_pending z.2.1)

/-- The fault of a sub-array, with what follows it: a full window list is reported, and the pair follows its causes. -/
theorem State.raiseWith_reel (s : State) (lo : Word) (i : Fin 512) : s.ReelKept (s.raiseWith fenceUnit [reelReport lo i]) ∧
    (s.raiseWith fenceUnit [reelReport lo i]).fltPending 133 = true := by
  obtain ⟨hgroup, hpend⟩ := s.raiseGroup_reel lo i
  unfold State.raiseWith
  generalize s.raiseGroup fenceUnit [reelReport lo i] = z at hgroup hpend
  obtain ⟨u, full⟩ := z
  obtain ⟨v, hv⟩ : ∃ v, v = if full then (u.raiseGroup noReact [⟨478, 0, 0, [], false⟩]).1 else u := ⟨_, rfl⟩
  have hfull : u.ReelKept v ∧ v.fltPending 133 = true := by
    rw [hv]
    split
    · exact ⟨(u.raiseGroup_notice noReact _ (by decide) (by decide)).noticeToFence.reelKept,
        (u.raiseGroup_reported .geo noReact (by decide)).pending _ (by decide) hpend⟩
    · exact ⟨(Within.refl u).reelKept, hpend⟩
  have hpair := v.pairUpdate_within.toReport
  dsimp only
  rw [← hv]
  exact ⟨(hgroup.trans hfull.1).trans hpair.toFence.reelKept, (hpair.pendingKept (by decide)).trans hfull.2⟩

/-- A fault that leaves the core clock's selection and the management pairs alone ends neither, so no GRAVE fault follows it (R320, R422). -/
theorem State.fault_named {s v : State} {reps : List Report} (hnamed : s.nameSubs reps = (reps, s)) (hv : s.raiseWith fenceUnit reps = v)
    (hcore : v.coreActive = s.coreActive) (hpairs : v.mgtLost = s.mgtLost) : s.fault reps = v.panelKick := by
  simp only [State.fault, hnamed, hv, hcore, bne, Bool.not_and_self, State.when, Bool.false_eq_true, if_false, hpairs]

/-- A fault of the device's own against a sub-array of the Reel (R107): the Reel's rows and the frames stand, and 133 is pending. -/
theorem State.faultOne_reel (s : State) (i : Fin 512) : s.ReelKept (s.faultOne 133 0 0 [.subarray i]) ∧ (s.faultOne 133 0 0 [.subarray i]).fltPending 133 = true := by
  have hdetail := (s.detail_within 133 0 0).noticeToFence.reelKept
  unfold State.faultOne
  generalize s.detail 133 0 0 = d at hdetail ⊢
  obtain ⟨lo, u⟩ := d
  have hnamed : u.nameSubs [reelReport lo i] = ([reelReport lo i], u) := by simp [State.nameSubs, State.nameSub, (reelReport_facts lo i).2.2.2.2]
  obtain ⟨hraise, hpend⟩ := u.raiseWith_reel lo i
  have hpairs : (u.raiseWith fenceUnit [reelReport lo i]).mgtLost = u.mgtLost := by
    simp only [State.mgtLost, State.mgtState, hraise.within.rf (a := Reg.MGT_PAIR) (by decide)]
  have hfault := State.fault_named hnamed rfl (hraise.within.rf (by decide) 9 8) hpairs
  have hkick := (u.raiseWith fenceUnit [reelReport lo i]).panelKick_report
  change s.ReelKept (u.fault [reelReport lo i]) ∧ (u.fault [reelReport lo i]).fltPending 133 = true
  rw [hfault]
  exact ⟨(hdetail.trans hraise).trans hkick.toFence.reelKept, (hkick.pendingKept (by decide)).trans hpend⟩

/-! ### An uncorrectable word of the Reel (R107) -/

/-- The damage of a cell does not change which cells a row holds. -/
theorem State.rowHolds_rowDamage (s : State) (slot buf c : Nat) (r : ReelRow) : s.rowHolds slot buf c (s.rowDamage slot buf c r) = s.rowHolds slot buf c r := by
  unfold State.rowDamage
  split <;> rfl

theorem State.rowDamage_cells {s : State} {slot buf c : Nat} {r : ReelRow} (h : s.rowHolds slot buf c r = true) :
    nth none (s.rowDamage slot buf c r).cells ((c : Int) - 32 - (s.rowDamage slot buf c r).first).toNat = none := by
  simp only [State.rowDamage, if_pos h, nth, upd, List.getD_eq_getElem?_getD, List.getElem?_set]
  split_ifs <;> simp_all

theorem State.stagedDamage_reel (s : State) (v half row c : Nat) : Within [.syn, .freeCtr] (fun _ => false) s (s.stagedDamage v half row c) ∧
    (s.stagedDamage v half row c).syn.reel = s.syn.reel := by
  have hfree : Within [.syn, .freeCtr] (fun _ => false) s (s.free 30).2 :=
    .of_same (fun f => by cases f <;> first | (left; decide) | (right; rfl)) rfl
  exact List.foldlRecOn (motive := fun u => Within [.syn, .freeCtr] (fun _ => false) s u ∧ u.syn.reel = s.syn.reel) _ _ ⟨hfree, rfl⟩
    fun u hu f _ => ⟨hu.1.trans ((u.withSyn_within _).widen (by decide)), hu.2⟩

/-- REEL_UNCORR (R107), from what the damage alone changes: the fault that follows keeps the rows and the frames. -/
theorem ends_reelUncorr {s d : State} {w : ReelPlace} {P : State → Prop} (hd : s.reelUncorr w = d.faultOne 133 0 0 [.subarray (finOf 512 (by decide) (reelSub w))])
    (hw : Within [.syn, .freeCtr] (fun _ => false) s d) (hP : ∀ t : State, t.syn.reel = d.syn.reel → t.syn.frames = d.syn.frames → P t) :
    Ends (.reelUncorr w) s fun t => t.fltPending 133 = true ∧ Within (.syn :: noticeFields) fenceReg s t ∧ P t := by
  obtain ⟨hkept, hpend⟩ := d.faultOne_reel (finOf 512 (by decide) (reelSub w))
  refine ends_of_done (congrArg done hd) ⟨hpend, ?_, hP _ hkept.reel hkept.frames⟩
  exact ((hw.mono (by decide) (by simp)).trans hkept.within).ended (by decide)

/-- Settles O32, command by command; the damage of the Reel place by place. -/
theorem reelIsFilled : Obligations.ReelIsFilled := by
  unfold Obligations.ReelIsFilled
  intro s
  refine ⟨fun f => ends_band0FillStart, fun fr rest f l r hfill hframe hlayer hfree hprint hrow hrows =>
      ends_reelBurstLands_print hfill hframe hlayer hfree hrows hprint hrow,
    fun fr rest f l y ys x a c la bpp k hfill hframe hlayer hfree hprint hsource hneed hbpp hx ha hk hallow hloc hgood hpart hrows =>
      ends_reelBurstLands_pixels hfill hframe hlayer hfree hrows hprint hsource hneed hbpp hx ha hk hallow hloc hgood hpart,
    fun n y x => ends_lyrSramUncorr n y x s, fun w => ?_⟩
  cases w with
  | cell slot buf col =>
    refine ends_reelUncorr (d := s.cellDamage slot buf col) rfl ((s.withSyn_within _).widen (by decide)) fun t hreel hframes => ?_
    rw [hreel]
    refine ⟨fun r hr hholds => ?_, fun r hr hholds => ?_, hframes⟩
    · obtain ⟨q, -, rfl⟩ := List.mem_map.mp hr
      exact State.rowDamage_cells ((s.rowHolds_rowDamage slot buf col q).symm.trans hholds)
    · exact List.mem_map.mpr ⟨r, hr, if_neg (Bool.eq_false_iff.mp hholds)⟩
  | staged v half row col =>
    obtain ⟨hw, hreel⟩ := s.stagedDamage_reel v half row col
    exact ends_reelUncorr (d := s.stagedDamage v half row col) rfl hw fun t ht _ => ht.trans hreel
  | control i => exact ends_reelUncorr (d := s) rfl (.refl s) fun t hreel hframes => ⟨hreel, hframes⟩

end Sys2Proof.Machine

/-! # Ray synthesis (spec/05_ray_synthesis.md R90 to R107)

What the slices, the deals and the cue lines do to a frame is told by how its walk of the bands stands after it: its number, its bands, and how many
of them have started. -/
namespace Sys2Proof.Machine

/-! ### The walk of a frame (R91, R92) -/

/-- What tells how far a frame has walked: its number, its bands, and how many have started. -/
def Frame.walk (f : Frame) : Nat × List Nat × Nat := (f.num, f.bands, f.started)

theorem Frame.walk_eq {f g : Frame} : g.walk = f.walk ↔ g.num = f.num ∧ g.bands = f.bands ∧ g.started = f.started := by
  simp only [Frame.walk, Prod.mk.injEq]

/-- The fields that deals, slices and ROW cues change. -/
def bandFields : List Fld := [.regs, .hif, .svc, .sent, .flt, .freeCtr, .syn, .cmt, .blk]

/-- Every register but SYN_BAND. -/
def bandReg (a : Nat) : Bool := a != Reg.SYN_BAND

/-- Every frame of `t` walks as one of `s` does, and there are as many; no sub-array is lost, and SYN_BAND and memory stand. -/
structure State.WalksKept (s t : State) : Prop where
  within : Within bandFields bandReg s t
  dead : t.syn.dead = s.syn.dead
  count : t.syn.frames.length = s.syn.frames.length
  walk : ∀ g ∈ t.syn.frames, ∃ f ∈ s.syn.frames, g.walk = f.walk

theorem State.WalksKept.refl (s : State) : s.WalksKept s := ⟨.refl s, rfl, rfl, fun g hg => ⟨g, hg, rfl⟩⟩

theorem State.WalksKept.trans {s t u : State} (h : s.WalksKept t) (k : t.WalksKept u) : s.WalksKept u :=
  ⟨h.within.trans k.within, k.dead.trans h.dead, k.count.trans h.count, fun g hg =>
    let ⟨x, hx, hgx⟩ := k.walk g hg
    let ⟨f, hf, hxf⟩ := h.walk x hx
    ⟨f, hf, hgx.trans hxf⟩⟩

/-- A step that leaves synthesis, memory and SYN_BAND alone. -/
theorem Within.walksKept {l : List Fld} {q : Nat → Bool} {s t : State} (h : Within l q s t) (hl : ∀ f ∈ l, f ∈ bandFields ∧ f ≠ .syn)
    (hq : q Reg.SYN_BAND = false) : s.WalksKept t := by
  have hsyn : t.syn = s.syn := h.syn fun hm => (hl .syn hm).2 rfl
  refine ⟨h.mono (fun f hf => (hl f hf).1) fun a ha => ?_, by rw [hsyn], by rw [hsyn], fun g hg => ⟨g, hsyn ▸ hg, rfl⟩⟩
  rw [bandReg, bne_iff_ne]
  rintro rfl
  exact Bool.false_ne_true (hq.symm.trans ha)

theorem State.wr_walksKept (s : State) {a : Nat} (v : Word) (ha : Reg.SYN_BAND ≠ a) : s.WalksKept (s.wr a v) :=
  (s.wr_within a v).walksKept (by decide) (beq_eq_false_iff_ne.mpr ha)

theorem State.evt_walksKept (s : State) (src : Nat) : s.WalksKept (s.evt src) := (s.evt_within src).walksKept (by decide) (by decide)

/-- A change of synthesis that touches neither the frames nor the lost sub-arrays. -/
theorem State.withSyn_walksKept (s : State) {v : Syn} (hf : v.frames = s.syn.frames) (hd : v.dead = s.syn.dead) : s.WalksKept { s with syn := v } :=
  ⟨(s.withSyn_within v).widen (by decide), hd, congrArg List.length hf, fun g hg => ⟨g, hf ▸ hg, rfl⟩⟩

theorem State.setSlice_walksKept (s : State) (n : Nat) (v : Slice) : s.WalksKept (s.setSlice n v) := s.withSyn_walksKept rfl rfl

theorem State.reelTrim_walksKept (s : State) : s.WalksKept s.reelTrim := s.withSyn_walksKept rfl rfl

/-- A frame of the state is that frame written, or one of before with another number. -/
theorem State.mem_setFrame {s : State} {f g : Frame} (h : g ∈ (s.setFrame f).syn.frames) : g = f ∨ g ∈ s.syn.frames ∧ g.num ≠ f.num := by
  obtain ⟨x, hx, rfl⟩ := List.mem_map.mp h
  split
  · exact .inl rfl
  · exact .inr ⟨hx, ‹_›⟩

/-- A frame written that walks as one that was there. -/
theorem State.WalksKept.setFrame {s t : State} (h : s.WalksKept t) {f g : Frame} (hf : f ∈ s.syn.frames) (hg : g.walk = f.walk) : s.WalksKept (t.setFrame g) :=
  ⟨h.within.trans ((t.withSyn_within _).widen (by decide)), h.dead, (List.length_map ..).trans h.count, fun x hx =>
    (State.mem_setFrame hx).elim (fun e => ⟨f, hf, e ▸ hg⟩) fun hx => h.walk x hx.1⟩

theorem State.WalksKept.when {s t : State} (h : s.WalksKept t) (c : Bool) {f : State → State} (hf : t.WalksKept (f t)) : s.WalksKept (t.when c f) := by
  unfold State.when
  split
  · exact h.trans hf
  · exact h

/-- What holds before a loop and after each of its turns holds after it. -/
theorem State.each_induction {P : State → Prop} {n : Nat} {f : Nat → State → State} {s : State} (h : P s) (hf : ∀ i < n, ∀ u, P u → P (f i u)) : P (s.each n f) := by
  induction n with
  | zero => exact h
  | succ n ih => exact hf n (by omega) _ (ih fun i hi => hf i (by omega))

theorem State.each_walksKept {n : Nat} {f : Nat → State → State} (s : State) (h : ∀ i < n, ∀ u : State, u.WalksKept (f i u)) : s.WalksKept (s.each n f) :=
  State.each_induction (P := fun u => s.WalksKept u) (.refl s) fun i hi u hu => hu.trans (h i hi u)

theorem State.eachOf_walksKept {α : Type} {l : List α} {f : α → State → State} {s : State} (h : ∀ x ∈ l, ∀ u, s.WalksKept u → s.WalksKept (f x u)) :
    s.WalksKept (s.eachOf l f) :=
  List.foldlRecOn (motive := fun u => s.WalksKept u) l _ (.refl s) fun u hu x hx => h x hx u hu

/-- The frame with a number, where a lone frame bears it. -/
theorem State.find_lone {s : State} {f : Frame} (hf : s.syn.frames = [f]) {n : Nat} (hn : f.num = n) :
    s.syn.frames.find? (fun x => decide (x.num = n)) = some f := by
  rw [hf, List.find?_cons_of_pos (by simpa using hn)]

/-- A lone frame stays one. -/
theorem State.WalksKept.lone {s t : State} (h : s.WalksKept t) {f : Frame} (hf : s.syn.frames = [f]) : ∃ g, t.syn.frames = [g] ∧ g.walk = f.walk := by
  obtain ⟨g, hg⟩ := List.length_eq_one_iff.mp (h.count.trans (congrArg List.length hf))
  obtain ⟨x, hx, hw⟩ := h.walk g (hg ▸ List.mem_singleton_self g)
  rw [hf, List.mem_singleton] at hx
  exact ⟨g, hg, hx ▸ hw⟩

/-! ### Deals go to slices (R91, R92) -/

theorem State.sliceStatus_within (s : State) (n : Nat) : Within [.regs] (fun b => b == Reg.SLC_STATUS n) s (s.sliceStatus n) := by
  unfold State.sliceStatus
  dsimp only
  split
  · exact (s.wf_within _ _ _ _).trans (State.wf_within _ _ _ _ _)
  · exact (s.wf_within _ _ _ _).trans (State.wb_within _ _ _ _)

theorem State.sliceStatus_walksKept (s : State) (n : Nat) : s.WalksKept (s.sliceStatus n) :=
  (s.sliceStatus_within n).walksKept (by decide) (beq_eq_false_iff_ne.mpr (by simp only [Reg.SYN_BAND, Reg.SLC_STATUS]; omega))

/-- What a slice does with a free place: nothing, or it takes the first deal of a frame that has some, as its running deal where it has none and behind that
otherwise. -/
theorem State.takeDeal_cases (s : State) (n : Nat) : s.takeDeal n = s ∨ ∃ f ∈ s.syn.frames, ∃ d t, f.deals = d :: t ∧
    (((s.slice n).running = none ∧
        s.takeDeal n = ((s.setFrame { f with deals := t }).setSlice n { s.slice n with running := some (d.start f.layout) }).sliceStatus n) ∨
      ∃ r, (s.slice n).running = some r ∧ s.takeDeal n = ((s.setFrame { f with deals := t }).setSlice n { s.slice n with queued := some d }).sliceStatus n) := by
  unfold State.takeDeal
  dsimp only
  split
  · exact .inl rfl
  · split
    · exact .inl rfl
    · next f hfind =>
      split
      · exact .inl rfl
      · next d t hd =>
        refine .inr ⟨f, List.mem_of_find?_eq_some hfind, d, t, hd, ?_⟩
        cases hr : (s.slice n).running with
        | none => exact .inl ⟨rfl, rfl⟩
        | some r => exact .inr ⟨r, rfl, rfl⟩

theorem State.takeDeal_walksKept (s : State) (n : Nat) : s.WalksKept (s.takeDeal n) := by
  have htake : ∀ (f : Frame) (t : List Deal) (v : Slice), f ∈ s.syn.frames → s.WalksKept (((s.setFrame { f with deals := t }).setSlice n v).sliceStatus n) :=
    fun f t v hf => (((State.WalksKept.refl s).setFrame (g := { f with deals := t }) hf rfl).trans (State.setSlice_walksKept _ _ _)).trans
      (State.sliceStatus_walksKept _ _)
  obtain h | ⟨f, hf, d, t, -, ⟨-, h⟩ | ⟨r, -, h⟩⟩ := s.takeDeal_cases n
  · exact h.symm ▸ .refl s
  · exact h ▸ htake f t _ hf
  · exact h ▸ htake f t _ hf

theorem State.dealOut_walksKept (s : State) : s.WalksKept s.dealOut :=
  (s.each_walksKept fun n _ u => u.takeDeal_walksKept n).trans (State.each_walksKept _ fun n _ u => u.takeDeal_walksKept n)

/-- Where no frame has a deal, none goes out. -/
theorem State.dealOut_none {s : State} (h : ∀ f ∈ s.syn.frames, f.deals = []) : s.dealOut = s := by
  have htake : ∀ n, s.takeDeal n = s := fun n => by
    obtain hn | ⟨f, hf, d, t, hd, -⟩ := s.takeDeal_cases n
    · exact hn
    · exact absurd ((h f hf).symm.trans hd) (by simp)
  have heach : (s.each 26 fun n s => s.takeDeal n) = s := State.each_induction (P := fun u => u = s) rfl fun n _ u hu => hu ▸ htake n
  rw [State.dealOut, heach, heach]

/-! ### Changes of the slices at a band boundary (R102, R104, R105) -/

theorem State.redeal_walksKept (s : State) (ds : List Deal) : s.WalksKept (s.redeal ds) := by
  refine List.foldlRecOn (motive := fun u => s.WalksKept u) ds.reverse _ (.refl s) fun u hu d _ => ?_
  split
  · next f hf => exact hu.trans ((State.WalksKept.refl u).setFrame (List.mem_of_find?_eq_some hf) rfl)
  · exact hu

theorem State.toState_walksKept (s : State) {pg : Nat} (v : Nat) (src : Option Nat) (hp : Reg.SYN_BAND ≠ Reg.PAGE_STATUS pg) : s.WalksKept (s.toState pg v src) :=
  (s.toState_within pg v src).walksKept (by decide) (Bool.or_eq_false_iff.mpr ⟨by decide, beq_eq_false_iff_ne.mpr hp⟩)

theorem State.sliceState_walksKept (s : State) (n v : Nat) : s.WalksKept (s.sliceState n v) := by
  have hcount : ∀ u : State, u.WalksKept (u.cntSat (Reg.SLC_FENCES n) 32 1) := fun u => u.wr_walksKept _ (by simp only [Reg.SYN_BAND, Reg.SLC_FENCES]; omega)
  unfold State.sliceState
  exact ((State.WalksKept.refl s).when _ (hcount s)).trans
    (State.toState_walksKept _ _ _ (by simp only [Reg.SYN_BAND, Reg.PAGE_STATUS, slicePage, Reg.page]; omega))

/-- A slice that leaves or joins at a band boundary. -/
theorem State.sliceChanges_walksKept (s : State) : s.WalksKept s.sliceChanges := by
  refine s.each_walksKept fun n _ u => ?_
  dsimp only
  split
  · exact .refl u
  · split
    · have hleave := (u.setSlice_walksKept n { u.slice n with queued := none, leaving := false, joining := false }).trans
        (State.redeal_walksKept _ (u.slice n).queued.toList)
      refine State.WalksKept.trans (State.WalksKept.when ?_ _ (State.evt_walksKept _ _)) (State.sliceStatus_walksKept _ _)
      split
      · exact (hleave.trans (State.setSlice_walksKept _ _ _)).trans (State.redeal_walksKept _ _)
      · exact hleave.trans (State.sliceState_walksKept _ _ _)
    · split
      · exact (u.setSlice_walksKept n _).trans (State.sliceState_walksKept _ _ _)
      · exact .refl u

theorem State.proofCut_walksKept (s : State) : s.WalksKept s.proofCut := by
  refine State.eachOf_walksKept fun f hf u hu => ?_
  dsimp only
  split
  · exact hu
  · exact hu.setFrame hf rfl

theorem State.activeNote_walksKept (s : State) : s.WalksKept s.activeNote := by
  have hset : ∀ (u : State) (b : Bool), u.WalksKept { u with syn := { u.syn with short := b } } := fun u b => u.withSyn_walksKept rfl rfl
  have hnotice : ∀ u : State, u.WalksKept (u.notice 135) := fun u =>
    (u.notice_within 135 0 0 [] (by decide) (by decide)).walksKept (by decide) (by decide)
  unfold State.activeNote
  dsimp only
  have hcut : ∀ t : State, s.WalksKept t → s.WalksKept t.proofCut := fun t h => h.trans t.proofCut_walksKept
  refine hcut _ ?_
  generalize hu : (if s.rn Reg.SYN_ACTIVE = _ then s else _) = u
  have hsu : s.WalksKept u := by
    rw [← hu]
    split
    · exact .refl s
    · exact (s.wr_walksKept _ (by decide)).trans (State.evt_walksKept _ _)
  split
  · split
    · exact hsu
    · exact (hsu.trans (hset u true)).trans (hnotice _)
  · exact hsu.trans (hset u false)

/-! ### ROW cues (R126, R127) -/

/-- What holds before the ROW cues and after each that fires holds after them. -/
theorem State.rowCues_induction {P : State → Prop} {s : State} (h : P s)
    (hfire : ∀ (u : State) (f : Frame), ∀ c < 4, f ∈ u.syn.frames → P u → P (u.cueRowFire f c false)) : P s.rowCues := by
  refine List.foldlRecOn (motive := P) s.syn.frames _ h fun u hu f _ => ?_
  refine State.each_induction hu fun c hc v hv => ?_
  split
  · next g r hg _ =>
    split
    · exact hfire v g c hc (List.mem_of_find?_eq_some hg) hv
    · exact hv
  · exact hv

/-- The registers that a cue line writes when it fires (R126, R237). -/
def cueReg (c a : Nat) : Bool := evtReg a || among [Reg.CUE_STATUS c, Reg.BLK_Q_STATUS 0, Reg.BLK_Q_STATUS 1, Reg.BLK_Q_STATUS 2, Reg.BLK_Q_STATUS 3] a

/-- The fields that it changes. -/
def cueFields : List Fld := [.regs, .hif, .svc, .sent, .cmt, .blk]

theorem State.cueBlk_within (s : State) (c frame : Nat) : Within cueFields (cueReg c) s (s.cueBlk c frame) := by
  unfold State.cueBlk
  dsimp only
  refine (State.each_within (l := cueFields) (p := cueReg c) 4 _ s fun p hp u => ?_).trans
    (.of_same (fun f => by cases f <;> first | (left; decide) | (right; rfl)) rfl)
  refine Within.ite (.refl u) ((u.wb_within _ _ _).mono (by decide) fun a ha => ?_)
  have hp : p = 0 ∨ p = 1 ∨ p = 2 ∨ p = 3 := by omega
  rw [beq_iff_eq] at ha
  rcases hp with rfl | rfl | rfl | rfl <;> simp [cueReg, among, ha]

theorem State.cueFire_within (s : State) (c frame : Nat) (late : Bool) : Within cueFields (cueReg c) s (s.cueFire c frame late) := by
  have hblk := s.cueBlk_within c frame
  unfold State.cueFire
  dsimp only
  generalize s.cueBlk c frame = u at hblk ⊢
  generalize frame % 65536 + b2n late * 2 ^ 31 = w
  have hstatus := (u.wn_within (Reg.CUE_STATUS c) w).mono (m := cueFields) (q := cueReg c) (by decide) (by simp [cueReg, among])
  generalize u.wn (Reg.CUE_STATUS c) w = x at hstatus ⊢
  have hcount : Within cueFields (cueReg c) x { x with cmt := { x.cmt with cueCount := updWith x.cmt.cueCount c (· + 1) } } :=
    .of_same (fun f => by cases f <;> first | (left; decide) | (right; rfl)) rfl
  exact ((hblk.trans hstatus).trans hcount).trans ((State.evt_within _ _).mono (by decide) (by simp +contextual [cueReg]))

theorem State.cueFire_walksKept (s : State) {c : Nat} (hc : c < 4) (frame : Nat) (late : Bool) : s.WalksKept (s.cueFire c frame late) := by
  refine (s.cueFire_within c frame late).walksKept (by decide) ?_
  have : ∀ c < 4, cueReg c Reg.SYN_BAND = false := by decide
  exact this c hc

theorem State.rowCues_walksKept (s : State) : s.WalksKept s.rowCues := by
  refine State.rowCues_induction (P := fun u => s.WalksKept u) (.refl s) fun u f c hc hf hu => ?_
  unfold State.cueRowFire
  split
  · exact (hu.trans ((State.WalksKept.refl u).setFrame (g := { f with cues := c :: f.cues }) hf rfl)).trans (State.cueFire_walksKept _ hc _ _)
  · exact hu

/-! ### A band begins (R92) -/

theorem State.issueFill_walksKept {s : State} {f : Frame} (hf : f ∈ s.syn.frames) : s.WalksKept (s.issueFill f) := by
  unfold State.issueFill
  split
  · refine State.WalksKept.setFrame (State.withSyn_walksKept s ?_ ?_) hf rfl
    · rfl
    · rfl
  · exact .refl s

/-- The frame with the band it starts: the band's deals behind those it has. -/
def Frame.begun (f : Frame) : Frame := { f with started := f.started + 1, deals := f.deals ++ f.bandDeals (f.band f.started), waiting := false }

/-- BAND_START of a resident band (R92): the slices change, SYN_BAND names the band, the next band's fill is issued, and the deals go out. -/
theorem State.bandStart_begins {s : State} {f : Frame} (hstop : s.syn.stopping = false) (hf : s.syn.frames = [f]) (hlt : f.started < f.bands.length)
    (hdeals : f.deals = []) (hfailed : s.syn.failed = [])
    (hplace : ∃ n < 26, s.sliceActive n = true ∧ (s.slice n).leaving = false ∧ (s.slice n).queued = none) (hres : s.resident f f.started = true) :
    ∃ g, s.sliceChanges.activeNote.syn.frames = [g] ∧ g.walk = f.walk ∧ s.bandStart =
      ((((s.sliceChanges.activeNote.wn Reg.SYN_BAND (g.num % 65536 * 65536 + g.band g.started)).setFrame g.begun).issueFill g.begun).dealOut.reelTrim).rowCues := by
  obtain ⟨g, hg, hw⟩ := (s.sliceChanges_walksKept.trans (State.activeNote_walksKept _)).lone hf
  refine ⟨g, hg, hw, ?_⟩
  have hfind : s.syn.frames.find? (fun x => decide (x.started < x.bands.length)) = some f := by
    rw [hf, List.find?_cons_of_pos (by simpa using hlt)]
  have hroom : ((List.range 26).any fun n => (s.sliceActive n || (s.slice n).joining) && !(s.slice n).leaving &&
      ((s.slice n).running.isNone || (s.slice n).queued.isNone)) = true := by
    obtain ⟨n, hn, hact, hleave, hq⟩ := hplace
    exact List.any_eq_true.mpr ⟨n, List.mem_range.mpr hn, by simp [hact, hleave, hq]⟩
  have hrepair : s.reelRepair = s := by simp only [State.reelRepair, State.eachOf, hfailed, List.foldl_nil]
  have hagain := State.find_lone hg (Frame.walk_eq.mp hw).1
  simp only [State.bandStart, hstop, hfind, hroom, hrepair, hres, hdeals, hagain, List.isEmpty_nil, Bool.not_true, Bool.or_self, Bool.false_eq_true, if_false]
  rfl

/-- BAND_START raises no fault of its own where it loses no sub-array (R107). -/
theorem ends_bandStart {s : State} {P : State → Prop} (hd : s.bandStart.syn.dead = s.syn.dead) (h : P s.bandStart.endCycle) : Ends .bandStart s P := by
  refine ends_of_done (t := s.bandStart) ?_ h
  change done (if s.syn.dead.length < s.bandStart.syn.dead.length then s.bandStart.faultOne 134 else s.bandStart) = _
  rw [hd, if_neg (Nat.lt_irrefl _)]

theorem ends_bandStart_begins {s : State} {f : Frame} (hstop : s.syn.stopping = false) (hf : s.syn.frames = [f]) (hlt : f.started < f.bands.length)
    (hdeals : f.deals = []) (hfailed : s.syn.failed = [])
    (hplace : ∃ n < 26, s.sliceActive n = true ∧ (s.slice n).leaving = false ∧ (s.slice n).queued = none) (hres : s.resident f f.started = true)
    (hband : f.band f.started < 65536) : Ends .bandStart s fun t =>
      t.rn Reg.SYN_BAND = f.num % 65536 * 65536 + f.band f.started ∧ (∃ g, t.syn.frames = [g] ∧ g.num = f.num ∧ g.started = f.started + 1) ∧ t.mem = s.mem := by
  obtain ⟨g, hg, hw, heq⟩ := State.bandStart_begins hstop hf hlt hdeals hfailed hplace hres
  have hbefore := s.sliceChanges_walksKept.trans (State.activeNote_walksKept _)
  obtain ⟨hnum, hbands, hstarted⟩ := Frame.walk_eq.mp hw
  have hb : g.band g.started = f.band f.started := by rw [Frame.band, hbands, hstarted, Frame.band]
  generalize s.sliceChanges.activeNote = u at hg heq hbefore
  obtain ⟨x, hx⟩ : ∃ x, (u.wn Reg.SYN_BAND (g.num % 65536 * 65536 + g.band g.started)).setFrame g.begun = x := ⟨_, rfl⟩
  have hxf : x.syn.frames = [g.begun] := by
    rw [← hx]
    simp [State.setFrame, hg, Frame.begun]
  have hxband : x.rn Reg.SYN_BAND = f.num % 65536 * 65536 + f.band f.started := by
    rw [← hx, hnum, hb]
    refine (State.rn_wr_same _ _ _).trans ?_
    rw [BitVec.toNat_ofNat, Nat.mod_eq_of_lt (by omega)]
  have hafter : x.WalksKept s.bandStart := by
    rw [heq, hx]
    exact (((State.issueFill_walksKept (hxf ▸ List.mem_singleton_self _)).trans (State.dealOut_walksKept _)).trans (State.reelTrim_walksKept _)).trans
      (State.rowCues_walksKept _)
  have hxdead : x.syn.dead = u.syn.dead := by rw [← hx]; rfl
  have hxmem : x.mem = u.mem := by rw [← hx]; rfl
  obtain ⟨y, hy, hyw⟩ := hafter.lone hxf
  obtain ⟨hynum, -, hystarted⟩ := Frame.walk_eq.mp hyw
  refine ends_bandStart (hafter.dead.trans (hxdead.trans hbefore.dead)) ⟨?_, ⟨y, hy, hynum.trans hnum, hystarted.trans (congrArg (· + 1) hstarted)⟩, ?_⟩
  · exact (hafter.within.rn (a := Reg.SYN_BAND) (by decide)).trans hxband
  · exact (hafter.within.mem (by decide)).trans (hxmem.trans (hbefore.within.mem (by decide)))

/-! ### Synthesis stops (R91, R106) -/

/-- A frame whose synthesis has stopped: no deal is left, no band is to start, and the proof views that are not complete are cut. -/
def Frame.halted (f : Frame) : Frame :=
  { f with
    deals := [], started := f.bands.length, filled := f.bands.length
    pvCut := f.pvCut ++ (f.views.map (·.view)).filter fun v => !f.viewDone v && !f.pvCut.contains v
    waiting := false, ended := true, stopped := true }

/-- The frames stand as they are, and so does what `WalksKept` names. -/
def State.FramesKept (s t : State) : Prop := s.WalksKept t ∧ t.syn.frames = s.syn.frames

section
variable {s t : State} (h : s.FramesKept t)
include h

theorem State.FramesKept.setSlice (n : Nat) (v : Slice) : s.FramesKept (t.setSlice n v) := ⟨h.1.trans (t.setSlice_walksKept n v), h.2⟩

theorem State.FramesKept.pushItem (g : Nat) (i : QItem) : s.FramesKept (t.pushItem g i) := ⟨h.1.trans (t.withSyn_walksKept rfl rfl), h.2⟩

theorem State.FramesKept.wb {a : Nat} (ha : Reg.SYN_BAND ≠ a) (i : Nat) (b : Bool) : s.FramesKept (t.wb a i b) := ⟨h.1.trans (t.wr_walksKept _ ha), h.2⟩

theorem State.FramesKept.sliceStatus (n : Nat) : s.FramesKept (t.sliceStatus n) :=
  ⟨h.1.trans (t.sliceStatus_walksKept n), (congrArg Syn.frames ((t.sliceStatus_within n).syn (by decide))).trans h.2⟩

end

/-- A frame is stopped: the slices drop its deals, the frame is halted, and deals of others go out. -/
theorem State.frameStop_eq (s : State) (f : Frame) : ∃ u, s.FramesKept u ∧ s.frameStop f = (u.setFrame f.halted).dealOut := by
  refine ⟨_, ?_, rfl⟩
  refine List.foldlRecOn (motive := fun u => s.FramesKept u) f.regions _ ?_ fun u hu t _ => ?_
  · refine State.each_induction (P := fun u => s.FramesKept u) ⟨s.withSyn_walksKept rfl rfl, rfl⟩ fun n _ u hu => ?_
    dsimp only
    split
    · split
      · exact ((hu.setSlice n _).wb (by simp only [Reg.SYN_BAND, Reg.SLC_STATUS]; omega) 16 false).sliceStatus n
      · exact (hu.setSlice n _).sliceStatus n
    · exact hu
  · dsimp only [State.when]
    split
    · exact hu.pushItem _ _
    · exact hu

/-- Every band of the frame has started. -/
def Frame.walked (f : Frame) : Prop := f.bands.length ≤ f.started

theorem Frame.walked_of_walk {f g : Frame} (h : g.walk = f.walk) (hf : f.walked) : g.walked := by
  obtain ⟨-, hb, hs⟩ := Frame.walk_eq.mp h
  rwa [Frame.walked, hb, hs]

/-- After the frames `l` have been stopped, each frame has walked its bands that had before, or that bears the number of one of `l`. -/
theorem State.eachOf_frameStop (l : List Frame) (s : State) (h : ∀ g ∈ s.syn.frames, g.walked ∨ ∃ f ∈ l, f.num = g.num) :
    (∀ g ∈ (s.eachOf l fun f s => s.frameStop f).syn.frames, g.walked) ∧
      (s.eachOf l fun f s => s.frameStop f).syn.frames.length = s.syn.frames.length ∧ (s.eachOf l fun f s => s.frameStop f).syn.dead = s.syn.dead ∧
      (s.eachOf l fun f s => s.frameStop f).mem = s.mem := by
  induction l generalizing s with
  | nil => exact ⟨fun g hg => (h g hg).resolve_right (by simp), rfl, rfl, rfl⟩
  | cons f l ih =>
    obtain ⟨u, ⟨hu, hframes⟩, heq⟩ := s.frameStop_eq f
    have hout := (u.setFrame f.halted).dealOut_walksKept
    obtain ⟨hwalked, hcount, hdead, hmem⟩ := ih (s.frameStop f) fun g hg => by
      rw [heq] at hg
      obtain ⟨x, hx, hw⟩ := hout.walk g hg
      obtain rfl | ⟨hx, hne⟩ := State.mem_setFrame hx
      · exact .inl (Frame.walked_of_walk hw (Nat.le_refl _))
      · refine (h x (hframes ▸ hx)).imp (Frame.walked_of_walk hw) fun ⟨y, hy, hyn⟩ => ⟨y, ?_, hyn.trans (Frame.walk_eq.mp hw).1.symm⟩
        exact (List.mem_cons.mp hy).resolve_left fun e => hne (e ▸ hyn.symm)
    refine ⟨hwalked, hcount.trans ?_, hdead.trans ?_, hmem.trans ?_⟩
    · rw [heq, hout.count]
      exact (List.length_map ..).trans hu.count
    · rw [heq, hout.dead]
      exact hu.dead
    · rw [heq, hout.within.mem (by decide)]
      exact hu.within.mem (by decide)

theorem State.frameStop_lone {s : State} {f : Frame} (hf : s.syn.frames = [f]) : (s.frameStop f).syn.frames = [f.halted] := by
  obtain ⟨u, ⟨-, hframes⟩, heq⟩ := s.frameStop_eq f
  have hset : (u.setFrame f.halted).syn.frames = [f.halted] := by simp [State.setFrame, hframes, hf, Frame.halted]
  have hnone : (u.setFrame f.halted).dealOut = u.setFrame f.halted := State.dealOut_none fun g hg => by
    rw [hset, List.mem_singleton] at hg
    rw [hg, Frame.halted]
  rw [heq, hnone, hset]

theorem ends_bandStart_stops {s : State} (hstop : s.syn.stopping = true) : Ends .bandStart s fun t =>
    t.syn.stopping = false ∧ (∀ g ∈ t.syn.frames, g.bands.length ≤ g.started) ∧ t.syn.frames.length = s.syn.frames.length ∧ t.mem = s.mem ∧
    (∀ f, s.syn.frames = [f] → f.started < f.bands.length → ∃ g, t.syn.frames = [g] ∧ g.num = f.num ∧ g.ended = true ∧ g.stopped = true ∧ g.deals = []) := by
  obtain ⟨l, hl⟩ : ∃ l, s.syn.frames.filter (fun f => decide (f.started < f.bands.length)) = l := ⟨_, rfl⟩
  obtain ⟨u, hu⟩ : ∃ u, s.eachOf l (fun f s => s.frameStop f) = u := ⟨_, rfl⟩
  have heq : s.bandStart = ({ u with syn := { u.syn with stopping := false } } : State).reelTrim := by
    rw [← hu, ← hl]
    exact if_pos hstop
  obtain ⟨hwalked, hcount, hdead, hmem⟩ := hu ▸ s.eachOf_frameStop l fun g hg => by
    by_cases hlt : g.started < g.bands.length
    · exact .inr ⟨g, hl ▸ List.mem_filter.mpr ⟨hg, by simpa using hlt⟩, rfl⟩
    · exact .inl (Nat.le_of_not_lt hlt)
  refine ends_bandStart (heq ▸ hdead) (heq ▸ ⟨rfl, hwalked, hcount, hmem, fun f hf hlt => ⟨f.halted, ?_, rfl, rfl, rfl, rfl⟩⟩)
  have hone : l = [f] := by rw [← hl, hf, List.filter_cons_of_pos (by simpa using hlt), List.filter_nil]
  have hlone : u.syn.frames = [f.halted] := by
    rw [← hu, hone]
    exact State.frameStop_lone hf
  exact hlone

/-! ### Rays (R98 to R101) -/

theorem State.when_within {l : List Fld} {p : Nat → Bool} {s : State} (c : Bool) {f : State → State} (h : Within l p s (f s)) : Within l p s (s.when c f) :=
  Within.ite (.refl s) h

theorem State.geoCount_within (s : State) (t : Nat) (g : GeoRay) : Within [.regs] (fun b => b == Reg.GEO_SAT_CNT t) s (s.geoCount t g) :=
  (State.when_within _ (s.wf_within _ _ _ _)).trans (State.when_within _ (State.wf_within _ _ _ _ _))

/-- An event raised once in a frame. -/
theorem State.onceIn_within (s : State) (l : List Nat) (t : Nat) (c : Bool) (src : Nat) : Within evtFields evtReg s (s.onceIn l t c src).1 := by
  unfold State.onceIn
  split
  · exact s.evt_within src
  · exact .refl s

/-- The registers that the end of a ray of slice `n` writes, of a deal of region `t` (R53, R109). -/
def rayReg (n t a : Nat) : Bool := evtReg a || among [Reg.SLC_RAYS n, Reg.SLC_SAMPLES n, Reg.SLC_TERM n, Reg.GEO_SAT_CNT t] a

section
variable {s : State} {n k : Nat} {f : Frame} {r : Running} {i : Nat} {g : GeoRay} (hrun : (s.slice n).running = some r) (hlane : nth none r.lanes k = some i)
  (hview : r.deal.view = none) (hf : s.syn.frames = [f]) (hnum : f.num = r.deal.frame)
include hrun hlane hview hf hnum

/-- RAY_DONE on a panel deal: the counters count, the frame is written, and the slice holds the result and the lane's next ray. -/
theorem State.rayDone_panel
    (hg : g = geoRay (s.bank .geo f.geoBank)
      ⟨nth 0 (nth [] f.eff r.deal.tile) 0, nth 0 (nth [] f.eff r.deal.tile) 1, nth 0 (nth [] f.eff r.deal.tile) 2, nth 0 (nth [] f.eff r.deal.tile) 3⟩ f.layout
      r.deal.tile ((r.deal.col + i / r.deal.perCell f.layout % 8) * geoNu f.layout + i % r.deal.perCell f.layout % geoNu f.layout)
      (((bandRows f.layout r.deal.band).1 + i / r.deal.perCell f.layout / 8 - geoLensH f.layout * (r.deal.tile / 3)) * geoNv +
        i % r.deal.perCell f.layout / geoNu f.layout)) :
    ∃ u f' sl r', s.rayDone n k = (u.setFrame f').setSlice n sl ∧ Within evtFields (rayReg n r.deal.tile) s u ∧ sl.running = some r' ∧
      r'.results.head? = some (i, ((s.ray f r.deal.band g.lx g.ly g.u g.v).c.r, (s.ray f r.deal.band g.lx g.ly g.u g.v).c.g,
        (s.ray f r.deal.band g.lx g.ly g.u g.v).c.b)) ∧ r'.lanes = upd r.lanes k (r.deal.nextRay f.layout 300 r.next) := by
  have hfind := State.find_lone hf hnum
  simp only [State.rayDone, hrun, hlane, hfind, hview, Option.bind_none, Option.isNone_none, addUnits, ← hg]
  generalize s.ray f r.deal.band g.lx g.ly g.u g.v = b
  refine ⟨_, _, _, _, rfl, ?_, rfl, rfl, rfl⟩
  have hcnt : ∀ (u : State) (a m : Nat), rayReg n r.deal.tile a = true → Within evtFields (rayReg n r.deal.tile) u (u.cntSat a 32 m) := fun u a m ha =>
    (u.cntSat_within a 32 m).mono (by decide) fun b hb => (beq_iff_eq.mp hb).symm ▸ ha
  have hgeo : ∀ u : State, Within evtFields (rayReg n r.deal.tile) u (u.geoCount r.deal.tile g) := fun u =>
    (u.geoCount_within _ _).mono (by decide) (by simp [rayReg, among])
  refine ((((hcnt s _ _ ?_).trans (hcnt _ _ _ ?_)).trans (hcnt _ _ _ ?_)).trans (State.when_within _ (hgeo _))).trans
    ((State.onceIn_within _ _ _ _ _).regs_mono fun a ha => by simp [rayReg, ha])
  all_goals simp [rayReg, among]

end

/-- RAY_DONE (R98 to R101). -/
theorem ends_rayDone {s : State} {n : Fin 26} {k : Fin 64} {f : Frame} {r : Running} {i : Nat} {g : GeoRay} (hs : s.Shape)
    (hrun : (s.slice n).running = some r) (hlane : nth none r.lanes k = some i) (hview : r.deal.view = none) (hf : s.syn.frames = [f])
    (hnum : f.num = r.deal.frame) (hlen : r.lanes.length = 64)
    (hg : ∃ eff cell e ly llx, eff = nth [] f.eff r.deal.tile ∧ cell = i / r.deal.perCell f.layout ∧ e = i % r.deal.perCell f.layout ∧
      ly = (bandRows f.layout r.deal.band).1 + cell / 8 ∧ llx = r.deal.col + cell % 8 ∧
      g = geoRay (s.bank .geo f.geoBank) ⟨nth 0 eff 0, nth 0 eff 1, nth 0 eff 2, nth 0 eff 3⟩ f.layout r.deal.tile (llx * geoNu f.layout + e % geoNu f.layout)
        ((ly - geoLensH f.layout * (r.deal.tile / 3)) * geoNv + e / geoNu f.layout)) : Ends (.rayDone n k) s fun t => ∃ r', (t.slice n).running = some r' ∧
      r'.results.head? = some (i, ((s.ray f r.deal.band g.lx g.ly g.u g.v).c.r, (s.ray f r.deal.band g.lx g.ly g.u g.v).c.g,
        (s.ray f r.deal.band g.lx g.ly g.u g.v).c.b)) ∧
      nth none r'.lanes k = r.deal.nextRay f.layout 300 r.next ∧ (∀ m < 26, m ≠ n.val → t.slice m = s.slice m) ∧
      Within [.regs, .syn, .hif, .svc, .sent] (rayReg n r.deal.tile) s t := by
  obtain ⟨eff, cell, e, ly, llx, rfl, rfl, rfl, rfl, rfl, hg⟩ := hg
  obtain ⟨u, f', sl, r', heq, hw, hsl, hhead, hlanes⟩ := State.rayDone_panel hrun hlane hview hf hnum hg
  have husyn : u.syn = s.syn := hw.syn (by decide)
  have hslices : (u.setFrame f').syn.slices = s.syn.slices := Eq.trans (b := u.syn.slices) rfl (congrArg Syn.slices husyn)
  have hmine : ((u.setFrame f').setSlice n sl).slice n = sl := State.slice_setSlice_same (by rw [hslices, hs.slices]; exact n.isLt) sl
  have hother : ∀ m < 26, m ≠ n.val → ((u.setFrame f').setSlice n sl).slice m = s.slice m := fun m _ hm => by
    rw [State.slice_setSlice_other _ hm.symm, State.slice, hslices, State.slice]
  have hframe := ((hw.widen (m := [.regs, .syn, .hif, .svc, .sent]) (by decide)).trans ((u.withSyn_within _).widen (by decide))).trans
    (((u.setFrame f').setSlice_within n sl).widen (by decide))
  refine ends_of_done (congrArg done heq) ⟨r', (congrArg Slice.running hmine).trans hsl, hhead, ?_, hother, hframe.ended (by decide)⟩
  rw [hlanes, nth, upd, List.getD_eq_getElem?_getD, List.getElem?_set_self (by rw [hlen]; exact k.isLt), Option.getD_some]

/-! ### Runs (R93, R141 to R148) -/

/-- Three codes of ten bits. -/
theorem tonEmit_val_lt (b : Bank) (wear : Nat → Nat) (live : List (Nat × Word)) (t : Nat) (e : Emit) (cr cg cb : Int) :
    (tonEmit b wear live t e cr cg cb).val < 2 ^ 30 := by
  have hcodes : ∀ x y z : Nat, min 1023 x + 1024 * min 1023 y + 1048576 * min 1023 z < 2 ^ 30 := fun x y z => by omega
  exact hcodes _ _ _

/-- What the end of a frame leaves alone: what the slices hold, the groups' queues and memory. -/
structure State.RunsKept (s t : State) : Prop where
  slices : t.syn.slices = s.syn.slices
  queues : t.syn.queues = s.syn.queues
  mem : t.mem = s.mem

theorem State.RunsKept.refl (s : State) : s.RunsKept s := ⟨rfl, rfl, rfl⟩

theorem State.RunsKept.trans {s t u : State} (h : s.RunsKept t) (k : t.RunsKept u) : s.RunsKept u :=
  ⟨k.slices.trans h.slices, k.queues.trans h.queues, k.mem.trans h.mem⟩

theorem Within.runsKept {l : List Fld} {q : Nat → Bool} {s t : State} (h : Within l q s t) (hs : Fld.syn ∉ l) (hm : Fld.mem ∉ l) : s.RunsKept t :=
  ⟨congrArg Syn.slices (h.syn hs), congrArg Syn.queues (h.syn hs), h.mem hm⟩

theorem State.rowCues_runsKept (s : State) : s.RunsKept s.rowCues := by
  refine State.rowCues_induction (P := fun u => s.RunsKept u) (.refl s) fun u f c _ _ hu => ?_
  unfold State.cueRowFire
  split
  · have hset : u.RunsKept (u.setFrame { f with cues := c :: f.cues }) := ⟨rfl, rfl, rfl⟩
    exact (hu.trans hset).trans ((State.cueFire_within _ c f.num false).runsKept (by decide) (by decide))
  · exact hu

theorem State.when_evt_runsKept (s : State) (c : Bool) (src : Nat) : s.RunsKept (s.when c (·.evt src)) := by
  unfold State.when
  split
  · exact (s.evt_within src).runsKept (by decide) (by decide)
  · exact .refl s

section
variable {s t : State} (h : s.RunsKept t)
include h

theorem State.RunsKept.wn (a n : Nat) : s.RunsKept (t.wn a n) := ⟨h.slices, h.queues, h.mem⟩

theorem State.RunsKept.wf (a hi lo v : Nat) : s.RunsKept (t.wf a hi lo v) := ⟨h.slices, h.queues, h.mem⟩

theorem State.RunsKept.setFrame (f : Frame) : s.RunsKept (t.setFrame f) := ⟨h.slices, h.queues, h.mem⟩

theorem State.RunsKept.slackRead (b : Bool) : s.RunsKept { t with syn := { t.syn with slackRead := b } } := ⟨h.slices, h.queues, h.mem⟩

end

/-- SYN_FRAME_DONE (R91). -/
theorem State.frameEnds_runsKept (s : State) (f : Frame) (late : Bool) : s.RunsKept (s.frameEnds f late) := by
  unfold State.frameEnds
  dsimp only
  have hcues : ∀ u : State, s.RunsKept u → s.RunsKept (if late then u else u.rowCues) := fun u hu => by
    split
    · exact hu
    · exact hu.trans u.rowCues_runsKept
  refine hcues _ (State.RunsKept.trans (State.RunsKept.trans ?_ (State.when_evt_runsKept _ _ 648)) (State.when_evt_runsKept _ _ 649))
  exact (((((((((State.RunsKept.refl s).setFrame _).wn _ _).wf _ _ _ _).slackRead _).wn _ _).wn _ _).wf _ _ _ _).wn _ _).wf _ _ _ _

/-- The registers that a run of region `t` counts in (R143, R146). -/
def runReg (t a : Nat) : Bool := evtReg a || among [Reg.TON_CLIP_CNT t, Reg.TON_NEG_CNT t] a

/-- A run goes to the queue of group `t`, the slice's deal goes on as `r`, and `last` says whether the region's end follows. -/
def State.runQueued (u : State) (n t : Nat) (f : Frame) (sl : Slice) (r : Running) (run : Run) (last : Bool) : State :=
  ((((u.setFrame f).pushItem t (.run run)).setSlice n { sl with running := some r }).wb (Reg.SLC_STATUS n) 16 false).when last
    fun s => s.pushItem t (.fin f.num false)

/-- The queue of `t` then ends in the run, with the region's end behind it where it was the last. -/
theorem State.runQueued_queue {u : State} {t : Nat} (ht : t < u.syn.queues.length) (n : Nat) (f : Frame) (sl : Slice) (r : Running) (run : Run) (last : Bool) :
    ∃ more, nth [] (u.runQueued n t f sl r run last).syn.queues t = nth [] u.syn.queues t ++ .run run :: more := by
  have hone : nth [] (updWith u.syn.queues t (· ++ [.run run])) t = nth [] u.syn.queues t ++ [.run run] := by
    simp [nth, updWith, ht]
  cases last with
  | false => exact ⟨[], hone⟩
  | true =>
    refine ⟨[.fin f.num false], ?_⟩
    change nth [] (updWith (updWith u.syn.queues t (· ++ [.run run])) t (· ++ [.fin f.num false])) t = _
    simp [nth, updWith, ht]

theorem State.runQueued_slices (u : State) (n t : Nat) (f : Frame) (sl : Slice) (r : Running) (run : Run) (last : Bool) :
    (u.runQueued n t f sl r run last).syn.slices = upd u.syn.slices n { sl with running := some r } ∧ (u.runQueued n t f sl r run last).mem = u.mem := by
  cases last <;> exact ⟨rfl, rfl⟩

section
variable {s : State} {n : Nat} {f : Frame} {r : Running} {cell : Nat} {rest : List Nat} (hrun : (s.slice n).running = some r) (hready : r.ready = cell :: rest)
  (hf : s.syn.frames = [f]) (hnum : f.num = r.deal.frame)
include hrun hready hf hnum

theorem State.runSend_waits (hroom : s.queueRoom r.deal.tile (r.deal.perCell f.layout) = false) : s.runSend n = s.wb (Reg.SLC_STATUS n) 16 true := by
  simp only [State.runSend, hrun, hready, State.find_lone hf hnum, hroom, Bool.not_false, if_true]

/-- RUN_SEND where the queue has room: the run's values, through the output unit, go to it; with the frame's last run the frame ends. -/
theorem State.runSend_queued (hroom : s.queueRoom r.deal.tile (r.deal.perCell f.layout) = true) :
    ∃ u f' r' vals last, ∃ ended : Bool, Within evtFields (runReg r.deal.tile) s u ∧ vals.length = r.deal.perCell f.layout ∧
      (∀ v ∈ vals, v < 2 ^ 30) ∧ r'.ready = rest ∧ r'.deal.sent = cell :: r.deal.sent ∧ s.runSend n =
        let x := u.runQueued n r.deal.tile f' (s.slice n) r'
          ⟨f.num, r.deal.col + cell % 8, (bandRows f.layout r.deal.band).1 + cell / 8 - geoLensH f.layout * (r.deal.tile / 3), vals⟩ last
        if ended then x.frameEnds f' false else x := by
  simp only [State.runSend, hrun, hready, State.find_lone hf hnum, hroom, Bool.not_true, Bool.false_eq_true, if_false]
  refine ⟨_, _, _, _, _, _, ?_, by rw [List.length_map, List.length_map, List.length_range], fun v hv => ?_, rfl, rfl, rfl⟩
  · have hcnt : ∀ (u : State) (a m : Nat), runReg r.deal.tile a = true → Within evtFields (runReg r.deal.tile) u (u.cntSat a 32 m) := fun u a m ha =>
      (u.cntSat_within a 32 m).mono (by decide) fun b hb => (beq_iff_eq.mp hb).symm ▸ ha
    have honce : ∀ (u : State) (l : List Nat) (c : Bool) (src : Nat), Within evtFields (runReg r.deal.tile) u (u.onceIn l r.deal.tile c src).1 := fun u l c src =>
      (u.onceIn_within l _ c src).regs_mono fun a ha => by simp [runReg, ha]
    exact (((hcnt s _ _ (by simp [runReg, among])).trans (hcnt _ _ _ (by simp [runReg, among]))).trans (honce _ _ _ _)).trans (honce _ _ _ _)
  · obtain ⟨o, ho, rfl⟩ := List.mem_map.mp hv
    obtain ⟨e, -, rfl⟩ := List.mem_map.mp ho
    exact tonEmit_val_lt _ _ _ _ _ _ _ _

end

theorem ends_runSend_waits {s : State} {n : Fin 26} {f : Frame} {r : Running} {cell : Nat} {rest : List Nat} (hrun : (s.slice n).running = some r)
    (hready : r.ready = cell :: rest) (hf : s.syn.frames = [f]) (hnum : f.num = r.deal.frame) (hroom : s.queueRoom r.deal.tile (r.deal.perCell f.layout) = false) :
    Ends (.runSend n) s fun t => t.rb (Reg.SLC_STATUS n) 16 = true ∧ Within [.regs, .hif] (among [Reg.SLC_STATUS n]) s t := by
  refine ends_of_done (congrArg done (State.runSend_waits hrun hready hf hnum hroom)) ⟨?_, ?_⟩
  · exact (s.rb_wb_same _ (by decide) _ _).trans (if_pos rfl)
  · exact ((s.wb_within _ _ _).mono (by decide) (by simp [among])).ended (by decide)

theorem ends_runSend_queued {s : State} {n : Fin 26} {f : Frame} {r : Running} {cell : Nat} {rest : List Nat} (hs : s.Shape) (hrun : (s.slice n).running = some r)
    (hready : r.ready = cell :: rest) (hf : s.syn.frames = [f]) (hnum : f.num = r.deal.frame) (hroom : s.queueRoom r.deal.tile (r.deal.perCell f.layout) = true)
    (htile : r.deal.tile < 6) : Ends (.runSend n) s fun t =>
      (∃ vals more, vals.length = r.deal.perCell f.layout ∧ (∀ v ∈ vals, v < 2 ^ 30) ∧
        nth [] t.syn.queues r.deal.tile = nth [] s.syn.queues r.deal.tile ++
          .run ⟨f.num, r.deal.col + cell % 8, (bandRows f.layout r.deal.band).1 + cell / 8 - geoLensH f.layout * (r.deal.tile / 3), vals⟩ :: more) ∧
      (∃ r', (t.slice n).running = some r' ∧ r'.ready = rest ∧ r'.deal.sent = cell :: r.deal.sent) ∧ t.mem = s.mem := by
  obtain ⟨u, f', r', vals, last, ended, hw, hlen, hlt, hrest, hsent, heq⟩ := State.runSend_queued hrun hready hf hnum hroom
  have husyn : u.syn = s.syn := hw.syn (by decide)
  obtain ⟨more, hqueue⟩ := State.runQueued_queue (u := u) (t := r.deal.tile) (by rw [husyn, hs.queues]; exact htile) n f' (s.slice n) r'
    ⟨f.num, r.deal.col + cell % 8, (bandRows f.layout r.deal.band).1 + cell / 8 - geoLensH f.layout * (r.deal.tile / 3), vals⟩ last
  obtain ⟨hslices, hmem⟩ := u.runQueued_slices n r.deal.tile f' (s.slice n) r'
    ⟨f.num, r.deal.col + cell % 8, (bandRows f.layout r.deal.band).1 + cell / 8 - geoLensH f.layout * (r.deal.tile / 3), vals⟩ last
  generalize u.runQueued n r.deal.tile f' (s.slice n) r' _ last = x at heq hqueue hslices hmem
  have hend : x.RunsKept (s.runSend n) := by
    rw [heq]
    dsimp only
    split
    · exact x.frameEnds_runsKept f' false
    · exact .refl x
  rw [husyn] at hqueue hslices
  refine ends_of_done (t := s.runSend n) rfl ⟨⟨vals, more, hlen, hlt, ?_⟩, ⟨r', ?_, hrest, hsent⟩, hend.mem.trans (hmem.trans (hw.mem (by decide)))⟩
  · exact (congrArg (fun q => nth [] q r.deal.tile) hend.queues).trans hqueue
  · have hn : n.val < s.syn.slices.length := by rw [hs.slices]; exact n.isLt
    refine (congrArg (fun l => (nth Slice.reset l n).running) (hend.slices.trans hslices)).trans ?_
    simp [nth, upd, hn]

/-! ### The next deal (R92) -/

/-- Slice `n` runs the deal of `r`, and SLC_STATUS shows its band (R109). -/
def State.Runs (s : State) (n : Nat) (r : Running) : Prop := (s.slice n).running = some r ∧ s.rf (Reg.SLC_STATUS n) 14 8 = r.deal.band % 128

/-- SLC_STATUS of a slice that runs a deal shows the deal's band. -/
theorem State.sliceStatus_runs {s : State} {n : Nat} {r : Running} (h : (s.slice n).running = some r) : (s.sliceStatus n).Runs n r := by
  have hstatus : s.sliceStatus n = (s.wf (Reg.SLC_STATUS n) 1 0 (b2n (s.slice n).running.isSome + b2n (s.slice n).queued.isSome)).wf (Reg.SLC_STATUS n) 14 8
      r.deal.band := by
    simp only [State.sliceStatus, h]
  rw [hstatus]
  exact ⟨h, State.rf_wf_same _ _ (by decide) (by decide) _⟩

/-- A slice that holds a deal is one of the die's. -/
theorem State.lt_of_running {s : State} {n : Nat} {r : Running} (h : (s.slice n).running = some r) : n < s.syn.slices.length := by
  by_contra hn
  rw [State.slice, nth, List.getD_eq_default _ _ (by omega)] at h
  cases h

/-- Deals that other slices take, or that the slice takes to run behind its own, leave the running deal alone. -/
theorem State.Runs.takeDeal {s : State} {n : Nat} {r : Running} (h : s.Runs n r) (m : Nat) : (s.takeDeal m).Runs n r := by
  obtain ⟨hrun, hband⟩ := h
  have hframe : ∀ g v, m ≠ n → (((s.setFrame g).setSlice m v).sliceStatus m).Runs n r := fun g v hm => by
    have hw := ((s.setFrame g).setSlice m v).sliceStatus_within m
    refine ⟨?_, (hw.rf (beq_eq_false_iff_ne.mpr fun e => hm ?_) 14 8).trans hband⟩
    · rw [State.slice, hw.syn (by decide)]
      exact (congrArg Slice.running ((s.setFrame g).slice_setSlice_other hm v)).trans hrun
    · simp only [Reg.SLC_STATUS] at e
      omega
  obtain heq | ⟨f, -, d, t, -, ⟨hnone, heq⟩ | ⟨q, -, heq⟩⟩ := s.takeDeal_cases m
  · rw [heq]
    exact ⟨hrun, hband⟩
  · rw [heq]
    exact hframe _ _ fun e => by rw [e, hrun] at hnone; cases hnone
  · rw [heq]
    by_cases hm : m = n
    · subst hm
      refine State.sliceStatus_runs ?_
      exact (congrArg Slice.running (State.slice_setSlice_same (s := s.setFrame _) (State.lt_of_running hrun) _)).trans hrun
    · exact hframe _ _ hm

theorem State.Runs.dealOut {s : State} {n : Nat} {r : Running} (h : s.Runs n r) : s.dealOut.Runs n r :=
  State.each_induction (P := fun u => u.Runs n r) (State.each_induction (P := fun u => u.Runs n r) h fun m _ _ hu => hu.takeDeal m) fun m _ _ hu => hu.takeDeal m

/-- DEAL_FINISH (R92). -/
theorem ends_dealFinish {s : State} {n : Fin 26} {f : Frame} {r : Running} {d : Deal} (hrun : (s.slice n).running = some r)
    (hqueued : (s.slice n).queued = some d) (hf : s.syn.frames = [f]) (hnum : f.num = r.deal.frame) (hd : d.frame = f.num)
    (hsent : r.deal.sent.length = r.deal.cellCount f.layout) : Ends (.dealFinish n) s fun t =>
      (t.slice n).running = some (d.start f.layout) ∧ t.rf (Reg.SLC_STATUS n) 14 8 = d.band % 128 ∧ t.mem = s.mem := by
  have hnext : s.nextDeal (s.slice n) = some (d.start f.layout) := by
    simp only [State.nextDeal, hqueued, Option.bind_some, State.find_lone hf hd.symm, Option.map_some]
  obtain ⟨u, hu⟩ : ∃ u, s.setSlice n { s.slice n with running := some (d.start f.layout), queued := none } = u := ⟨_, rfl⟩
  have heq : s.dealFinish n = ((u.sliceStatus n).dealOut).reelTrim := by
    rw [← hu]
    simp only [State.dealFinish, hrun, hnext, State.find_lone hf hnum, hsent, decide_true, if_true]
  have hrunning : (u.slice n).running = some (d.start f.layout) := by
    rw [← hu, State.slice_setSlice_same (State.lt_of_running hrun)]
  obtain ⟨hslice, hband⟩ := (State.sliceStatus_runs hrunning).dealOut
  have hkept := ((hu ▸ s.setSlice_walksKept n _).trans (u.sliceStatus_walksKept n)).trans ((State.dealOut_walksKept _).trans (State.reelTrim_walksKept _))
  refine ends_of_done (congrArg done heq) ⟨hslice, hband, hkept.within.mem (by decide)⟩

/-- Settles O33, command by command. -/
theorem dealsAndRays : Obligations.DealsAndRays := by
  unfold Obligations.DealsAndRays
  intro s hs
  exact ⟨fun f => ends_bandStart_begins, ends_bandStart_stops,
    fun n k f r i g hrun hlane hview hf hnum hlen hg => ends_rayDone hs hrun hlane hview hf hnum hlen hg,
    fun n f r cell rest hrun hready hf hnum => ⟨ends_runSend_waits hrun hready hf hnum, ends_runSend_queued hs hrun hready hf hnum⟩,
    fun n f r d hrun hqueued hf hnum hd hsent => ends_dealFinish hrun hqueued hf hnum hd hsent⟩

end Sys2Proof.Machine

/-! # Proof views (spec/05_ray_synthesis.md R103) -/
namespace Sys2Proof.Machine

/-! ### Where device addresses lie, through writes (R252, R254) -/

/-- What tells where a device address lies stands: the interleave map, and the retired pages and the capacity of each channel. -/
structure State.MapKept (s t : State) : Prop where
  map : t.dmc.map = s.dmc.map
  retired : ∀ c, (t.chan c).retired = (s.chan c).retired
  size : ∀ c < 6, t.rd (Reg.DMC_CH_STATUS c) = s.rd (Reg.DMC_CH_STATUS c)

theorem State.MapKept.refl (s : State) : s.MapKept s := ⟨rfl, fun _ => rfl, fun _ _ => rfl⟩

theorem State.MapKept.trans {s t u : State} (h : s.MapKept t) (k : t.MapKept u) : s.MapKept u :=
  ⟨k.map.trans h.map, fun c => (k.retired c).trans (h.retired c), fun c hc => (k.size c hc).trans (h.size c hc)⟩

/-- A channel of a set is one of six. -/
theorem chPick_lt (mask i : Nat) : chPick mask i < 6 := by
  obtain h | h := nth_mem_or_default 0 ((List.range 6).filter fun c => mask.testBit c) i
  · exact List.mem_range.mp (List.mem_filter.mp h).1
  · rw [chPick, h]
    decide

theorem ISet.decode_lt (k : ISet) (a : Nat) : (k.decode a).1 < 6 := by
  unfold ISet.decode
  exact chPick_lt _ _

theorem State.MapKept.locate {s t : State} (h : s.MapKept t) (a : Nat) : t.locate a = s.locate a := by
  have hredirect : ∀ c < 6, ∀ la, t.redirect c la = s.redirect c la := fun c hc la => by
    have hsize : t.chanUsable c = s.chanUsable c := congrArg (fun w => fld w 7 0 * 2 ^ 30 - unitBytes) (h.size c hc)
    simp only [State.redirect, h.retired, hsize]
  have hset : ∀ k : ISet, t.redirect (k.decode a).1 (k.decode a).2 = s.redirect (k.decode a).1 (k.decode a).2 := fun k => hredirect _ (k.decode_lt a) _
  simp only [State.locate, h.map, hset]

theorem State.MapKept.stores {s t : State} (h : s.MapKept t) (a n k : Nat) : t.stores a n k ↔ s.stores a n k := by
  simp only [State.stores, h.locate]

/-- A channel changed in anything but its retired pages. -/
theorem State.setChan_mapKept {s : State} {c : Nat} {v : DmcChan} (h : v.retired = (s.chan c).retired) : s.MapKept (s.setChan c v) :=
  ⟨rfl, fun m => State.chan_setChan_keeps DmcChan.retired h m, fun _ _ => rfl⟩

theorem State.rouse_mapKept (s : State) (c la : Nat) : s.MapKept (s.rouse c la) := State.setChan_mapKept rfl

theorem Within.mapKept {l : List Fld} {q : Nat → Bool} {s t : State} (h : Within l q s t) (hl : Fld.dmc ∉ l) (hq : ∀ c < 6, q (Reg.DMC_CH_STATUS c) = false) :
    s.MapKept t := by
  have hdmc : t.dmc = s.dmc := (h.1 .dmc).resolve_left hl
  exact ⟨by rw [hdmc], fun c => by rw [State.chan, hdmc, State.chan], fun c hc => h.rd (hq c hc)⟩

theorem State.countBytes_mapKept (s : State) (c n : Nat) : s.MapKept (s.countBytes c n true) := by
  have hcount : ∀ (u : State) (k : Nat), u.MapKept (u.cntSat (Reg.DMC_CH_WR_BYTES c) 32 k) := fun u k =>
    (u.cntSat_within _ _ _).mapKept (by decide) fun d _ => beq_eq_false_iff_ne.mpr (by simp only [Reg.DMC_CH_STATUS, Reg.DMC_CH_WR_BYTES]; omega)
  exact (State.setChan_mapKept (c := c) (v := { s.chan c with wrRem := ((s.chan c).wrRem + n) % 65536 }) rfl).trans (hcount _ _)

theorem State.lineWrite_mapKept (s : State) (c la : Nat) (d : List Byte) : s.MapKept (s.lineWrite c la d) := by
  have hbase := ((s.setCells_within d (cellKey c la) (q := fun _ => false)).mapKept (by decide) fun _ _ => rfl).trans (State.countBytes_mapKept _ c d.length)
  unfold State.lineWrite
  dsimp only
  split
  · exact hbase.trans (State.setChan_mapKept rfl)
  · exact hbase

theorem State.settleLine_mapKept (s : State) (c la : Nat) : s.MapKept (s.settleLine c la) := by
  rw [State.settleLine_eq]
  refine List.foldlRecOn (motive := fun u => s.MapKept u) _ _ (State.setChan_mapKept ?_) fun u hu q _ => hu.trans (u.lineWrite_mapKept c q.la q.bytes)
  split <;> rfl

/-! ### Writes and the cells they store to (R38, R252) -/

/-- `t` is `s` after writes that store to cells of `p` only: device addresses lie where they did, synthesis stands, and no other byte reads otherwise. -/
structure State.Writes (p : Nat → Prop) (s t : State) : Prop where
  map : s.MapKept t
  syn : t.syn = s.syn
  bytes : s.MemoryOutside t p

theorem State.Writes.refl (p : Nat → Prop) (s : State) : State.Writes p s s := ⟨.refl s, rfl, fun _ _ _ _ => rfl⟩

theorem State.Writes.trans {p : Nat → Prop} {s t u : State} (h : State.Writes p s t) (k : State.Writes p t u) : State.Writes p s u :=
  ⟨h.map.trans k.map, k.syn.trans h.syn, fun c la hla hp => (k.bytes c la hla hp).trans (h.bytes c la hla hp)⟩

theorem Within.byteAt {l : List Fld} {q : Nat → Bool} {s t : State} (h : Within l q s t) (hm : Fld.mem ∉ l) (hd : Fld.dmc ∉ l) (c la : Nat) :
    t.byteAt c la = s.byteAt c la := by
  have hdmc : t.dmc = s.dmc := (h.1 .dmc).resolve_left hd
  simp only [State.byteAt, State.sub, State.chan, State.cell, h.mem hm, hdmc]

/-- A step that leaves synthesis, memory and the memory controller alone. -/
theorem Within.writes {l : List Fld} {q : Nat → Bool} {s t : State} (h : Within l q s t) (hl : Fld.mem ∉ l ∧ Fld.dmc ∉ l ∧ Fld.syn ∉ l)
    (hq : ∀ c < 6, q (Reg.DMC_CH_STATUS c) = false) (p : Nat → Prop) : State.Writes p s t :=
  ⟨h.mapKept hl.2.1 hq, h.syn hl.2.2, fun c la _ _ => h.byteAt hl.1 hl.2.1 c la⟩

/-- One burst within its line: what it writes lies from where its first byte lies (R252); denied or unmapped, it stores nothing. -/
theorem State.writeBurst_writes {s : State} {a : Nat} {d : List Byte} {p : Nat → Prop} (port : Option Nat) (hd : d.length ≤ lineLeft a)
    (hp : ∀ c la i, s.locate a = some (c, la) → i < d.length → p (cellKey c la + i)) : State.Writes p s (s.writeBurst port a d).1 := by
  unfold State.writeBurst
  split
  · split
    · exact (s.cntSat_within _ _ _).writes (by decide) (by decide) p
    · next c la hloc =>
      have hla := State.locate_lt hloc
      have hmod := State.locate_mod hloc
      have hfit : d.length ≤ lineLeft la := by
        simp only [lineLeft] at hd ⊢
        omega
      have hw := (((s.setChan_within c _ (q := among [Reg.DMC_CH_WR_BYTES c])).widen (m := [.regs, .mem, .dmc]) (by decide)).trans
        ((s.rouse c la).settleLine_within c la)).trans (State.lineWrite_within _ c la d)
      refine ⟨((s.rouse_mapKept c la).trans (State.settleLine_mapKept _ _ _)).trans (State.lineWrite_mapKept _ _ _ _), hw.syn (by decide), fun m x hx hout => ?_⟩
      refine ((s.rouse c la).byteAt_written hla hfit m hx).trans ?_
      rw [if_neg, State.byteAt_rouse]
      rintro ⟨rfl, hlo, hhi⟩
      refine hout ?_
      rw [show cellKey m x = cellKey m la + (x - la) by simp only [cellKey]; omega]
      exact hp m la _ hloc (by omega)
  · split
    · next q _ => exact (s.phViol_within q a true).writes (by decide) (by decide) p
    · exact .refl p s

/-- What a write stores from its second line on is of what it stores. -/
theorem State.stores_of_next {s : State} {a n k : Nat} (h : s.stores (a + lineLeft a) (n - lineLeft a) k) : s.stores a n k := by
  obtain ⟨b, c, la, i, hlo, hhi, hb, hloc, hi, hline, hk⟩ := h
  simp only [lineLeft] at *
  exact ⟨b, c, la, i, by omega, by omega, by omega, hloc, by omega, hline, hk⟩

/-- A write, burst by burst, stores to its own cells only. -/
theorem State.writeBursts_writes {p : Nat → Prop} (fuel : Nat) (s : State) (port : Option Nat) (a : Nat) (d : List Byte)
    (hp : ∀ k, s.stores a d.length k → p k) : State.Writes p s (s.writeBursts port fuel a d).1 := by
  induction fuel generalizing s a d with
  | zero => exact .refl p s
  | succ fuel ih =>
    unfold State.writeBursts
    split
    · exact .refl p s
    · have hburst := s.writeBurst_writes port (a := a) (d := d.take (lineLeft a)) (p := p) (List.length_take_le _ _) fun c la i hloc hi => by
        rw [List.length_take] at hi
        simp only [lineLeft] at hi
        exact hp _ ⟨a, c, la, i, by omega, by omega, .inl rfl, hloc, by omega, by omega, rfl⟩
      refine hburst.trans (ih _ _ _ fun k hk => hp k ?_)
      rw [List.length_drop, hburst.map.stores] at hk
      exact State.stores_of_next hk

theorem State.writeMem_writes {p : Nat → Prop} (s : State) (port : Option Nat) (a : Nat) (d : List Byte) (hp : ∀ k, s.stores a d.length k → p k) :
    State.Writes p s (s.writeMem port a d).1 := s.writeBursts_writes _ port a d hp

/-! ### The rows of a band (R103) -/

theorem State.freeBytes_length (n : Nat) (s : State) : (s.freeBytes n).1.length = n := by
  induction n generalizing s with
  | zero => rfl
  | succ n ih => exact congrArg (· + 1) (ih _)

theorem State.freeBytes_within (n : Nat) (s : State) : Within [.freeCtr] (fun _ => false) s (s.freeBytes n).2 := by
  induction n generalizing s with
  | zero => exact .refl s
  | succ n ih =>
    have hfree : Within [.freeCtr] (fun _ => false) s (s.free 8).2 := .of_same (fun f => by cases f <;> first | (left; decide) | (right; rfl)) rfl
    exact hfree.trans (ih _)

theorem leBytes_length (k n : Nat) : (leBytes k n).length = k := by
  induction k generalizing n with
  | zero => rfl
  | succ k ih => exact congrArg (· + 1) (ih _)

/-- The bytes of a staged row. -/
def State.stagedRow (s : State) (f : Frame) (v i y : Nat) : List Byte := (List.range 3840).flatMap fun x => leBytes 4 (s.staged f v i y x)

theorem State.stagedRow_length (s : State) (f : Frame) (v i y : Nat) : (s.stagedRow f v i y).length = 15360 := by
  simp only [State.stagedRow, List.length_flatMap, leBytes_length, List.map_const', List.length_range, List.sum_replicate_nat]

theorem State.stagedRow_congr {s t : State} (h : t.syn = s.syn) (f : Frame) (v i y : Nat) : t.stagedRow f v i y = s.stagedRow f v i y := by
  simp only [State.stagedRow, State.staged, h]

/-- Row `y` of band number `i` of a view written to the buffer at `base`: as staged, or free where the image is unpredictable. -/
def State.rowWritten (s : State) (f : Frame) (pv : PView) (v i base y : Nat) : State × Bool :=
  let x := if pv.wild f.layout then s.freeBytes 15360 else (s.stagedRow f v i y, s)
  x.2.writeMem pv.port ((base + y * pv.pitch) % 2 ^ 40) x.1

theorem State.rowWritten_staged {f : Frame} {pv : PView} (h : pv.wild f.layout = false) (s : State) (v i base y : Nat) :
    s.rowWritten f pv v i base y = s.writeMem pv.port ((base + y * pv.pitch) % 2 ^ 40) (s.stagedRow f v i y) := by
  simp only [State.rowWritten, h, Bool.false_eq_true, if_false]

theorem State.rowWritten_writes {p : Nat → Prop} (s : State) (f : Frame) (pv : PView) (v i base y : Nat)
    (hp : ∀ k, s.stores ((base + y * pv.pitch) % 2 ^ 40) 15360 k → p k) : State.Writes p s (s.rowWritten f pv v i base y).1 := by
  cases hw : pv.wild f.layout with
  | false =>
    rw [State.rowWritten_staged hw]
    exact s.writeMem_writes _ _ _ fun k hk => hp k (by rwa [State.stagedRow_length] at hk)
  | true =>
    have hfree : State.Writes p s (s.freeBytes 15360).2 := (s.freeBytes_within 15360).writes (by decide) (fun _ _ => rfl) p
    simp only [State.rowWritten, hw, if_true]
    refine hfree.trans (State.writeMem_writes _ _ _ _ fun k hk => hp k ?_)
    rwa [State.freeBytes_length, hfree.map.stores] at hk

/-- The rows of band number `i` of a view written one after the other, and whether any part was denied. -/
def State.bandWritten (s : State) (f : Frame) (pv : PView) (v i base : Nat) : State × Bool :=
  let r := bandRows f.layout (f.band i)
  (List.range (r.2 + 1 - r.1)).foldl (fun acc k => let w := acc.1.rowWritten f pv v i base (r.1 + k); (w.1, acc.2 || w.2)) (s, false)

/-- The addresses at which rows of band number `i` of a view begin in the buffer at `base`. -/
def PView.rowAt (pv : PView) (f : Frame) (i base a : Nat) : Prop :=
  ∃ y, (bandRows f.layout (f.band i)).1 ≤ y ∧ y ≤ (bandRows f.layout (f.band i)).2 ∧ a = (base + y * pv.pitch) % 2 ^ 40

/-- The band's writes store to the cells of its rows only. -/
theorem State.bandWritten_writes (s : State) (f : Frame) (pv : PView) (v i base : Nat) :
    State.Writes (fun k => ∃ a, pv.rowAt f i base a ∧ s.stores a 15360 k) s (s.bandWritten f pv v i base).1 := by
  refine List.foldlRecOn (motive := fun (acc : State × Bool) => State.Writes (fun k => ∃ a, pv.rowAt f i base a ∧ s.stores a 15360 k) s acc.1) _ _ (.refl _ s)
    fun acc hacc k hk => hacc.trans (acc.1.rowWritten_writes f pv v i base _ fun c hc => ?_)
  have hlt := List.mem_range.mp hk
  exact ⟨_, ⟨_, by omega, by omega, rfl⟩, (hacc.map.stores ..).mp hc⟩

/-- Of a view whose image is not unpredictable, they are its staged rows. -/
theorem State.bandWritten_staged {f : Frame} {pv : PView} (h : pv.wild f.layout = false) (s : State) (i base : Nat) :
    (s.bandWritten f pv pv.view i base).1 = s.putBand f pv i base := by
  have hrows : ∀ (l : List Nat) (x : State) (b : Bool), x.syn = s.syn →
      (l.foldl (fun (acc : State × Bool) k =>
        let w := acc.1.rowWritten f pv pv.view i base ((bandRows f.layout (f.band i)).1 + k); (w.1, acc.2 || w.2)) (x, b)).1 =
      l.foldl (fun (x : State) k => (x.writeMem pv.port ((base + ((bandRows f.layout (f.band i)).1 + k) * pv.pitch) % 2 ^ 40)
        (s.stagedRow f pv.view i ((bandRows f.layout (f.band i)).1 + k))).1) x := fun l => by
    induction l with
    | nil => exact fun _ _ _ => rfl
    | cons k l ih =>
      intro x b hx
      have hw := x.rowWritten_writes (p := fun _ => True) f pv pv.view i base ((bandRows f.layout (f.band i)).1 + k) fun _ _ => trivial
      rw [List.foldl_cons, List.foldl_cons, ih _ _ (hw.syn.trans hx), State.rowWritten_staged h, State.stagedRow_congr hx]
  exact hrows _ s false rfl

/-! ### The band is recorded, and the image is complete with its last (R103) -/

/-- The frame with band number `i` of view `v` recorded as written to buffer `buf`: its staged pixels are gone. -/
def Frame.recorded (f : Frame) (v i buf : Nat) (denied : Bool) : Frame :=
  { f with
    pvDone := f.pvDone ++ [(v, f.band i)], pvDenied := if denied then insSorted v f.pvDenied else f.pvDenied
    views := f.views.map fun x => if x.view = v then { x with buf := some buf } else x
    pvPix := f.pvPix.filter fun x => !(x.1 / 2 ^ 24 == v && decide ((bandRows f.layout (f.band i)).1 ≤ x.1 / 4096 % 4096) &&
      decide (x.1 / 4096 % 4096 ≤ (bandRows f.layout (f.band i)).2)) }

/-- Every frame behind frame `num` renders view `v`. -/
def State.rendersOn (s : State) (v num : Nat) : Bool :=
  ((s.syn.frames.dropWhile fun x => x.num ≠ num).drop 1).all fun x => x.views.any (fun y => y.view = v) && !x.pvCut.contains v

/-- The image of view `v` is complete: PV_STATUS names the frame and the buffer and whether writes were denied, and the other buffer is next. -/
def State.viewComplete (s : State) (v num buf : Nat) (denied whole : Bool) : State :=
  let s := ((s.wb (Reg.PV_STATUS v) 31 denied).wf (Reg.PV_STATUS v) 16 16 buf).wf (Reg.PV_STATUS v) 15 0 (num % 65536)
  let s := s.when whole fun s => s.wb (Reg.PV_STATUS v) 29 false
  ({ s with syn := { s.syn with pvNext := upd s.syn.pvNext v (1 - buf) } }).evt (653 + v)

/-- The fields and the registers that it changes. -/
theorem State.viewComplete_within (s : State) (v num buf : Nat) (denied whole : Bool) :
    Within [.regs, .hif, .svc, .sent, .syn] (fun a => evtReg a || a == Reg.PV_STATUS v) s (s.viewComplete v num buf denied whole) := by
  have hwr : ∀ (u : State) (w : Word), Within [.regs, .hif, .svc, .sent, .syn] (fun a => evtReg a || a == Reg.PV_STATUS v) u (u.wr (Reg.PV_STATUS v) w) := fun u w =>
    (u.wr_within _ w).mono (by decide) (by simp +contextual)
  have hwhole : ∀ u : State, Within [.regs, .hif, .svc, .sent, .syn] (fun a => evtReg a || a == Reg.PV_STATUS v) u
      (u.when whole fun s => s.wb (Reg.PV_STATUS v) 29 false) := fun u => State.when_within whole (hwr u _)
  unfold State.viewComplete
  exact (((((hwr s _).trans (hwr _ _)).trans (hwr _ _)).trans (hwhole _)).trans ((State.withSyn_within _ _).widen (by decide))).trans
    ((State.evt_within _ _).mono (by decide) (by simp +contextual))

theorem State.viewComplete_syn (s : State) (v num buf : Nat) (denied whole : Bool) :
    (s.viewComplete v num buf denied whole).syn = { s.syn with pvNext := upd s.syn.pvNext v (1 - buf) } := by
  unfold State.viewComplete
  refine ((State.evt_within _ _).syn (by decide)).trans ?_
  cases whole <;> rfl

theorem State.viewComplete_status (s : State) {v : Nat} (hv : v < 4) (num buf : Nat) (denied whole : Bool) :
    (s.viewComplete v num buf denied whole).rf (Reg.PV_STATUS v) 15 0 = num % 65536 ∧
      (s.viewComplete v num buf denied whole).rf (Reg.PV_STATUS v) 16 16 = buf % 2 := by
  have hreg : ∀ v < 4, evtReg (Reg.PV_STATUS v) = false := by decide
  have hevt : ∀ (u : State) (hi lo : Nat), (u.evt (653 + v)).rf (Reg.PV_STATUS v) hi lo = u.rf (Reg.PV_STATUS v) hi lo := fun u hi lo =>
    (u.evt_within _).rf (hreg v hv) hi lo
  have hwhole : ∀ (u : State) (hi lo : Nat), lo ≤ hi → hi < 29 →
      (u.when whole fun s => s.wb (Reg.PV_STATUS v) 29 false).rf (Reg.PV_STATUS v) hi lo = u.rf (Reg.PV_STATUS v) hi lo := fun u hi lo hl hh => by
    cases whole with
    | false => rfl
    | true => exact u.rf_wb_other _ (by decide) hl (.inr hh) false
  unfold State.viewComplete
  constructor
  · refine (hevt _ _ _).trans ((hwhole _ _ _ (by decide) (by decide)).trans ((State.rf_wf_same _ _ (by decide) (by decide) _).trans ?_))
    exact Nat.mod_mod num 65536
  · refine (hevt _ _ _).trans ((hwhole _ _ _ (by decide) (by decide)).trans ?_)
    exact (State.rf_wf_other _ _ (by decide) (by decide) (by decide) (by decide) _).trans (State.rf_wf_same _ _ (by decide) (by decide) _)

section
variable {s : State} {v : Nat} {f : Frame} {pv : PView} {i : Nat} (hf : s.syn.frames = [f]) (hview : f.views.find? (fun x => decide (x.view = v)) = some pv)
  (hcut : f.pvCut.contains v = false) (hi : i = (f.pvDone.filter fun x => decide (x.1 = v)).length) (hlt : i < f.bands.length) (hstarted : i < f.started)
  (hbusy : ((f.deals ++ s.heldDeals f.num).any fun d => d.band == f.band i && d.view == some v) = false)
include hf hview hcut hi hlt hstarted hbusy

/-- PROOF_BAND_WRITE of a band whose pixels are staged: its rows are written, it is recorded, and with the last band the image is complete. -/
theorem State.proofWrite_staged {buf base : Nat} (hbuf : buf = pv.buf.getD (nth 0 s.syn.pvNext v)) (hbase : base = (if buf = 0 then pv.addr0 else pv.addr1)) :
    ∃ g denied whole, g.num = f.num ∧ g.pvDone = f.pvDone ++ [(v, f.band i)] ∧ s.proofWrite v =
      if i + 1 = f.bands.length then ((s.bandWritten f pv v i base).1.setFrame g).viewComplete v f.num buf denied whole
      else (s.bandWritten f pv v i base).1.setFrame g := by
  have hany : (f.views.any fun x => decide (x.view = v)) = true := 
    List.any_eq_true.mpr ⟨pv, List.mem_of_find?_eq_some hview, List.find?_some (p := fun (x : PView) => decide (x.view = v)) hview⟩
  have hfind : s.syn.frames.find? (fun f => (f.views.any fun x => x.view = v) && !f.pvCut.contains v &&
      decide ((f.pvDone.filter fun x => x.1 = v).length < f.bands.length)) = some f := by
    rw [hf, List.find?_cons_of_pos]
    simp only [hany, hcut, ← hi, hlt, Bool.not_false, decide_true, Bool.and_self]
  obtain ⟨w, hw⟩ : ∃ w, s.bandWritten f pv v i base = w := ⟨_, rfl⟩
  rw [hw]
  subst hbuf hbase
  simp only [State.proofWrite, hfind, hview, ← hi, hbusy]
  rw [if_neg (show ¬ (f.started ≤ i ∨ false = true) by simp [Nat.not_le.mpr hstarted])]
  generalize hfold : List.foldl _ (s, false) _ = x
  obtain rfl : x = w := hfold.symm.trans hw
  generalize pv.buf.getD (nth 0 s.syn.pvNext v) = buf
  exact ⟨f.recorded v i buf x.2, (f.recorded v i buf x.2).pvDenied.contains v, (x.1.setFrame (f.recorded v i buf x.2)).rendersOn v f.num, rfl, rfl, rfl⟩

end

/-- Settles O34: the band's rows alone are written, and what follows changes no byte. -/
theorem proofBandsAreWritten : Obligations.ProofBandsAreWritten := by
  unfold Obligations.ProofBandsAreWritten
  intro v f pv i buf base s hs hf hview hcut hi hlt hstarted hbusy hbuf hbase
  have hpv : pv.view = v.val := by simpa using List.find?_some hview
  obtain ⟨g, denied, whole, hnum, hdone, heq⟩ := State.proofWrite_staged hf hview hcut hi hlt hstarted hbusy hbuf hbase
  have hrows := s.bandWritten_writes f pv v i base
  have hstaged : pv.wild f.layout = false → (s.bandWritten f pv v i base).1 = s.putBand f pv i base := fun hw => hpv ▸ State.bandWritten_staged hw s i base
  generalize (s.bandWritten f pv v i base).1 = u at heq hrows hstaged
  obtain ⟨x, hx⟩ : ∃ x, u.setFrame g = x := ⟨_, rfl⟩
  have hxframes : x.syn.frames = [g] := by rw [← hx]; simp [State.setFrame, hrows.syn, hf, hnum]
  have hxnext : x.syn.pvNext.length = 4 := by rw [← hx]; exact (congrArg (fun y : Syn => y.pvNext.length) hrows.syn).trans hs.views
  have hxbytes : ∀ c la, x.byteAt c la = u.byteAt c la := by rw [← hx]; exact fun _ _ => rfl
  rw [hx] at heq
  have hend : (s.proofWrite v).syn.frames = [g] ∧ ∀ c la, (s.proofWrite v).byteAt c la = u.byteAt c la := by
    rw [heq]
    split
    · refine ⟨(congrArg Syn.frames (x.viewComplete_syn v f.num buf denied whole)).trans hxframes, fun c la => ?_⟩
      exact ((x.viewComplete_within v f.num buf denied whole).byteAt (by decide) (by decide) c la).trans (hxbytes c la)
    · exact ⟨hxframes, hxbytes⟩
  refine ends_of_done (t := s.proofWrite v) rfl ⟨⟨g, hend.1, hdone, hnum⟩, fun hw c la => ?_, fun hlast => ?_, fun c la hla hout => ?_⟩
  · exact (hend.2 c la).trans (congrArg (fun y : State => y.byteAt c la) (hstaged hw))
  · rw [if_pos hlast] at heq
    rw [heq]
    obtain ⟨hframe, hbuffer⟩ := x.viewComplete_status v.isLt f.num buf denied whole
    refine ⟨hframe, hbuffer, (congrArg (fun y : Syn => nth 0 y.pvNext v) (x.viewComplete_syn v f.num buf denied whole)).trans ?_⟩
    simp [nth, upd, hxnext]
  · exact (hend.2 c la).trans (hrows.bytes c la hla fun ⟨a, ha, hk⟩ => hout a ha hk)

end Sys2Proof.Machine

/-! # Frame epochs, latch points and cues (spec/06_epochs_flips_takes.md R112 to R133)

## Sync pins and TIME cues (R115, R116, R127) -/
namespace Sys2Proof.Machine

/-! ### The clock and the ideal epochs (R111, R112) -/

/-- The clock goes on, and nothing else changes. -/
theorem State.reachTime_eq (s : State) (t : Nat) : ∃ c, s.reachTime t = { s with clock := c } := ⟨_, rfl⟩

theorem State.reachTime_within (s : State) (t : Nat) {q : Nat → Bool} : Within [.clock] q s (s.reachTime t) := by
  obtain ⟨c, hc⟩ := s.reachTime_eq t
  rw [hc]
  exact .of_same (fun f => by cases f <;> first | (left; decide) | (right; rfl)) rfl

/-- A change of CMT's own state alone. -/
theorem State.withCmt_within (s : State) (v : Cmt) {q : Nat → Bool} : Within [.cmt] q s { s with cmt := v } :=
  .of_same (fun f => by cases f <;> first | (left; decide) | (right; rfl)) rfl

@[simp] theorem State.reachTime_rd (s : State) (t a : Nat) : (s.reachTime t).rd a = s.rd a := (s.reachTime_within t (q := fun _ => false)).rd rfl

@[simp] theorem State.reachTime_mem (s : State) (t : Nat) : (s.reachTime t).mem = s.mem := (s.reachTime_within t (q := fun _ => false)).mem (by decide)

theorem Within.cmt {l : List Fld} {q : Nat → Bool} {s t : State} (h : Within l q s t) (hl : Fld.cmt ∉ l) : t.cmt = s.cmt := (h.1 .cmt).resolve_left hl

@[simp] theorem State.reachTime_cmt (s : State) (t : Nat) : (s.reachTime t).cmt = s.cmt := (s.reachTime_within t (q := fun _ => false)).cmt (by decide)

theorem rateOf_bounds (r : Nat) : 0 < (rateOf r).1 ∧ (rateOf r).1 ≤ 120000 ∧ 1 ≤ (rateOf r).2 := by
  unfold rateOf
  generalize hl : [(24000, 1001), (24, 1), (25, 1), (30000, 1001), (30, 1), (48000, 1001), (48, 1), (50, 1), (60000, 1001), (60, 1), (100, 1), (120000, 1001), (120, 1)] = l
  have hall : ∀ x ∈ l, 0 < x.1 ∧ x.1 ≤ 120000 ∧ 1 ≤ x.2 := by
    rw [← hl]
    decide
  obtain h | h := nth_mem_or_default (60, 1) l r
  · exact hall _ h
  · rw [h]
    decide

/-- The ideal epochs are the multiples of the exact period `d / n`, rounded down; a period is at least a unit of time. The model's count of the periods in a
time is its quotient by `d / n`. -/
theorem epochTime_eq (r : Nat) : ∃ n d, 0 < n ∧ n ≤ d ∧ (∀ k, epochTime r k = k * d / n) ∧
    ∀ t, t * (rateOf r).1 / ((rateOf r).2 * 1000000000 * nsUnit) = t * n / d := by
  obtain ⟨hpos, hle, hd⟩ := rateOf_bounds r
  refine ⟨(rateOf r).1, (rateOf r).2 * (1000000000 * nsUnit), hpos, ?_, fun k => ?_, fun t => ?_⟩
  · generalize (rateOf r).1 = n at *
    generalize (rateOf r).2 = d at *
    simp only [nsUnit]
    omega
  · simp only [epochTime, Nat.mul_assoc]
  · simp only [Nat.mul_assoc]

theorem framePeriod_pos (r : Nat) : 0 < framePeriod r := by
  obtain ⟨n, d, hn, hd, heq, -⟩ := epochTime_eq r
  rw [framePeriod, heq, Nat.one_mul]
  exact Nat.div_pos hd hn

/-- As many periods as a span of time needs, each rounded down: their ideal epoch lies at least that span on. -/
theorem le_epochTime_periods (r need : Nat) : need ≤ epochTime r ((need + framePeriod r - 1) / framePeriod r) := by
  have hpos := framePeriod_pos r
  have hmul : ∀ j, j * framePeriod r ≤ epochTime r j := fun j => by
    obtain ⟨n, d, -, -, heq, -⟩ := epochTime_eq r
    rw [framePeriod, heq, heq, Nat.one_mul]
    exact Nat.mul_div_le_mul_div_assoc ..
  refine Nat.le_trans ?_ (hmul _)
  have hmod := Nat.mod_lt (need + framePeriod r - 1) hpos
  have hdiv := Nat.div_add_mod (need + framePeriod r - 1) (framePeriod r)
  rw [Nat.mul_comm]
  omega

/-! ### FRAME_SYNC_IN (R115, R325) -/

/-- The event of CLK_OUT_SYNC changes its own registers and those of its event. -/
def outReg (a : Nat) : Bool := evtReg a || (decide (0xF09040 ≤ a) && decide (a ≤ Reg.CLK_OUT_SYNC))

theorem State.outSync_within (s : State) (m : Nat) : Within evtFields outReg s (s.outSync m) := by
  have hwrite : ∀ (u : State) (a : Nat) (v : Word), 0xF09040 ≤ a → a ≤ Reg.CLK_OUT_SYNC → Within evtFields outReg u (u.wr a v) := fun u a v hl hu =>
    (u.wr_within a v).mono (by decide) fun b hb => by
      obtain rfl := beq_iff_eq.mp hb
      simp [outReg, hl, hu]
  unfold State.outSync
  split
  · exact .refl s
  · refine Within.trans (Within.trans ?_ (hwrite _ _ _ (by decide) (by decide))) ((State.evt_within _ _).regs_mono (by simp +contextual [outReg]))
    refine State.each_within 8 _ s fun n hn u => ?_
    exact Within.ite (.refl u) (hwrite u _ _ (by simp only [Reg.OUT_STATUS]; omega) (by simp only [Reg.OUT_STATUS, Reg.CLK_OUT_SYNC]; omega))

/-- An edge of the polarity that is not active changes nothing. -/
theorem State.syncEdge_inactive {s : State} {rising : Bool} (h : rising = s.rb Reg.SYNC_IN_CTRL 1) (t : Nat) : s.syncEdge rising t = s :=
  if_pos (.inr (.inr h))

/-- The epoch that the first active edge sets, at time `t`: that of the next count, at least one period and the lead on (R115). -/
def State.edgeEpoch (s : State) (t : Nat) : Epoch :=
  let need := max (framePeriod s.cmtRate) (s.rf Reg.CMT_LEAD 12 0 * 1000 * nsUnit)
  let j := (need + framePeriod s.cmtRate - 1) / framePeriod s.cmtRate
  ⟨(t * (rateOf s.cmtRate).1 / ((rateOf s.cmtRate).2 * 1000000000 * nsUnit) + j) % 2 ^ 48, t + epochTime s.cmtRate j⟩

theorem State.edgeEpoch_time (s : State) (t : Nat) : ∃ j, 1 ≤ j ∧ (s.edgeEpoch t).time = t + epochTime s.cmtRate j ∧
    s.rf Reg.CMT_LEAD 12 0 * 1000 * nsUnit ≤ (s.edgeEpoch t).time - t := by
  have hpos := framePeriod_pos s.cmtRate
  have hlead := le_epochTime_periods s.cmtRate (max (framePeriod s.cmtRate) (s.rf Reg.CMT_LEAD 12 0 * 1000 * nsUnit))
  refine ⟨_, ?_, rfl, ?_⟩
  · rw [Nat.le_div_iff_mul_le hpos]
    omega
  · have htime : (s.edgeEpoch t).time - t = _ := Nat.add_sub_cancel_left ..
    rw [htime]
    exact Nat.le_trans (Nat.le_max_right ..) hlead

/-- The first active edge after CMT began to wait for it. -/
theorem State.syncEdge_first {s : State} {rising : Bool} (hsrc : s.rf Reg.CMT_SRC 1 0 = 1) (hen : s.enabled cmtPage = true) (hwait : s.cmt.waitEdge = true)
    (hact : rising = !s.rb Reg.SYNC_IN_CTRL 1) (t : Nat) {u : State} (hu : s.reachTime t = u) {n : Nat} (hn : u.now = n) :
    s.syncEdge rising t =
      (({ u with cmt := { u.cmt with waitEdge := false, next := some (u.edgeEpoch n), edge := some n, good := 1, lead := u.rf Reg.CMT_LEAD 12 0 } }.wn
        Reg.SYNC_IN_LAST_NS (n / nsUnit % 1000000000)).wf Reg.SYNC_IN_STATUS 23 16 0).wf Reg.SYNC_IN_STATUS 31 31 1 := by
  have hw : u.cmt.waitEdge = true := by rw [← hu, State.reachTime_cmt, hwait]
  have hne : ¬ (s.rf Reg.CMT_SRC 1 0 ≠ 1 ∨ (!s.enabled cmtPage) = true ∨ rising = s.rb Reg.SYNC_IN_CTRL 1) := by
    rw [hact]
    simp [hsrc, hen]
  rw [State.syncEdge, if_neg hne]
  dsimp only
  rw [hu, if_pos hw, hn]
  rfl

theorem ends_syncInEdge_first {s : State} {rising : Bool} {t e : Nat} (hsrc : s.rf Reg.CMT_SRC 1 0 = 1) (hen : s.enabled cmtPage = true)
    (hwait : s.cmt.waitEdge = true) (hact : rising = !s.rb Reg.SYNC_IN_CTRL 1) (he : e = (s.reachTime t).now) : Ends (.syncInEdge rising t) s fun u =>
      u.cmt.waitEdge = false ∧ u.cmt.edge = some e ∧ u.cmt.good = 1 ∧ u.rb Reg.SYNC_IN_STATUS 31 = true ∧
      (∃ x j, u.cmt.next = some x ∧ 1 ≤ j ∧ x.time = e + epochTime s.cmtRate j ∧ s.rf Reg.CMT_LEAD 12 0 * 1000 * nsUnit ≤ x.time - e) ∧ u.mem = s.mem := by
  obtain ⟨v, hv⟩ : ∃ v, s.reachTime t = v := ⟨_, rfl⟩
  obtain ⟨n, hn⟩ : ∃ n, v.now = n := ⟨_, rfl⟩
  have hedge := State.syncEdge_first hsrc hen hwait hact t hv hn
  obtain ⟨w, hw⟩ : ∃ w, s.syncEdge rising t = w := ⟨_, rfl⟩
  have hstatus : w.rb Reg.SYNC_IN_STATUS 31 = true := by
    rw [← hw, hedge, State.wf, State.rb_wr_same, bit_setFld _ (by decide) (by decide), if_pos (by decide)]
    decide
  have hcmt : w.cmt = { v.cmt with waitEdge := false, next := some (v.edgeEpoch n), edge := some n, good := 1, lead := v.rf Reg.CMT_LEAD 12 0 } := by
    simp only [← hw, hedge, State.wf_cmt, State.wn_cmt]
  have hmem : w.mem = s.mem := by
    simp only [← hw, hedge, State.wf_mem, State.wn_mem]
    exact hv ▸ s.reachTime_mem t
  have hout := w.outSync_within 1
  have houtcmt := (hout.cmt (by decide)).trans hcmt
  have hdone : exec (.syncInEdge rising t) s = done (w.outSync 1) := by
    change done (if rising = (s.syncEdge rising t).rb Reg.SYNC_IN_CTRL 1 then _ else _) = _
    have hctrl : (s.syncEdge rising t).rb Reg.SYNC_IN_CTRL 1 = s.rb Reg.SYNC_IN_CTRL 1 := by
      have hrd : v.rd Reg.SYNC_IN_CTRL = s.rd Reg.SYNC_IN_CTRL := hv ▸ s.reachTime_rd t _
      simp only [hedge, State.rb, State.wf, State.wn]
      rw [State.rd_wr_other _ _ _ _ (by decide), State.rd_wr_other _ _ _ _ (by decide), State.rd_wr_other _ _ _ _ (by decide), ← hrd]
      rfl
    rw [hctrl, if_neg (by rw [hact]; simp), hw]
  obtain ⟨j, hj, htime, hlead⟩ := s.edgeEpoch_time n
  have hsame : v.edgeEpoch n = s.edgeEpoch n := by
    have hrd : ∀ a, v.rd a = s.rd a := hv ▸ s.reachTime_rd t
    simp only [State.edgeEpoch, State.cmtRate, State.rf, hrd]
  rw [he, hv, hn]
  refine ends_of_done hdone ?_
  refine ⟨congrArg Cmt.waitEdge houtcmt, congrArg Cmt.edge houtcmt, congrArg Cmt.good houtcmt, (hout.rb (by decide) 31).trans hstatus,
    ⟨s.edgeEpoch n, j, (congrArg Cmt.next houtcmt).trans (congrArg some hsame), hj, htime, hlead⟩, (hout.mem (by decide)).trans hmem⟩

theorem ends_syncInEdge_inactive {s : State} {rising : Bool} (t : Nat) (h : rising = s.rb Reg.SYNC_IN_CTRL 1) :
    Ends (.syncInEdge rising t) s fun u => Within [.hif] (fun _ => false) s u := by
  refine ends_of_done (t := s) ?_ s.endCycle_within
  change done (if rising = (s.syncEdge rising t).rb Reg.SYNC_IN_CTRL 1 then s.syncEdge rising t else _) = _
  rw [State.syncEdge_inactive h, if_pos h]

/-- A miss is counted and breaks the row of accepted edges. -/
def State.missCounted (s : State) : State :=
  ({ s with cmt := { s.cmt with good := 0 } }).wf Reg.SYNC_IN_STATUS 23 16 (satAdd 8 (s.rf Reg.SYNC_IN_STATUS 23 16) 1)

/-- The miss that reaches the limit begins FLYWHEEL. -/
def State.flywheel (s : State) : State := (((s.setTstate tsFlywheel).wf Reg.SYNC_IN_STATUS 31 31 0).evt 58).notice 22

theorem State.syncMiss_eq {s : State} (hsrc : s.rf Reg.CMT_SRC 1 0 = 1) (hrun : s.cmtRuns = true) : s.syncMiss =
    if max 1 (s.rf Reg.SYNC_IN_CTRL 11 8) ≤ satAdd 8 (s.rf Reg.SYNC_IN_STATUS 23 16) 1 ∧ s.tstate ≠ tsFlywheel then s.missCounted.flywheel else s.missCounted := by
  rw [State.syncMiss, if_neg (by simp [hsrc, hrun])]
  dsimp only
  have hctrl : s.missCounted.rf Reg.SYNC_IN_CTRL 11 8 = s.rf Reg.SYNC_IN_CTRL 11 8 := congrArg (fun w => fld w 11 8) (State.rd_wr_other _ _ _ _ (by decide))
  have hstate : s.missCounted.tstate = s.tstate := congrArg (fun w => fld w 2 0) (State.rd_wr_other _ _ _ _ (by decide))
  change (if max 1 (s.missCounted.rf Reg.SYNC_IN_CTRL 11 8) ≤ _ ∧ s.missCounted.tstate ≠ tsFlywheel then s.missCounted.flywheel else s.missCounted) = _
  rw [hctrl, hstate]

/-- The registers that a miss may write. -/
def missReg (a : Nat) : Bool := faultReg a || among [Reg.SYNC_IN_STATUS, Reg.CMT_STATUS] a

theorem State.missCounted_within (s : State) : Within (.cmt :: noticeFields) missReg s s.missCounted :=
  ((s.withCmt_within _).widen (by decide)).trans ((State.wf_within _ _ _ _ _).mono (by decide) (by simp [missReg, among]))

theorem State.flywheel_spec (s : State) : Within (.cmt :: noticeFields) missReg s s.flywheel ∧ s.flywheel.cmt = s.cmt ∧ s.flywheel.tstate = 4 ∧
    s.flywheel.rf Reg.SYNC_IN_STATUS 23 16 = s.rf Reg.SYNC_IN_STATUS 23 16 := by
  obtain ⟨u, hu⟩ : ∃ u, (s.setTstate tsFlywheel).wf Reg.SYNC_IN_STATUS 31 31 0 = u := ⟨_, rfl⟩
  have hafter : Within noticeFields faultReg u s.flywheel := by
    rw [State.flywheel, hu]
    exact (u.evt_within 58).toNotice.trans (State.notice_within _ 22 0 0 [] (by decide) (by decide))
  have hbefore : Within (.cmt :: noticeFields) missReg s u := by
    rw [← hu]
    exact ((s.wf_within Reg.CMT_STATUS 2 0 _).mono (by decide) (by simp [missReg, among])).trans ((State.wf_within _ _ _ _ _).mono (by decide) (by simp [missReg, among]))
  refine ⟨hbefore.trans (hafter.mono (by decide) (by simp +contextual [missReg])), (hafter.cmt (by decide)).trans (by rw [← hu]; rfl), ?_, ?_⟩
  · rw [State.tstate, hafter.rf (by decide), ← hu, State.rf, State.wf, State.rd_wr_other _ _ _ _ (by decide)]
    exact s.rf_wf_same Reg.CMT_STATUS (by decide) (by decide) 4
  · rw [hafter.rf (by decide), ← hu, State.rf_wf_other _ _ (by decide) (by decide) (by decide) (by decide)]
    exact congrArg (fun w => fld w 23 16) (State.rd_wr_other _ _ _ _ (by decide))

theorem ends_syncInMiss {s : State} (hsrc : s.rf Reg.CMT_SRC 1 0 = 1) (hrun : s.cmtRuns = true) (hlt : s.rf Reg.SYNC_IN_STATUS 23 16 < 255) :
    Ends .syncInMiss s fun u =>
      u.rf Reg.SYNC_IN_STATUS 23 16 = s.rf Reg.SYNC_IN_STATUS 23 16 + 1 ∧ u.cmt.good = 0 ∧
      (max 1 (s.rf Reg.SYNC_IN_CTRL 11 8) ≤ s.rf Reg.SYNC_IN_STATUS 23 16 + 1 → u.tstate = 4) ∧
      (s.rf Reg.SYNC_IN_STATUS 23 16 + 1 < max 1 (s.rf Reg.SYNC_IN_CTRL 11 8) → u.tstate = s.tstate) ∧
      Within (.cmt :: noticeFields) (fun a => faultReg a || among [Reg.SYNC_IN_STATUS, Reg.CMT_STATUS] a) s u := by
  have hnext : satAdd 8 (s.rf Reg.SYNC_IN_STATUS 23 16) 1 = s.rf Reg.SYNC_IN_STATUS 23 16 + 1 := if_pos (by omega)
  have hcount : s.missCounted.rf Reg.SYNC_IN_STATUS 23 16 = s.rf Reg.SYNC_IN_STATUS 23 16 + 1 := by
    rw [State.missCounted, State.rf_wf_same _ _ (by decide) (by decide), hnext]
    omega
  have hstate : s.missCounted.tstate = s.tstate := congrArg (fun w => fld w 2 0) (State.rd_wr_other _ _ _ _ (by decide))
  have hmiss := s.missCounted_within
  refine ends_of_done (t := s.syncMiss) rfl ?_
  rw [State.syncMiss_eq hsrc hrun, hnext]
  split
  · next h =>
    obtain ⟨hfly, hcmt, ht, hn⟩ := s.missCounted.flywheel_spec
    exact ⟨hn.trans hcount, congrArg Cmt.good hcmt, fun _ => ht, fun hlow => absurd h.1 (by omega), (hmiss.trans hfly).ended (by decide)⟩
  · next h =>
    refine ⟨hcount, rfl, fun hreach => hstate.trans ?_, fun _ => hstate, hmiss.ended (by decide)⟩
    exact Decidable.byContradiction fun hne => h ⟨hreach, hne⟩

/-! ### FRAME_SYNC_OUT (R116) -/

/-- The pin's rise, once the clock has reached its time `v`. -/
def State.syncRaised (v : State) (time : Nat) : State := { v with cmt := { v.cmt with syncOut := true, syncRise := v.now, syncFor := some time } }

theorem State.syncRaised_facts (v : State) (time : Nat) : (v.syncRaised time).cmt = { v.cmt with syncOut := true, syncRise := v.now, syncFor := some time } ∧
    (v.syncRaised time).clock = v.clock ∧ Within [.cmt, .hif, .clock] (fun _ => false) v (v.syncRaised time) := by
  unfold State.syncRaised
  generalize v.now = n
  exact ⟨rfl, rfl, (v.withCmt_within _).widen (by decide)⟩

theorem State.syncOutRise_eq {s : State} {e : Epoch} (he : s.syncEpoch = some e) (hrun : s.cmtRuns = true) (hen : s.rb Reg.SYNC_OUT_CTRL 0 = true)
    (hnew : s.cmt.syncFor ≠ some e.time) :
    s.syncOutRise = (s.reachTime ((e.time : Int) + sgn 32 (s.rn Reg.SYNC_OUT_OFFSET) * nsUnit).toNat).syncRaised e.time := by
  rw [State.syncOutRise, he]
  exact if_pos (by simp [hrun, hen, hnew])

theorem ends_syncOutRise {s : State} {e : Epoch} (he : s.syncEpoch = some e) (hrun : s.cmtRuns = true) (hen : s.rb Reg.SYNC_OUT_CTRL 0 = true)
    (hnew : s.cmt.syncFor ≠ some e.time) : Ends .syncOutRise s fun u =>
      u.cmt.syncOut = true ∧ u.cmt.syncFor = some e.time ∧ u.clock = (s.reachTime ((e.time : Int) + sgn 32 (s.rn Reg.SYNC_OUT_OFFSET) * nsUnit).toNat).clock ∧
        u.cmt.syncRise = u.now ∧ Within [.cmt, .hif, .clock] (fun _ => false) s u := by
  have hreach := s.reachTime_within ((e.time : Int) + sgn 32 (s.rn Reg.SYNC_OUT_OFFSET) * nsUnit).toNat (q := fun _ => false)
  have heq := State.syncOutRise_eq he hrun hen hnew
  generalize s.reachTime _ = v at hreach heq ⊢
  obtain ⟨hcmt, hclock, hwithin⟩ := v.syncRaised_facts e.time
  obtain ⟨u, hu⟩ : ∃ u, v.syncRaised e.time = u := ⟨_, rfl⟩
  rw [hu] at hcmt hclock hwithin heq
  refine ends_of_done (congrArg done heq) ⟨congrArg Cmt.syncOut hcmt, congrArg Cmt.syncFor hcmt, hclock,
    (congrArg Cmt.syncRise hcmt).trans (congrArg Clock.units hclock.symm), ?_⟩
  exact ((hreach.widen (by decide)).trans hwithin).ended (by decide)

theorem ends_syncOutRise_off {s : State} (h : s.cmtRuns = false ∨ s.rb Reg.SYNC_OUT_CTRL 0 = false) :
    Ends .syncOutRise s fun u => Within [.hif] (fun _ => false) s u := by
  have hoff : s.syncOutRise = s := by
    unfold State.syncOutRise
    split
    · exact if_neg (by obtain h | h := h <;> simp [h])
    · rfl
  exact ends_of_done (congrArg done hoff) s.endCycle_within

theorem ends_syncOutFall {s : State} (h : s.cmt.syncOut = true) : Ends .syncOutFall s fun u =>
      u.cmt.syncOut = false ∧ u.clock = (s.reachTime (s.cmt.syncRise + max 1 (s.rf Reg.SYNC_OUT_CTRL 15 8) * 1000 * nsUnit)).clock ∧
        Within [.cmt, .hif, .clock] (fun _ => false) s u := by
  have hclock := s.reachTime_within (s.cmt.syncRise + max 1 (s.rf Reg.SYNC_OUT_CTRL 15 8) * 1000 * nsUnit) (q := fun _ => false)
  refine ends_of_done (congrArg done (if_pos h)) ?_
  generalize s.reachTime _ = v at hclock ⊢
  exact ⟨rfl, rfl, ((hclock.widen (by decide)).trans ((v.withCmt_within _).widen (by decide))).ended (by decide)⟩

/-! ### TIME cues (R126, R127, R133) -/

/-- The block engine's operations that a cue line makes ready are no part of CMT's state. -/
theorem State.cueBlk_cmt (s : State) (c frame : Nat) : (s.cueBlk c frame).cmt = s.cmt := by
  have hloop : ∀ (p : Nat → State → Bool) (n : Nat), (s.each n fun i u => u.when (p i u) fun u => u.wb (Reg.BLK_Q_STATUS i) 20 false).cmt = s.cmt := fun p n =>
    State.each_induction (P := fun u => u.cmt = s.cmt) rfl fun i _ u hu => by
      unfold State.when
      split
      · exact hu
      · exact hu
  exact hloop _ 4

/-- A cue line before the event of its firing: the frame is shown and the cue counted, in the model's own count. -/
def State.cueShown (s : State) (c frame : Nat) (late : Bool) : State :=
  let u := (s.cueBlk c frame).wn (Reg.CUE_STATUS c) (frame % 65536 + b2n late * 2 ^ 31)
  { u with cmt := { u.cmt with cueCount := updWith u.cmt.cueCount c (· + 1) } }

theorem State.cueFire_eq (s : State) (c frame : Nat) (late : Bool) : s.cueFire c frame late = (s.cueShown c frame late).evt (54 + c) := rfl

/-- In CMT's state a cue line that fires changes that count alone. -/
theorem State.cueFire_cmt (s : State) (c frame : Nat) (late : Bool) : (s.cueFire c frame late).cmt = { s.cmt with cueCount := updWith s.cmt.cueCount c (· + 1) } := by
  rw [s.cueFire_eq, (State.evt_within _ _).cmt (by decide), ← s.cueBlk_cmt c frame]
  rfl

theorem State.cueFire_shows (s : State) {c : Nat} (hc : c < 4) (frame : Nat) : (s.cueFire c frame false).rn (Reg.CUE_STATUS c) = frame % 65536 := by
  have hfree : ∀ c < 4, evtReg (Reg.CUE_STATUS c) = false := by decide
  have hshown : (s.cueShown c frame false).rn (Reg.CUE_STATUS c) = ((s.cueBlk c frame).wn (Reg.CUE_STATUS c) (frame % 65536 + b2n false * 2 ^ 31)).rn (Reg.CUE_STATUS c) := rfl
  rw [s.cueFire_eq, (State.evt_within _ _).rn (hfree c hc), hshown, State.wn, State.rn_wr_same, BitVec.toNat_ofNat]
  simp only [b2n, Bool.false_eq_true, if_false]
  omega

theorem State.cueTime_fires {s : State} {c : Nat} {e : Epoch} (he : s.cmt.last = some e) (hrun : s.cmtRuns = true) (hmode : s.cueMode c = 2)
    (hnew : c ∉ s.cmt.cueFired) : ∃ t, s.cueTime c = ({ s.reachTime t with cmt := { s.cmt with cueFired := c :: s.cmt.cueFired } } : State).cueFire c e.count false := by
  unfold State.cueTime
  rw [he]
  dsimp only
  rw [if_pos ⟨hrun, hmode, by simpa using hnew⟩]
  exact ⟨_, rfl⟩

theorem ends_cueTimeFire {s : State} {c : Fin 4} {e : Epoch} (hs : s.Shape) (he : s.cmt.last = some e) (hrun : s.cmtRuns = true) (hmode : s.cueMode c = 2)
    (hnew : c.val ∉ s.cmt.cueFired) : Ends (.cueTimeFire c) s fun u =>
      u.rn (Reg.CUE_STATUS c) = e.count % 65536 ∧ nth 0 u.cmt.cueCount c = nth 0 s.cmt.cueCount c + 1 ∧ c.val ∈ u.cmt.cueFired ∧
      Within [.regs, .hif, .svc, .sent, .cmt, .blk, .clock] (fun a => evtReg a || a == Reg.CUE_STATUS c || (List.range 4).any fun p => a == Reg.BLK_Q_STATUS p) s u := by
  obtain ⟨t, ht⟩ := State.cueTime_fires he hrun hmode hnew
  obtain ⟨v, hv⟩ : ∃ v, ({ s.reachTime t with cmt := { s.cmt with cueFired := c.val :: s.cmt.cueFired } } : State) = v := ⟨_, rfl⟩
  have hwait : Within [.regs, .hif, .svc, .sent, .cmt, .blk, .clock]
      (fun a => evtReg a || a == Reg.CUE_STATUS c || (List.range 4).any fun p => a == Reg.BLK_Q_STATUS p) s v := by
    rw [← hv]
    exact ((s.reachTime_within t).widen (by decide)).trans ((State.withCmt_within _ _).widen (by decide))
  have hfire := (v.cueFire_within c e.count false).mono (m := [.regs, .hif, .svc, .sent, .cmt, .blk, .clock])
    (q := fun a => evtReg a || a == Reg.CUE_STATUS c || (List.range 4).any fun p => a == Reg.BLK_Q_STATUS p) (by decide) fun a ha => by
      simpa [cueReg, among, List.range, List.range.loop, or_assoc, or_comm, or_left_comm] using ha
  have hcmt := v.cueFire_cmt c e.count false
  have hcount : v.cmt.cueCount = s.cmt.cueCount := by rw [← hv]
  have hfired : v.cmt.cueFired = c.val :: s.cmt.cueFired := by rw [← hv]
  rw [hv] at ht
  refine ends_of_done (t := s.cueTime c) rfl ?_
  rw [ht]
  refine ⟨v.cueFire_shows c.isLt e.count, (congrArg (fun x : Cmt => nth 0 x.cueCount c) hcmt).trans ?_, ?_, (hwait.trans hfire).ended (by decide)⟩
  · have hlt : c.val < s.cmt.cueCount.length := by
      rw [hs.cues.2]
      exact c.isLt
    simp [nth, updWith, hcount, hlt]
  · rw [State.endCycle, hcmt, hfired]
    exact List.mem_cons_self ..

theorem ends_cueTimeFire_again {s : State} {c : Fin 4} (h : c.val ∈ s.cmt.cueFired) : Ends (.cueTimeFire c) s fun u => Within [.hif] (fun _ => false) s u := by
  have hagain : s.cueTime c = s := by
    unfold State.cueTime
    split
    · exact if_neg (by simp [h])
    · rfl
  exact ends_of_done (congrArg done hagain) s.endCycle_within

/-- Settles O30: each pin and cue line by its own lemma. -/
theorem pinsAndCues : Obligations.PinsAndCues := by
  unfold Obligations.PinsAndCues
  intro s
  exact ⟨fun _ _ _ hsrc hen hwait hact he => ends_syncInEdge_first hsrc hen hwait hact he, fun _ t h => ends_syncInEdge_inactive t h, ends_syncInMiss,
    fun _ he hrun hen hnew => ends_syncOutRise he hrun hen hnew, ends_syncOutRise_off, ends_syncOutFall,
    fun _ _ hs he hrun hmode hnew => ends_cueTimeFire hs he hrun hmode hnew, fun _ => ends_cueTimeFire_again⟩

end Sys2Proof.Machine

/-! ## What a latch point settles, and the steps that leave it alone (R112 to R118, R91, R127) -/
namespace Sys2Proof.Machine

/-! ### The registers of the latch -/

/-- STATE and the registers of CMT's common page, layer 0's active Slate, and its count of flips. -/
def latchReg (a : Nat) : Bool :=
  a == Reg.PAGE_STATUS cmtPage || (decide (0x200040 ≤ a) && decide (a < 0x201000)) || (decide (0x4010C0 ≤ a) && decide (a < 0x401100)) || a == Reg.LYR_FLIP_CNT 0

/-- Every other register. -/
def offLatch (a : Nat) : Bool := !latchReg a

theorem latchReg_cases {a : Nat} (h : latchReg a = true) :
    a = 0x200010 ∨ (0x200040 ≤ a ∧ a < 0x201000) ∨ (0x4010C0 ≤ a ∧ a < 0x401100) ∨ a = 0x40110C := by
  simpa [latchReg, or_assoc] using h

/-- A register of another page, or beside the latch registers of layer 0's page. -/
theorem offLatch_of {a : Nat} (h : a < 0x200000 ∨ (0x201000 ≤ a ∧ a < 0x4010C0) ∨ (0x401100 ≤ a ∧ a ≠ 0x40110C)) : offLatch a = true := by
  rw [offLatch, Bool.not_eq_true']
  refine Bool.eq_false_iff.mpr fun hl => ?_
  have := latchReg_cases hl
  omega

theorem offLatch_of_le {a : Nat} (h : 0x402000 ≤ a) : offLatch a = true := offLatch_of (by omega)

theorem offLatch_eq_false {a : Nat} (h : latchReg a = true) : offLatch a = false := by simp [offLatch, h]

theorem offLatch_evtReg {a : Nat} (h : evtReg a = true) : offLatch a = true := by
  rw [offLatch, Bool.not_eq_true']
  refine Bool.eq_false_iff.mpr fun hl => ?_
  have hc := latchReg_cases hl
  have : evtReg a = false := evtReg_eq_false (by omega) (by omega) (by simp only [Reg.SVC_BMC_EVT]; omega)
  simp [h] at this

theorem offLatch_faultReg {a : Nat} (h : faultReg a = true) : offLatch a = true := by
  rw [faultReg, Bool.or_eq_true, Bool.or_eq_true] at h
  obtain (h | h) | h := h
  · exact offLatch_evtReg h
  · rw [beq_iff_eq.mp h]
    decide
  · simp only [Reg.FLT_PEND, Bool.and_eq_true, decide_eq_true_eq] at h
    exact offLatch_of_le (by omega)

/-! ### Steps beside the latch -/

/-- The fields that the steps of a latch point may change, beside synthesis and CMT's own state. -/
def latchFields : List Fld := [.regs, .hif, .svc, .sent, .flt, .freeCtr, .geo, .ton, .lyr, .prt, .cmp]

/-- A step that leaves the latch registers, CMT's state, synthesis, calibration and memory alone. -/
abbrev State.Beside (s t : State) : Prop := Within latchFields offLatch s t

theorem State.wr_beside (s : State) {a : Nat} (v : Word) (h : offLatch a = true) : s.Beside (s.wr a v) :=
  (s.wr_within a v).mono (by decide) fun b hb => by rwa [beq_iff_eq.mp hb]

theorem State.wf_beside (s : State) {a : Nat} (hi lo v : Nat) (h : offLatch a = true) : s.Beside (s.wf a hi lo v) := s.wr_beside _ h

theorem State.wb_beside (s : State) {a : Nat} (i : Nat) (b : Bool) (h : offLatch a = true) : s.Beside (s.wb a i b) := s.wr_beside _ h

theorem State.wn_beside (s : State) {a : Nat} (n : Nat) (h : offLatch a = true) : s.Beside (s.wn a n) := s.wr_beside _ h

theorem State.wr64_beside (s : State) {a : Nat} (n : Nat) (h : offLatch a = true) (h4 : offLatch (a + 4) = true) : s.Beside (s.wr64 a n) :=
  (s.wn_beside n h).trans (State.wn_beside _ _ h4)

theorem State.evt_beside (s : State) (src : Nat) : s.Beside (s.evt src) := (s.evt_within src).mono (by decide) fun _ => offLatch_evtReg

theorem State.notice_beside (s : State) {src : Nat} (h : baseClass src = some 0) : s.Beside (s.notice src) :=
  (s.notice_within src 0 0 [] h (notice_lt h)).mono (by decide) fun _ => offLatch_faultReg

theorem State.toState_beside (s : State) {pg : Nat} (v : Nat) (src : Option Nat) (h : offLatch (Reg.PAGE_STATUS pg) = true) : s.Beside (s.toState pg v src) :=
  (s.toState_within pg v src).mono (by decide) fun a ha => by
    rw [Bool.or_eq_true] at ha
    obtain ha | ha := ha
    · exact offLatch_evtReg ha
    · rwa [beq_iff_eq.mp ha]

theorem State.idleRun_beside (s : State) {pg : Nat} (busy : Bool) (src : Option Nat) (h : offLatch (Reg.PAGE_STATUS pg) = true) : s.Beside (s.idleRun pg busy src) := by
  unfold State.idleRun
  split
  · exact s.toState_beside _ _ h
  · split
    · exact s.toState_beside _ _ h
    · exact .refl s

theorem State.outSync_beside (s : State) (m : Nat) : s.Beside (s.outSync m) :=
  (s.outSync_within m).mono (by decide) fun a ha => by
    rw [outReg, Bool.or_eq_true, Bool.and_eq_true, decide_eq_true_eq, decide_eq_true_eq] at ha
    obtain ha | ha := ha
    · exact offLatch_evtReg ha
    · exact offLatch_of_le (by omega)

/-! ### Compressors (R220) -/

theorem State.setCmpEng_beside (s : State) (e : Nat) (v : CmpEng) : s.Beside (s.setCmpEng e v) :=
  .of_same (fun f => by cases f <;> first | (left; decide) | (right; rfl)) rfl

theorem State.cmpState_beside (s : State) (e : Nat) : s.Beside (s.cmpState e) := by
  have hstatus : offLatch (Reg.CMP_STATUS e) = true := offLatch_of_le (by simp only [Reg.CMP_STATUS]; omega)
  exact ((s.wf_beside _ _ _ hstatus).trans (State.wb_beside _ _ _ hstatus)).trans
    (State.idleRun_beside _ _ _ (offLatch_of_le (by simp only [Reg.PAGE_STATUS, cmpPage, Reg.page]; omega)))

/-- An engine changed, with the registers that show it. -/
theorem State.engineSet_beside (s : State) (e : Nat) (v : CmpEng) : s.Beside ((s.setCmpEng e v).cmpState e) :=
  (s.setCmpEng_beside e v).trans (State.cmpState_beside _ e)

theorem State.assignStrips_beside (s : State) : s.Beside s.assignStrips := by
  refine State.each_within 4 _ s fun e _ u => ?_
  dsimp only
  split
  · split
    · exact u.engineSet_beside e _
    · exact .refl u
  · exact .refl u

theorem State.captureSweep_beside (s : State) : s.Beside s.captureSweep := by
  refine Within.trans (State.each_within 4 _ s fun e _ u => ?_) (State.assignStrips_beside _)
  dsimp only
  split
  · split
    · exact .refl u
    · exact u.engineSet_beside e _
  · exact .refl u

/-! ### Tables (R57 to R62, R151) -/

/-- The registers of a table unit lie beside the latch's. -/
theorem TabKind.offLatch_regs (k : TabKind) : ∀ a ∈ [k.status, k.next, k.next + 4, k.ident, k.ident + 4, k.lastAddr, k.lastAddr + 4, k.lastLen, k.bankReg, k.count,
    k.loadAddr, k.loadAddr + 4, k.loadLen, k.arm, k.cmd, Reg.PAGE_STATUS k.page], offLatch a = true := by
  cases k <;> decide

theorem State.setTab_beside (s : State) (k : TabKind) (v : TabUnit) : s.Beside (s.setTab k v) := (s.setTab_within k v).widen (by cases k <;> decide)

theorem State.setLoad_beside (s : State) (k : TabKind) (l : Option TLoad) : s.Beside (s.setLoad k l) :=
  (s.setTab_beside k _).trans (State.idleRun_beside _ _ _ (k.offLatch_regs _ (by simp)))

theorem State.repairFail_beside (s : State) (k : TabKind) : s.Beside (s.repairFail k) :=
  ((s.setTab_beside k _).trans (State.evt_beside _ _)).trans (State.notice_beside _ (by cases k <;> decide))

theorem State.tabComplete_beside (s : State) (k : TabKind) (ld : TLoad) : s.Beside (s.tabComplete k ld) := by
  have hr := k.offLatch_regs
  unfold State.tabComplete
  dsimp only
  have hready : ∀ (b : Bank) (i a n len : Nat), s.Beside
      ((((((((s.setBank k i b).setLoad k none).setTabState k tabReady).wr64 k.next b.ident).evt k.evt).wn k.lastAddr a).wn (k.lastAddr + 4) n).wn k.lastLen len) :=
    fun b i a n len => ((((((((s.setTab_beside k _).trans (State.setLoad_beside _ k none)).trans (State.wf_beside _ _ _ _ (hr _ (by simp)))).trans
      (State.wr64_beside _ _ (hr _ (by simp)) (hr _ (by simp)))).trans (State.evt_beside _ _)).trans (State.wn_beside _ _ (hr _ (by simp)))).trans
      (State.wn_beside _ _ (hr _ (by simp)))).trans (State.wn_beside _ _ (hr _ (by simp))))
  split
  · split
    · exact (((hready _ _ _ _ _).trans (State.setTab_beside _ k _)).trans (State.wb_beside _ _ _ (hr _ (by simp)))).trans (State.wf_beside _ _ _ _ (hr _ (by simp)))
    · exact (hready _ _ _ _ _).trans (State.repairFail_beside _ k)
  · exact hready _ _ _ _ _

theorem State.tabEpoch_beside (s : State) (k : TabKind) : s.Beside (s.tabEpoch k) := by
  unfold State.tabEpoch
  dsimp only
  have hfree := s.setTab_beside k { s.tab k with frozen := false }
  split
  · split
    · exact hfree.trans (State.tabComplete_beside _ k _)
    · exact hfree
  · exact hfree

/-! ### Writes to memory (R38, R39, R252) -/

theorem State.writeBurst_off (s : State) (port : Option Nat) (a : Nat) (d : List Byte) : Within (.mem :: .dmc :: noticeFields) offLatch s (s.writeBurst port a d).1 := by
  have hbytes : ∀ c b, among [Reg.DMC_CH_WR_BYTES c] b = true → offLatch b = true := fun c b hb => by
    obtain rfl : b = Reg.DMC_CH_WR_BYTES c := by simpa [among] using hb
    exact offLatch_of_le (by simp only [Reg.DMC_CH_WR_BYTES]; omega)
  unfold State.writeBurst
  split
  · split
    · exact (s.cntSat_within _ _ _).mono (by decide) fun b hb => by rw [beq_iff_eq.mp hb]; decide
    · next c la _ =>
      exact (((s.setChan_within c _).widen (by decide)).trans (((s.rouse c la).settleLine_within c la).mono (by decide) (hbytes c))).trans
        ((State.lineWrite_within _ c la d).mono (by decide) (hbytes c))
  · split
    · next p _ =>
      refine (s.phViol_within p a true).mono (by decide) fun b hb => ?_
      simp only [Bool.or_eq_true, beq_iff_eq] at hb
      obtain ((hb | rfl) | rfl) | rfl := hb
      · exact offLatch_faultReg hb
      all_goals decide
    · exact .refl s

theorem State.writeMem_off (s : State) (port : Option Nat) (a : Nat) (d : List Byte) : Within (.mem :: .dmc :: noticeFields) offLatch s (s.writeMem port a d).1 := by
  have hbursts : ∀ (fuel : Nat) (s : State) (a : Nat) (d : List Byte), Within (.mem :: .dmc :: noticeFields) offLatch s (s.writeBursts port fuel a d).1 := fun fuel => by
    induction fuel with
    | zero => exact fun s _ _ => .refl s
    | succ fuel ih =>
      intro s a d
      unfold State.writeBursts
      split
      · exact .refl s
      · exact (s.writeBurst_off port a _).trans (ih _ _ _)
  exact hbursts _ s a d

end Sys2Proof.Machine

/-! ## Epochs (R112 to R114, R91, R127) -/
namespace Sys2Proof.Machine

/-! ### What the epochs and the cues leave alone -/

/-- The fields that synthesis and the cues may change, beside device memory. -/
def epochFields : List Fld := .syn :: .cmt :: .blk :: latchFields

/-- `t` is `s` but for fields of `l` and registers beside the latch's; of CMT's own state only the count of cues moves on. -/
structure State.EpochKept (s : State) (l : List Fld) (t : State) : Prop where
  within : Within l offLatch s t
  cmt : ∃ n, t.cmt = { s.cmt with cueCount := n }

theorem State.EpochKept.refl (s : State) (l : List Fld) : s.EpochKept l s := ⟨.refl s, _, rfl⟩

theorem State.EpochKept.trans {l : List Fld} {s t u : State} (h : s.EpochKept l t) (k : t.EpochKept l u) : s.EpochKept l u := by
  obtain ⟨n, hn⟩ := h.cmt
  obtain ⟨m, hm⟩ := k.cmt
  exact ⟨h.within.trans k.within, m, by rw [hm, hn]⟩

theorem State.EpochKept.widen {l m : List Fld} {s t : State} (h : s.EpochKept l t) (hl : ∀ f ∈ l, f ∈ m) : s.EpochKept m t := ⟨h.within.widen hl, h.cmt⟩

theorem Within.epochKept {l m : List Fld} {s t : State} (h : Within l offLatch s t) (hl : ∀ f ∈ l, f ∈ m ∧ f ≠ .cmt) : s.EpochKept m t :=
  ⟨h.widen fun f hf => (hl f hf).1, s.cmt.cueCount, h.cmt fun hc => (hl .cmt hc).2 rfl⟩

theorem State.EpochKept.rd {l : List Fld} {s t : State} (h : s.EpochKept l t) {a : Nat} (ha : latchReg a = true) : t.rd a = s.rd a := h.within.rd (offLatch_eq_false ha)

theorem State.each_epochKept {l : List Fld} {n : Nat} {f : Nat → State → State} (s : State) (h : ∀ i < n, ∀ u : State, u.EpochKept l (f i u)) :
    s.EpochKept l (s.each n f) :=
  State.each_induction (P := fun u => s.EpochKept l u) (.refl s l) fun i hi u hu => hu.trans (h i hi u)

theorem State.eachOf_epochKept {α : Type} {l : List Fld} {xs : List α} {f : α → State → State} (s : State) (h : ∀ x ∈ xs, ∀ u : State, u.EpochKept l (f x u)) :
    s.EpochKept l (s.eachOf xs f) :=
  List.foldlRecOn (motive := fun u => s.EpochKept l u) xs _ (.refl s l) fun u hu x hx => hu.trans (h x hx u)

theorem State.Beside.kept {s t : State} (h : s.Beside t) : s.EpochKept epochFields t := Within.epochKept h (by decide)

theorem State.withSyn_kept (s : State) (v : Syn) : s.EpochKept epochFields { s with syn := v } := (s.withSyn_within v).epochKept (by decide)

theorem State.setFrame_kept (s : State) (f : Frame) : s.EpochKept epochFields (s.setFrame f) := s.withSyn_kept _

theorem State.setSlice_kept (s : State) (n : Nat) (v : Slice) : s.EpochKept epochFields (s.setSlice n v) := s.withSyn_kept _

theorem State.wr_kept (s : State) {a : Nat} (v : Word) (h : offLatch a = true) : s.EpochKept epochFields (s.wr a v) := State.Beside.kept (s.wr_beside v h)

theorem State.evt_kept (s : State) (src : Nat) : s.EpochKept epochFields (s.evt src) := State.Beside.kept (s.evt_beside src)

theorem State.when_kept {s : State} (c : Bool) {f : State → State} (h : s.EpochKept epochFields (f s)) : s.EpochKept epochFields (s.when c f) := by
  unfold State.when
  split
  · exact h
  · exact .refl s _

/-! ### Cue lines (R126, R127) -/

theorem offLatch_cueReg {c a : Nat} (hc : c < 4) (h : cueReg c a = true) : offLatch a = true := by
  rw [cueReg, Bool.or_eq_true] at h
  obtain h | h := h
  · exact offLatch_evtReg h
  · simp only [among, List.contains_eq_mem, decide_eq_true_eq, List.mem_cons, List.not_mem_nil, or_false, Reg.CUE_STATUS, Reg.BLK_Q_STATUS] at h
    exact offLatch_of (by omega)

theorem State.cueFire_kept (s : State) {c : Nat} (hc : c < 4) (frame : Nat) (late : Bool) : s.EpochKept epochFields (s.cueFire c frame late) :=
  ⟨(s.cueFire_within c frame late).mono (by decide) fun _ => offLatch_cueReg hc, _, s.cueFire_cmt c frame late⟩

theorem State.cueRowFire_kept (s : State) (f : Frame) {c : Nat} (hc : c < 4) (late : Bool) : s.EpochKept epochFields (s.cueRowFire f c late) := by
  unfold State.cueRowFire
  split
  · exact (s.setFrame_kept _).trans (State.cueFire_kept _ hc _ _)
  · exact .refl s _

theorem State.rowCues_kept (s : State) : s.EpochKept epochFields s.rowCues :=
  State.rowCues_induction (P := fun u => s.EpochKept epochFields u) (.refl s _) fun u f _ hc _ hu => hu.trans (u.cueRowFire_kept f hc false)

/-! ### Frames that end (R91, R106, R108) -/

theorem State.sliceStatus_kept (s : State) (n : Nat) : s.EpochKept epochFields (s.sliceStatus n) :=
  ((s.sliceStatus_within n).mono (m := [.regs]) (q := offLatch) (by decide) fun a ha => by
    rw [beq_iff_eq.mp ha]
    exact offLatch_of_le (by simp only [Reg.SLC_STATUS]; omega)).epochKept (by decide)

theorem State.dealOut_kept (s : State) : s.EpochKept epochFields s.dealOut := by
  have htake : ∀ (n : Nat) (u : State), u.EpochKept epochFields (u.takeDeal n) := fun n u => by
    have hset : ∀ (f : Frame) (v : Slice), u.EpochKept epochFields (((u.setFrame f).setSlice n v).sliceStatus n) := fun f v =>
      ((u.setFrame_kept f).trans (State.setSlice_kept _ n v)).trans (State.sliceStatus_kept _ n)
    obtain h | ⟨f, -, d, t, -, ⟨-, h⟩ | ⟨r, -, h⟩⟩ := u.takeDeal_cases n
    · exact h.symm ▸ .refl u _
    · exact h ▸ hset _ _
    · exact h ▸ hset _ _
  exact (s.each_epochKept fun n _ u => htake n u).trans (State.each_epochKept _ fun n _ u => htake n u)

theorem State.frameStop_kept (s : State) (f : Frame) : s.EpochKept epochFields (s.frameStop f) := by
  have hslice : ∀ (n : Nat) (v : Slice) (u : State), u.EpochKept epochFields ((u.setSlice n v).sliceStatus n) := fun n v u =>
    (u.setSlice_kept n v).trans (State.sliceStatus_kept _ n)
  have hstatus : ∀ n, offLatch (Reg.SLC_STATUS n) = true := fun n => offLatch_of_le (by simp only [Reg.SLC_STATUS]; omega)
  refine ((((s.withSyn_kept _).trans (State.each_epochKept _ fun n _ u => ?_)).trans (State.eachOf_epochKept _ fun t _ u => ?_)).trans
    (State.setFrame_kept _ _)).trans (State.dealOut_kept _)
  · dsimp only
    split
    · split
      · exact ((u.setSlice_kept n _).trans (State.wr_kept _ _ (hstatus n))).trans (State.sliceStatus_kept _ n)
      · exact hslice n _ u
    · exact .refl u _
  · exact State.when_kept _ (u.withSyn_kept _)

/-- The registers that show how a frame went lie on SYN's common page. -/
theorem State.frameEnds_kept (s : State) (f : Frame) (late : Bool) : s.EpochKept epochFields (s.frameEnds f late) := by
  have hshow : ∀ (u : State) (a : Nat) (v : Word), 0x402000 ≤ a → u.EpochKept epochFields (u.wr a v) := fun u a v ha => u.wr_kept v (offLatch_of_le ha)
  have hcues : ∀ u : State, s.EpochKept epochFields u → s.EpochKept epochFields (if late then u else u.rowCues) := fun u hu => by
    split
    · exact hu
    · exact hu.trans u.rowCues_kept
  unfold State.frameEnds
  dsimp only
  refine hcues _ (State.EpochKept.trans (State.EpochKept.trans ?_ (State.when_kept _ (State.evt_kept _ 648))) (State.when_kept _ (State.evt_kept _ 649)))
  exact (((((((((s.setFrame_kept _).trans (hshow _ Reg.SYN_SLACK_LAST _ (by decide))).trans (hshow _ Reg.SYN_SLACK_MIN _ (by decide))).trans
    (State.withSyn_kept _ _)).trans (hshow _ Reg.SYN_FILL_WAIT _ (by decide))).trans (hshow _ Reg.SYN_SAMPLES_LO _ (by decide))).trans
    (hshow _ Reg.SYN_SAMPLES_HI _ (by decide))).trans (hshow _ Reg.SYN_TERM_LO _ (by decide))).trans (hshow _ Reg.SYN_TERM_HI _ (by decide)))

theorem State.pvSkipped_kept (s : State) (v : Nat) : s.EpochKept epochFields (s.pvSkipped v) :=
  (s.wr_kept _ (offLatch_of_le (by simp only [Reg.PV_STATUS]; omega))).trans (State.evt_kept _ _)

/-- A frame's end after the bands of its proof views that are complete have been written (R91, R102, R127). -/
def State.frameClosed (s : State) (f : Frame) : State :=
  let again (s : State) : Frame := (s.syn.frames.find? fun x => x.num = f.num).getD f
  let g := again s
  let s := s.frameStop g
  let s := if g.ended then s else s.frameEnds (again s) true
  let s := s.eachOf ((again s).views.filter fun v => !(again s).viewDone v.view) fun v s => s.pvSkipped v.view
  s.each 4 fun c s => s.cueRowFire (again s) c true

theorem State.frameOver_eq (s : State) (f : Frame) : s.frameOver f = (s.proofFlush f).frameClosed f := rfl

theorem State.frameClosed_kept (s : State) (f : Frame) : s.EpochKept epochFields (s.frameClosed f) := by
  unfold State.frameClosed
  dsimp only
  refine State.EpochKept.trans (State.EpochKept.trans ?_ (State.eachOf_epochKept _ fun v _ u => u.pvSkipped_kept _)) (State.each_epochKept _ fun c hc u => u.cueRowFire_kept _ hc true)
  split
  · exact s.frameStop_kept _
  · exact (s.frameStop_kept _).trans (State.frameEnds_kept _ _ true)

/-! ### Bands of proof views (R103) -/

/-- The fields that a write of a proof view's band may change. -/
def proofFields : List Fld := .mem :: .dmc :: epochFields

theorem State.bandWritten_kept (s : State) (f : Frame) (pv : PView) (v i base : Nat) : s.EpochKept proofFields (s.bandWritten f pv v i base).1 := by
  have hrow : ∀ (u : State) (y : Nat), Within (.mem :: .dmc :: noticeFields) offLatch u (u.rowWritten f pv v i base y).1 := fun u y => by
    unfold State.rowWritten
    dsimp only
    refine Within.trans ?_ (State.writeMem_off _ _ _ _)
    split
    · exact (u.freeBytes_within 15360).mono (by decide) (by simp)
    · exact .refl u
  refine Within.epochKept (l := .mem :: .dmc :: noticeFields) ?_ (by decide)
  exact List.foldlRecOn (motive := fun (acc : State × Bool) => Within (.mem :: .dmc :: noticeFields) offLatch s acc.1) _ _ (.refl s)
    fun acc hacc k _ => hacc.trans (hrow acc.1 _)

/-- PROOF_BAND_WRITE does nothing, or writes a band and records it in its frame, and with the last band shows the image complete. -/
theorem State.proofWrite_cases (s : State) (v : Nat) : s.proofWrite v = s ∨ ∃ f pv i base g, s.proofWrite v = (s.bandWritten f pv v i base).1.setFrame g ∨
    ∃ num buf denied whole, s.proofWrite v = ((s.bandWritten f pv v i base).1.setFrame g).viewComplete v num buf denied whole := by
  unfold State.proofWrite
  split
  · exact .inl rfl
  · next f _ =>
    dsimp only
    split
    · exact .inl rfl
    · next pv _ =>
      split
      · exact .inl rfl
      · refine .inr ⟨f, pv, (f.pvDone.filter fun x => x.1 = v).length,
          if pv.buf.getD (nth 0 s.syn.pvNext v) = 0 then pv.addr0 else pv.addr1, ?_⟩
        generalize hfold : List.foldl _ (s, false) _ = x
        rw [show s.bandWritten f pv v _ _ = x from hfold]
        split
        · exact ⟨_, .inr ⟨_, _, _, _, rfl⟩⟩
        · exact ⟨_, .inl rfl⟩

theorem State.proofWrite_kept (s : State) (v : Nat) : s.EpochKept proofFields (s.proofWrite v) := by
  have hset : ∀ f pv i base g, s.EpochKept proofFields ((s.bandWritten f pv v i base).1.setFrame g) := fun f pv i base g =>
    (s.bandWritten_kept f pv v i base).trans ((State.setFrame_kept _ g).widen (by decide))
  have hreg : ∀ a, (evtReg a || a == Reg.PV_STATUS v) = true → offLatch a = true := fun a ha => by
    rw [Bool.or_eq_true, beq_iff_eq] at ha
    obtain ha | rfl := ha
    · exact offLatch_evtReg ha
    · exact offLatch_of_le (by simp only [Reg.PV_STATUS]; omega)
  obtain h | ⟨f, pv, i, base, g, h | ⟨num, buf, denied, whole, h⟩⟩ := s.proofWrite_cases v
  · exact h.symm ▸ .refl s _
  · exact h ▸ hset f pv i base g
  · exact h ▸ (hset f pv i base g).trans (((State.viewComplete_within _ v num buf denied whole).regs_mono hreg).epochKept (by decide))

theorem State.proofFlush_kept (s : State) (f : Frame) : s.EpochKept proofFields (s.proofFlush f) :=
  s.eachOf_epochKept fun v _ u => u.each_epochKept fun _ _ w => w.proofWrite_kept v.view

/-- A frame without proof views has nothing to write. -/
theorem State.proofFlush_none (s : State) {f : Frame} (h : f.views = []) : s.proofFlush f = s := by
  rw [State.proofFlush, h]
  rfl

/-! ### The epoch of a frame (R91, R112) -/

theorem State.synEpoch_kept {l : List Fld} {s : State} (num : Nat) (hl : ∀ f ∈ epochFields, f ∈ l) (hflush : ∀ f ∈ s.syn.frames, ∀ u : State, u.EpochKept l (u.proofFlush f)) :
    s.EpochKept l (s.synEpoch num) := by
  have hover : ∀ f ∈ s.syn.frames.filter (fun f => f.num ≠ num), ∀ u : State, u.EpochKept l (u.frameOver f) := fun f hf u => by
    rw [u.frameOver_eq f]
    exact (hflush f (List.mem_filter.mp hf).1 u).trans ((State.frameClosed_kept _ f).widen hl)
  unfold State.synEpoch
  dsimp only
  exact ((State.eachOf_epochKept s hover).trans ((State.withSyn_kept _ _).widen hl)).trans ((State.withSyn_kept _ _).widen hl)

/-- After the epoch of a frame no other frame is left in synthesis. -/
theorem State.synEpoch_frames (s : State) (num : Nat) : ∀ f ∈ (s.synEpoch num).syn.frames, f.num = num := fun f hf => by
  simpa using (List.mem_filter.mp (show f ∈ List.filter _ _ from hf)).2

/-- The epoch before the next one is set: the clock reaches it, it is the last one, and EPOCH is raised. -/
def State.epochBegun (s : State) (e : Epoch) : State :=
  let u := s.reachTime e.time
  ({ u with cmt := { u.cmt with latched := none, last := some e, lead := u.rf Reg.CMT_LEAD 12 0, cueFired := [] } }).evt 48

/-- What ends at an epoch and what is free from it on. -/
def State.epochEnds (s : State) (e : Epoch) : State := ((((s.synEpoch e.count).captureSweep.tabEpoch .geo).tabEpoch .ton).outSync 2)

theorem State.frameEpoch_eq {s : State} {e : Epoch} (h : s.cmt.latched = some e) : s.frameEpoch =
    if ((s.epochBegun e).epochEnds e).cmtRuns then
      { (((s.epochBegun e).epochEnds e).followEpoch e).1 with
        cmt := { (((s.epochBegun e).epochEnds e).followEpoch e).1.cmt with next := some (((s.epochBegun e).epochEnds e).followEpoch e).2 } }
    else (s.epochBegun e).epochEnds e := by
  unfold State.frameEpoch
  rw [h]
  rfl

/-- After the epoch, of CMT's state only `latched`, `last`, `lead` and the fired cues have changed; the registers of the latch and synthesis stand. -/
structure State.EpochBegun (s : State) (e : Epoch) (t : State) : Prop where
  within : Within (.clock :: .cmt :: evtFields) offLatch s t
  cmt : ∃ lead, t.cmt = { s.cmt with latched := none, last := some e, lead := lead, cueFired := [] }

theorem State.epochBegun_spec (s : State) (e : Epoch) : s.EpochBegun e (s.epochBegun e) := by
  have hreach := s.reachTime_within e.time (q := offLatch)
  have hcmt := s.reachTime_cmt e.time
  unfold State.epochBegun
  generalize s.reachTime e.time = u at hreach hcmt ⊢
  refine ⟨((hreach.widen (by decide)).trans ((u.withCmt_within _).widen (by decide))).trans ((State.evt_within _ 48).mono (by decide) fun _ => offLatch_evtReg),
    u.rf Reg.CMT_LEAD 12 0, ?_⟩
  rw [(State.evt_within _ 48).cmt (by decide), ← hcmt]

theorem State.epochEnds_kept {l : List Fld} {s : State} (e : Epoch) (hl : ∀ f ∈ epochFields, f ∈ l)
    (hflush : ∀ f ∈ s.syn.frames, ∀ u : State, u.EpochKept l (u.proofFlush f)) : s.EpochKept l (s.epochEnds e) := by
  refine (State.synEpoch_kept e.count hl hflush).trans (State.EpochKept.widen (State.Beside.kept ?_) hl)
  exact (((State.captureSweep_beside _).trans (State.tabEpoch_beside _ .geo)).trans (State.tabEpoch_beside _ .ton)).trans (State.outSync_beside _ 2)

theorem State.epochEnds_frames (s : State) (e : Epoch) : ∀ f ∈ (s.epochEnds e).syn.frames, f.num = e.count := by
  have hafter : (s.synEpoch e.count).Beside (s.epochEnds e) :=
    (((State.captureSweep_beside _).trans (State.tabEpoch_beside _ .geo)).trans (State.tabEpoch_beside _ .ton)).trans (State.outSync_beside _ 2)
  rw [hafter.syn (by decide)]
  exact s.synEpoch_frames e.count

/-! ### The next epoch (R112, R114) -/

theorem clampI_between {lo hi : Int} (hlo : lo ≤ 0) (hhi : 0 ≤ hi) : clampI lo hi 0 = 0 := by
  unfold clampI
  split_ifs <;> omega

/-- The next epoch is that of the next count, moved by the frames of a clock step, and OFFSET is all that changes beside; where OFFSET is 0 it is the
ideal epoch. -/
theorem State.followEpoch_spec (s : State) (e : Epoch) : Within [.regs, .cmt] (fun a => a == Reg.CMT_OFFSET) s (s.followEpoch e).1 ∧
    (∃ o, (s.followEpoch e).1.cmt = { s.cmt with jump := 0, offset := o }) ∧
    ((s.followEpoch e).2.count : Int) = ((e.count : Int) + 1 + s.cmt.jump) % 2 ^ 48 ∧
    (s.rf Reg.CMT_SRC 1 0 ≠ 1 → s.cmt.offset = 0 → (s.followEpoch e).2.time = epochTime s.cmtRate (s.followEpoch e).2.count) := by
  have hset : ∀ o, Within [.regs, .cmt] (fun a => a == Reg.CMT_OFFSET) s (({ s with cmt := { s.cmt with jump := 0 } } : State).setOffset o) ∧
      ∃ o', (({ s with cmt := { s.cmt with jump := 0 } } : State).setOffset o).cmt = { s.cmt with jump := 0, offset := o' } := fun o =>
    ⟨(((s.withCmt_within _).widen (by decide)).trans ((State.withCmt_within _ _).widen (by decide))).trans ((State.wn_within _ _ _).widen (by decide)), o, rfl⟩
  have hcount : ((((e.count : Int) + 1 + s.cmt.jump) % 2 ^ 48).toNat : Int) = ((e.count : Int) + 1 + s.cmt.jump) % 2 ^ 48 :=
    Int.toNat_of_nonneg (Int.emod_nonneg _ (by decide))
  have hsrc : ({ s with cmt := { s.cmt with jump := 0 } } : State).rf Reg.CMT_SRC 1 0 = s.rf Reg.CMT_SRC 1 0 := rfl
  unfold State.followEpoch
  dsimp only
  rw [hsrc]
  split
  · next h => exact ⟨(hset _).1, (hset _).2, hcount, fun hne => absurd h hne⟩
  · refine ⟨(hset _).1, (hset _).2, hcount, fun _ ho => ?_⟩
    have hlim : (0 : Int) ≤ (framePeriod s.cmtRate : Int) * (s.rf Reg.CMT_SLEW 7 0 : Int) / 1000000 := Int.ediv_nonneg (by positivity) (by decide)
    have hzero : s.cmt.offset - clampI (-((framePeriod s.cmtRate : Int) * (s.rf Reg.CMT_SLEW 7 0 : Int) / 1000000))
        ((framePeriod s.cmtRate : Int) * (s.rf Reg.CMT_SLEW 7 0 : Int) / 1000000) s.cmt.offset = 0 := by
      rw [ho, clampI_between (by omega) hlim]
      rfl
    exact (congrArg (fun o : Int => ((epochTime s.cmtRate _ : Int) + o).toNat) hzero).trans (by simp)

theorem ends_frameEpoch {s : State} {e : Epoch} (he : s.cmt.latched = some e) : Ends .frameEpoch s fun t =>
      t.cmt.latched = none ∧ t.cmt.last = some e ∧ t.cmt.cueFired = [] ∧ (∀ f ∈ t.syn.frames, f.num = e.count) ∧ ((∀ f ∈ s.syn.frames, f.views = []) → t.mem = s.mem) ∧
      (s.cmtRuns = true → ∃ x, t.cmt.next = some x ∧ (x.count : Int) = ((e.count : Int) + 1 + s.cmt.jump) % 2 ^ 48 ∧
        (s.rf Reg.CMT_SRC 1 0 ≠ 1 → s.cmt.offset = 0 → x.time = epochTime s.cmtRate x.count)) := by
  obtain ⟨hbegan, lead, hcmt⟩ := s.epochBegun_spec e
  have heq := State.frameEpoch_eq he
  obtain ⟨u, hu⟩ : ∃ u, s.epochBegun e = u := ⟨_, rfl⟩
  rw [hu] at hbegan hcmt heq
  have hframes := u.epochEnds_frames e
  have hkept : u.EpochKept proofFields (u.epochEnds e) := State.epochEnds_kept e (by decide) fun f _ w => w.proofFlush_kept f
  have hquiet : (∀ f ∈ s.syn.frames, f.views = []) → (u.epochEnds e).mem = s.mem := fun hviews => by
    have hsmall : u.EpochKept epochFields (u.epochEnds e) := State.epochEnds_kept e (fun _ h => h) fun f hf w => by
      rw [w.proofFlush_none (hviews f (hbegan.syn (by decide) ▸ hf))]
      exact .refl w _
    exact (hsmall.within.mem (by decide)).trans (hbegan.mem (by decide))
  obtain ⟨x, hx⟩ : ∃ x, u.epochEnds e = x := ⟨_, rfl⟩
  rw [hx] at hframes hkept hquiet heq
  obtain ⟨n, hxcmt⟩ := hkept.cmt
  rw [hcmt] at hxcmt
  have hrd : ∀ a, latchReg a = true → x.rd a = s.rd a := fun a ha => (hkept.rd ha).trans (hbegan.rd (offLatch_eq_false ha))
  have hrun : x.cmtRuns = s.cmtRuns := congrArg (fun w => fld w 2 0 == stRun) (hrd (Reg.PAGE_STATUS cmtPage) (by decide))
  have hsrc : x.rf Reg.CMT_SRC 1 0 = s.rf Reg.CMT_SRC 1 0 := congrArg (fun w => fld w 1 0) (hrd Reg.CMT_SRC (by decide))
  have hrate : x.cmtRate = s.cmtRate := congrArg (fun w => fld w 19 16) (hrd Reg.CMT_RATE (by decide))
  obtain ⟨hfollow, ⟨o, hcmtNext⟩, hcount, htime⟩ := x.followEpoch_spec e
  rw [congrArg Cmt.jump hxcmt] at hcount
  rw [hsrc, congrArg Cmt.offset hxcmt, hrate] at htime
  rw [hxcmt] at hcmtNext
  refine ends_of_done (congrArg done heq) ?_
  generalize x.followEpoch e = r at hfollow hcmtNext hcount htime ⊢
  split
  · refine ⟨congrArg Cmt.latched hcmtNext, congrArg Cmt.last hcmtNext, congrArg Cmt.cueFired hcmtNext, fun f hf => hframes f ?_, fun hviews => ?_, fun _ => ⟨r.2, rfl, hcount, htime⟩⟩
    · rw [← hfollow.syn (by decide)]
      exact hf
    · exact (hfollow.mem (by decide)).trans (hquiet hviews)
  · next hstop =>
    exact ⟨congrArg Cmt.latched hxcmt, congrArg Cmt.last hxcmt, congrArg Cmt.cueFired hxcmt, hframes, hquiet, fun h => absurd (hrun.trans h) hstop⟩

/-! ### The first epoch (R113) -/

/-- The first epoch is the lowest ideal one at or after a time, the lead and a millisecond on. -/
theorem State.firstEpoch_lowest (s : State) (r : Nat) {t : Nat} (ht : t = s.now + (s.rf Reg.CMT_LEAD 12 0 + 1000) * 1000 * nsUnit) :
    (s.firstEpoch r).time = epochTime r (s.firstEpoch r).count ∧ t ≤ (s.firstEpoch r).time ∧ ∀ k < (s.firstEpoch r).count, epochTime r k < t := by
  obtain ⟨n, d, hn, hd, heq, hk⟩ := epochTime_eq r
  have hfloor : ∀ k, epochTime r k < t ↔ k * d < t * n := fun k => by rw [heq, Nat.div_lt_iff_lt_mul hn]
  have hstep : ∀ k, k * d + d = (k + 1) * d := fun k => (Nat.succ_mul k d).symm
  have hdpos : 0 < d := Nat.lt_of_lt_of_le hn hd
  have hlow : t * n / d * d ≤ t * n := Nat.div_mul_le_self ..
  have hhigh : t * n < (t * n / d + 1) * d := by
    rw [← Nat.div_lt_iff_lt_mul hdpos]
    omega
  have hfirst : s.firstEpoch r = ⟨if t ≤ epochTime r (t * n / d) then t * n / d else t * n / d + 1,
      epochTime r (if t ≤ epochTime r (t * n / d) then t * n / d else t * n / d + 1)⟩ := by
    rw [← hk t, ht]
    rfl
  rw [hfirst]
  generalize t * n / d = q at *
  refine ⟨rfl, ?_, fun k hlt => ?_⟩
  · split
    · assumption
    · exact Nat.le_of_not_lt fun h => absurd ((hfloor _).mp h) (by omega)
  · rw [hfloor]
    dsimp only at hlt
    split at hlt
    · exact Nat.lt_of_lt_of_le (Nat.mul_lt_mul_of_pos_right hlt hdpos) hlow
    · next h =>
      have hq : q * d < t * n := (hfloor q).mp (by omega)
      exact Nat.lt_of_le_of_lt (Nat.mul_le_mul_right d (by omega)) hq

theorem ends_cmtLockWaitEnd {s : State} (hwait : s.cmt.waitLock = true) (hlock : s.timLocked = true) {P : State → Prop} (h : P s.cmtBegin.endCycle) :
    Ends .cmtLockWaitEnd s P := by
  refine ends_of_done (t := s.cmtBegin) (congrArg done (if_pos ?_)) h
  rw [hwait, hlock]
  rfl

theorem ends_cmtLockWaitEnd_edge {s : State} (hwait : s.cmt.waitLock = true) (hlock : s.timLocked = true) (hsrc : s.rf Reg.CMT_SRC 1 0 = 1) :
    Ends .cmtLockWaitEnd s fun t => t.cmt.waitLock = false ∧ t.cmt.waitEdge = true ∧ Within [.cmt, .hif] (fun _ => false) s t := by
  refine ends_cmtLockWaitEnd hwait hlock ?_
  rw [State.cmtBegin, if_pos hsrc]
  exact ⟨rfl, rfl, ((s.withCmt_within _).widen (by decide)).ended (by decide)⟩

theorem ends_cmtLockWaitEnd_first {s : State} (hwait : s.cmt.waitLock = true) (hlock : s.timLocked = true) (hsrc : s.rf Reg.CMT_SRC 1 0 ≠ 1) :
    Ends .cmtLockWaitEnd s fun t =>
      t.cmt.waitLock = false ∧ Within [.cmt, .hif] (fun _ => false) s t ∧
      ∃ x, t.cmt.next = some x ∧ x.time = epochTime s.cmtRate x.count ∧ s.now + (s.rf Reg.CMT_LEAD 12 0 + 1000) * 1000 * nsUnit ≤ x.time ∧
        ∀ k < x.count, epochTime s.cmtRate k < s.now + (s.rf Reg.CMT_LEAD 12 0 + 1000) * 1000 * nsUnit := by
  have hfirst := s.firstEpoch_lowest s.cmtRate rfl
  refine ends_cmtLockWaitEnd hwait hlock ?_
  rw [State.cmtBegin, if_neg hsrc, State.cmtSchedule]
  generalize s.firstEpoch s.cmtRate = x at hfirst ⊢
  exact ⟨rfl, ((s.withCmt_within _).widen (by decide)).ended (by decide), x, rfl, hfirst⟩

/-! ### A slew ends (R114) -/

theorem ends_slewComplete {s : State} (hst : s.tstate = 3) (ho : s.cmt.offset = 0) : Ends .slewComplete s fun t =>
      t.tstate = 2 ∧ Within evtFields (fun a => evtReg a || a == Reg.CMT_STATUS) s t := by
  have hslew : s.slewComplete = (s.setTstate tsAligned).evt 51 := by
    rw [State.slewComplete, if_pos ⟨hst, ho⟩, State.toTstate, if_neg (by rw [hst]; decide)]
    rfl
  have hevt := (s.setTstate tsAligned).evt_within 51
  refine ends_of_done (congrArg done hslew) ⟨?_, Within.ended (Within.trans ?_ (hevt.regs_mono (by simp +contextual))) (by decide)⟩
  · exact (hevt.rf (a := Reg.CMT_STATUS) (by decide) 2 0).trans (s.rf_wf_same Reg.CMT_STATUS (by decide) (by decide) 2)
  · exact (s.wf_within Reg.CMT_STATUS 2 0 _).mono (by decide) (by simp)

/-- Settles O29: the epoch by what its steps leave of CMT's state, the first epoch by the floors of the ideal ones. -/
theorem epochsFollow : Obligations.EpochsFollow := by
  unfold Obligations.EpochsFollow
  intro s
  exact ⟨fun _ he => ends_frameEpoch he, ends_cmtLockWaitEnd_edge, ends_cmtLockWaitEnd_first, ends_slewComplete⟩

end Sys2Proof.Machine

/-! ## The latch point begins: the next frame latched, layers flipped (R113, R117, R118, R122, R133) -/
namespace Sys2Proof.Machine

/-! ### CMT latches the next frame (R113, R117, R133) -/

/-- The registers that CMT changes as a latch point begins: STATE, TSTATE and those of an event. -/
def begunReg (a : Nat) : Bool := evtReg a || a == Reg.PAGE_STATUS cmtPage || a == Reg.CMT_STATUS

theorem begunReg_eq_false {a : Nat} (ho : a % 0x1000 ≠ 0x1C) (h : 0x20006C ≤ a ∧ a < 0x500000) : begunReg a = false := by
  have hevt : evtReg a = false := evtReg_eq_false ho (by omega) (by simp only [Reg.SVC_BMC_EVT]; omega)
  simp only [begunReg, hevt, Bool.false_or, Bool.or_eq_false_iff, beq_eq_false_iff_ne, Reg.PAGE_STATUS, Reg.CMT_STATUS, cmtPage, Reg.page]
  omega

/-- The cue registers as they stand. -/
def State.cueSettings (s : State) : List (Nat × Nat) := (List.range 4).map fun c => (s.rn (Reg.CUE_CTRL c), s.rn (Reg.CUE_OFFSET c))

/-- The frame `e` latched: CMT runs, and the cue registers are in force. -/
def State.latchNext (s : State) (e : Epoch) : State := ({ s with cmt := { s.cmt with next := none, latched := some e } }).cmtRun.cueLatch

/-- The frame `e` latched at its latch point's time. -/
def State.latchBegun (s : State) (e : Epoch) : State := (s.reachTime (e.time - s.cmt.lead * 1000 * nsUnit)).latchNext e

/-- Of CMT's state the next frame, the latched one and the cues change; STATE and TSTATE say that CMT runs. -/
structure State.LatchBegun (s : State) (e : Epoch) (t : State) : Prop where
  within : Within (.clock :: .cmt :: evtFields) begunReg s t
  cmt : t.cmt = { s.cmt with next := none, latched := some e, cues := s.cueSettings }
  runs : s.pgState cmtPage = 1 → t.pgState cmtPage = 2
  aligned : s.tstate = 1 → t.tstate = 2

theorem State.toTstate_within (s : State) (v : Nat) : Within evtFields (fun a => evtReg a || a == Reg.CMT_STATUS) s (s.toTstate v) := by
  unfold State.toTstate State.when
  have hset : Within evtFields (fun a => evtReg a || a == Reg.CMT_STATUS) s (s.setTstate v) := (s.wf_within _ _ _ _).mono (by decide) (by simp)
  split
  · exact .refl s
  · split
    · exact hset.trans ((State.evt_within _ 51).regs_mono (by simp +contextual))
    · exact hset

theorem State.tstate_toTstate (s : State) {v : Nat} (hv : v < 8) : (s.toTstate v).tstate = v := by
  unfold State.toTstate State.when
  have hset : (s.setTstate v).tstate = v := (s.rf_wf_same Reg.CMT_STATUS (by decide) (by decide) v).trans (Nat.mod_eq_of_lt hv)
  split
  · assumption
  · split
    · exact ((State.evt_within _ 51).rf (by decide) 2 0).trans hset
    · exact hset

/-- CMT runs from its first latch point on: registers alone change, and STATE and TSTATE leave IDLE and WAITING. -/
theorem State.cmtRun_spec (s : State) : Within evtFields begunReg s s.cmtRun ∧ (s.pgState cmtPage = 1 → s.cmtRun.pgState cmtPage = 2) ∧
    (s.tstate = 1 → s.cmtRun.tstate = 2) := by
  unfold State.cmtRun
  dsimp only
  have hpage : Within evtFields begunReg s (s.when (s.pgState cmtPage == stIdle) fun u => u.setPgState cmtPage stRun) :=
    State.when_within _ ((s.wf_within _ _ _ _).mono (by decide) fun a ha => by simp [begunReg, beq_iff_eq.mp ha])
  have hrun : s.pgState cmtPage = 1 → (s.when (s.pgState cmtPage == stIdle) fun u => u.setPgState cmtPage stRun).pgState cmtPage = 2 := fun h => by
    rw [State.when, if_pos (beq_iff_eq.mpr h)]
    exact s.rf_wf_same _ (by decide) (by decide) 2
  have hkeep : (s.when (s.pgState cmtPage == stIdle) fun u => u.setPgState cmtPage stRun).tstate = s.tstate := by
    unfold State.when
    split
    · exact congrArg (fun w => fld w 2 0) (s.rd_wr_other _ _ _ (by decide))
    · rfl
  generalize s.when (s.pgState cmtPage == stIdle) _ = u at hpage hrun hkeep ⊢
  have hto := u.toTstate_within tsAligned
  refine ⟨hpage.trans (State.when_within _ (hto.regs_mono fun a => ?_)), fun h => ?_, fun h => ?_⟩
  · simp only [begunReg, Bool.or_eq_true]
    tauto
  · rw [← hrun h]
    exact (State.when_within (p := fun a => evtReg a || a == Reg.CMT_STATUS) _ hto).rf (by decide) 2 0
  · rw [State.when, if_pos (beq_iff_eq.mpr (hkeep.trans h))]
    exact u.tstate_toTstate (by decide)

theorem State.latchBegun_spec (s : State) (e : Epoch) : s.LatchBegun e (s.latchBegun e) := by
  have hreach := s.reachTime_within (e.time - s.cmt.lead * 1000 * nsUnit) (q := fun _ => false)
  have hcmt := s.reachTime_cmt (e.time - s.cmt.lead * 1000 * nsUnit)
  unfold State.latchBegun State.latchNext
  generalize s.reachTime (e.time - s.cmt.lead * 1000 * nsUnit) = u at hreach hcmt ⊢
  have hset : Within [.clock, .cmt] (fun _ => false) s { u with cmt := { u.cmt with next := none, latched := some e } } :=
    (hreach.widen (by decide)).trans ((u.withCmt_within _).widen (by decide))
  have hsetCmt : ({ u with cmt := { u.cmt with next := none, latched := some e } } : State).cmt = { s.cmt with next := none, latched := some e } := by rw [← hcmt]
  dsimp only
  generalize ({ u with cmt := { u.cmt with next := none, latched := some e } } : State) = v at hset hsetCmt ⊢
  obtain ⟨hrun, hstate, htst⟩ := v.cmtRun_spec
  have hw : Within (.clock :: .cmt :: evtFields) begunReg s v.cmtRun := (hset.mono (by decide) (by simp)).trans (hrun.widen (by decide))
  have hcues : v.cmtRun.cueSettings = s.cueSettings := List.map_congr_left fun c hc => by
    have hlt := List.mem_range.mp hc
    rw [hw.rn (begunReg_eq_false (by simp only [Reg.CUE_CTRL]; omega) (by simp only [Reg.CUE_CTRL]; omega)),
      hw.rn (begunReg_eq_false (by simp only [Reg.CUE_OFFSET]; omega) (by simp only [Reg.CUE_OFFSET]; omega))]
  refine ⟨hw.trans ((State.withCmt_within _ _).widen (by decide)), ?_, fun h => ?_, fun h => ?_⟩
  · calc v.cmtRun.cueLatch.cmt = { v.cmtRun.cmt with cues := v.cmtRun.cueSettings } := rfl
      _ = { s.cmt with next := none, latched := some e, cues := s.cueSettings } := by rw [hrun.cmt (by decide), hsetCmt, hcues]
  · exact hstate ((hset.rf rfl 2 0).trans h)
  · exact htst ((hset.rf rfl 2 0).trans h)

end Sys2Proof.Machine

/-! ## Flips (R67, R81, R122) -/
namespace Sys2Proof.Machine

/-! ### The shadow copied into the active Slate (R67, R77, R122) -/

/-- The registers that a copy of layer `n`'s Slate writes: the waiting bits, the active Slate and the layer's own registers after it. -/
def slateReg (n a : Nat) : Bool :=
  a == Reg.CMT_PENDING_LO + 4 * (n / 32) || (decide (lyrPage n + 0xC0 ≤ a) && decide (a < lyrPage n + 0x140))

theorem slateReg_iff {n a : Nat} : slateReg n a = true ↔ a = 0x20006C + 4 * (n / 32) ∨ (0x4010C0 + 0x1000 * n ≤ a ∧ a < 0x401140 + 0x1000 * n) := by
  simp only [slateReg, Bool.or_eq_true, beq_iff_eq, Bool.and_eq_true, decide_eq_true_eq, lyrPage, Reg.page, Reg.CMT_PENDING_LO]
  omega

/-- The twelve words of layer `n`'s shadow copied. -/
def State.copyWords (s : State) (n : Nat) : State := s.each 12 fun i u => u.wn (lyrPage n + 0xC0 + 4 * i) (u.shadow n i)

theorem State.copyWords_within (s : State) (n : Nat) :
    Within [.regs] (fun a => decide (lyrPage n + 0xC0 ≤ a) && decide (a < lyrPage n + 0xF0)) s (s.copyWords n) :=
  State.each_within 12 _ s fun i hi u => (u.wn_within _ _).regs_mono fun a ha => by
    rw [beq_iff_eq.mp ha]
    simp only [Bool.and_eq_true, decide_eq_true_eq]
    omega

/-- After the first `m` words are copied, these words are active, and the shadow stands. -/
theorem State.copyWords_upTo (s : State) (n m : Nat) (hm : m ≤ 12) :
    (∀ a < lyrPage n + 0xC0, (s.each m fun i u => u.wn (lyrPage n + 0xC0 + 4 * i) (u.shadow n i)).rd a = s.rd a) ∧
    ∀ i < m, (s.each m fun i u => u.wn (lyrPage n + 0xC0 + 4 * i) (u.shadow n i)).active n i = s.shadow n i := by
  induction m with
  | zero => exact ⟨fun _ _ => rfl, fun _ h => absurd h (Nat.not_lt_zero _)⟩
  | succ m ih =>
    obtain ⟨hbelow, hdone⟩ := ih (by omega)
    rw [State.each]
    generalize s.each m _ = u at hbelow hdone ⊢
    have hshadow : u.shadow n m = s.shadow n m := congrArg BitVec.toNat (hbelow _ (by omega))
    refine ⟨fun a ha => (u.rd_wr_other _ _ _ (by omega)).trans (hbelow a ha), fun i hi => ?_⟩
    obtain hlt | rfl := Nat.lt_succ_iff_lt_or_eq.mp hi
    · exact (congrArg BitVec.toNat (u.rd_wr_other _ _ _ (by omega))).trans (hdone i hlt)
    · refine (congrArg BitVec.toNat (u.rd_wr_same _ _)).trans ?_
      rw [hshadow]
      exact BitVec.toNat_ofNat .. |>.trans (Nat.mod_eq_of_lt (s.rd _).isLt)

theorem State.copyWords_active (s : State) (n : Nat) {i : Nat} (hi : i < 12) : (s.copyWords n).active n i = s.shadow n i :=
  (s.copyWords_upTo n 12 (Nat.le_refl 12)).2 i hi

/-- What a copy does beside the words: the layer no longer waits, its stale count restarts, and the flip is counted. -/
def State.copyCounted (s : State) (n : Nat) : State := ((s.setWaiting n false).wf (Reg.LYR_STALE_COUNT n) 15 0 0).cntWrap (Reg.LYR_FLIP_CNT n)

theorem State.copyCounted_within (s : State) (n : Nat) :
    Within [.regs] (among [Reg.CMT_PENDING_LO + 4 * (n / 32), Reg.LYR_STALE_COUNT n, Reg.LYR_FLIP_CNT n]) s (s.copyCounted n) :=
  (((s.wb_within _ _ _).regs_mono (by simp [among])).trans ((State.wf_within _ _ _ _ _).regs_mono (by simp [among]))).trans
    ((State.cntWrap_within _ _).regs_mono (by simp [among]))

theorem State.setWaiting_waiting (s : State) (n m : Nat) (b : Bool) : (s.setWaiting n b).waiting m = if m = n then b else s.waiting m := by
  unfold State.setWaiting State.waiting
  by_cases hw : n / 32 = m / 32
  · rw [hw, State.rb_wb_same _ _ (Nat.mod_lt _ (by decide))]
    exact if_congr (by omega) rfl rfl
  · rw [if_neg (by rintro rfl; exact hw rfl)]
    exact congrArg (fun w => bit w (m % 32)) (State.rd_wr_other _ _ _ _ (by omega))

theorem State.copyCounted_waiting (s : State) {n : Nat} (m : Nat) (hm : m < 40) : (s.copyCounted n).waiting m = if m = n then false else s.waiting m := by
  have hstale : Reg.LYR_STALE_COUNT n ≠ Reg.CMT_PENDING_LO + 4 * (m / 32) := by simp only [Reg.LYR_STALE_COUNT, Reg.CMT_PENDING_LO]; omega
  have hflip : Reg.LYR_FLIP_CNT n ≠ Reg.CMT_PENDING_LO + 4 * (m / 32) := by simp only [Reg.LYR_FLIP_CNT, Reg.CMT_PENDING_LO]; omega
  rw [← s.setWaiting_waiting n m false]
  exact congrArg (fun w => bit w (m % 32)) ((State.rd_wr_other _ _ _ _ hflip).trans (State.rd_wr_other _ _ _ _ hstale))

theorem State.copyCounted_count (s : State) {n : Nat} : (s.copyCounted n).rd (Reg.LYR_FLIP_CNT n) = s.rd (Reg.LYR_FLIP_CNT n) + 1 := by
  have hpend : Reg.CMT_PENDING_LO + 4 * (n / 32) ≠ Reg.LYR_FLIP_CNT n := by simp only [Reg.LYR_FLIP_CNT, Reg.CMT_PENDING_LO]; omega
  refine (State.rd_wr_same _ _ _).trans (congrArg (· + 1) ?_)
  exact (State.rd_wr_other _ _ _ _ (by simp only [Reg.LYR_STALE_COUNT, Reg.LYR_FLIP_CNT]; omega)).trans (State.rd_wr_other _ _ _ _ hpend)

theorem State.slateCopy_after (s : State) (n : Nat) :
    Within [.regs, .lyr] (among [Reg.LYR_STATUS n, Reg.LYR_STEP_X n, Reg.LYR_STEP_Y n]) ((s.copyWords n).copyCounted n) (s.slateCopy n) := by
  have hstep : ∀ u : State, Within [.regs, .lyr] (among [Reg.LYR_STATUS n, Reg.LYR_STEP_X n, Reg.LYR_STEP_Y n]) u
      ((u.wf (Reg.LYR_STATUS n) 19 16 0).when (scaleEn ((u.wf (Reg.LYR_STATUS n) 19 16 0).active n slScale)) fun w =>
        (w.wn (Reg.LYR_STEP_X n) (scaleSteps (w.active n slSrc) (w.active n slSize)).1).wn (Reg.LYR_STEP_Y n) (scaleSteps (w.active n slSrc) (w.active n slSize)).2) := fun u => by
    refine ((u.wf_within _ _ _ _).mono (by decide) (by simp [among])).trans (State.when_within _ ?_)
    exact ((State.wn_within _ _ _).mono (by decide) (by simp [among])).trans ((State.wn_within _ _ _).mono (by decide) (by simp [among]))
  unfold State.slateCopy
  dsimp only
  refine Within.trans (hstep _) ?_
  split
  · exact .of_same (fun f => by cases f <;> first | (left; decide) | (right; rfl)) rfl
  · exact .refl _

theorem among_eq_false {l : List Nat} {a : Nat} (h : ∀ x ∈ l, x ≠ a) : among l a = false := by
  simpa [among] using fun ha => h a ha rfl

/-- A copy of layer `n` (R67, R122): its shadow is active, it waits no more, its flips count one more; nothing beside its registers changes, and
every other layer waits as before. -/
theorem State.slateCopy_spec (s : State) (n : Nat) : Within [.regs, .lyr] (slateReg n) s (s.slateCopy n) ∧
    (∀ i < 12, (s.slateCopy n).active n i = s.shadow n i) ∧ (s.slateCopy n).rd (Reg.LYR_FLIP_CNT n) = s.rd (Reg.LYR_FLIP_CNT n) + 1 ∧
    ∀ m < 40, (s.slateCopy n).waiting m = if m = n then false else s.waiting m := by
  have hwords := s.copyWords_within n
  have hactive := fun i (hi : i < 12) => s.copyWords_active n hi
  have hafter := s.slateCopy_after n
  generalize s.copyWords n = u at hwords hactive hafter
  have hcounted := u.copyCounted_within n
  generalize s.slateCopy n = t at hafter ⊢
  refine ⟨?_, fun i hi => ?_, ?_, fun m hm => ?_⟩
  · refine ((hwords.mono (by decide) fun a ha => ?_).trans (hcounted.mono (by decide) fun a ha => ?_)).trans (hafter.regs_mono fun a ha => ?_)
    all_goals
      simp only [among, List.contains_eq_mem, decide_eq_true_eq, List.mem_cons, List.not_mem_nil, or_false, Bool.and_eq_true, lyrPage, Reg.page,
        Reg.LYR_STALE_COUNT, Reg.LYR_FLIP_CNT, Reg.LYR_STATUS, Reg.LYR_STEP_X, Reg.LYR_STEP_Y, Reg.CMT_PENDING_LO] at ha
      rw [slateReg_iff]
      omega
  · refine ((congrArg BitVec.toNat (hafter.rd (among_eq_false fun x hx => ?_))).trans
      (congrArg BitVec.toNat (hcounted.rd (among_eq_false fun x hx => ?_)))).trans (hactive i hi)
    all_goals
      simp only [List.mem_cons, List.not_mem_nil, or_false, Reg.LYR_STATUS, Reg.LYR_STEP_X, Reg.LYR_STEP_Y, Reg.LYR_STALE_COUNT, Reg.LYR_FLIP_CNT,
        Reg.CMT_PENDING_LO] at hx
      simp only [lyrPage, Reg.page]
      omega
  · rw [hafter.rd (among_eq_false fun x hx => ?_), u.copyCounted_count, hwords.rd]
    · simp only [Bool.and_eq_false_iff, decide_eq_false_iff_not, Reg.LYR_FLIP_CNT, lyrPage, Reg.page]
      omega
    · simp only [List.mem_cons, List.not_mem_nil, or_false, Reg.LYR_STATUS, Reg.LYR_STEP_X, Reg.LYR_STEP_Y] at hx
      simp only [Reg.LYR_FLIP_CNT]
      omega
  · have hword : u.waiting m = s.waiting m := congrArg (fun w => bit w (m % 32)) (hwords.rd (by
      simp only [Bool.and_eq_false_iff, decide_eq_false_iff_not, Reg.CMT_PENDING_LO, lyrPage, Reg.page]
      omega))
    rw [← hword, ← u.copyCounted_waiting m hm]
    refine congrArg (fun w => bit w (m % 32)) (hafter.rd (among_eq_false fun x hx => ?_))
    simp only [List.mem_cons, List.not_mem_nil, or_false, Reg.LYR_STATUS, Reg.LYR_STEP_X, Reg.LYR_STEP_Y] at hx
    simp only [Reg.CMT_PENDING_LO]
    omega

/-! ### A copy checked, then made or refused (R81) -/

/-- What a latch point is to raise is of class NOTICE. -/
def LatchEv.Notices (ev : LatchEv) : Prop := ∀ r ∈ ev.reps, baseClass r.src = some 0

/-- A report of class NOTICE more, or none. -/
theorem LatchEv.Notices.append {ev ev' : LatchEv} {l : List Report} (h : ev.Notices) (hl : ∀ r ∈ l, baseClass r.src = some 0) (he : ev'.reps = ev.reps ++ l) : ev'.Notices := by
  intro r hr
  rw [he] at hr
  exact (List.mem_append.mp hr).elim (h r) (hl r)

theorem State.slateApply_copied {s : State} {n : Nat} (h : s.slateCheck n = 0) (ev : LatchEv) : (s.slateApply ev n).1 = s.slateCopy n := by
  unfold State.slateApply
  rw [if_pos h]

/-- A copy, made or refused: registers of the layer alone change, no other layer's waiting does, and what is to be raised stays of class NOTICE. -/
theorem State.slateApply_spec (s : State) (ev : LatchEv) (n : Nat) : Within [.regs, .lyr] (slateReg n) s (s.slateApply ev n).1 ∧
    (∀ m < 40, m ≠ n → (s.slateApply ev n).1.waiting m = s.waiting m) ∧ (ev.Notices → (s.slateApply ev n).2.Notices) := by
  have hcode : ∀ c, Within [.regs, .lyr] (slateReg n) s (s.wf (Reg.LYR_STATUS n) 19 16 c) := fun c => (s.wf_within _ _ _ _).mono (by decide) fun a ha => by
    rw [beq_iff_eq.mp ha, slateReg_iff]
    simp only [Reg.LYR_STATUS]
    omega
  have hwait : ∀ c m, m < 40 → (s.wf (Reg.LYR_STATUS n) 19 16 c).waiting m = s.waiting m := fun c m hm =>
    congrArg (fun w => bit w (m % 32)) (s.rd_wr_other _ _ _ (by simp only [Reg.LYR_STATUS, Reg.CMT_PENDING_LO]; omega))
  unfold State.slateApply
  dsimp only
  split
  · obtain ⟨hw, -, -, hm⟩ := s.slateCopy_spec n
    exact ⟨hw, fun m hlt hne => (hm m hlt).trans (if_neg hne), fun h => h.append (l := []) (by simp) (by simp)⟩
  · split
    · exact ⟨hcode _, fun m hlt _ => hwait _ m hlt, fun h => h⟩
    · exact ⟨(hcode _).trans (.of_same (fun f => by cases f <;> first | (left; decide) | (right; rfl)) rfl), fun m hlt _ => hwait _ m hlt,
        fun h => h.append (l := [⟨42, 0, 0, [], false⟩]) (by decide) rfl⟩

/-! ### The flips of a latch point (R118, R122) -/

/-- The registers that the copies of a latch point write. -/
def flipReg (a : Nat) : Bool := (decide (0x20006C ≤ a) && decide (a ≤ 0x200070)) || (decide (0x4010C0 ≤ a) && decide (a < 0x429000))

theorem flipReg_of_slateReg {n a : Nat} (hn : n < 40) (h : slateReg n a = true) : flipReg a = true := by
  have := slateReg_iff.mp h
  simp only [flipReg, Bool.or_eq_true, Bool.and_eq_true, decide_eq_true_eq]
  omega

/-- What the copies of a latch point keep: all but the registers they write and the layers' own state. -/
structure State.Copies (s : State) (ev : LatchEv) (t : State) (ev' : LatchEv) : Prop where
  within : Within [.regs, .lyr] flipReg s t
  notices : ev.Notices → ev'.Notices

theorem State.Copies.refl (s : State) (ev : LatchEv) : s.Copies ev s ev := ⟨.refl s, fun h => h⟩

theorem State.Copies.trans {s t u : State} {e f g : LatchEv} (h : s.Copies e t f) (k : t.Copies f u g) : s.Copies e u g :=
  ⟨h.within.trans k.within, fun hn => k.notices (h.notices hn)⟩

theorem State.slateApply_copies (s : State) (ev : LatchEv) {n : Nat} (hn : n < 40) : s.Copies ev (s.slateApply ev n).1 (s.slateApply ev n).2 := by
  obtain ⟨hw, -, hev⟩ := s.slateApply_spec ev n
  exact ⟨hw.regs_mono fun _ => flipReg_of_slateReg hn, hev⟩

theorem State.lyrTakes_copies (s : State) (takes : Nat → Nat → Bool) (ev : LatchEv) : s.Copies ev (s.lyrTakes takes ev).1 (s.lyrTakes takes ev).2.1 := by
  unfold State.lyrTakes
  refine List.foldlRecOn (motive := fun acc : State × LatchEv × List Nat => s.Copies ev acc.1 acc.2.1) _ _ (.refl s ev) fun acc hacc n hn => ?_
  dsimp only
  split
  · exact hacc.trans (acc.1.slateApply_copies _ (List.mem_range.mp hn))
  · exact hacc

/-- Where no Take applies, none copies a layer. -/
theorem State.lyrTakes_none (s : State) {takes : Nat → Nat → Bool} (h : ∀ pg g, takes pg g = false) (ev : LatchEv) : s.lyrTakes takes ev = (s, ev, []) := by
  unfold State.lyrTakes
  refine List.foldlRecOn (motive := fun acc : State × LatchEv × List Nat => acc = (s, ev, [])) _ _ rfl fun acc hacc n _ => ?_
  rw [hacc]
  exact if_neg (by rw [h]; decide)

/-- The flip of layer `n`, where it is due; then whether the layer claims the next. -/
def flipStep (taken : List Nat) (acc : State × LatchEv × Bool) (n : Nat) : State × LatchEv × Bool :=
  let on := acc.1.lyrEnabled n && !acc.1.lyr.hide.contains n
  let r := if on && !acc.1.lyrTest n && !acc.2.2 && acc.1.waiting n && !taken.contains n && acc.1.fenceReady n then acc.1.slateApply acc.2.1 n else (acc.1, acc.2.1)
  (r.1, r.2, on && !acc.2.2 && is16F (r.1.active n slFormat) && decide (n ≤ 37))

theorem State.lyrFlips_eq (s : State) (ev : LatchEv) (taken : List Nat) :
    s.lyrFlips ev taken = (((List.range 40).foldl (flipStep taken) (s, ev, false)).1, ((List.range 40).foldl (flipStep taken) (s, ev, false)).2.1) := by
  unfold State.lyrFlips
  generalize List.range 40 = l
  rfl

theorem flipStep_cases (taken : List Nat) (acc : State × LatchEv × Bool) (n : Nat) :
    ((flipStep taken acc n).1 = (acc.1.slateApply acc.2.1 n).1 ∧ (flipStep taken acc n).2.1 = (acc.1.slateApply acc.2.1 n).2) ∨
    ((flipStep taken acc n).1 = acc.1 ∧ (flipStep taken acc n).2.1 = acc.2.1) := by
  unfold flipStep
  dsimp only
  split
  · exact .inl ⟨rfl, rfl⟩
  · exact .inr ⟨rfl, rfl⟩

theorem State.lyrFlips_copies (s : State) (ev : LatchEv) (taken : List Nat) : s.Copies ev (s.lyrFlips ev taken).1 (s.lyrFlips ev taken).2 := by
  rw [s.lyrFlips_eq]
  refine List.foldlRecOn (motive := fun acc : State × LatchEv × Bool => s.Copies ev acc.1 acc.2.1) _ _ (.refl s ev) fun acc hacc n hn => ?_
  obtain ⟨h, h'⟩ | ⟨h, h'⟩ := flipStep_cases taken acc n
  · exact h ▸ h' ▸ hacc.trans (acc.1.slateApply_copies _ (List.mem_range.mp hn))
  · exact h ▸ h' ▸ hacc

/-- What layer 0 shows of a flip: its active Slate, whether it waits, and its count of flips. -/
structure State.FrontKept (s t : State) : Prop where
  active : ∀ i < 12, t.active 0 i = s.active 0 i
  waiting : t.waiting 0 = s.waiting 0
  count : t.rd (Reg.LYR_FLIP_CNT 0) = s.rd (Reg.LYR_FLIP_CNT 0)

theorem State.FrontKept.refl (s : State) : s.FrontKept s := ⟨fun _ _ => rfl, rfl, rfl⟩

theorem State.FrontKept.trans {s t u : State} (h : s.FrontKept t) (k : t.FrontKept u) : s.FrontKept u :=
  ⟨fun i hi => (k.active i hi).trans (h.active i hi), k.waiting.trans h.waiting, k.count.trans h.count⟩

/-- A copy of a layer behind the front one leaves the front one alone. -/
theorem State.slateApply_front (s : State) (ev : LatchEv) {n : Nat} (hn : 0 < n) (hlt : n < 40) : s.FrontKept (s.slateApply ev n).1 := by
  obtain ⟨hw, hwait, -⟩ := s.slateApply_spec ev n
  have hrd : ∀ a, 0x4010C0 ≤ a → a < 0x4020C0 → (s.slateApply ev n).1.rd a = s.rd a := fun a hlo hhi => by
    by_cases hreg : slateReg n a = true
    · have := slateReg_iff.mp hreg
      omega
    · exact hw.rd (Bool.eq_false_iff.mpr hreg)
  exact ⟨fun i hi => congrArg BitVec.toNat (hrd _ (by simp only [lyrPage, Reg.page]; omega) (by simp only [lyrPage, Reg.page]; omega)),
    hwait 0 (by decide) (by omega), hrd _ (by decide) (by decide)⟩

/-- Layer 0, enabled, waiting, its fence reached and its Slate good, flips (R122): its shadow is active, it waits no more, the flip is counted. -/
theorem State.lyrFlips_front {s : State} (ev : LatchEv) (hon : s.lyrEnabled 0 = true) (htest : s.lyrTest 0 = false) (hhide : 0 ∉ s.lyr.hide)
    (hwait : s.waiting 0 = true) (hready : s.fenceReady 0 = true) (hcheck : s.slateCheck 0 = 0) :
    (∀ i < 12, (s.lyrFlips ev []).1.active 0 i = s.shadow 0 i) ∧ (s.lyrFlips ev []).1.waiting 0 = false ∧
    (s.lyrFlips ev []).1.rd (Reg.LYR_FLIP_CNT 0) = s.rd (Reg.LYR_FLIP_CNT 0) + 1 := by
  have hfirst : (flipStep [] (s, ev, false) 0).1 = s.slateCopy 0 := by
    unfold flipStep
    dsimp only
    rw [if_pos (by simp [hon, htest, hhide, hwait, hready]), s.slateApply_copied hcheck]
  have hrest : (s.slateCopy 0).FrontKept (s.lyrFlips ev []).1 := by
    rw [s.lyrFlips_eq, show List.range 40 = 0 :: List.range' 1 39 from rfl, List.foldl_cons]
    refine List.foldlRecOn (motive := fun acc : State × LatchEv × Bool => (s.slateCopy 0).FrontKept acc.1) _ _ (hfirst ▸ .refl _) fun acc hacc n hn => ?_
    obtain ⟨h, -⟩ | ⟨h, -⟩ := flipStep_cases [] acc n
    · exact h ▸ hacc.trans (acc.1.slateApply_front _ (by have := List.mem_range'_1.mp hn; omega) (by have := List.mem_range'_1.mp hn; omega))
    · exact h ▸ hacc
  obtain ⟨-, hactive, hcount, hno⟩ := s.slateCopy_spec 0
  exact ⟨fun i hi => (hrest.active i hi).trans (hactive i hi), hrest.waiting.trans (hno 0 (by decide)), hrest.count.trans hcount⟩

end Sys2Proof.Machine

/-! ## Steps 4 to 6 of a latch point: enables, the Print, scalers, stale layers, banks, arms (R118) -/
namespace Sys2Proof.Machine

/-! ### Records of one chapter -/

theorem State.withLyr_beside (s : State) (v : Lyr) : s.Beside { s with lyr := v } :=
  .of_same (fun f => by cases f <;> first | (left; decide) | (right; rfl)) rfl

theorem State.withPrt_beside (s : State) (v : Prt) : s.Beside { s with prt := v } :=
  .of_same (fun f => by cases f <;> first | (left; decide) | (right; rfl)) rfl

theorem State.withTon_beside (s : State) (v : Ton) : s.Beside { s with ton := v } :=
  .of_same (fun f => by cases f <;> first | (left; decide) | (right; rfl)) rfl

theorem State.withFlt_beside (s : State) (v : Flt) : s.Beside { s with flt := v } :=
  .of_same (fun f => by cases f <;> first | (left; decide) | (right; rfl)) rfl

theorem State.each_beside {n : Nat} {f : Nat → State → State} (s : State) (h : ∀ i < n, ∀ u : State, u.Beside (f i u)) : s.Beside (s.each n f) :=
  State.each_within n f s h

theorem State.eachOf_beside {α : Type} (xs : List α) {f : α → State → State} (s : State) (h : ∀ x, ∀ u : State, u.Beside (f x u)) : s.Beside (s.eachOf xs f) :=
  State.eachOf_within xs f s h

theorem State.foldl_beside {α : Type} (xs : List α) {f : State → α → State} (s : State) (h : ∀ (u : State) (x : α), u.Beside (f u x)) : s.Beside (xs.foldl f s) :=
  List.foldlRecOn (motive := fun u => s.Beside u) xs f (.refl s) fun u hu x _ => hu.trans (h u x)

theorem State.Beside.ite {s t u : State} {c : Prop} [Decidable c] (h : s.Beside t) (k : s.Beside u) : s.Beside (if c then t else u) := by
  split
  · exact h
  · exact k

/-! ### Enables and claims (R74, R84) -/

theorem offLatch_lyrStatus (n : Nat) : offLatch (Reg.LYR_STATUS n) = true := offLatch_of (by simp only [Reg.LYR_STATUS]; omega)

theorem offLatch_lyrStale (n : Nat) : offLatch (Reg.LYR_STALE_COUNT n) = true := offLatch_of (by simp only [Reg.LYR_STALE_COUNT]; omega)

theorem State.lyrEnables_beside (s : State) : s.Beside s.lyrEnables :=
  (s.eachOf_beside _ fun n u => u.wb_beside _ _ (offLatch_of (by simp only [Reg.PAGE_CTRL, lyrPage, Reg.page]; omega))).trans (State.withLyr_beside _ _)

theorem State.lyrClaims_beside (s : State) : s.Beside s.lyrClaims :=
  List.foldlRecOn (motive := fun acc : State × Bool => s.Beside acc.1) _ _ (.refl s) fun acc hacc n _ => hacc.trans (acc.1.wb_beside _ _ (offLatch_lyrStatus n))

theorem State.lyrStates_beside (s : State) : s.Beside s.lyrStates :=
  s.each_beside fun n _ u => State.when_within _ (u.wf_beside _ _ _ (offLatch_of (by simp only [Reg.PAGE_STATUS, lyrPage, Reg.page]; omega)))

/-! ### Scalers, units and stale layers (R75, R76, R83, R125) -/

/-- A step beside the latch that has nothing to raise but what is of class NOTICE. -/
structure State.Settles (s : State) (ev : LatchEv) (t : State) (ev' : LatchEv) : Prop where
  beside : s.Beside t
  notices : ev.Notices → ev'.Notices

theorem State.Settles.trans {s t u : State} {e f g : LatchEv} (h : s.Settles e t f) (k : t.Settles f u g) : s.Settles e u g :=
  ⟨h.beside.trans k.beside, fun hn => k.notices (h.notices hn)⟩

theorem State.Beside.settles {s t : State} (h : s.Beside t) (ev : LatchEv) : s.Settles ev t ev := ⟨h, fun hn => hn⟩

theorem State.lyrScalers_settles (s : State) (ev : LatchEv) : s.Settles ev (s.lyrScalers ev).1 (s.lyrScalers ev).2 := by
  have hstatus : ∀ (u : State) (n hi lo v : Nat), u.Beside (u.wf (Reg.LYR_STATUS n) hi lo v) := fun u n hi lo v => u.wf_beside hi lo v (offLatch_lyrStatus n)
  unfold State.lyrScalers
  refine List.foldlRecOn (motive := fun acc : State × LatchEv => s.Settles ev acc.1 acc.2) _ _ (State.Beside.settles ?_ ev) fun acc hacc n _ => hacc.trans ?_
  · exact (s.each_beside fun n _ u => State.when_within _ (hstatus u n _ _ _)).trans (State.when_within _ (hstatus _ 39 _ _ _))
  · dsimp only
    split
    · split
      · refine ⟨(hstatus _ n _ _ _).trans (State.when_within _ ?_), fun h => h⟩
        exact hstatus _ n _ _ _
      · split
        · exact State.Beside.settles (hstatus _ n _ _ _) _
        · exact ⟨(hstatus _ n _ _ _).trans (State.withLyr_beside _ _), fun h => h.append (l := [⟨43, 0, 0, [], false⟩]) (by decide) rfl⟩
    · exact State.Beside.settles (.refl _) _

theorem State.lyrUnits_beside (s : State) : s.Beside s.lyrUnits :=
  (((s.each_beside fun n _ u => u.wf_beside _ _ _ (offLatch_lyrStatus n)).trans (State.wn_beside _ _ (by decide))).trans (State.wn_beside _ _ (by decide))).trans
    (State.wr64_beside _ _ (by decide) (by decide))

theorem State.lyrStale_settles (s : State) (ev : LatchEv) : s.Settles ev (s.lyrStale ev).1 (s.lyrStale ev).2 := by
  unfold State.lyrStale
  refine List.foldlRecOn (motive := fun acc : State × LatchEv => s.Settles ev acc.1 acc.2) _ _ (State.Beside.settles (.refl s) ev) fun acc hacc n _ => hacc.trans ?_
  have hcount : ∀ v, acc.1.Beside (acc.1.wf (Reg.LYR_STALE_COUNT n) 15 0 v) := fun v => acc.1.wf_beside 15 0 v (offLatch_lyrStale n)
  dsimp only
  split
  · exact State.Beside.settles (hcount 0) _
  · split
    · exact State.Beside.settles (.refl _) _
    · split
      · exact ⟨hcount _, fun h => h⟩
      · exact State.Beside.settles (.refl _) _

theorem State.showIndicators_beside (s : State) : s.Beside s.showIndicators := s.wr64_beside _ (by decide) (by decide)

/-! ### The Print (R219 to R223) -/

theorem State.setPEntry_beside (s : State) (x : Nat) (v : PEntry) : s.Beside (s.setPEntry x v) := s.withPrt_beside _

theorem State.prtRegs_beside (s : State) : s.Beside s.prtRegs :=
  (s.wn_beside _ (by decide)).trans (State.each_beside _ fun x _ u => u.wn_beside _ (offLatch_of_le (by simp only [Reg.CMP_PRINT_ENT]; omega)))

/-- PRINT set or cleared in every layer of a range. -/
theorem State.printBits_beside (s : State) (p : Nat → Bool) (b : Bool) : s.Beside (s.each 40 fun n u => u.when (p n) fun w => w.wb (Reg.LYR_STATUS n) 8 b) :=
  s.each_beside fun n _ u => State.when_within _ (u.wb_beside _ _ (offLatch_lyrStatus n))

theorem State.prtFree_beside (s : State) (x : Nat) : s.Beside (s.prtFree x) := by
  unfold State.prtFree
  dsimp only
  refine Within.trans (Within.trans (Within.trans (Within.trans (s.printBits_beside _ false) (State.each_beside _ fun k _ u => ?_)) (State.setPEntry_beside _ x _))
    (State.withPrt_beside _ _)) (State.evt_beside _ _)
  exact State.when_within _ (u.engineSet_beside k _)

theorem State.prtRefuse_beside (s : State) (group front reason : Nat) : s.Beside (s.prtRefuse group front reason) := by
  unfold State.prtRefuse
  dsimp only
  split
  · exact s.withPrt_beside _
  · exact ((s.withPrt_beside _).trans (State.wn_beside _ _ (by decide))).trans (State.evt_beside _ _)

theorem State.prtAdmit_beside (s : State) (group : Nat) (ms : List Nat) (units : Nat) : s.Beside (s.prtAdmit group ms units) := by
  unfold State.prtAdmit
  dsimp only
  split
  · exact .refl s
  · split
    · exact .refl s
    · split
      · exact s.prtRefuse_beside _ _ _
      · split
        · exact s.prtRefuse_beside _ _ _
        · exact s.setPEntry_beside _ _

theorem State.prtLatch_beside (s seen : State) (flipped : List Nat) : s.Beside (s.prtLatch seen flipped) := by
  unfold State.prtLatch
  dsimp only
  refine Within.trans (Within.trans (Within.trans (s.each_beside fun x _ u => State.when_within _ (u.prtFree_beside x)) (State.withPrt_beside _ _))
    (State.each_beside _ fun x _ u => ?_)) (State.prtRegs_beside _)
  split
  · exact ((u.setPEntry_beside x _).trans (State.printBits_beside _ _ true)).trans (State.evt_beside _ _)
  · exact .refl u

theorem State.prtCandidates_beside (s : State) : s.Beside s.prtCandidates := by
  unfold State.prtCandidates
  dsimp only
  have hfreed : s.Beside (s.each 8 fun x u => u.when (u.prtStale (u.pEntry x) []) fun w => w.prtFree x) :=
    s.each_beside fun x _ u => State.when_within _ (u.prtFree_beside x)
  split
  · exact hfreed.trans (State.prtRegs_beside _)
  · split
    · refine Within.trans (Within.trans (Within.trans (hfreed.trans (State.withPrt_beside _ _)) (State.foldl_beside _ _ fun u n => ?_))
        (State.assignStrips_beside _)) (State.prtRegs_beside _)
      exact State.Beside.ite (.refl u) (State.Beside.ite (u.prtAdmit_beside _ _ _) (u.prtRefuse_beside _ _ _))
    · refine Within.trans (Within.trans (Within.trans (hfreed.trans (State.withPrt_beside _ _)) (State.foldl_beside _ _ fun u n => ?_))
        (State.assignStrips_beside _)) (State.prtRegs_beside _)
      exact State.Beside.ite (u.prtAdmit_beside _ _ _) (.refl u)

/-! ### Banks, temperatures and tone registers (R51, R52, R58, R59, R152, R153) -/

/-- The bank's switch noted for the collector. -/
theorem State.switchNoted_beside (s : State) (k : TabKind) :
    s.Beside (match k with
      | .geo => { s with flt := { s.flt with geoSwitched := true } }
      | .ton => { s with flt := { s.flt with tonSwitched := true } }) := by
  cases k
  · exact s.withFlt_beside _
  · exact s.withFlt_beside _

theorem State.tabSwitch_beside (s : State) (k : TabKind) : s.Beside (s.tabSwitch k) := by
  have hr := k.offLatch_regs
  have hshown : ∀ (b n : Nat) (v : Word), s.Beside ((((((s.wn k.bankReg b).wr64 k.ident n).setTabState k tabIdle).wb k.status 31 false).wr k.count v).evt (k.evt + 2)) := fun b n v =>
    ((((((s.wn_beside _ (hr _ (by simp))).trans (State.wr64_beside _ _ (hr _ (by simp)) (hr _ (by simp)))).trans (State.wf_beside _ _ _ _ (hr _ (by simp)))).trans
      (State.wb_beside _ _ _ (hr _ (by simp)))).trans (State.wr_beside _ _ (hr _ (by simp)))).trans (State.evt_beside _ _))
  have harmed : ∀ (u : State) (c : Prop) [Decidable c], u.Beside (if c then u.evt (k.evt + 4) else u) := fun u c _ => State.Beside.ite (u.evt_beside _) (.refl u)
  unfold State.tabSwitch
  dsimp only
  exact (((hshown _ _ _).trans (State.setTab_beside _ k _)).trans (State.switchNoted_beside _ k)).trans (harmed _ _)

theorem State.tabUnarm_beside (s : State) (k : TabKind) : s.Beside (s.tabUnarm k) := by
  have hclear := s.wb_beside 31 false (k.offLatch_regs k.status (by simp))
  exact State.Beside.ite (hclear.trans (State.repairFail_beside _ k)) hclear

theorem State.tabMissed_beside (s : State) (k : TabKind) : s.Beside (s.tabMissed k) := (s.tabUnarm_beside k).trans (State.evt_beside _ _)

theorem State.tabLatch_beside (s : State) (k : TabKind) (frame : Nat) (takes : Nat → Bool) : s.Beside (s.tabLatch k frame takes) :=
  State.Beside.ite (.refl s) (State.Beside.ite (State.Beside.ite (s.tabSwitch_beside k) (.refl s))
    (State.Beside.ite (.refl s) (State.Beside.ite (s.tabSwitch_beside k) (s.tabMissed_beside k))))

theorem State.setGeoTile_beside (s : State) (t : Nat) (v : GeoTile) : s.Beside (s.setGeoTile t v) := (s.setGeoTile_within t v).widen (by decide)

theorem State.geoTempLatch_beside (s : State) (t : Nat) : s.Beside (s.geoTempLatch t) := by
  have heff : offLatch (Reg.GEO_T_EFF t) = true := offLatch_of (by simp only [Reg.GEO_T_EFF]; omega)
  unfold State.geoTempLatch
  dsimp only
  split
  · refine Within.trans (Within.trans (Within.trans (State.when_within _ (s.evt_beside _)) (State.when_within _ ?_)) (State.wn_beside _ _ heff)) (State.when_within _ ?_)
    · exact State.setGeoTile_beside _ t _
    · exact State.evt_beside _ _
  · exact .refl s

theorem State.geoModelLatch_beside (s : State) (t : Nat) : s.Beside (s.geoModelLatch t) :=
  (((s.wn_beside _ (offLatch_of (by simp only [Reg.GEO_OX_EFF]; omega))).trans (State.wn_beside _ _ (offLatch_of (by simp only [Reg.GEO_OY_EFF]; omega)))).trans
    (State.wn_beside _ _ (offLatch_of (by simp only [Reg.GEO_PX_EFF]; omega)))).trans (State.wn_beside _ _ (offLatch_of (by simp only [Reg.GEO_PY_EFF]; omega)))

theorem State.tonLatchRegs_beside (s : State) (takes : Nat → Nat → Bool) : s.Beside (s.tonLatchRegs takes) := s.withTon_beside _

theorem State.wearSwap_beside (s : State) (frame : Nat) : s.Beside (s.wearSwap frame) := by
  unfold State.wearSwap
  dsimp only
  split
  · exact ((s.wn_beside _ (by decide)).trans (State.withTon_beside _ _)).trans (State.evt_beside _ _)
  · exact .refl s

/-- Arms of the applied groups clear (R123). -/
theorem State.takesDone_beside (s : State) (frame : Nat) : s.Beside (s.takesDone frame) :=
  s.each_beside fun q hq u => State.when_within _ ((u.wr_beside _ (offLatch_of (by simp only [Reg.TAKE_ARM]; omega))).trans
    (State.wf_beside _ _ _ _ (offLatch_of (by simp only [Reg.TAKE_LAST]; omega))))

/-! ### Steps 2 to 6 together (R118) -/

/-- Step 6: indicators, banks, tile models, tone registers, wear, arms. -/
def State.latchBanks (s : State) (takes : Nat → Nat → Bool) (frame : Nat) : State :=
  let s := ((s.showIndicators.tabLatch .geo frame (takes (Reg.page 3 0))).each 6 fun t s => s.geoTempLatch t).each 6 fun t s => s.geoModelLatch t
  (((s.tonLatchRegs takes).tabLatch .ton frame (takes (Reg.page 6 0))).wearSwap frame).takesDone frame

theorem State.latchBanks_beside (s : State) (takes : Nat → Nat → Bool) (frame : Nat) : s.Beside (s.latchBanks takes frame) :=
  (((((((s.showIndicators_beside.trans (State.tabLatch_beside _ .geo _ _)).trans (State.each_beside _ fun t _ u => u.geoTempLatch_beside t)).trans
    (State.each_beside _ fun t _ u => u.geoModelLatch_beside t)).trans (State.tonLatchRegs_beside _ _)).trans (State.tabLatch_beside _ .ton _ _)).trans
    (State.wearSwap_beside _ _)).trans (State.takesDone_beside _ _))

/-- Steps 2 to 6 are the Takes' copies, the flips, and steps beside the latch that have only faults of class NOTICE to raise. -/
theorem State.latchSteps_cases {P : State × LatchEv → Prop} (s : State) (frame : Nat)
    (h : ∀ s₁ ev₁ taken s₂ ev₂ t ev, s.lyrTakes (s.takeApplies frame) LatchEv.none = (s₁, ev₁, taken) → s₁.lyrFlips ev₁ taken = (s₂, ev₂) →
      s₂.Settles ev₂ t ev → P (t, ev)) : P (s.latchSteps frame) := by
  unfold State.latchSteps
  extract_lets takes groups
  split
  next s₁ ev₁ taken htakes =>
  split
  next s₂ ev₂ hflips =>
  extract_lets s₃ s₄
  split
  next s₅ ev₅ hscalers =>
  extract_lets s₆
  split
  next s₇ ev₇ hstale =>
  have hprint : s₂.Beside s₄ := ((s₂.lyrEnables_beside.trans (State.lyrClaims_beside _)).trans (State.lyrStates_beside _)).trans (s₃.prtLatch_beside _ _)
  have hscaled : s₄.Settles ev₂ s₅ ev₅ := by simpa only [hscalers] using s₄.lyrScalers_settles ev₂
  have hunits : s₅.Beside s₆ := s₅.lyrUnits_beside.trans (State.prtCandidates_beside _)
  have hstales : s₆.Settles ev₅ s₇ ev₇ := by simpa only [hstale] using s₆.lyrStale_settles ev₅
  have hlayers := ((hprint.settles ev₂).trans hscaled).trans ((hunits.settles ev₅).trans hstales)
  refine h s₁ ev₁ taken s₂ ev₂ _ _ htakes hflips ⟨hlayers.beside.trans (s₇.latchBanks_beside takes frame), fun hn => ?_⟩
  refine (hlayers.notices hn).append (l := List.map (fun _ => ⟨34, 0, 0, [], false⟩) _) (fun r hr => ?_) rfl
  obtain ⟨_, -, rfl⟩ := List.mem_map.mp hr
  decide

end Sys2Proof.Machine

/-! ## Step 7 of a latch point, the frame's synthesis, and calibration's part (R91, R118, R381, R385) -/
namespace Sys2Proof.Machine

/-! ### The frame shown (R130) -/

/-- The frame and its epoch are shown, in CMT's own registers. -/
theorem State.showEpoch_spec (s : State) (e : Epoch) :
    Within [.regs] (among [Reg.CMT_FRAME_LO, Reg.CMT_FRAME_HI, Reg.CMT_EPOCH_SEC_LO, Reg.CMT_EPOCH_SEC_HI, Reg.CMT_EPOCH_NSEC]) s (s.showEpoch e) ∧
    (s.showEpoch e).rn Reg.CMT_FRAME_LO = e.count % 2 ^ 32 ∧ (s.showEpoch e).rf Reg.CMT_FRAME_HI 15 0 = e.count / 2 ^ 32 % 2 ^ 16 ∧
    (s.showEpoch e).rf Reg.CMT_EPOCH_NSEC 29 0 = e.time / nsUnit % 1000000000 := by
  unfold State.showEpoch
  dsimp only
  generalize e.time / nsUnit / 1000000000 = sec
  have hnsec : e.time / nsUnit % 1000000000 % 2 ^ 30 = e.time / nsUnit % 1000000000 :=
    Nat.mod_eq_of_lt (Nat.lt_trans (Nat.mod_lt _ (by decide)) (by decide))
  generalize e.time / nsUnit % 1000000000 = nsec at hnsec ⊢
  have hepoch : ∀ u : State, Within [.regs] (among [Reg.CMT_EPOCH_SEC_LO, Reg.CMT_EPOCH_SEC_HI, Reg.CMT_EPOCH_NSEC]) u
      (((u.wn Reg.CMT_EPOCH_SEC_LO sec).wf Reg.CMT_EPOCH_SEC_HI 15 0 (sec / 2 ^ 32)).wf Reg.CMT_EPOCH_NSEC 29 0 nsec) := fun u =>
    (((u.wn_within _ _).regs_mono (by simp [among])).trans ((State.wf_within _ _ _ _ _).regs_mono (by simp [among]))).trans
      ((State.wf_within _ _ _ _ _).regs_mono (by simp [among]))
  refine ⟨?_, ?_, ?_, ?_⟩
  · exact (((s.wn_within _ _).regs_mono (by simp [among])).trans ((State.wf_within _ _ _ _ _).regs_mono (by simp [among]))).trans
      ((hepoch _).regs_mono fun a ha => by simp_all [among])
  · refine ((hepoch _).rn (by decide)).trans ((congrArg BitVec.toNat (State.rd_wr_other _ _ _ _ (by decide))).trans ?_)
    exact (congrArg BitVec.toNat (s.rd_wr_same _ _)).trans (BitVec.toNat_ofNat ..)
  · exact ((hepoch _).rf (by decide) 15 0).trans (State.rf_wf_same _ _ (by decide) (by decide) _)
  · exact (State.rf_wf_same _ _ (by decide) (by decide) _).trans hnsec

/-! ### What is raised (R118) -/

/-- Reports of class NOTICE raised in one group (R331, R333): the collector's log and pending bits, events, and nothing else. -/
theorem State.raiseGroup_notices (s : State) (react : React) {reps : List Report} (h : ∀ r ∈ reps, baseClass r.src = some 0) :
    Within noticeFields faultReg s (s.raiseGroup react reps).1 := by
  have hjudged : ∀ ws : List Window, (fun acc : State × List FRec => Within noticeFields faultReg s acc.1 ∧ ∀ y ∈ acc.2, y.cls = 0 ∧ y.rep.src < 512)
      (reps.foldl (fun (acc : State × List FRec) r => let (s, x) := acc.1.judge ws r; (s, acc.2 ++ x.toList)) (s, [])) := fun ws => by
    refine List.foldlRecOn (motive := fun acc : State × List FRec => Within noticeFields faultReg s acc.1 ∧ ∀ y ∈ acc.2, y.cls = 0 ∧ y.rep.src < 512) _ _
      ⟨.refl s, by simp⟩ fun acc hacc r hr => ?_
    obtain ⟨hw, hx⟩ := acc.1.judge_notice ws r (h r hr)
    refine ⟨hacc.1.trans hw, fun y hy => ?_⟩
    obtain hy | hy := List.mem_append.mp hy
    · exact hacc.2 y hy
    · obtain ⟨hcls, hrep⟩ := hx y (Option.mem_toList.mp hy)
      exact ⟨hcls, hrep ▸ notice_lt (h r hr)⟩
  obtain ⟨hw, hrecs⟩ := hjudged s.flt.windows
  unfold State.raiseGroup
  dsimp only
  generalize List.foldl _ (s, []) reps = acc at hw hrecs ⊢
  exact (Within.ite hw (State.storeWr_notice _ _ _)).trans (State.runRecs_notice _ _ _ _ _ fun y hy => hrecs y (rankSort_mem hy))

theorem State.raiseWith_beside (s : State) {reps : List Report} (h : ∀ r ∈ reps, baseClass r.src = some 0) : s.Beside (s.raiseWith noReact reps) := by
  have hgroup := s.raiseGroup_notices noReact h
  unfold State.raiseWith
  dsimp only
  generalize s.raiseGroup noReact reps = r at hgroup ⊢
  have hfull : Within noticeFields faultReg s (if r.2 = true then (r.1.raiseGroup noReact [⟨478, 0, 0, [], false⟩]).1 else r.1) :=
    Within.ite hgroup (r.1.raiseGroup_notices noReact (by decide))
  exact (hfull.trans (State.pairUpdate_within _).toNotice).mono (by decide) fun _ => offLatch_faultReg

theorem State.latchRaise_beside (s : State) {ev : LatchEv} (h : ev.Notices) : s.Beside (s.latchRaise ev) := by
  have hevts : ∀ (u : State) (l : List Nat) (f : Nat → Nat), u.Beside (u.eachOf l fun n s => s.evt (f n)) := fun u l f => u.eachOf_beside l fun n w => w.evt_beside (f n)
  have hall := (((((s.evt_beside 49).trans (hevts _ ev.flipped fun n => 384 + 4 * n)).trans (hevts _ ev.stale fun n => 385 + 4 * n)).trans
    (hevts _ ev.limit fun n => 386 + 4 * n)).trans (hevts _ ev.refused fun n => 387 + 4 * n)).trans (hevts _ ev.takes fun g => 320 + g)
  exact State.Beside.ite hall (hall.trans (State.raiseWith_beside _ h))

/-! ### Synthesis of the frame begins (R91, R102, R103) -/

theorem State.pvGrantLatch_beside (s : State) : s.Beside s.pvGrantLatch.1 := by
  have howners : s.Beside (s.each 4 fun v u => u.wb (Reg.PV_STATUS v) 30 (!u.pvOwnerOk v)) :=
    s.each_beside fun v _ u => u.wb_beside _ _ (offLatch_of_le (by simp only [Reg.PV_STATUS]; omega))
  unfold State.pvGrantLatch
  dsimp only
  generalize State.each s 4 _ = u at howners ⊢
  exact State.Beside.ite howners ((howners.trans (State.wf_beside _ _ _ _ (by decide))).trans (State.evt_beside _ _))

theorem State.pvSkipped_beside (s : State) (v : Nat) : s.Beside (s.pvSkipped v) :=
  (s.wb_beside _ _ (offLatch_of_le (by simp only [Reg.PV_STATUS]; omega))).trans (State.evt_beside _ _)

/-- A frame put behind the others, with the items that begin it in the groups' queues and those that end it where its region is off. -/
def State.frameQueued (s : State) (f : Frame) (num : Nat) (regions : List Nat) : State :=
  (({ s with syn := { s.syn with frames := s.syn.frames ++ [f] } }).each 6 fun g s => s.pushItem g (.start num (!regions.contains g))).each 6 fun g s =>
    s.when (!regions.contains g) fun s => s.pushItem g (.fin num false)

theorem State.frameQueued_spec (s : State) (f : Frame) (num : Nat) (regions : List Nat) :
    Within [.syn] (fun _ => false) s (s.frameQueued f num regions) ∧ (s.frameQueued f num regions).syn.frames = s.syn.frames ++ [f] := by
  refine State.each_induction (P := fun u => Within [.syn] (fun _ => false) s u ∧ u.syn.frames = s.syn.frames ++ [f])
    (State.each_induction (P := fun u => Within [.syn] (fun _ => false) s u ∧ u.syn.frames = s.syn.frames ++ [f]) ⟨s.withSyn_within _, rfl⟩ ?_) ?_
  · exact fun g _ u hu => ⟨hu.1.trans (u.withSyn_within _), hu.2⟩
  · intro g _ u hu
    unfold State.when
    split
    · exact ⟨hu.1.trans (u.withSyn_within _), hu.2⟩
    · exact hu

/-- Synthesis of a frame begins: views are granted, then the frame is queued behind the others. -/
theorem State.synLatch_cases (s : State) (num epoch : Nat) (on : Bool) : ∃ u f regions, s.Beside u ∧ f.num = num ∧ f.epoch = epoch ∧
    s.synLatch num epoch on = u.frameQueued f num regions := by
  have hgrant := s.pvGrantLatch_beside
  unfold State.synLatch
  generalize s.pvGrantLatch = r at hgrant ⊢
  obtain ⟨v, grant⟩ := r
  exact ⟨_, _, _, hgrant.trans (v.eachOf_beside _ fun x w => w.pvSkipped_beside x), rfl, rfl, rfl⟩

theorem State.synLatch_spec (s : State) (num epoch : Nat) (on : Bool) : Within (.syn :: latchFields) offLatch s (s.synLatch num epoch on) ∧
    ∃ f, f.num = num ∧ f.epoch = epoch ∧ (s.synLatch num epoch on).syn.frames = s.syn.frames ++ [f] := by
  obtain ⟨u, f, regions, hu, hnum, hepoch, heq⟩ := s.synLatch_cases num epoch on
  obtain ⟨hw, hframes⟩ := u.frameQueued_spec f num regions
  rw [heq]
  exact ⟨(hu.widen (by decide)).trans (hw.mono (by decide) (by simp)), f, hnum, hepoch, by rw [hframes, hu.syn (by decide)]⟩

end Sys2Proof.Machine

/-! ## Calibration's part of a latch point (R378, R381, R385, R386) -/
namespace Sys2Proof.Machine

/-! ### Runs -/

/-- A step that leaves the latch registers, CMT's state, synthesis and memory alone: calibration and the panel link may change. -/
abbrev State.CalBeside (s t : State) : Prop := Within (.cal :: .plk :: latchFields) offLatch s t

theorem State.Beside.cal {s t : State} (h : s.Beside t) : s.CalBeside t := h.widen (by decide)

theorem State.setCalRun_cal (s : State) (r : Option CalRun) : s.CalBeside (s.setCalRun r) :=
  .of_same (fun f => by cases f <;> first | (left; decide) | (right; rfl)) rfl

theorem State.calStatus_cal (s : State) (hi lo v : Nat) : s.CalBeside (s.wf Reg.CAL_STATUS hi lo v) := (s.wf_beside hi lo v (by decide)).cal

theorem State.panelCommand_cal (s : State) (g c : Nat) : s.CalBeside (s.panelCommand g c) := by
  unfold State.panelCommand State.setGrp
  dsimp only
  refine Within.trans ?_ (State.idleRun_beside _ _ _ (offLatch_of_le ?_)).cal
  · exact .of_same (fun f => by cases f <;> first | (left; decide) | (right; rfl)) rfl
  · simp only [Reg.PAGE_STATUS, grpPage, Reg.page]
    omega

theorem State.sendMeasure_cal (s : State) (r : CalRun) : s.CalBeside (s.sendMeasure r) := by
  unfold State.sendMeasure
  split
  · exact .refl s
  · exact s.panelCommand_cal _ _

theorem State.beginRegion_cal (s : State) (r : CalRun) : s.CalBeside (s.beginRegion r) := by
  unfold State.beginRegion
  split
  · exact .refl s
  · exact (((s.calStatus_cal _ _ _).trans (State.calStatus_cal _ _ _ _)).trans (State.panelCommand_cal _ _ _)).trans (State.sendMeasure_cal _ r)

theorem State.storeWr_cal (s : State) (off : Nat) (l : List Byte) : s.CalBeside (s.storeWr off l) :=
  (s.storeWr_notice off l).mono (by decide) fun _ => offLatch_faultReg

theorem State.runEnd_cal (s : State) (result : Nat) : s.CalBeside (s.runEnd result) :=
  (((((s.setCalRun_cal none).trans (State.storeWr_cal _ _ _)).trans (State.calStatus_cal _ _ _ _)).trans (State.calStatus_cal _ _ _ _)).trans
    (State.toState_beside _ _ _ (by decide)).cal).trans (State.evt_beside _ _).cal

theorem State.runAbort_cal (s : State) (result : Nat) : s.CalBeside (s.runAbort result) := by
  unfold State.runAbort
  split
  · exact .refl s
  · refine Within.trans ?_ (State.runEnd_cal _ result)
    split
    · split
      · exact s.panelCommand_cal _ _
      · exact .refl s
    · exact .refl s

theorem State.calWatch_cal (s : State) : s.CalBeside s.calWatch := by
  unfold State.calWatch
  split
  · split
    · exact s.runAbort_cal 5
    · exact .refl s
  · exact .refl s

/-- Without a run there is none to watch. -/
theorem State.calWatch_none {s : State} (h : s.cal.run = none) : s.calWatch = s := by
  unfold State.calWatch
  rw [h]

theorem State.calStart_cal (s : State) (kind mask : Nat) : s.CalBeside (s.calStart kind mask) := by
  unfold State.calStart
  dsimp only
  have hrefused := (s.wb_beside (a := Reg.CAL_STATUS) 31 (!s.calOk kind mask) (by decide)).cal
  split
  · exact hrefused
  · exact (((((((((hrefused.trans (State.storeWr_cal _ _ _)).trans (State.wr_beside _ _ (by decide)).cal).trans (State.evt_beside _ _).cal).trans
      (State.calStatus_cal _ _ _ _)).trans (State.calStatus_cal _ _ _ _)).trans (State.calStatus_cal _ _ _ _)).trans
      (State.toState_beside _ _ _ (by decide)).cal).trans (State.setCalRun_cal _ _)).trans (State.beginRegion_cal _ _))

theorem State.calTrigger_cal (s : State) (kind mask : Nat) : s.CalBeside (s.calTrigger kind mask) := by
  unfold State.calTrigger
  split
  · exact (s.evt_beside _).cal.trans (State.calStart_cal _ _ _)
  · exact .refl s

/-! ### An image loaded and armed (R385) -/

/-- A step of a load by the device: memory may change too. -/
abbrev State.LoadBeside (s t : State) : Prop := Within (.mem :: .dmc :: .cal :: .plk :: latchFields) offLatch s t

theorem State.Beside.load {s t : State} (h : s.Beside t) : s.LoadBeside t := h.widen (by decide)

theorem State.tabStart_beside (s : State) (k : TabKind) (addr len party : Nat) (rep : Bool) : s.Beside (s.tabStart k addr len party rep) := by
  have hstatus := k.offLatch_regs k.status (by simp)
  exact (((s.setLoad_beside k _).trans (State.wf_beside _ _ _ _ hstatus)).trans (State.wf_beside _ _ _ _ hstatus)).trans (State.wf_beside _ _ _ _ hstatus)

theorem State.tabCmd_beside (s : State) (k : TabKind) (p : Party) (v : Word) : s.Beside (s.tabCmd k p v) := by
  have hstatus := k.offLatch_regs k.status (by simp)
  unfold State.tabCmd
  dsimp only
  have hmark := fun b => s.wb_beside (a := k.status) 16 b hstatus
  split
  · exact .refl s
  · exact State.Beside.ite (hmark _) (State.Beside.ite ((hmark _).trans (State.tabStart_beside _ k _ _ _ _))
      (State.Beside.ite (((hmark _).trans (State.wb_beside _ _ _ hstatus)).trans (State.wf_beside _ _ _ _ hstatus)) ((hmark _).trans (State.tabUnarm_beside _ k))))

theorem State.seqInc_beside (s : State) {a : Nat} (h : offLatch (Reg.SEQ (a / 0x1000 * 0x1000)) = true) : s.Beside (s.seqInc a) :=
  State.Beside.ite (s.wr_beside _ h) (.refl s)

/-- The SEQ registers of the table units' pages lie beside the latch's. -/
theorem TabKind.offLatch_seq (k : TabKind) : ∀ a ∈ [k.loadAddr, k.loadAddr + 4, k.loadLen, k.arm, k.cmd], offLatch (Reg.SEQ (a / 0x1000 * 0x1000)) = true := by
  cases k <;> decide

theorem State.calPut_beside (s : State) {a : Nat} (v : Nat) (hseq : offLatch (Reg.SEQ (a / 0x1000 * 0x1000)) = true) (ha : offLatch a = true) :
    s.Beside (s.calPut a v) := (s.seqInc_beside hseq).trans (State.wn_beside _ _ ha)

theorem State.calApply_load (s : State) (r : CalRun) (b : Bank) : s.LoadBeside (s.calApply r b) := by
  have hr := (calKind r.kind).offLatch_regs
  have hseq := (calKind r.kind).offLatch_seq
  unfold State.calApply
  dsimp only
  generalize calKind r.kind = k at hr hseq ⊢
  generalize s.addr40 Reg.CAL_WORK_ADDR_LO = a
  generalize bankImage k b = img
  have hmem : s.LoadBeside (s.writeMem none a img).1 := (s.writeMem_off none a img).widen (by decide)
  generalize (s.writeMem none a img).1 = u at hmem ⊢
  have hput : ∀ (w : State) (x v : Nat), x ∈ [k.loadAddr, k.loadAddr + 4, k.loadLen, k.arm] → w.Beside (w.calPut x v) := fun w x v hx => by
    simp only [List.mem_cons, List.not_mem_nil, or_false] at hx
    exact w.calPut_beside v (hseq x (by simp; tauto)) (hr x (by simp; tauto))
  have hcmd : ∀ (w : State) (v : Word), w.Beside ((w.seqInc k.cmd).tabCmd k .mgt v) := fun w v =>
    (w.seqInc_beside (hseq _ (by simp))).trans (State.tabCmd_beside _ k _ v)
  have hload : s.LoadBeside ((((((u.calPut k.loadAddr (a % 2 ^ 32)).calPut (k.loadAddr + 4) (a / 2 ^ 32)).calPut k.loadLen img.length).seqInc k.cmd).tabCmd k .mgt 1)) :=
    hmem.trans (State.Beside.load ((((hput _ _ _ (by simp)).trans (hput _ _ _ (by simp))).trans (hput _ _ _ (by simp))).trans (hcmd _ 1)))
  generalize ((((((u.calPut k.loadAddr (a % 2 ^ 32)).calPut (k.loadAddr + 4) (a / 2 ^ 32)).calPut k.loadLen img.length).seqInc k.cmd).tabCmd k .mgt 1)) = w at hload ⊢
  have harm : w.Beside (if w.rb k.status 16 = true then w else ((w.calPut k.arm 0).seqInc k.cmd).tabCmd k .mgt 2) :=
    State.Beside.ite (.refl w) ((hput _ _ _ (by simp)).trans (hcmd _ 2))
  exact (hload.trans harm.load).trans ((State.setCalRun_cal _ _).widen (by decide))

/-- At most one of the triggers goes off: the temperature of a registration, that of a photometry, or its period. -/
theorem State.triggers_cases (s : State) (m₁ m₂ all : Nat) (timed : Bool) :
    (if m₁ ≠ 0 then s.calTrigger 1 m₁ else if m₂ ≠ 0 then s.calTrigger 2 m₂ else if timed = true then s.calTrigger 2 all else s) = s ∨
    ∃ kind mask, (if m₁ ≠ 0 then s.calTrigger 1 m₁ else if m₂ ≠ 0 then s.calTrigger 2 m₂ else if timed = true then s.calTrigger 2 all else s) = s.calTrigger kind mask := by
  split
  · exact .inr ⟨_, _, rfl⟩
  · split
    · exact .inr ⟨_, _, rfl⟩
    · split
      · exact .inr ⟨_, _, rfl⟩
      · exact .inl rfl

/-- Calibration's part of a latch point once the run's regions have been looked at: a load tried again, or a trigger. -/
theorem State.calLatch_cases (s : State) : s.calLatch = s.calWatch ∨ (∃ r b, s.calWatch.cal.run = some r ∧ s.calLatch = s.calWatch.calApply r b) ∨
    ∃ kind mask, s.calLatch = s.calWatch.calTrigger kind mask := by
  unfold State.calLatch
  generalize s.calWatch = u
  dsimp only
  split
  · next r hr =>
    split
    · split
      · next b _ => exact .inr (.inl ⟨r, b, hr, rfl⟩)
      · exact .inl rfl
    · exact .inl rfl
  · split
    · exact .inl rfl
    · obtain h | h := u.triggers_cases _ _ _ _
      · exact .inl h
      · exact .inr (.inr h)

theorem State.calLatch_load (s : State) : s.LoadBeside s.calLatch := by
  have hwatch : s.LoadBeside s.calWatch := s.calWatch_cal.widen (by decide)
  obtain h | ⟨r, b, -, h⟩ | ⟨kind, mask, h⟩ := s.calLatch_cases
  · exact h ▸ hwatch
  · exact h ▸ hwatch.trans (State.calApply_load _ r b)
  · exact h ▸ hwatch.trans ((State.calTrigger_cal _ kind mask).widen (by decide))

/-- Where no calibration runs, a latch point starts one at most: memory stays. -/
theorem State.calLatch_quiet {s : State} (hrun : s.cal.run = none) : s.CalBeside s.calLatch := by
  have hsame := State.calWatch_none hrun
  obtain h | ⟨r, b, hr, h⟩ | ⟨kind, mask, h⟩ := s.calLatch_cases
  · exact h ▸ hsame.symm ▸ .refl s
  · rw [hsame, hrun] at hr
    exact absurd hr (by simp)
  · rw [h, hsame]
    exact s.calTrigger_cal kind mask

end Sys2Proof.Machine

/-! ## The latch point (R113, R117, R118, R122, R130, R133) -/
namespace Sys2Proof.Machine

/-! ### What a flip depends on (R81, R119, R122) -/

/-- The registers of the fences, the layers and their waiting bits read alike in both states. -/
def State.SlatesAlike (s t : State) : Prop := ∀ a, a % 0x1000 ≠ 0x1C → 0x20006C ≤ a ∧ a < 0x500000 → t.rd a = s.rd a

theorem State.SlatesAlike.shadow {s t : State} (h : s.SlatesAlike t) {n i : Nat} (hn : n < 40) (hi : i < 12) : t.shadow n i = s.shadow n i :=
  congrArg BitVec.toNat (h _ (by simp only [lyrPage, Reg.page]; omega) (by simp only [lyrPage, Reg.page]; omega))

theorem State.SlatesAlike.active {s t : State} (h : s.SlatesAlike t) {n i : Nat} (hn : n < 40) (hi : i < 12) : t.active n i = s.active n i :=
  congrArg BitVec.toNat (h _ (by simp only [lyrPage, Reg.page]; omega) (by simp only [lyrPage, Reg.page]; omega))

theorem State.SlatesAlike.enabled {s t : State} (h : s.SlatesAlike t) {n : Nat} (hn : n < 40) : t.lyrEnabled n = s.lyrEnabled n :=
  congrArg (fun w => bit w 0) (h _ (by simp only [Reg.PAGE_CTRL, lyrPage, Reg.page]; omega) (by simp only [Reg.PAGE_CTRL, lyrPage, Reg.page]; omega))

theorem State.SlatesAlike.test {s t : State} (h : s.SlatesAlike t) {n : Nat} (hn : n < 40) : t.lyrTest n = s.lyrTest n :=
  congrArg (fun w => fld w 2 0 == stTest)
    (h _ (by simp only [Reg.PAGE_STATUS, lyrPage, Reg.page]; omega) (by simp only [Reg.PAGE_STATUS, lyrPage, Reg.page]; omega))

theorem State.SlatesAlike.owner {s t : State} (h : s.SlatesAlike t) {n : Nat} (hn : n ≤ 40) :
    t.rf (Reg.PAGE_OWNER (lyrPage n)) 5 0 = s.rf (Reg.PAGE_OWNER (lyrPage n)) 5 0 :=
  congrArg (fun w => fld w 5 0) (h _ (by simp only [Reg.PAGE_OWNER, lyrPage, Reg.page]; omega) (by simp only [Reg.PAGE_OWNER, lyrPage, Reg.page]; omega))

theorem State.SlatesAlike.quota {s t : State} (h : s.SlatesAlike t) (p : Nat) : t.scalerQuota p = s.scalerQuota p := by
  have hfld : ∀ hi lo, t.rf Reg.LYR_SCALER_QUOTA hi lo = s.rf Reg.LYR_SCALER_QUOTA hi lo := fun hi lo => congrArg (fun w => fld w hi lo) (h _ (by decide) (by decide))
  simp only [State.scalerQuota, hfld]

/-- The checks of a Slate read the layers alone. -/
theorem State.SlatesAlike.check {s t : State} (h : s.SlatesAlike t) {n : Nat} (hn : n < 40) : t.slateCheck n = s.slateCheck n := by
  have hscaled : ((List.range 39).filter fun m => m ≠ n && t.lyrEnabled m && scaleEn (t.active m slScale) && ownerHost (t.active m slFormat) == ownerHost (s.shadow n slFormat)) =
      (List.range 39).filter fun m => m ≠ n && s.lyrEnabled m && scaleEn (s.active m slScale) && ownerHost (s.active m slFormat) == ownerHost (s.shadow n slFormat) :=
    List.filter_congr fun m hm => by
      have hlt : m < 40 := Nat.lt_succ_of_lt (List.mem_range.mp hm)
      rw [h.enabled hlt, h.active hlt (by decide), h.active hlt (by decide)]
  unfold State.slateCheck
  dsimp only
  rw [h.shadow hn (i := slFormat) (by decide), h.shadow hn (i := slScale) (by decide), h.owner (Nat.le_of_lt hn), h.owner hn, h.quota, hscaled]

theorem State.SlatesAlike.fence {s t : State} (h : s.SlatesAlike t) {n : Nat} (hn : n < 40) : t.fenceReady n = s.fenceReady n := by
  have hval : ∀ i < 256, t.fenceVal i = s.fenceVal i := fun i hi =>
    congrArg BitVec.toNat (h _ (by simp only [Reg.FENCE_VAL]; omega) (by simp only [Reg.FENCE_VAL]; omega))
  unfold State.fenceReady
  dsimp only
  rw [h.shadow hn (i := slFence) (by decide), h.shadow hn (i := slTarget) (by decide), hval _ (Nat.mod_lt _ (by decide))]

theorem State.SlatesAlike.waiting {s t : State} (h : s.SlatesAlike t) : t.waiting 0 = s.waiting 0 := congrArg (fun w => bit w 0) (h _ (by decide) (by decide))

/-- Layer 0 is due to flip (R122): enabled, waiting, its fence reached, its Slate good, and no Take is armed. -/
structure State.FlipDue (s : State) : Prop where
  noTake : ∀ q < 6, s.rd (Reg.TAKE_ARM q) = 0
  enabled : s.lyrEnabled 0 = true
  noTest : s.lyrTest 0 = false
  shown : 0 ∉ s.lyr.hide
  waiting : s.waiting 0 = true
  fence : s.fenceReady 0 = true
  check : s.slateCheck 0 = 0

theorem State.FlipDue.alike {s t : State} (h : s.FlipDue) (ha : s.SlatesAlike t) (hl : t.lyr = s.lyr) : t.FlipDue where
  noTake q hq := (ha _ (by simp only [Reg.TAKE_ARM]; omega) (by simp only [Reg.TAKE_ARM]; omega)).trans (h.noTake q hq)
  enabled := (ha.enabled (by decide)).trans h.enabled
  noTest := (ha.test (by decide)).trans h.noTest
  shown := hl.symm ▸ h.shown
  waiting := ha.waiting.trans h.waiting
  fence := (ha.fence (by decide)).trans h.fence
  check := (ha.check (by decide)).trans h.check

/-- Layer 0 has flipped from `s` to `t`: its shadow is active, it waits no more, one flip more is counted. -/
structure State.Flipped (s t : State) : Prop where
  active : ∀ i < 12, t.active 0 i = s.shadow 0 i
  waiting : t.waiting 0 = false
  count : t.rd (Reg.LYR_FLIP_CNT 0) = s.rd (Reg.LYR_FLIP_CNT 0) + 1

theorem State.takeApplies_none {s : State} (h : ∀ q < 6, s.rd (Reg.TAKE_ARM q) = 0) (frame pg g : Nat) : s.takeApplies frame pg g = false := by
  refine List.any_eq_false.mpr fun q hq => ?_
  have harm : s.rb (Reg.TAKE_ARM q) g = false := by
    rw [State.rb, h q (List.mem_range.mp hq)]
    simp [bit]
  simp [harm]

/-! ### Steps 2 to 6 (R118) -/

/-- Registers that steps 2 to 6 may write. -/
def stepReg (a : Nat) : Bool := flipReg a || offLatch a

theorem State.FrontKept.of_beside {s t : State} (h : s.Beside t) : s.FrontKept t where
  active i hi := congrArg BitVec.toNat (h.rd (offLatch_eq_false (by
    simp only [latchReg, lyrPage, Reg.page, Bool.or_eq_true, Bool.and_eq_true, decide_eq_true_eq]
    omega)))
  waiting := congrArg (fun w => bit w 0) (h.rd (offLatch_eq_false (by decide)))
  count := h.rd (offLatch_eq_false (by decide))

theorem State.latchSteps_spec (s : State) (frame : Nat) : Within latchFields stepReg s (s.latchSteps frame).1 ∧ (s.latchSteps frame).2.Notices ∧
    (s.FlipDue → s.Flipped (s.latchSteps frame).1) := by
  refine s.latchSteps_cases (P := fun r => Within latchFields stepReg s r.1 ∧ r.2.Notices ∧ (s.FlipDue → s.Flipped r.1)) frame
    fun s₁ ev₁ taken s₂ ev₂ t ev htakes hflips hsettles => ?_
  have hcopied : s.Copies LatchEv.none s₂ ev₂ := by
    have htaken := s.lyrTakes_copies (s.takeApplies frame) LatchEv.none
    have hflipped := s₁.lyrFlips_copies ev₁ taken
    rw [htakes] at htaken
    rw [hflips] at hflipped
    exact htaken.trans hflipped
  refine ⟨?_, hsettles.notices (hcopied.notices (by simp [LatchEv.Notices, LatchEv.none])), fun hdue => ?_⟩
  · exact (hcopied.within.mono (by decide) fun a ha => by simp [stepReg, ha]).trans (hsettles.beside.regs_mono fun a ha => by simp [stepReg, ha])
  · rw [s.lyrTakes_none (State.takeApplies_none hdue.noTake frame)] at htakes
    obtain ⟨rfl, h⟩ := Prod.mk.inj htakes
    obtain ⟨-, rfl⟩ := Prod.mk.inj h
    obtain ⟨hactive, hwaiting, hcount⟩ := State.lyrFlips_front ev₁ hdue.enabled hdue.noTest hdue.shown hdue.waiting hdue.fence hdue.check
    rw [hflips] at hactive hwaiting hcount
    have hfront := State.FrontKept.of_beside hsettles.beside
    exact ⟨fun i hi => (hfront.active i hi).trans (hactive i hi), hfront.waiting.trans hwaiting, hfront.count.trans hcount⟩

/-! ### The frame shown and raised, and what follows (R91, R118, R126, R130, R381) -/

/-- Cues leave the frames' numbers and epochs alone. -/
theorem State.rowCues_frame {s : State} {num epoch : Nat} (hex : ∃ f ∈ s.syn.frames, f.num = num ∧ f.epoch = epoch) (hall : ∀ f ∈ s.syn.frames, f.num = num → f.epoch = epoch) :
    ∃ f ∈ s.rowCues.syn.frames, f.num = num ∧ f.epoch = epoch := by
  refine (State.rowCues_induction (P := fun u : State => (∃ f ∈ u.syn.frames, f.num = num ∧ f.epoch = epoch) ∧ ∀ f ∈ u.syn.frames, f.num = num → f.epoch = epoch)
    ⟨hex, hall⟩ fun u f c _ hf hu => ?_).1
  obtain ⟨⟨g, hg, hnum, hepoch⟩, hall⟩ := hu
  unfold State.cueRowFire
  split
  · rw [(State.cueFire_within _ c _ _).syn (by decide)]
    refine ⟨?_, fun x hx hxn => ?_⟩
    · by_cases hsame : g.num = f.num
      · exact ⟨{ f with cues := c :: f.cues }, List.mem_map.mpr ⟨g, hg, if_pos hsame⟩, hsame.symm.trans hnum, hall f hf (hsame.symm.trans hnum)⟩
      · exact ⟨g, List.mem_map.mpr ⟨g, hg, if_neg hsame⟩, hnum, hepoch⟩
    · obtain rfl | ⟨hx, -⟩ := State.mem_setFrame hx
      · exact hall f hf hxn
      · exact hall x hx hxn
  · exact ⟨⟨g, hg, hnum, hepoch⟩, hall⟩

/-- The end of a latch point: the frame is shown, its synthesis begins, the events are raised, calibration has its turn, cues fire. -/
def State.latchShown (s : State) (e : Epoch) (ev : LatchEv) (on : Bool) : State :=
  (((s.showEpoch e).synLatch e.count e.time on).latchRaise ev).calLatch.rowCues

/-- The registers that show the latched frame. -/
def shownRegs : List Nat := [Reg.CMT_FRAME_LO, Reg.CMT_FRAME_HI, Reg.CMT_EPOCH_SEC_LO, Reg.CMT_EPOCH_SEC_HI, Reg.CMT_EPOCH_NSEC]

/-- What the end of a latch point shows, and what it leaves alone. -/
structure State.Shown (s : State) (e : Epoch) (t : State) : Prop where
  rd : ∀ a, latchReg a = true → a ∉ shownRegs → t.rd a = s.rd a
  frameLo : t.rn Reg.CMT_FRAME_LO = e.count % 2 ^ 32
  frameHi : t.rf Reg.CMT_FRAME_HI 15 0 = e.count / 2 ^ 32 % 2 ^ 16
  nsec : t.rf Reg.CMT_EPOCH_NSEC 29 0 = e.time / nsUnit % 1000000000
  cmt : ∃ n, t.cmt = { s.cmt with cueCount := n }
  frame : (∀ f ∈ s.syn.frames, f.num ≠ e.count) → ∃ f ∈ t.syn.frames, f.num = e.count ∧ f.epoch = e.time
  mem : s.cal.run = none → t.mem = s.mem

theorem State.latchShown_spec (s : State) (e : Epoch) {ev : LatchEv} (on : Bool) (hev : ev.Notices) : s.Shown e (s.latchShown e ev on) := by
  obtain ⟨hshow, hlo, hhi, hnsec⟩ := s.showEpoch_spec e
  unfold State.latchShown
  generalize s.showEpoch e = u at hshow hlo hhi hnsec ⊢
  obtain ⟨hsyn, f, hnum, hepoch, hframes⟩ := u.synLatch_spec e.count e.time on
  generalize u.synLatch e.count e.time on = v at hsyn hframes ⊢
  have hraise := v.latchRaise_beside hev
  generalize v.latchRaise ev = w at hraise ⊢
  have hload := w.calLatch_load
  have hquiet := State.calLatch_quiet (s := w)
  generalize w.calLatch = x at hload hquiet ⊢
  have hcues := x.rowCues_kept
  have hkept : Within (.mem :: .dmc :: .cal :: .plk :: .syn :: .cmt :: .blk :: latchFields) offLatch u x.rowCues :=
    (((hsyn.widen (by decide)).trans (hraise.widen (by decide))).trans (hload.widen (by decide))).trans (hcues.within.widen (by decide))
  have hrd : ∀ a, latchReg a = true → x.rowCues.rd a = u.rd a := fun a ha => hkept.rd (offLatch_eq_false ha)
  have hxsyn : x.syn.frames = s.syn.frames ++ [f] := by rw [hload.syn (by decide), hraise.syn (by decide), hframes, hshow.syn (by decide)]
  have hxcmt : x.cmt = s.cmt := by rw [hload.cmt (by decide), hraise.cmt (by decide), hsyn.cmt (by decide), hshow.cmt (by decide)]
  refine ⟨fun a ha hne => ?_, ?_, ?_, ?_, ?_, fun hnew => ?_, fun hrun => ?_⟩
  · rw [hrd a ha]
    exact hshow.rd (among_eq_false fun y hy h => hne (h ▸ hy))
  · rw [State.rn, hrd _ (by decide)]
    exact hlo
  · rw [State.rf, hrd _ (by decide)]
    exact hhi
  · rw [State.rf, hrd _ (by decide)]
    exact hnsec
  · rw [← hxcmt]
    exact hcues.cmt
  · refine State.rowCues_frame ⟨f, by simp [hxsyn], hnum, hepoch⟩ fun g hg hgn => ?_
    rw [hxsyn, List.mem_append, List.mem_singleton] at hg
    obtain hg | rfl := hg
    · exact absurd hgn (hnew g hg)
    · exact hepoch
  · have hwrun : w.cal.run = none := by
      rw [(hraise.1 .cal).resolve_left (by decide), (hsyn.1 .cal).resolve_left (by decide), (hshow.1 .cal).resolve_left (by decide), hrun]
    rw [hcues.within.mem (by decide), (hquiet hwrun).mem (by decide), hraise.mem (by decide), hsyn.mem (by decide), hshow.mem (by decide)]

/-! ### The whole latch point -/

/-- A latch point from its time on, with its steps as a variable, so that the folds over the layers are not evaluated. -/
theorem latchBody_cases {P : State → Prop} (s : State) (e : Epoch) (steps : State → Nat → State × LatchEv)
    (h : ∀ t ev on, steps (s.latchNext e) e.count = (t, ev) → P (t.latchShown e ev on)) :
    P (let s := ({ s with cmt := { s.cmt with next := none, latched := some e } }).cmtRun.cueLatch
      let (s, ev) := steps s e.count
      let s := (s.showEpoch e).synLatch e.count e.time (s.enabled synPage && s.pgState synPage != stTest)
      (s.latchRaise ev).calLatch.rowCues) := by
  extract_lets c v
  have hbegun : s.latchNext e = v := rfl
  rw [hbegun] at h
  clear_value v
  split
  next t ev hsteps => exact h t ev _ hsteps

/-- The whole body of a latch point, with its steps as a variable. -/
theorem latchTimed_cases {P : State → Prop} (s : State) (e : Epoch) (steps : State → Nat → State × LatchEv)
    (h : ∀ t ev on, steps (s.latchBegun e) e.count = (t, ev) → P (t.latchShown e ev on)) :
    P (let s := s.reachTime (e.time - s.cmt.lead * 1000 * nsUnit)
      let s := ({ s with cmt := { s.cmt with next := none, latched := some e } }).cmtRun.cueLatch
      let (s, ev) := steps s e.count
      let s := (s.showEpoch e).synLatch e.count e.time (s.enabled synPage && s.pgState synPage != stTest)
      (s.latchRaise ev).calLatch.rowCues) := by
  unfold State.latchBegun at h
  generalize s.reachTime (e.time - s.cmt.lead * 1000 * nsUnit) = u at h ⊢
  exact latchBody_cases u e steps h

/-- A latch point begins, takes its steps, and ends with the frame shown. -/
theorem State.latchPoint_cases {P : State → Prop} {s : State} {e : Epoch} (hnext : s.cmt.next = some e) (hlatched : s.cmt.latched = none)
    (h : ∀ t ev on, (s.latchBegun e).latchSteps e.count = (t, ev) → P (t.latchShown e ev on)) : P s.latchPoint := by
  unfold State.latchPoint
  split
  next e' he _ =>
    obtain rfl : e = e' := Option.some.inj (hnext.symm.trans he)
    exact latchTimed_cases s e State.latchSteps h
  next hnone => exact absurd hlatched (hnone e hnext)

/-- What a latch point of the epoch `e` leaves (R113, R117, R122, R130, R133). -/
structure State.Latches (s : State) (e : Epoch) (t : State) : Prop where
  cmt : ∃ n, t.cmt = { s.cmt with next := none, latched := some e, cues := s.cueSettings, cueCount := n }
  frameLo : t.rn Reg.CMT_FRAME_LO = e.count % 2 ^ 32
  frameHi : t.rf Reg.CMT_FRAME_HI 15 0 = e.count / 2 ^ 32 % 2 ^ 16
  nsec : t.rf Reg.CMT_EPOCH_NSEC 29 0 = e.time / nsUnit % 1000000000
  runs : s.pgState cmtPage = 1 → t.pgState cmtPage = 2
  aligned : s.tstate = 1 → t.tstate = 2
  frame : (∀ f ∈ s.syn.frames, f.num ≠ e.count) → ∃ f ∈ t.syn.frames, f.num = e.count ∧ f.epoch = e.time
  mem : s.cal.run = none → t.mem = s.mem
  flip : s.FlipDue → s.Flipped t

theorem State.Flipped.shown {s r t : State} {e : Epoch} (h : s.Flipped r) (k : r.Shown e t) : s.Flipped t where
  active i hi := by
    refine (congrArg BitVec.toNat (k.rd _ ?_ ?_)).trans (h.active i hi)
    · simp only [latchReg, lyrPage, Reg.page, Bool.or_eq_true, Bool.and_eq_true, decide_eq_true_eq]
      omega
    · simp only [shownRegs, List.mem_cons, List.not_mem_nil, or_false, lyrPage, Reg.page, Reg.CMT_FRAME_LO, Reg.CMT_FRAME_HI, Reg.CMT_EPOCH_SEC_LO,
        Reg.CMT_EPOCH_SEC_HI, Reg.CMT_EPOCH_NSEC]
      omega
  waiting := (congrArg (fun w => bit w 0) (k.rd _ (by decide) (by decide))).trans h.waiting
  count := (k.rd _ (by decide) (by decide)).trans h.count

theorem State.Flipped.alike {s b t : State} (h : b.Flipped t) (ha : s.SlatesAlike b) : s.Flipped t :=
  ⟨fun i hi => (h.active i hi).trans (ha.shadow (by decide) hi), h.waiting, h.count.trans (congrArg (· + 1) (ha _ (by decide) (by decide)))⟩

theorem State.latchPoint_latches {s : State} {e : Epoch} (hnext : s.cmt.next = some e) (hlatched : s.cmt.latched = none) : s.Latches e s.latchPoint := by
  refine State.latchPoint_cases (P := fun t => s.Latches e t) hnext hlatched fun r ev on heq => ?_
  have hbegun := s.latchBegun_spec e
  obtain ⟨hsteps, hev, hflip⟩ := (s.latchBegun e).latchSteps_spec e.count
  rw [heq] at hsteps hev hflip
  generalize s.latchBegun e = b at hbegun hsteps hflip
  have hshown := r.latchShown_spec e on hev
  generalize r.latchShown e ev on = t at hshown ⊢
  dsimp only at hsteps hflip
  have hreg : ∀ a, latchReg a = true → a ∉ shownRegs → stepReg a = false → t.rd a = b.rd a := fun a ha hne hstep => (hshown.rd a ha hne).trans (hsteps.rd hstep)
  have hsyn : r.syn = s.syn := (hsteps.syn (by decide)).trans (hbegun.within.syn (by decide))
  have hcal : r.cal = s.cal := ((hsteps.1 .cal).resolve_left (by decide)).trans ((hbegun.within.1 .cal).resolve_left (by decide))
  have halike : s.SlatesAlike b := fun a ho hr => hbegun.within.rd (begunReg_eq_false ho hr)
  refine ⟨?_, hshown.frameLo, hshown.frameHi, hshown.nsec, fun h => ?_, fun h => ?_, hsyn ▸ hshown.frame, fun hrun => ?_, fun hdue => ?_⟩
  · obtain ⟨n, hcmt⟩ := hshown.cmt
    exact ⟨n, by rw [hcmt, hsteps.cmt (by decide), hbegun.cmt]⟩
  · exact (congrArg (fun w => fld w 2 0) (hreg (Reg.PAGE_STATUS cmtPage) (by decide) (by decide) (by decide))).trans (hbegun.runs h)
  · exact (congrArg (fun w => fld w 2 0) (hreg Reg.CMT_STATUS (by decide) (by decide) (by decide))).trans (hbegun.aligned h)
  · exact (hshown.mem (hcal ▸ hrun)).trans ((hsteps.mem (by decide)).trans (hbegun.within.mem (by decide)))
  · exact ((hflip (hdue.alike halike ((hbegun.within.1 .lyr).resolve_left (by decide)))).shown hshown).alike halike

/-- Settles O28: CMT latches the frame, the copies flip layer 0, the rest of the latch point leaves both alone and shows the frame. -/
theorem latchPointLatches : Obligations.LatchPointLatches := by
  unfold Obligations.LatchPointLatches
  intro e s hnext hlatched hnew
  obtain ⟨⟨n, hcmt⟩, hlo, hhi, hnsec, hruns, haligned, hframe, hmem, hflip⟩ := State.latchPoint_latches hnext hlatched
  refine ends_of_done (t := s.latchPoint) rfl ?_
  generalize s.latchPoint = t at hcmt hlo hhi hnsec hruns haligned hframe hmem hflip ⊢
  refine ⟨congrArg Cmt.next hcmt, congrArg Cmt.latched hcmt, hlo, hhi, hnsec, hruns, haligned, congrArg Cmt.cues hcmt, hframe hnew, hmem,
    fun harm hon htest hhide hwait hfence hcheck => ?_⟩
  obtain ⟨hactive, hwaiting, hcount⟩ := hflip ⟨harm, hon, htest, hhide, hwait, hfence, hcheck⟩
  exact ⟨hactive, hwaiting, hcount⟩

end Sys2Proof.Machine

/-! # Panel link (spec/08_colnus_panel_link.md R156 to R180)

What the shared operations of the link change and leave alone: groups, lanes, roles, rows; then the statements. -/
namespace Sys2Proof.Machine

/-! ### Registers of the link that events and faults leave alone -/

/-- No fault and no event changes a register of the PLK block, but for EVT_PEND. -/
theorem fenceReg_plk {a : Nat} (hl : 0x700000 ≤ a) (hu : a < 0x800000) (ho : a % 0x1000 ≠ 0x1C) : fenceReg a = false := by
  have hf : faultReg a = false := faultReg_eq_false (evtReg_eq_false ho (by omega) (by simp only [Reg.SVC_BMC_EVT]; omega))
    (by simp only [Reg.FLT_LOG_WR]; omega) (by simp only [Reg.FLT_PEND]; omega)
  simp only [fenceReg, hf, Bool.false_or, Bool.or_eq_false_iff, Bool.and_eq_false_iff, decide_eq_false_iff_not, beq_eq_false_iff_ne, Reg.FLT_LASTING,
    Reg.SVC_PANEL_STATUS, Reg.PAGE_STATUS, panelPage, Reg.page]
  omega

theorem faultReg_of_fenceReg {a : Nat} (h : fenceReg a = false) : faultReg a = false := by
  simp only [fenceReg, Bool.or_eq_false_iff] at h
  obtain ⟨⟨⟨hf, -⟩, -⟩, -⟩ := h
  exact hf

theorem faultReg_plk {a : Nat} (hl : 0x700000 ≤ a) (hu : a < 0x800000) (ho : a % 0x1000 ≠ 0x1C) : faultReg a = false :=
  faultReg_of_fenceReg (fenceReg_plk hl hu ho)

theorem evtReg_plk {a : Nat} (hl : 0x700000 ≤ a) (hu : a < 0x800000) (ho : a % 0x1000 ≠ 0x1C) : evtReg a = false :=
  evtReg_of_faultReg (faultReg_plk hl hu ho)

theorem among_of_mem {l : List Nat} {a : Nat} (h : a ∈ l) : among l a = true := List.contains_iff_mem.mpr h

theorem mem_of_among {l : List Nat} {a : Nat} (h : among l a = true) : a ∈ l := List.contains_iff_mem.mp h

/-! ### Groups and lanes -/

section
variable {l : List Fld} {q : Nat → Bool} {s t : State}

theorem Within.plk (h : Within l q s t) (hl : Fld.plk ∉ l) : t.plk = s.plk := (h.1 .plk).resolve_left hl

theorem Within.sent (h : Within l q s t) (hl : Fld.sent ∉ l) : t.sent = s.sent := (h.1 .sent).resolve_left hl

theorem Within.geo (h : Within l q s t) (hl : Fld.geo ∉ l) : t.geo = s.geo := (h.1 .geo).resolve_left hl

theorem Within.flt (h : Within l q s t) (hl : Fld.flt ∉ l) : t.flt = s.flt := (h.1 .flt).resolve_left hl

theorem Within.grp (h : Within l q s t) (hl : Fld.plk ∉ l) (g : Nat) : t.grp g = s.grp g := by rw [State.grp, h.plk hl, State.grp]

theorem Within.lane (h : Within l q s t) (hl : Fld.plk ∉ l) (k : Nat) : t.lane k = s.lane k := by rw [State.lane, h.plk hl, State.lane]

theorem Within.queue (h : Within l q s t) (hl : Fld.syn ∉ l) (g : Nat) : t.queue g = s.queue g := by rw [State.queue, h.syn hl, State.queue]

/-- A step on one register, within a list of them. -/
theorem Within.one {a : Nat} {m : List Nat} (h : Within [.regs] (fun b => b == a) s t) (hl : Fld.regs ∈ l) (ha : a ∈ m) : Within l (among m) s t :=
  h.mono (by simpa using hl) fun b hb => by rw [beq_iff_eq.mp hb]; exact among_of_mem ha

end

theorem State.setGrp_plk (s : State) (g : Nat) (v : Grp) : (s.setGrp g v).plk = { s.plk with groups := upd s.plk.groups g v } :=
  (State.idleRun_silent _ _ _).plk (by decide)

theorem State.setGrp_within (s : State) (g : Nat) (v : Grp) : Within [.regs, .plk] (among [Reg.PAGE_STATUS (grpPage g)]) s (s.setGrp g v) := by
  have hplk : Within [.plk] (among [Reg.PAGE_STATUS (grpPage g)]) s { s with plk := { s.plk with groups := upd s.plk.groups g v } } :=
    .of_same (fun f => by cases f <;> first | (left; decide) | (right; rfl)) rfl
  exact (hplk.widen (by decide)).trans ((State.idleRun_silent _ _ _).one (by decide) List.mem_cons_self)

theorem State.grp_setGrp_same {s : State} {g : Nat} (h : g < s.plk.groups.length) (v : Grp) : (s.setGrp g v).grp g = v := by
  simp [State.grp, State.setGrp_plk, nth, upd, h]

theorem State.grp_setGrp_other (s : State) {g m : Nat} (h : g ≠ m) (v : Grp) : (s.setGrp g v).grp m = s.grp m := by
  simp [State.grp, State.setGrp_plk, nth, upd, List.getElem?_set_ne h]

@[simp] theorem State.setGrp_groups_length (s : State) (g : Nat) (v : Grp) : (s.setGrp g v).plk.groups.length = s.plk.groups.length := by
  simp [State.setGrp_plk, upd]

@[simp] theorem State.lane_setGrp (s : State) (g : Nat) (v : Grp) (l : Nat) : (s.setGrp g v).lane l = s.lane l := by
  simp [State.lane, State.setGrp_plk]

/-- A group set keeps whether its page is in TEST: IDLE and RUN alone follow the frame. -/
theorem State.setGrp_test (s : State) (g : Nat) (v : Grp) : (s.setGrp g v).pgState (grpPage g) = stTest ↔ s.pgState (grpPage g) = stTest := by
  unfold State.setGrp
  generalize hu : ({ s with plk := { s.plk with groups := upd s.plk.groups g v } } : State) = u
  have hst : u.pgState (grpPage g) = s.pgState (grpPage g) := by rw [← hu]; rfl
  rw [← hst, State.idleRun]
  split
  · next h => rw [(u.toState_silent _ (by decide)).1, h.1]; decide
  · split
    · next h => rw [(u.toState_silent _ (by decide)).1, h.1]; decide
    · rfl

theorem State.setLane_within (s : State) (l : Nat) (v : Lane) {q : Nat → Bool} : Within [.plk] q s (s.setLane l v) :=
  .of_same (fun f => by cases f <;> first | (left; decide) | (right; rfl)) rfl

theorem State.lane_setLane_other (s : State) {l m : Nat} (h : l ≠ m) (v : Lane) : (s.setLane l v).lane m = s.lane m := by
  simp [State.lane, State.setLane, nth, upd, List.getElem?_set_ne h]

@[simp] theorem State.grp_setLane (s : State) (l : Nat) (v : Lane) (g : Nat) : (s.setLane l v).grp g = s.grp g := rfl

@[simp] theorem State.setLane_lanes_length (s : State) (l : Nat) (v : Lane) : (s.setLane l v).plk.lanes.length = s.plk.lanes.length := by
  simp [State.setLane, upd]

/-! Groups and lanes through the elementary writes. -/

@[simp] theorem State.grp_wr (s : State) (a : Nat) (v : Word) (g : Nat) : (s.wr a v).grp g = s.grp g := rfl
@[simp] theorem State.grp_wf (s : State) (a hi lo v g : Nat) : (s.wf a hi lo v).grp g = s.grp g := rfl
@[simp] theorem State.grp_wb (s : State) (a i : Nat) (b : Bool) (g : Nat) : (s.wb a i b).grp g = s.grp g := rfl
@[simp] theorem State.grp_cntSat (s : State) (a n k g : Nat) : (s.cntSat a n k).grp g = s.grp g := rfl
@[simp] theorem State.grp_cntWrap (s : State) (a g : Nat) : (s.cntWrap a).grp g = s.grp g := rfl
@[simp] theorem State.grp_endCycle (s : State) (g : Nat) : s.endCycle.grp g = s.grp g := rfl
@[simp] theorem State.grp_setQueue (s : State) (m : Nat) (q : List QItem) (g : Nat) : (s.setQueue m q).grp g = s.grp g := rfl
@[simp] theorem State.queue_endCycle (s : State) (g : Nat) : s.endCycle.queue g = s.queue g := rfl
@[simp] theorem State.lane_endCycle (s : State) (l : Nat) : s.endCycle.lane l = s.lane l := rfl

theorem State.setQueue_within (s : State) (g : Nat) (v : List QItem) {q : Nat → Bool} : Within [.syn] q s (s.setQueue g v) :=
  .of_same (fun f => by cases f <;> first | (left; decide) | (right; rfl)) rfl

theorem State.queue_setQueue_same {s : State} {g : Nat} (h : g < s.syn.queues.length) (v : List QItem) : (s.setQueue g v).queue g = v := by
  simp [State.queue, State.setQueue, nth, upd, h]

theorem State.queue_setQueue_other (s : State) {g m : Nat} (h : g ≠ m) (v : List QItem) : (s.setQueue g v).queue m = s.queue m := by
  simp [State.queue, State.setQueue, nth, upd, List.getElem?_set_ne h]

end Sys2Proof.Machine

/-! ## The back channel (R157, R165 to R167, R178) -/
namespace Sys2Proof.Machine

theorem faultReg_bcStatus {g : Nat} (hg : g < 6) : faultReg (Reg.PLK_GRP_BC_STATUS g) = false := by
  apply faultReg_plk <;> simp only [Reg.PLK_GRP_BC_STATUS] <;> omega

theorem evtReg_bcStatus {g : Nat} (hg : g < 6) : evtReg (Reg.PLK_GRP_BC_STATUS g) = false := evtReg_of_faultReg (faultReg_bcStatus hg)

theorem bit_wd (n : Nat) {i : Nat} (hi : i < 32) : bit (wd n) i = n.testBit i := by
  rw [bit, BitVec.getLsbD_ofNat, decide_eq_true hi, Bool.true_and]

/-! ### A valid message (R166) -/

/-- The state after a valid message of group `g` has come, before it gives its value: the channel is up. -/
def State.heard (s : State) (g : Nat) : State := (s.setGrp g { s.grp g with msg := true }).wb (Reg.PLK_GRP_BC_STATUS g) 31 true

theorem State.bcMessage_locked {s : State} {g : Nat} (h : (s.grp g).lock = true) (f : State → State) : s.bcMessage g f = f (s.heard g) := if_pos h

theorem State.bcMessage_unlocked {s : State} {g : Nat} (h : (s.grp g).lock = false) (f : State → State) : s.bcMessage g f = s :=
  if_neg (by simp [h])

/-- The registers of a group that every message may write. -/
abbrev heardRegs (g : Nat) : List Nat := [Reg.PLK_GRP_BC_STATUS g, Reg.PAGE_STATUS (grpPage g)]

theorem State.heard_within (s : State) (g : Nat) : Within [.regs, .plk] (among (heardRegs g)) s (s.heard g) :=
  ((s.setGrp_within g _).mono (fun _ h => h) fun _ => among_mono (by simp)).trans ((State.wb_within _ _ _ _).one (by decide) (by simp))

theorem State.heard_up (s : State) (g : Nat) : (s.heard g).rb (Reg.PLK_GRP_BC_STATUS g) 31 = true :=
  (State.rb_wb_same _ _ (by decide) _ _).trans (if_pos rfl)

theorem State.grp_heard {s : State} {g : Nat} (h : g < s.plk.groups.length) : (s.heard g).grp g = { s.grp g with msg := true } :=
  (State.wb_within _ _ _ _ |>.grp (by decide) g).trans (State.grp_setGrp_same h _)

@[simp] theorem State.heard_groups_length (s : State) (g : Nat) : (s.heard g).plk.groups.length = s.plk.groups.length :=
  (congrArg (fun x => x.groups.length) ((State.wb_within _ _ _ _).plk (by decide))).trans (s.setGrp_groups_length g _)

/-- The other fields of BC_STATUS stand. -/
theorem State.heard_status (s : State) {g hi lo : Nat} (hl : lo ≤ hi) (hh : hi < 31) :
    (s.heard g).rf (Reg.PLK_GRP_BC_STATUS g) hi lo = s.rf (Reg.PLK_GRP_BC_STATUS g) hi lo := by
  rw [State.heard, State.rf_wb_other _ _ (by decide) hl (by omega)]
  exact (s.setGrp_within g _).rf (among_eq_false (by simp only [List.mem_singleton, forall_eq, grpPage, Reg.page, Reg.PAGE_STATUS, Reg.PLK_GRP_BC_STATUS]; omega)) hi lo

/-- The frame of a message's value on top of the message. -/
theorem State.heard_then {s t : State} {g : Nat} {l : List Fld} {m : List Nat} (h : Within l (among (heardRegs g ++ m)) (s.heard g) t)
    (hl : ∀ f ∈ [Fld.regs, Fld.hif, Fld.plk], f ∈ l) : Within l (among (heardRegs g ++ m)) s t.endCycle :=
  (((s.heard_within g).mono (fun f hf => hl f (by revert hf; revert f; decide)) fun _ => among_mono (List.subset_append_left _ _)).trans h).ended (hl _ (by decide))

/-! ### Messages with their values (R167) -/

section
variable {s : State} {g : Fin 6} (hs : s.Shape) (h : (s.grp g).lock = true)
include hs h

theorem ends_hello (id : Word) (v : Byte) : Ends (.hello g id v) s fun t => t.rb (Reg.PLK_GRP_BC_STATUS g) 31 = true ∧ (t.grp g).msg = true ∧
    Within [.regs, .hif, .plk] (among (heardRegs g)) s t :=
  ends_of_done (congrArg done (State.bcMessage_locked h _))
    ⟨s.heard_up g, congrArg Grp.msg (State.grp_heard (by rw [hs.groups]; exact g.isLt)), State.heard_then (m := []) (.refl _) fun _ hf => hf⟩

/-- A message whose value is kept beside the registers. -/
theorem ends_grpMessage {c : Instr} (f : Grp → Grp) (hc : exec c s = done (s.bcMessage g fun s => s.setGrp g (f (s.grp g)))) :
    Ends c s fun t => t.rb (Reg.PLK_GRP_BC_STATUS g) 31 = true ∧ t.grp g = f { s.grp g with msg := true } ∧
      Within [.regs, .hif, .plk] (among (heardRegs g)) s t := by
  have hg : g.val < s.plk.groups.length := by rw [hs.groups]; exact g.isLt
  have hw := (s.heard g).setGrp_within g (f ((s.heard g).grp g))
  refine ends_of_done (hc.trans (congrArg done (State.bcMessage_locked h _))) ⟨?_, ?_, State.heard_then (m := []) ?_ fun _ hf => hf⟩
  · refine (hw.rb (among_eq_false ?_) 31).trans (s.heard_up g)
    simp only [List.mem_singleton, forall_eq, grpPage, Reg.page, Reg.PAGE_STATUS, Reg.PLK_GRP_BC_STATUS]
    omega
  · exact (State.grp_setGrp_same (by simpa using hg) _).trans (by rw [State.grp_heard hg])
  · exact hw.mono (by decide) fun _ => among_mono (by simp)

omit hs in
theorem ends_mapAck (seq : Fin 16) (fr : Fin 65536) : Ends (.mapAck g seq fr) s fun t =>
    t.rb (Reg.PLK_GRP_STATUS g) 31 = (s.rb (Reg.PLK_GRP_STATUS g) 31 || s.rf (Reg.PLK_GRP_STATUS g) 27 24 == seq.val) ∧
    Within [.regs, .hif, .plk] (among [Reg.PLK_GRP_BC_STATUS g, Reg.PLK_GRP_STATUS g, Reg.PAGE_STATUS (grpPage g)]) s t := by
  have hreg : (s.heard g).rd (Reg.PLK_GRP_STATUS g) = s.rd (Reg.PLK_GRP_STATUS g) := (s.heard_within g).rd <| among_eq_false <| by
    simp only [List.forall_mem_cons, List.mem_singleton, forall_eq, grpPage, Reg.page, Reg.PAGE_STATUS, Reg.PLK_GRP_BC_STATUS, Reg.PLK_GRP_STATUS]
    omega
  have hrb : ∀ i, (s.heard g).rb (Reg.PLK_GRP_STATUS g) i = s.rb (Reg.PLK_GRP_STATUS g) i := fun i => congrArg (bit · i) hreg
  have hrf : (s.heard g).rf (Reg.PLK_GRP_STATUS g) 27 24 = s.rf (Reg.PLK_GRP_STATUS g) 27 24 := congrArg (fld · 27 24) hreg
  have hw : Within [.regs] (among [Reg.PLK_GRP_STATUS g]) (s.heard g) ((s.heard g).mapAck g seq) :=
    State.when_within _ ((State.wb_within _ _ _ _).one (by decide) (by simp))
  refine ends_of_done (congrArg done (State.bcMessage_locked h _)) ⟨?_, ?_⟩
  · change ((s.heard g).mapAck g seq).rb (Reg.PLK_GRP_STATUS g) 31 = _
    rw [State.mapAck, hrf, State.when]
    cases hm : s.rf (Reg.PLK_GRP_STATUS g) 27 24 == seq.val
    · simp [hrb]
    · rw [if_pos rfl, State.rb_wb_same _ _ (by decide), if_pos rfl, Bool.or_true]
  · have hall := State.heard_then (m := [Reg.PLK_GRP_STATUS g]) (l := [.regs, .hif, .plk]) (hw.mono (by decide) fun _ => among_mono (by simp)) fun _ hf => hf
    exact hall.regs_mono fun _ => among_mono (by simp)

omit hs in
/-- A message whose value is one register of the group. -/
theorem ends_wordMessage {c : Instr} {a n : Nat} (hc : exec c s = done (s.bcMessage g fun s => s.wn a n)) :
    Ends c s fun t => t.rd a = wd n ∧ Within [.regs, .hif, .plk] (among (heardRegs g ++ [a])) s t :=
  ends_of_done (hc.trans (congrArg done (State.bcMessage_locked h _))) ⟨State.rd_wr_same _ _ _,
    State.heard_then ((State.wn_within _ _ _).one (by decide) (by simp)) fun _ hf => hf⟩

omit hs in
theorem ends_frameReport (held : Bool) (runs : Fin 2097152) : Ends (.frameReport g held runs) s fun t =>
    t.rb (Reg.PLK_GRP_PANEL_RUNS g) 31 = held ∧ t.rf (Reg.PLK_GRP_PANEL_RUNS g) 20 0 = runs.val ∧
    Within [.regs, .hif, .plk] (among [Reg.PLK_GRP_BC_STATUS g, Reg.PLK_GRP_PANEL_RUNS g, Reg.PAGE_STATUS (grpPage g)]) s t := by
  obtain ⟨t, ht, hrd, hw⟩ := ends_wordMessage (c := .frameReport g held runs) h rfl
  have hlt := runs.isLt
  refine ⟨t, ht, ?_, ?_, hw.regs_mono fun _ => among_mono (by simp)⟩
  · rw [State.rb, hrd, bit_wd _ (by decide)]
    cases held <;> simp only [b2n, Nat.testBit_eq_decide_div_mod_eq, decide_eq_true_eq, decide_eq_false_iff_not, if_true, Bool.false_eq_true, if_false] <;> omega
  · rw [State.rf, hrd, fld_wd (by cases held <;> simp only [b2n, if_true, Bool.false_eq_true, if_false] <;> omega)]
    cases held <;> simp only [b2n, pow_zero, Nat.div_one, if_true, Bool.false_eq_true, if_false] <;> omega

theorem ends_temp (x : Fin 65536) : Ends (.temp g x) s fun t => t.rb (Reg.PLK_GRP_TEMP g) 31 = true ∧ t.rf (Reg.PLK_GRP_TEMP g) 15 0 = x.val ∧
    (s.rf (Reg.GEO_T_SRC g) 1 0 = 3 → (t.geoTile g).val = x.val ∧ (t.geoTile g).age = 0) ∧
    Within [.regs, .hif, .plk, .geo] (among [Reg.PLK_GRP_BC_STATUS g, Reg.PLK_GRP_TEMP g, Reg.PAGE_STATUS (grpPage g)]) s t := by
  obtain ⟨u, hu⟩ : ∃ u, u = (s.heard g).wn (Reg.PLK_GRP_TEMP g) (2 ^ 31 + x.val % 65536) := ⟨_, rfl⟩
  have hword : u.rd (Reg.PLK_GRP_TEMP g) = wd (2 ^ 31 + x.val % 65536) := by rw [hu]; exact State.rd_wr_same _ _ _
  have hu' : Within [.regs, .plk] (among (heardRegs g ++ [Reg.PLK_GRP_TEMP g])) s u := by
    rw [hu]
    exact ((s.heard_within g).regs_mono fun _ => among_mono (by simp)).trans ((State.wn_within _ _ _).one (by decide) (by simp))
  have hgeo : u.geo = s.geo := hu'.geo (by decide)
  have hsrc : u.rf (Reg.GEO_T_SRC g) 1 0 = s.rf (Reg.GEO_T_SRC g) 1 0 := hu'.rf (among_eq_false (by
    simp only [List.cons_append, List.nil_append, List.forall_mem_cons, List.mem_singleton, forall_eq, grpPage, Reg.page, Reg.PAGE_STATUS, Reg.PLK_GRP_BC_STATUS,
      Reg.PLK_GRP_TEMP, Reg.GEO_T_SRC]
    omega)) 1 0
  have hread : Within [.geo] (fun _ => false) u (u.geoNewReading g 3 x) := by
    rw [State.geoNewReading]
    exact Within.ite (.refl u) (u.setGeoTile_within _ _)
  have heq : exec (.temp g x) s = done (u.geoNewReading g 3 x) := by rw [hu]; exact congrArg done (State.bcMessage_locked h _)
  have hlt := x.isLt
  refine ends_of_done heq ⟨?_, ?_, fun hsel => ?_, ?_⟩
  · refine (hread.rb rfl 31).trans ?_
    rw [State.rb, hword, bit_wd _ (by decide), Nat.testBit_eq_decide_div_mod_eq, decide_eq_true_eq]
    omega
  · refine (hread.rf rfl 15 0).trans ?_
    rw [State.rf, hword, fld_wd (by omega)]
    simp
    omega
  · have htile : (u.geoNewReading g 3 x).geoTile g = { u.geoTile g with has := true, val := x.val % 65536, age := 0 } := by
      rw [State.geoNewReading, if_pos (hsrc.trans hsel)]
      exact State.geoTile_setGeoTile_same (by rw [hgeo, hs.tiles]; exact g.isLt) _
    exact ⟨(congrArg GeoTile.val htile).trans (Nat.mod_eq_of_lt hlt), congrArg GeoTile.age htile⟩
  · exact ((hu'.mono (by decide) fun _ => among_mono (by simp)).trans (hread.mono (by decide) (by simp))).ended (by decide)

/-- A message for the host's queue, where that has room. -/
theorem ends_queueMessage {c : Instr} {code a : Nat} (hc : exec c s = done (s.bcMessage g fun s => s.bcQueue g code a)) (hq : (s.grp g).queue.length < 32) :
    Ends c s fun t => (t.grp g).queue = (s.grp g).queue ++ [controlBlock 0x33 (code + a % 2 ^ 40 * 256)] ∧
      t.rf (Reg.PLK_GRP_BC_STATUS g) 5 0 = (s.grp g).queue.length + 1 ∧
      Within [.regs, .hif, .plk, .svc, .sent] (fun b => evtReg b || among (heardRegs g) b) s t := by
  have hg : g.val < (s.heard g).plk.groups.length := by simp [hs.groups]
  have hgrp : (s.heard g).grp g = { s.grp g with msg := true } := State.grp_heard (by simpa using hg)
  obtain ⟨u, hu⟩ : ∃ u, u = (s.heard g).setGrp g { (s.heard g).grp g with queue := (s.grp g).queue ++ [controlBlock 0x33 (code + a % 2 ^ 40 * 256)] } := ⟨_, rfl⟩
  have huw : Within [.regs, .plk] (among (heardRegs g)) (s.heard g) u := by
    rw [hu]
    exact ((s.heard g).setGrp_within g _).regs_mono fun _ => among_mono (by simp)
  have hev := (u.wf (Reg.PLK_GRP_BC_STATUS g) 5 0 ((s.grp g).queue.length + 1)).evt_within (741 + 8 * g)
  have heq : (s.heard g).bcQueue g code a = (u.wf (Reg.PLK_GRP_BC_STATUS g) 5 0 ((s.grp g).queue.length + 1)).evt (741 + 8 * g) := by
    rw [State.bcQueue, hgrp, if_pos hq, hu, hgrp]
  refine ends_of_done ((hc.trans (congrArg done (State.bcMessage_locked h _))).trans (congrArg done heq)) ⟨?_, ?_, ?_⟩
  · rw [State.grp_endCycle, hev.grp (by decide), State.grp_wf, hu, State.grp_setGrp_same hg]
  · refine (hev.rf (evtReg_bcStatus g.isLt) 5 0).trans ((State.rf_wf_same _ _ (by decide) (by decide) _).trans (Nat.mod_eq_of_lt ?_))
    omega
  · have hw := ((s.heard_within g).trans huw).trans ((u.wf_within (Reg.PLK_GRP_BC_STATUS g) 5 0 ((s.grp g).queue.length + 1)).one (by decide) (by simp))
    exact ((hw.mono (by decide) (by simp +contextual)).trans (hev.mono (by decide) (by simp +contextual))).ended (by decide)

/-- A message for the host's queue when that is full: it is counted as lost. -/
theorem ends_queueFull {c : Instr} {code a : Nat} (hc : exec c s = done (s.bcMessage g fun s => s.bcQueue g code a)) (hq : (s.grp g).queue.length = 32) :
    Ends c s fun t => (t.grp g).queue = (s.grp g).queue ∧
      t.rf (Reg.PLK_GRP_BC_STATUS g) 23 16 = min 255 (s.rf (Reg.PLK_GRP_BC_STATUS g) 23 16 + 1) ∧ Within [.regs, .hif, .plk] (among (heardRegs g)) s t := by
  have hgrp : (s.heard g).grp g = { s.grp g with msg := true } := State.grp_heard (by rw [hs.groups]; exact g.isLt)
  have hold : s.rf (Reg.PLK_GRP_BC_STATUS g) 23 16 < 2 ^ 8 := Nat.mod_lt _ (by decide)
  have heq : (s.heard g).bcQueue g code a = (s.heard g).wf (Reg.PLK_GRP_BC_STATUS g) 23 16 (satAdd 8 (s.rf (Reg.PLK_GRP_BC_STATUS g) 23 16) 1) := by
    rw [State.bcQueue, hgrp, if_neg (by dsimp only; omega), State.heard_status _ (by decide) (by decide)]
  refine ends_of_done ((hc.trans (congrArg done (State.bcMessage_locked h _))).trans (congrArg done heq)) ⟨?_, ?_, ?_⟩
  · rw [State.grp_endCycle, State.grp_wf, hgrp]
  · refine (State.rf_wf_same (s.heard g) (Reg.PLK_GRP_BC_STATUS g) (by decide) (by decide) _).trans ?_
    unfold satAdd
    split <;> omega
  · exact State.heard_then (m := []) ((State.wf_within _ _ _ _ _).one (by decide) (by simp)) fun _ hf => hf

end

/-! ### The channel lost and found (R166, R178) -/

/-- Source 245 + 2g with its cause. -/
theorem State.grpNotice_spec (s : State) {g cause : Nat} (hg : g < 6) (hc : cause < 8) : (s.grpNotice g cause).rf (Reg.PLK_GRP_STATUS g) 30 28 = cause ∧
    (s.grpNotice g cause).fltPending (245 + 2 * g) = true ∧
    (∀ hi lo, lo ≤ hi → hi < 28 → (s.grpNotice g cause).rf (Reg.PLK_GRP_STATUS g) hi lo = s.rf (Reg.PLK_GRP_STATUS g) hi lo) ∧
    Within noticeFields (fun a => faultReg a || a == Reg.PLK_GRP_STATUS g) s (s.grpNotice g cause) := by
  have hclass : baseClass (245 + 2 * g) = some 0 := (by decide : ∀ g < 6, baseClass (245 + 2 * g) = some 0) g hg
  have hnote := State.notice_within (s.wf (Reg.PLK_GRP_STATUS g) 30 28 cause) (245 + 2 * g) 0 0 [] hclass (by omega)
  have hreg : faultReg (Reg.PLK_GRP_STATUS g) = false := by
    apply faultReg_plk <;> simp only [Reg.PLK_GRP_STATUS] <;> omega
  refine ⟨(hnote.rf hreg 30 28).trans ((State.rf_wf_same _ _ (by decide) (by decide) _).trans (Nat.mod_eq_of_lt hc)), State.notice_pending _ 0 0 [] hclass,
    fun hi lo hl hh => (hnote.rf hreg hi lo).trans (State.rf_wf_other _ _ (by decide) (by decide) hl (by omega) _), ?_⟩
  exact ((s.wf_within _ _ _ _).mono (by decide) (by simp +contextual)).trans (hnote.regs_mono (by simp +contextual))

/-- The channel goes down: the bit clears, cause 3 is shown and 245 + 2g is raised. -/
theorem State.bcDown_spec {s : State} {g : Nat} (hg : g < 6) (hup : s.rb (Reg.PLK_GRP_BC_STATUS g) 31 = true) :
    (s.bcDown g).rb (Reg.PLK_GRP_BC_STATUS g) 31 = false ∧ (s.bcDown g).rf (Reg.PLK_GRP_STATUS g) 30 28 = 3 ∧ (s.bcDown g).fltPending (245 + 2 * g) = true ∧
      Within noticeFields (fun a => faultReg a || among [Reg.PLK_GRP_BC_STATUS g, Reg.PLK_GRP_STATUS g] a) s (s.bcDown g) := by
  obtain ⟨u, hu⟩ : ∃ u, u = (s.wb (Reg.PLK_GRP_BC_STATUS g) 31 false).evt (743 + 8 * g) := ⟨_, rfl⟩
  have hev := (s.wb (Reg.PLK_GRP_BC_STATUS g) 31 false).evt_within (743 + 8 * g)
  rw [← hu] at hev
  have heq : s.bcDown g = u.grpNotice g 3 := by rw [State.bcDown, if_pos hup, hu]
  obtain ⟨hcause, hpend, -, hw⟩ := u.grpNotice_spec hg (cause := 3) (by decide)
  rw [heq]
  refine ⟨?_, hcause, hpend, ?_⟩
  · refine (hw.rb ?_ 31).trans ((hev.rb (evtReg_bcStatus hg) 31).trans ((State.rb_wb_same _ _ (by decide) _ _).trans (if_pos rfl)))
    rw [faultReg_bcStatus hg]
    simp only [Bool.false_or, beq_eq_false_iff_ne, Reg.PLK_GRP_BC_STATUS, Reg.PLK_GRP_STATUS]
    omega
  · have hfirst := (s.wb_within (Reg.PLK_GRP_BC_STATUS g) 31 false).mono (m := noticeFields)
      (q := fun a => faultReg a || among [Reg.PLK_GRP_BC_STATUS g, Reg.PLK_GRP_STATUS g] a) (by decide) (by simp +contextual [among])
    exact (hfirst.trans (hev.toNotice.regs_mono (by simp +contextual))).trans (hw.regs_mono fun a ha => by simpa [among] using Or.imp_right Or.inr (by simpa using ha))

/-- BC_LOST and BACK_CHANNEL_LOCK_LOSS: the channel goes down after one mark of its group has changed. -/
theorem ends_bcDown {c : Instr} {s : State} {g : Fin 6} {v : Grp} (hs : s.Shape) (hc : exec c s = done ((s.setGrp g v).bcDown g))
    (hup : s.rb (Reg.PLK_GRP_BC_STATUS g) 31 = true) : Ends c s fun t => t.rb (Reg.PLK_GRP_BC_STATUS g) 31 = false ∧ t.rf (Reg.PLK_GRP_STATUS g) 30 28 = 3 ∧
      t.fltPending (245 + 2 * g) = true ∧ t.grp g = v ∧
      Within (.plk :: noticeFields) (fun a => faultReg a || among [Reg.PLK_GRP_BC_STATUS g, Reg.PLK_GRP_STATUS g, Reg.PAGE_STATUS (grpPage g)] a) s t := by
  have hset := s.setGrp_within g v
  have hup' : (s.setGrp g v).rb (Reg.PLK_GRP_BC_STATUS g) 31 = true := by
    rw [hset.rb (among_eq_false _) 31, hup]
    simp only [List.mem_singleton, forall_eq, grpPage, Reg.page, Reg.PAGE_STATUS, Reg.PLK_GRP_BC_STATUS]
    omega
  obtain ⟨hdown, hcause, hpend, hw⟩ := State.bcDown_spec g.isLt hup'
  refine ends_of_done hc ⟨hdown, hcause, hpend, ?_, ?_⟩
  · exact (hw.grp (by decide) g).trans (State.grp_setGrp_same (by rw [hs.groups]; exact g.isLt) v)
  · refine ((hset.mono (by decide) (by simp +contextual [among])).trans (hw.mono (by simp +contextual) fun a ha => ?_)).ended (by decide)
    rcases Bool.or_eq_true_iff.mp ha with ha | ha
    · exact Bool.or_eq_true_iff.mpr (.inl ha)
    · exact Bool.or_eq_true_iff.mpr (.inr (among_mono (by simp) ha))

theorem ends_backChannelLockGain {s : State} {g : Fin 6} (hs : s.Shape) : Ends (.backChannelLockGain g) s fun t => (t.grp g).lock = true ∧
    t.rb (Reg.PLK_GRP_BC_STATUS g) 31 = (s.rb (Reg.PLK_GRP_BC_STATUS g) 31 || (s.grp g).msg) ∧
    Within [.regs, .hif, .plk] (among [Reg.PLK_GRP_BC_STATUS g, Reg.PAGE_STATUS (grpPage g)]) s t := by
  obtain ⟨u, hu⟩ : ∃ u, u = s.setGrp g { s.grp g with lock := true } := ⟨_, rfl⟩
  have hset : Within [.regs, .plk] (among [Reg.PAGE_STATUS (grpPage g)]) s u := by rw [hu]; exact s.setGrp_within g _
  have hup : u.rb (Reg.PLK_GRP_BC_STATUS g) 31 = s.rb (Reg.PLK_GRP_BC_STATUS g) 31 := by
    refine hset.rb (among_eq_false ?_) 31
    simp only [List.mem_singleton, forall_eq, grpPage, Reg.page, Reg.PAGE_STATUS, Reg.PLK_GRP_BC_STATUS]
    omega
  have hw : Within [.regs] (among [Reg.PLK_GRP_BC_STATUS g]) u (u.when (s.grp g).msg fun s => s.wb (Reg.PLK_GRP_BC_STATUS g) 31 true) :=
    State.when_within _ ((State.wb_within _ _ _ _).one (by decide) (by simp))
  have hc : exec (.backChannelLockGain g) s = done (u.when (s.grp g).msg fun s => s.wb (Reg.PLK_GRP_BC_STATUS g) 31 true) := by rw [hu]; rfl
  refine ends_of_done hc ⟨?_, ?_, ?_⟩
  · refine congrArg Grp.lock ((hw.grp (by decide) g).trans (?_ : u.grp g = { s.grp g with lock := true }))
    rw [hu]
    exact State.grp_setGrp_same (by rw [hs.groups]; exact g.isLt) _
  · change (u.when _ _).rb (Reg.PLK_GRP_BC_STATUS g) 31 = _
    cases (s.grp g).msg
    · exact hup.trans (Bool.or_false _).symm
    · rw [Bool.or_true]
      exact (State.rb_wb_same _ _ (by decide) _ _).trans (if_pos rfl)
  · exact ((hset.mono (by decide) fun _ => among_mono (by simp)).trans (hw.mono (by decide) fun _ => among_mono (by simp))).ended (by decide)

/-! ### The queue read (R178) -/

/-- The row of PLK_GRP_BC_HI. -/
def rowBcHi : RegRow := ⟨0x78, 0x0, 1, .ro, 0x0, 0x0, [], []⟩

theorem regRow_bcHi : ∀ g < 6, regRow (Reg.PLK_GRP_BC_HI g) = some rowBcHi := by decide

/-- PLK_GRP_BC_HI reads as the high word of the oldest message. -/
theorem State.regValue_bcHi (s : State) (p : Party) {g : Nat} (hg : g < 6) : s.present (Reg.PLK_GRP_BC_HI g) = true ∧
    s.regValue p (Reg.PLK_GRP_BC_HI g) = wd (s.bcOldest g / 2 ^ 32) := by
  have hpres : s.present (Reg.PLK_GRP_BC_HI g) = true := by
    obtain rfl | rfl | rfl | rfl | rfl | rfl : g = 0 ∨ g = 1 ∨ g = 2 ∨ g = 3 ∨ g = 4 ∨ g = 5 := by omega
    all_goals rfl
  refine ⟨hpres, ?_⟩
  have hblock : Reg.PLK_GRP_BC_HI g / 0x100000 = 7 := by simp only [Reg.PLK_GRP_BC_HI]; omega
  have hpage : ¬(16 ≤ Reg.PLK_GRP_BC_HI g / 0x1000 ∧ Reg.PLK_GRP_BC_HI g / 0x1000 ≤ 23 ∧ partyPort p ≠ some ((Reg.PLK_GRP_BC_HI g / 0x1000 - 16) % 4)) := by
    simp only [Reg.PLK_GRP_BC_HI]; omega
  have hoff : ¬(hasHeader 7 (Reg.PLK_GRP_BC_HI g / 0x1000 % 256) = true ∧ Reg.PLK_GRP_BC_HI g % 0x1000 < 0x40) := by
    simp only [Reg.PLK_GRP_BC_HI]; omega
  have hfind : (List.range 6).find? (fun m => Reg.PLK_GRP_BC_HI g == Reg.PLK_GRP_BC_LO m || Reg.PLK_GRP_BC_HI g == Reg.PLK_GRP_BC_HI m) = some g :=
    (by decide : ∀ g < 6, (List.range 6).find? (fun m => Reg.PLK_GRP_BC_HI g == Reg.PLK_GRP_BC_LO m || Reg.PLK_GRP_BC_HI g == Reg.PLK_GRP_BC_HI m) = some g) g hg
  have hne : Reg.PLK_GRP_BC_HI g ≠ Reg.PLK_GRP_BC_LO g := by simp only [Reg.PLK_GRP_BC_HI, Reg.PLK_GRP_BC_LO]; omega
  have hview : s.regView (Reg.PLK_GRP_BC_HI g) = some (wd (s.bcOldest g / 2 ^ 32)) := by
    simp only [State.regView, hblock, if_neg hoff, State.plkView, hfind, if_neg hne]
  simp only [State.regValue, hpres, if_neg hpage, regRow_bcHi g hg, hview, rowBcHi, Option.getD_some, Bool.not_true, Bool.false_eq_true, if_false,
    reduceCtorEq]

/-- A read of PLK_GRP_BC_HI takes the oldest message. -/
theorem State.readReg_bcHi {s : State} {p : Party} {g : Nat} (hg : g < 6) (hl : s.latched p (Reg.PLK_GRP_BC_HI g) = none) :
    s.readReg p (Reg.PLK_GRP_BC_HI g) = (s.bcPop g, wd (s.bcOldest g / 2 ^ 32)) := by
  obtain ⟨hpres, hval⟩ := s.regValue_bcHi p hg
  have hfind : (List.range 6).find? (fun m => Reg.PLK_GRP_BC_HI g == Reg.PLK_GRP_BC_HI m) = some g :=
    (by decide : ∀ g < 6, (List.range 6).find? (fun m => Reg.PLK_GRP_BC_HI g == Reg.PLK_GRP_BC_HI m) = some g) g hg
  have hslack : Reg.PLK_GRP_BC_HI g ≠ Reg.SYN_SLACK_MIN := by simp only [Reg.PLK_GRP_BC_HI, Reg.SYN_SLACK_MIN]; omega
  simp only [State.readReg, hpres, regRow_bcHi g hg, hl, hval, hfind, if_neg hslack, rowBcHi, List.foldl_nil, Bool.not_true, Bool.false_eq_true, if_false, reduceCtorEq]

theorem ends_bcQueueRead {s : State} {p : Party} {g : Fin 6} {m : Nat} {rest : List Nat} (hs : s.Shape) (hp : s.reaches p = true)
    (hl : s.latched p (Reg.PLK_GRP_BC_HI g) = none) (hq : (s.grp g).queue = m :: rest) : Ends (.bcQueueRead p g) s fun t =>
      t.reply = .word (wd (m / 2 ^ 32)) ∧ (t.grp g).queue = rest ∧ t.rf (Reg.PLK_GRP_BC_STATUS g) 5 0 = rest.length % 64 ∧
      Within [.regs, .hif, .plk, .reply] (among [Reg.PLK_GRP_BC_STATUS g, Reg.PAGE_STATUS (grpPage g)]) s t := by
  have hpop : s.bcPop g = (s.setGrp g { s.grp g with queue := rest }).wf (Reg.PLK_GRP_BC_STATUS g) 5 0 rest.length := by
    rw [State.bcPop, hq]; rfl
  have hw : Within [.regs, .plk] (among [Reg.PLK_GRP_BC_STATUS g, Reg.PAGE_STATUS (grpPage g)]) s (s.bcPop g) := by
    rw [hpop]
    exact ((s.setGrp_within g _).regs_mono fun _ => among_mono (by simp)).trans ((State.wf_within _ _ _ _ _).one (by decide) (by simp))
  refine ends_of_read rfl hp (State.readReg_bcHi g.isLt hl) ⟨?_, ?_, ?_, (hw.widen (by decide)).answered (by decide) (by decide) _⟩
  · change Reply.word (wd (s.bcOldest g / 2 ^ 32)) = _
    rw [State.bcOldest, hq]; rfl
  · change ((s.bcPop g).grp g).queue = rest
    rw [hpop, State.grp_wf, State.grp_setGrp_same (by rw [hs.groups]; exact g.isLt)]
  · rw [hpop]
    exact State.rf_wf_same (s.setGrp g { s.grp g with queue := rest }) (Reg.PLK_GRP_BC_STATUS g) (by decide) (by decide) _

/-! ### Payloads (R157, R165, R167) -/

/-- The body of a control block, within what its bits hold. -/
theorem controlBlock_body {type bits : Nat} (ht : type < 256) (hb : bits < 2 ^ 48) :
    controlBlock type bits % 256 = type ∧ controlBlock type bits / 256 % 2 ^ 48 = bits := by
  simp only [controlBlock, Nat.mod_eq_of_lt hb]
  generalize crc8 (leBytes 6 bits) = c
  omega

/-- A block whose body is another's is that block. -/
theorem controlBlock_congr {type x y : Nat} (h : x % 2 ^ 48 = y % 2 ^ 48) : controlBlock type x = controlBlock type y := by
  simp only [controlBlock, h]

/-- A payload that is a valid MESSAGE of the user's is received as one (R167). -/
theorem exec_invalidControlBlock_user {s : State} {g : Fin 6} {payload : BitVec 64} {code : Fin 128} {args : BitVec 40}
    (hp : payload.toNat = controlBlock 0x33 (0x80 + code + args.toNat * 256)) : exec (.invalidControlBlock g payload) s = exec (.userMessage g code args) s := by
  have hcode := code.isLt
  have hargs := args.isLt
  obtain ⟨-, hbody⟩ := controlBlock_body (type := 0x33) (bits := 0x80 + code + args.toNat * 256) (by decide) (by omega)
  rw [← hp] at hbody
  have hsame : payload.toNat = controlBlock 0x33 (payload.toNat / 256) := hp.trans (controlBlock_congr (by rw [hbody]; omega))
  have hc : payload.toNat / 256 % 256 = 0x80 + code := by omega
  have ha : payload.toNat / 2 ^ 16 % 2 ^ 40 = args.toNat := by omega
  change done (if payload.toNat = controlBlock 0x33 (payload.toNat / 256) then s.message g (payload.toNat / 256 % 256) (payload.toNat / 2 ^ 16 % 2 ^ 40) else s) =
    done (s.bcMessage g fun s => s.bcQueue g (0x80 + code) args.toNat)
  rw [if_pos hsame, hc, ha, State.message, if_neg (by omega), if_neg (by omega)]
  refine congrArg (fun f => done (s.bcMessage g f)) (funext fun u => ?_)
  rw [if_neg (by omega), if_neg (by omega), if_neg (by omega), if_neg (by omega), if_neg (by omega), if_neg (by omega), if_neg (by omega), if_neg (by omega), if_pos (by omega)]

/-- Settles O37, command by command. -/
theorem backChannelMessages : Obligations.BackChannelMessages := by
  unfold Obligations.BackChannelMessages
  intro g s hs
  refine ⟨fun payload hp => ?_, fun payload code args => exec_invalidControlBlock_user, fun id v hlock => ?_, fun hlock => ?_,
    fun hup => ?_, fun hup => ?_, ends_backChannelLockGain hs, fun p m rest => ends_bcQueueRead hs⟩
  · exact ends_of_done (t := s) (congrArg done (if_neg hp)) ((Within.refl s).ended (by decide))
  · exact ends_of_done (congrArg done (State.bcMessage_unlocked hlock _)) ((Within.refl s).ended (by decide))
  · refine ⟨fun id v => ends_hello hs hlock id v, fun ok sk => ?_, ?_, fun seq fr => ends_mapAck hlock seq fr, fun held runs => ends_frameReport hlock held runs,
      fun fr => ?_, fun x => ends_temp hs hlock x, fun code hq => ?_, fun code args hq => ends_queueFull hs hlock rfl hq, fun code args hq => ?_⟩
    · obtain ⟨t, ht, hup, hgrp, hw⟩ := ends_grpMessage (c := .deskew g ok sk) hs hlock (fun x => { x with deskew := ok }) rfl
      exact ⟨t, ht, hup, congrArg Grp.deskew hgrp, hw⟩
    · obtain ⟨t, ht, -, hgrp, hw⟩ := ends_grpMessage (c := .rateOk g) hs hlock (fun x => { x with rate := true }) rfl
      exact ⟨t, ht, congrArg Grp.rate hgrp, hw⟩
    · obtain ⟨t, ht, -, hgrp, hw⟩ := ends_grpMessage (c := .frameId g fr) hs hlock (fun x => { x with repFrame := fr }) rfl
      exact ⟨t, ht, congrArg Grp.repFrame hgrp, hw⟩
    · obtain ⟨t, ht, hqueue, hcount, hw⟩ := ends_queueMessage (c := .panelFault g code) (code := 0x0A) hs hlock rfl hq
      exact ⟨t, ht, by rw [hqueue, Nat.mod_eq_of_lt (by omega)], hcount, hw⟩
    · obtain ⟨t, ht, hqueue, -, hw⟩ := ends_queueMessage (c := .userMessage g code args) hs hlock rfl hq
      exact ⟨t, ht, by rw [hqueue, Nat.mod_eq_of_lt args.isLt], hw⟩
  · obtain ⟨t, ht, hdown, hcause, hpend, hgrp, hw⟩ := ends_bcDown (c := .bcLost g) (v := { s.grp g with msg := false }) hs rfl hup
    exact ⟨t, ht, hdown, hcause, hpend, by rw [hgrp], hw⟩
  · obtain ⟨t, ht, hdown, -, hpend, hgrp, hw⟩ := ends_bcDown (c := .backChannelLockLoss g) (v := { s.grp g with lock := false }) hs rfl hup
    exact ⟨t, ht, hdown, by rw [hgrp], hpend, hw⟩

end Sys2Proof.Machine

/-! ## Rows of the link (R157, R160, R171) -/
namespace Sys2Proof.Machine

theorem State.lane_setLane (s : State) (l m : Nat) (v : Lane) : (s.setLane l v).lane m = if l = m ∧ l < s.plk.lanes.length then v else s.lane m := by
  by_cases h : l = m
  · subst h
    by_cases hl : l < s.plk.lanes.length
    · rw [if_pos ⟨rfl, hl⟩, State.lane_setLane_same hl]
    · rw [if_neg (by simp [hl]), State.setLane, State.lane, upd, List.set_eq_of_length_le (Nat.not_lt.mp hl)]
      rfl
  · rw [if_neg (by simp [h]), State.lane_setLane_other _ h]

/-- Two loops with steps that agree. -/
theorem State.each_alike {R : State → State → Prop} {n : Nat} {f f' : Nat → State → State} {s t : State} (h : R s t)
    (hf : ∀ i < n, ∀ u v, R u v → R (f i u) (f' i v)) : R (s.each n f) (t.each n f') := by
  induction n with
  | zero => exact h
  | succ n ih => exact hf n (by omega) _ _ (ih fun i hi => hf i (by omega))

/-! ### What a lane sends -/

/-- What lane `l` sends depends on the same things in both states. -/
structure State.LaneAlike (s t : State) (l : Nat) : Prop where
  bypass : t.rb (Reg.PLL_STATUS 2) 9 = s.rb (Reg.PLL_STATUS 2) 9
  test : t.pgState (grpPage (l / 16)) = stTest ↔ s.pgState (grpPage (l / 16)) = stTest
  role : t.role l = s.role l
  state : t.pgState (lanePage l) = s.pgState (lanePage l)
  ctrl : t.rd (Reg.PLK_LANE_CTRL l) = s.rd (Reg.PLK_LANE_CTRL l)
  stage : t.stage (l / 16) = s.stage (l / 16)
  map : (t.grp (l / 16)).map = (s.grp (l / 16)).map
  taking : (t.grp (l / 16)).taking = (s.grp (l / 16)).taking
  lane : t.lane l = s.lane l

theorem State.LaneAlike.refl (s : State) (l : Nat) : s.LaneAlike s l := ⟨rfl, .rfl, rfl, rfl, rfl, rfl, rfl, rfl, rfl⟩

theorem State.LaneAlike.training {s t : State} {l : Nat} (h : s.LaneAlike t l) : t.training l = s.training l := by
  unfold State.training State.logical
  dsimp only
  rw [h.role, h.state, h.stage, h.map, h.taking]

theorem State.LaneAlike.use {s t : State} {l : Nat} (h : s.LaneAlike t l) : t.laneUse l = s.laneUse l := by
  have hrf : ∀ hi lo, t.rf (Reg.PLK_LANE_CTRL l) hi lo = s.rf (Reg.PLK_LANE_CTRL l) hi lo := fun hi lo => congrArg (fld · hi lo) h.ctrl
  by_cases ht : s.pgState (grpPage (l / 16)) = stTest
  · simp only [State.laneUse, h.bypass, if_pos ht, if_pos (h.test.mpr ht)]
  · unfold State.laneUse
    rw [if_neg ht, if_neg (mt h.test.mp ht), h.bypass, h.role, h.state, hrf, hrf, h.training]

theorem State.LaneAlike.word {s t : State} {l : Nat} (h : s.LaneAlike t l) (own : Bool × Nat) (train : Nat) : t.laneWord l own train = s.laneWord l own train := by
  have hrb : t.rb (Reg.PLK_LANE_CTRL l) 0 = s.rb (Reg.PLK_LANE_CTRL l) 0 := congrArg (bit · 0) h.ctrl
  simp only [State.laneWord, State.laneBlock, h.use, h.lane, hrb]

/-- A frame that leaves out what a lane depends on. -/
theorem Within.laneAlike {l : List Fld} {q : Nat → Bool} {s t : State} {k : Nat} (h : Within l q s t) (hl : Fld.plk ∉ l) (hb : q (Reg.PLL_STATUS 2) = false)
    (ht : q (Reg.PAGE_STATUS (grpPage (k / 16))) = false) (hr : q (Reg.PLK_LANE_STATUS k) = false) (hs : q (Reg.PAGE_STATUS (lanePage k)) = false)
    (hc : q (Reg.PLK_LANE_CTRL k) = false) (hg : q (Reg.PLK_GRP_STATUS (k / 16)) = false) : s.LaneAlike t k :=
  ⟨h.rb hb 9, by rw [State.pgState, h.rf ht, State.pgState], h.rf hr 1 0, h.rf hs 2 0, h.rd hc, h.rf hg 3 0, by rw [h.grp hl], by rw [h.grp hl], h.lane hl k⟩

/-! ### One block time -/

section
variable (s : State) (g : Nat) (own : Nat → Bool × Nat) (train : Nat → Nat)

theorem State.putRow_lanes {q : Nat → Bool} :
    Within [.plk] q { s with sent := s.sent ++ [Output.plkRow g (s.rowWords g own train)] } (s.putRow g own train) :=
  State.each_within _ _ _ fun _ _ u => u.setLane_within _ _

theorem State.putRow_within {q : Nat → Bool} : Within [.sent, .plk] q s (s.putRow g own train) := by
  refine Within.trans ?_ ((s.putRow_lanes g own train).widen (by decide))
  exact .of_same (fun f => by cases f <;> first | (left; decide) | (right; rfl)) rfl

theorem State.putRow_sent : (s.putRow g own train).sent = s.sent ++ [.plkRow g (s.rowWords g own train)] :=
  (s.putRow_lanes g own train (q := fun _ => false)).sent (by decide)

@[simp] theorem State.putRow_groups : (s.putRow g own train).plk.groups = s.plk.groups :=
  State.each_induction (P := fun u => u.plk.groups = s.plk.groups) rfl fun _ _ _ hu => hu

@[simp] theorem State.grp_putRow (m : Nat) : (s.putRow g own train).grp m = s.grp m := by rw [State.grp, s.putRow_groups, State.grp]

@[simp] theorem State.putRow_lanes_length : (s.putRow g own train).plk.lanes.length = s.plk.lanes.length :=
  State.each_induction (P := fun u => u.plk.lanes.length = s.plk.lanes.length) rfl fun _ _ u hu => (u.setLane_lanes_length _ _).trans hu

end

/-! ### Rows of two states -/

/-- What the next rows of group `g` depend on is the same in both states. -/
structure State.RowAlike (g : Nat) (s t : State) : Prop where
  lane : ∀ k < 16, s.LaneAlike t (s.phys g k)
  map : (t.grp g).map = (s.grp g).map
  count : t.plk.lanes.length = s.plk.lanes.length
  pos : (t.grp g).pos = (s.grp g).pos
  slot : (t.grp g).slot = (s.grp g).slot
  lastCmd : (t.grp g).lastCmd = (s.grp g).lastCmd
  align : (t.grp g).align = (s.grp g).align
  cmds : (t.grp g).cmds = (s.grp g).cmds

section
variable {g : Nat} {s t : State}

theorem State.RowAlike.phys (h : s.RowAlike g t) (k : Nat) : t.phys g k = s.phys g k := by rw [State.phys, h.map, State.phys]

theorem State.RowAlike.rowWords (h : s.RowAlike g t) {own own' : Nat → Bool × Nat} (ho : ∀ k < 16, own' k = own k) (train : Nat → Nat) :
    t.rowWords g own' train = s.rowWords g own train :=
  List.map_congr_left fun k hk => by rw [h.phys, ho k (List.mem_range.mp hk), (h.lane k (List.mem_range.mp hk)).word]

/-- After rows that agree, the next rows depend on the same things again. -/
theorem State.RowAlike.putRow (h : s.RowAlike g t) {own own' : Nat → Bool × Nat} (ho : ∀ k < 16, own' k = own k) (train : Nat → Nat) :
    (s.putRow g own train).RowAlike g (t.putRow g own' train) := by
  have hlanes : ∀ l, s.lane l = t.lane l → (s.putRow g own train).lane l = (t.putRow g own' train).lane l := fun l hl => by
    have hstep : ∀ k < 16, ∀ u v : State, u.plk.lanes.length = v.plk.lanes.length ∧ u.lane l = v.lane l →
        (u.setLane (s.phys g k) (s.laneWord (s.phys g k) (own k) (train k)).2).plk.lanes.length =
          (v.setLane (t.phys g k) (t.laneWord (t.phys g k) (own' k) (train k)).2).plk.lanes.length ∧
        (u.setLane (s.phys g k) (s.laneWord (s.phys g k) (own k) (train k)).2).lane l = (v.setLane (t.phys g k) (t.laneWord (t.phys g k) (own' k) (train k)).2).lane l := by
      intro k hk u v huv
      rw [h.phys, ho k hk, (h.lane k hk).word, State.lane_setLane, State.lane_setLane, State.setLane_lanes_length, State.setLane_lanes_length, huv.1, huv.2]
      exact ⟨rfl, rfl⟩
    exact (State.each_alike (R := fun u v => u.plk.lanes.length = v.plk.lanes.length ∧ u.lane l = v.lane l)
      (s := { s with sent := s.sent ++ [Output.plkRow g (s.rowWords g own train)] }) (t := { t with sent := t.sent ++ [Output.plkRow g (t.rowWords g own' train)] })
      ⟨h.count.symm, hl⟩ hstep).2
  have hs := s.putRow_within g own train (q := fun _ => false)
  have ht := t.putRow_within g own' train (q := fun _ => false)
  refine ⟨fun k hk => ?_, by simp [h.map], by simp [h.count], by simp [h.pos], by simp [h.slot], by simp [h.lastCmd], by simp [h.align], by simp [h.cmds]⟩
  have hk' := h.lane k hk
  rw [show (s.putRow g own train).phys g k = s.phys g k by simp [State.phys]]
  exact ⟨by rw [hs.rb rfl, ht.rb rfl, hk'.bypass], by simp only [State.pgState, hs.rf, ht.rf]; exact hk'.test, by simp only [State.role, hs.rf, ht.rf]; exact hk'.role,
    by simp only [State.pgState, hs.rf, ht.rf]; exact hk'.state, by rw [hs.rd rfl, ht.rd rfl, hk'.ctrl], by simp only [State.stage, hs.rf, ht.rf]; exact hk'.stage,
    by simp [hk'.map], by simp [hk'.taking], (hlanes _ hk'.lane.symm).symm⟩

/-- A group's page lies apart from the registers that its rows depend on. -/
theorem grpStatus_apart {g : Nat} (hg : g < 6) (l : Nat) : Reg.PAGE_STATUS (grpPage g) ≠ Reg.PLL_STATUS 2 ∧ Reg.PAGE_STATUS (grpPage g) ≠ Reg.PLK_LANE_STATUS l ∧
    Reg.PAGE_STATUS (grpPage g) ≠ Reg.PAGE_STATUS (lanePage l) ∧ Reg.PAGE_STATUS (grpPage g) ≠ Reg.PLK_LANE_CTRL l ∧
    ∀ m, Reg.PAGE_STATUS (grpPage g) ≠ Reg.PLK_GRP_STATUS m := by
  simp only [grpPage, lanePage, Reg.page, Reg.PAGE_STATUS, Reg.PLL_STATUS, Reg.PLK_LANE_STATUS, Reg.PLK_LANE_CTRL, Reg.PLK_GRP_STATUS]
  refine ⟨?_, ?_, ?_, ?_, fun m => ?_⟩ <;> omega

theorem grpStatus_ne_lane {g : Nat} (hg : g < 6) (l : Nat) : Reg.PAGE_STATUS (grpPage g) ≠ Reg.PAGE_STATUS (lanePage l) := by
  obtain ⟨-, -, h, -⟩ := grpStatus_apart hg l
  exact h

theorem grpStatus_ne_status {g : Nat} (hg : g < 6) (m : Nat) : Reg.PAGE_STATUS (grpPage g) ≠ Reg.PLK_GRP_STATUS m := by
  obtain ⟨-, -, -, -, h⟩ := grpStatus_apart hg 0
  exact h m

theorem grpStatus_ne {g m : Nat} (h : g ≠ m) : Reg.PAGE_STATUS (grpPage g) ≠ Reg.PAGE_STATUS (grpPage m) := by
  simp only [grpPage, Reg.page, Reg.PAGE_STATUS]
  omega

/-- Setting a group that takes part in its rows as before. -/
theorem State.laneAlike_setGrp {s : State} {g : Nat} (hg : g < 6) (hlen : g < s.plk.groups.length) {v : Grp} (hm : v.map = (s.grp g).map)
    (ht : v.taking = (s.grp g).taking) (l : Nat) : s.LaneAlike (s.setGrp g v) l := by
  obtain ⟨hb, hr, hs, hc, hst⟩ := grpStatus_apart hg l
  have hw := s.setGrp_within g v
  have hkeep : ∀ {a}, Reg.PAGE_STATUS (grpPage g) ≠ a → among [Reg.PAGE_STATUS (grpPage g)] a = false := fun h => among_eq_false (by simpa using h)
  refine ⟨hw.rb (hkeep hb) 9, ?_, hw.rf (hkeep hr) 1 0, hw.rf (hkeep hs) 2 0, hw.rd (hkeep hc), hw.rf (hkeep (hst _)) 3 0, ?_, ?_, s.lane_setGrp g v l⟩
  · by_cases h : l / 16 = g
    · rw [h]; exact s.setGrp_test g v
    · rw [State.pgState, hw.rf (hkeep (grpStatus_ne (Ne.symm h))), State.pgState]
  · by_cases h : g = l / 16
    · rw [← h, State.grp_setGrp_same hlen, hm]
    · rw [State.grp_setGrp_other _ h]
  · by_cases h : g = l / 16
    · rw [← h, State.grp_setGrp_same hlen, ht]
    · rw [State.grp_setGrp_other _ h]

theorem State.LaneAlike.symm {l : Nat} (h : s.LaneAlike t l) : t.LaneAlike s l :=
  ⟨h.bypass.symm, h.test.symm, h.role.symm, h.state.symm, h.ctrl.symm, h.stage.symm, h.map.symm, h.taking.symm, h.lane.symm⟩

theorem State.LaneAlike.trans {u : State} {l : Nat} (h : s.LaneAlike t l) (k : t.LaneAlike u l) : s.LaneAlike u l :=
  ⟨k.bypass.trans h.bypass, k.test.trans h.test, k.role.trans h.role, k.state.trans h.state, k.ctrl.trans h.ctrl, k.stage.trans h.stage, k.map.trans h.map,
    k.taking.trans h.taking, k.lane.trans h.lane⟩

/-- What the rows of a group keep of its record, and what they take from it. -/
structure Grp.RowLike (x y : Grp) : Prop where
  pos : y.pos = x.pos
  slot : y.slot = x.slot
  lastCmd : y.lastCmd = x.lastCmd
  align : y.align = x.align
  cmds : y.cmds = x.cmds

theorem State.RowAlike.rowLike (h : s.RowAlike g t) : (s.grp g).RowLike (t.grp g) := ⟨h.pos, h.slot, h.lastCmd, h.align, h.cmds⟩

theorem State.RowAlike.setGrp (hg : g < 6) (hs : g < s.plk.groups.length) (ht : g < t.plk.groups.length) (h : s.RowAlike g t) {v w : Grp} (hvw : v.RowLike w)
    (hv : v.map = (s.grp g).map ∧ v.taking = (s.grp g).taking) (hw : w.map = (t.grp g).map ∧ w.taking = (t.grp g).taking) :
    (s.setGrp g v).RowAlike g (t.setGrp g w) := by
  have hphys : ∀ k, (s.setGrp g v).phys g k = s.phys g k := fun k => by rw [State.phys, State.grp_setGrp_same hs, hv.1, State.phys]
  have hplk : ∀ u : State, ∀ x, (u.setGrp g x).plk.lanes = u.plk.lanes := fun u x => by rw [State.setGrp_plk]
  refine ⟨fun k hk => ?_, ?_, by rw [hplk, hplk, h.count], ?_, ?_, ?_, ?_, ?_⟩
  · rw [hphys]
    exact ((State.laneAlike_setGrp hg hs hv.1 hv.2 _).symm.trans (h.lane k hk)).trans (State.laneAlike_setGrp hg ht hw.1 hw.2 _)
  all_goals rw [State.grp_setGrp_same hs, State.grp_setGrp_same ht]
  · rw [hw.1, hv.1, h.map]
  · exact hvw.pos
  · exact hvw.slot
  · exact hvw.lastCmd
  · exact hvw.align
  · exact hvw.cmds

end

/-! ### The reserved position (R160, R164, R168) -/

/-- What goes out in the reserved position on a lane in service, and on one in training. -/
def Grp.reservedOwn (x : Grp) (g k : Nat) : Bool × Nat :=
  if x.slot = 0 then (true, controlBlock 0x2D (laneBits g k + x.align * 256))
  else match x.commandFits, x.cmds with
    | true, (c, _) :: _ => (true, controlBlock 0x66 c)
    | _, _ => (true, fillerBlock)

def Grp.reservedTrain (x : Grp) (g k : Nat) : Nat := if x.slot = 0 then controlBlock 0x2D (laneBits g k + x.align * 256) else fillerBlock

/-- The group's record after the reserved position. -/
def Grp.afterReserved (x : Grp) : Grp :=
  let y := { x with pos := 0, slot := (x.slot + 1) % 128, lastCmd := false }
  if x.slot = 0 then { y with align := (x.align + 1) % 65536 }
  else match x.commandFits, x.cmds with
    | true, (c, k) :: t => { y with lastCmd := true, cmds := if k ≤ 1 then t else (c, k - 1) :: t }
    | _, _ => y

theorem State.reserved_eq (s : State) (g : Nat) :
    s.reserved g = (s.putRow g ((s.grp g).reservedOwn g) ((s.grp g).reservedTrain g)).setGrp g (s.grp g).afterReserved := by
  obtain ⟨x, hx⟩ : ∃ x, x = s.grp g := ⟨_, rfl⟩
  have hown : ∀ f : Nat → Bool × Nat, (∀ k, x.reservedOwn g k = f k) → x.reservedOwn g = f := fun f h => funext h
  have htrain : ∀ f : Nat → Nat, (∀ k, x.reservedTrain g k = f k) → x.reservedTrain g = f := fun f h => funext h
  rw [State.reserved, ← hx]
  by_cases h0 : x.slot = 0
  · rw [hown _ fun k => if_pos h0, htrain _ fun k => if_pos h0, Grp.afterReserved]
    simp only [h0, if_true]
  · rw [htrain _ fun k => if_neg h0]
    rcases hf : x.commandFits with _ | _
    · rw [hown (fun _ => (true, fillerBlock)) fun k => by simp only [Grp.reservedOwn, h0, hf, if_false], Grp.afterReserved]
      simp only [h0, hf, if_false]
    · rcases hc : x.cmds with _ | ⟨⟨c, k⟩, t⟩
      · rw [hown (fun _ => (true, fillerBlock)) fun k => by simp only [Grp.reservedOwn, h0, hf, hc, if_false], Grp.afterReserved]
        simp only [h0, hf, hc, if_false]
      · rw [hown (fun _ => (true, controlBlock 0x66 c)) fun k => by simp only [Grp.reservedOwn, h0, hf, hc, if_false], Grp.afterReserved]
        simp only [h0, hf, hc, if_false]

/-- The reserved position keeps everything of the group's record but its place, the ALIGN count and the commands. -/
theorem Grp.afterReserved_keeps (x : Grp) : ∃ pos slot lastCmd align cmds,
    x.afterReserved = { x with pos := pos, slot := slot, lastCmd := lastCmd, align := align, cmds := cmds } := by
  unfold Grp.afterReserved
  split
  · exact ⟨_, _, _, _, _, rfl⟩
  · split <;> exact ⟨_, _, _, _, _, rfl⟩

theorem Grp.afterReserved_pos (x : Grp) : x.afterReserved.pos = 0 ∧ x.afterReserved.slot = (x.slot + 1) % 128 := by
  unfold Grp.afterReserved
  split
  · exact ⟨rfl, rfl⟩
  · split <;> exact ⟨rfl, rfl⟩

theorem Grp.RowLike.reserved {x y : Grp} (h : x.RowLike y) (g : Nat) : y.reservedOwn g = x.reservedOwn g ∧ y.reservedTrain g = x.reservedTrain g ∧
    x.afterReserved.RowLike y.afterReserved := by
  have hf : y.commandFits = x.commandFits := by rw [Grp.commandFits, h.lastCmd, h.slot, Grp.commandFits]
  refine ⟨funext fun k => by rw [Grp.reservedOwn, h.slot, h.align, hf, h.cmds, Grp.reservedOwn], funext fun k => by rw [Grp.reservedTrain, h.slot, h.align, Grp.reservedTrain], ?_⟩
  unfold Grp.afterReserved
  dsimp only
  rw [h.slot, h.align, hf, h.cmds]
  split
  · exact ⟨rfl, rfl, rfl, rfl, rfl⟩
  · split <;> exact ⟨rfl, rfl, rfl, rfl, rfl⟩

/-! ### Rows on the positions 0 to 126 (R160) -/

section
variable (s : State) (g : Nat)

theorem State.reserved_sent : (s.reserved g).sent = s.sent ++ [.plkRow g (s.rowWords g ((s.grp g).reservedOwn g) ((s.grp g).reservedTrain g))] := by
  rw [State.reserved_eq]
  exact ((State.setGrp_within _ g _).sent (by decide)).trans (s.putRow_sent g _ _)

theorem State.reserved_within : Within [.regs, .sent, .plk] (among [Reg.PAGE_STATUS (grpPage g)]) s (s.reserved g) := by
  rw [State.reserved_eq]
  exact ((s.putRow_within g _ _).widen (by decide)).trans ((State.setGrp_within _ g _).widen (by decide))

theorem State.grp_reserved {s : State} {g : Nat} (h : g < s.plk.groups.length) : (s.reserved g).grp g = (s.grp g).afterReserved := by
  rw [State.reserved_eq, State.grp_setGrp_same (by simpa using h)]

theorem State.grp_reserved_other {g m : Nat} (h : g ≠ m) : (s.reserved g).grp m = s.grp m := by
  rw [State.reserved_eq, State.grp_setGrp_other _ h, State.grp_putRow]

@[simp] theorem State.reserved_groups_length : (s.reserved g).plk.groups.length = s.plk.groups.length := by rw [State.reserved_eq]; simp

theorem State.beforeRow_within : Within [.regs, .sent, .plk] (among [Reg.PAGE_STATUS (grpPage g)]) s (s.beforeRow g) := by
  unfold State.beforeRow
  split
  · exact s.reserved_within g
  · exact .refl s

@[simp] theorem State.beforeRow_groups_length : (s.beforeRow g).plk.groups.length = s.plk.groups.length := by
  unfold State.beforeRow
  split
  · exact s.reserved_groups_length g
  · rfl

theorem State.grp_beforeRow_other {g m : Nat} (h : g ≠ m) : (s.beforeRow g).grp m = s.grp m := by
  unfold State.beforeRow
  split
  · exact s.grp_reserved_other h
  · rfl

/-- Before a row the group's record changes only in its place, the ALIGN count and the commands. -/
theorem State.grp_beforeRow {s : State} {g : Nat} (h : g < s.plk.groups.length) : ∃ pos slot lastCmd align cmds,
    (s.beforeRow g).grp g = { s.grp g with pos := pos, slot := slot, lastCmd := lastCmd, align := align, cmds := cmds } := by
  unfold State.beforeRow
  split
  · rw [State.grp_reserved h]
    exact (s.grp g).afterReserved_keeps
  · exact ⟨_, _, _, _, _, rfl⟩

theorem State.frame_beforeRow {s : State} {g : Nat} (h : g < s.plk.groups.length) : ((s.beforeRow g).grp g).frame = (s.grp g).frame := by
  obtain ⟨_, _, _, _, _, hb⟩ := State.grp_beforeRow h
  rw [hb]

theorem State.rowOut_eq (own : Nat → Bool × Nat) : s.rowOut g own =
    ((s.beforeRow g).putRow g own fun _ => fillerBlock).setGrp g { (s.beforeRow g).grp g with pos := ((s.beforeRow g).grp g).pos + 1 } := rfl

theorem State.rowOut_sent (own : Nat → Bool × Nat) :
    (s.rowOut g own).sent = (s.beforeRow g).sent ++ [.plkRow g ((s.beforeRow g).rowWords g own fun _ => fillerBlock)] :=
  ((State.setGrp_within _ g _).sent (by decide)).trans ((s.beforeRow g).putRow_sent g _ _)

theorem State.controlRow_sent (f : Nat → Nat) : (s.controlRow g f).sent = (s.beforeRow g).sent ++ [(s.beforeRow g).blocks g f] := s.rowOut_sent g _

theorem State.rowOut_within (own : Nat → Bool × Nat) : Within [.regs, .sent, .plk] (among [Reg.PAGE_STATUS (grpPage g)]) s (s.rowOut g own) :=
  ((s.beforeRow_within g).trans ((State.putRow_within _ g _ _).widen (by decide))).trans ((State.setGrp_within _ g _).widen (by decide))

theorem State.grp_rowOut {s : State} {g : Nat} (h : g < s.plk.groups.length) (own : Nat → Bool × Nat) :
    (s.rowOut g own).grp g = { (s.beforeRow g).grp g with pos := ((s.beforeRow g).grp g).pos + 1 } := by
  rw [State.rowOut_eq, State.grp_setGrp_same (by simpa using h)]

theorem State.grp_rowOut_other {g m : Nat} (h : g ≠ m) (own : Nat → Bool × Nat) : (s.rowOut g own).grp m = s.grp m := by
  rw [State.rowOut_eq, State.grp_setGrp_other _ h, State.grp_putRow, s.grp_beforeRow_other h]

@[simp] theorem State.rowOut_groups_length (own : Nat → Bool × Nat) : (s.rowOut g own).plk.groups.length = s.plk.groups.length := by rw [State.rowOut_eq]; simp

end

/-! What two states that are alike send before a row. -/

section
variable {g : Nat} {s t : State} (hg : g < 6) (hs : g < s.plk.groups.length) (ht : g < t.plk.groups.length) (h : s.RowAlike g t)
include hg hs ht h

theorem State.RowAlike.reserved : (s.reserved g).RowAlike g (t.reserved g) := by
  obtain ⟨hown, htrain, hafter⟩ := h.rowLike.reserved g
  have hkeep : ∀ x : Grp, x.afterReserved.map = x.map ∧ x.afterReserved.taking = x.taking := fun x => by
    obtain ⟨_, _, _, _, _, hx⟩ := x.afterReserved_keeps
    rw [hx]
    exact ⟨rfl, rfl⟩
  rw [State.reserved_eq, State.reserved_eq, hown, htrain]
  exact (h.putRow (fun _ _ => rfl) _).setGrp hg (by simpa using hs) (by simpa using ht) hafter (by simpa using hkeep _) (by simpa using hkeep _)

theorem State.RowAlike.beforeRow : (s.beforeRow g).RowAlike g (t.beforeRow g) := by
  unfold State.beforeRow
  rw [h.pos]
  split
  · exact h.reserved hg hs ht
  · exact h

omit hg hs ht in
theorem State.RowAlike.beforeRow_sent (hsent : t.sent = s.sent) : (t.beforeRow g).sent = (s.beforeRow g).sent := by
  obtain ⟨hown, htrain, -⟩ := h.rowLike.reserved g
  unfold State.beforeRow
  rw [h.pos]
  split
  · rw [State.reserved_sent, State.reserved_sent, hown, htrain, hsent, h.rowWords fun _ _ => rfl]
  · exact hsent

end

/-! ### END (R161) -/

/-- A group that has given up its frame, or ended it. -/
def Grp.gone (x : Grp) : Grp := { x with frame := none, hold := false, runs := 0, pair := none, words := [], fin := false, short := false }

/-- What the END of frame `n` leaves of a group. -/
structure State.Ended (s : State) (g n : Nat) (hold : Bool) (t : State) : Prop where
  sent : t.sent = (s.beforeRow g).sent ++
    [(s.beforeRow g).blocks g fun k => controlBlock 0x87 (laneBits g k + b2n hold * 128 + n % 65536 * 256 + (s.grp g).runs % 2 ^ 24 * 2 ^ 24)]
  grp : t.grp g = { ((s.beforeRow g).grp g).gone with pos := ((s.beforeRow g).grp g).pos + 1 }
  other : ∀ m, g ≠ m → t.grp m = s.grp m
  length : t.plk.groups.length = s.plk.groups.length
  runs : t.rf (Reg.PLK_GRP_RUNS g) 23 0 = (s.grp g).runs % 2 ^ 24
  held : t.rn (Reg.PLK_GRP_HELD g) = min (2 ^ 32 - 1) (s.rn (Reg.PLK_GRP_HELD g) + b2n hold)
  within : Within [.regs, .sent, .plk] (among [Reg.PLK_GRP_HELD g, Reg.PLK_GRP_RUNS g, Reg.PAGE_STATUS (grpPage g)]) s t

theorem State.ended_sendEnd {s : State} {g n : Nat} (hlen : g < s.plk.groups.length) (he : s.enabled (Reg.page 7 0) = true)
    (hf : (s.grp g).frame = some n) (hold : Bool) : s.Ended g n hold (s.sendEnd g hold) := by
  obtain ⟨r, hr⟩ : ∃ r, r = s.controlRow g fun k => controlBlock 0x87 (laneBits g k + b2n hold * 128 + n % 65536 * 256 + (s.grp g).runs % 2 ^ 24 * 2 ^ 24) := ⟨_, rfl⟩
  obtain ⟨w, hw⟩ : ∃ w, w = r.wf (Reg.PLK_GRP_RUNS g) 23 0 (s.grp g).runs := ⟨_, rfl⟩
  obtain ⟨c, hc⟩ : ∃ c, c = w.when hold fun s => s.cntSat (Reg.PLK_GRP_HELD g) 32 1 := ⟨_, rfl⟩
  have heq : s.sendEnd g hold = c.setGrp g (c.grp g).gone := by
    rw [hc, hw, hr, State.sendEnd]
    simp only [hf, he, Bool.not_true, Bool.false_eq_true, if_false]
    rfl
  have hrow : Within [.regs, .sent, .plk] (among [Reg.PAGE_STATUS (grpPage g)]) s r := by rw [hr]; exact s.rowOut_within g _
  have hruns : Within [.regs] (fun a => a == Reg.PLK_GRP_RUNS g) r w := by rw [hw]; exact State.wf_within _ _ _ _ _
  have hheld : Within [.regs] (fun a => a == Reg.PLK_GRP_HELD g) w c := by rw [hc]; exact State.when_within _ (State.cntSat_within _ _ _ _)
  have hset := c.setGrp_within g (c.grp g).gone
  have hcr : c.plk = r.plk := (hheld.plk (by decide)).trans (hruns.plk (by decide))
  have hgrp : ∀ m, c.grp m = r.grp m := fun m => by rw [State.grp, hcr, State.grp]
  have hlen' : c.plk.groups.length = s.plk.groups.length := by rw [hcr, hr]; exact s.rowOut_groups_length g _
  obtain ⟨hSR, hSH, hRH⟩ : Reg.PAGE_STATUS (grpPage g) ≠ Reg.PLK_GRP_RUNS g ∧ Reg.PAGE_STATUS (grpPage g) ≠ Reg.PLK_GRP_HELD g ∧
      Reg.PLK_GRP_RUNS g ≠ Reg.PLK_GRP_HELD g := by
    simp only [grpPage, Reg.page, Reg.PAGE_STATUS, Reg.PLK_GRP_RUNS, Reg.PLK_GRP_HELD]
    omega
  rw [heq]
  refine ⟨?_, ?_, fun m hm => ?_, ?_, ?_, ?_, ?_⟩
  · rw [hset.sent (by decide), hheld.sent (by decide), hruns.sent (by decide), hr, State.controlRow_sent]
  · rw [State.grp_setGrp_same (by rw [hlen']; exact hlen), hgrp, hr, State.controlRow, State.grp_rowOut hlen]
    rfl
  · rw [State.grp_setGrp_other _ hm, hgrp, hr]
    exact s.grp_rowOut_other hm _
  · rw [State.setGrp_groups_length, hlen']
  · rw [hset.rf (among_eq_false (by simpa using hSR)), hheld.rf (beq_eq_false_iff_ne.mpr hRH), hw]
    exact State.rf_wf_same r (Reg.PLK_GRP_RUNS g) (by decide) (by decide) _
  · rw [hset.rn (among_eq_false (by simpa using hSH))]
    have hsame : w.rn (Reg.PLK_GRP_HELD g) = s.rn (Reg.PLK_GRP_HELD g) := by
      rw [hruns.rn (beq_eq_false_iff_ne.mpr hRH.symm), hrow.rn (among_eq_false (by simpa using hSH))]
    rw [hc, State.when]
    cases hold
    · exact hsame.trans (Nat.min_eq_right (by have := (s.rd (Reg.PLK_GRP_HELD g)).isLt; rw [State.rn]; omega)).symm
    · rw [if_pos rfl, State.rn_cntSat, hsame]
      rfl
  · exact ((((hrow.regs_mono fun _ => among_mono (by simp)).trans (hruns.one (by decide) (by simp))).trans (hheld.one (by decide) (by simp))).trans
      (hset.mono (by decide) fun _ => among_mono (by simp)))

end Sys2Proof.Machine

/-! ## Rows, ALIGN, COMMAND and END as commands -/
namespace Sys2Proof.Machine

/-! ### Words for the stream (R158, R159) -/

section
variable {s : State} {g n fuel : Nat}

theorem State.fillWords_ready (h : n ≤ (s.grp g).words.length ∨ (s.grp g).fin = true) : s.fillWords g n fuel = s := by
  cases fuel with
  | zero => rfl
  | succ fuel => rw [State.fillWords, if_pos h]

/-- The words of one run suffice. -/
theorem State.fillWords_run {fr : Nat} {r : Run} {q : List QItem} (hlen : g < s.plk.groups.length) (hf : (s.grp g).frame = some fr) (hw : (s.grp g).words = [])
    (hn : 0 < n) (hfin : (s.grp g).fin = false) (hq : takeItem fr (s.queue g) = some (.run r, q)) (hr : s.sendsRun g fr r = true) (h64 : r.vals.length ≠ 64)
    (hp : n ≤ (packet 1 r none).length) :
    s.fillWords g n (fuel + 1) = (s.setQueue g q).setGrp g { s.grp g with words := packet 1 r none, runs := (s.grp g).runs + 1 } := by
  have hsends : (s.setQueue g q).sendsRun g fr r = true := hr
  rw [State.fillWords, if_neg (by simp [hw, hfin]; omega)]
  simp only [hf, hq, hsends, Bool.not_true, Bool.false_eq_true, if_false, if_neg h64, hw, List.nil_append]
  refine State.fillWords_ready (.inl ?_)
  rw [State.grp_setGrp_same (by exact hlen)]
  exact hp

/-- A lost run is all that the queue holds of the frame. -/
theorem State.fillWords_lost {fr m : Nat} (hlen : g < s.plk.groups.length) (hqs : g < s.syn.queues.length) (hf : (s.grp g).frame = some fr) (hw : (s.grp g).words = [])
    (hn : 0 < n)
    (hfin : (s.grp g).fin = false) (hq : takeItem fr (s.queue g) = some (.lost m, [])) :
    s.fillWords g n (fuel + 2) = (s.setQueue g []).setGrp g { s.grp g with hold := true } := by
  obtain ⟨x, hx⟩ : ∃ x : Grp, x = { s.grp g with hold := true, frame := some fr } := ⟨_, rfl⟩
  obtain ⟨u, hu⟩ : ∃ u, u = (s.setQueue g []).setGrp g x := ⟨_, rfl⟩
  have hgrp : u.grp g = x := by rw [hu, State.grp_setGrp_same (by exact hlen)]
  have hqueue : u.queue g = [] := by rw [hu, (State.setGrp_within _ g _).queue (by decide), State.queue_setQueue_same hqs]
  rw [State.fillWords, if_neg (by simp [hw, hfin]; omega)]
  simp only [hf, hq]
  rw [← hx, ← hu, State.fillWords, if_neg (by simp [hgrp, hx, hw, hfin]; omega)]
  simp only [hgrp, hx, hqueue, takeItem]

end

/-! ### States alike for rows -/

theorem State.RowAlike.refl (g : Nat) (s : State) : s.RowAlike g s := ⟨fun _ _ => .refl _ _, rfl, rfl, rfl, rfl, rfl, rfl, rfl⟩

theorem State.rowAlike_setQueue (g : Nat) (s : State) (m : Nat) (q : List QItem) : s.RowAlike g (s.setQueue m q) :=
  ⟨fun _ _ => ⟨rfl, .rfl, rfl, rfl, rfl, rfl, rfl, rfl, rfl⟩, rfl, rfl, rfl, rfl, rfl, rfl, rfl⟩

theorem State.RowAlike.trans {g : Nat} {s t u : State} (h : s.RowAlike g t) (k : t.RowAlike g u) : s.RowAlike g u :=
  ⟨fun i hi => (h.lane i hi).trans (by have := k.lane i hi; rwa [h.phys] at this), k.map.trans h.map, k.count.trans h.count, k.pos.trans h.pos, k.slot.trans h.slot,
    k.lastCmd.trans h.lastCmd, k.align.trans h.align, k.cmds.trans h.cmds⟩

theorem State.rowAlike_setGrp {g : Nat} {s : State} {v : Grp} (hg : g < 6) (hs : g < s.plk.groups.length) (hm : v.map = (s.grp g).map)
    (ht : v.taking = (s.grp g).taking) (hv : (s.grp g).RowLike v) : s.RowAlike g (s.setGrp g v) := by
  refine ⟨fun k _ => State.laneAlike_setGrp hg hs hm ht _, ?_, by rw [State.setGrp_plk], ?_, ?_, ?_, ?_, ?_⟩
  all_goals rw [State.grp_setGrp_same hs]
  · exact hm
  · exact hv.pos
  · exact hv.slot
  · exact hv.lastCmd
  · exact hv.align
  · exact hv.cmds

/-! ### Words on their lanes (R158) -/

/-- The lanes of a mask. -/
theorem contains_maskLanes (mask k : Nat) (hk : k < 16) : ((List.range 16).filter fun k => mask.testBit k).contains k = mask.testBit k := by
  rw [Bool.eq_iff_iff, List.contains_iff_mem, List.mem_filter, List.mem_range]
  simp [hk]

/-- Where words suffice for the lanes no padding is read. -/
theorem nth_ready {ls ws : List Nat} {k : Nat} (hk : k ∈ ls) (h : ls.length ≤ ws.length) (pad : Nat) :
    nth 0 (ws.take ls.length ++ List.replicate (ls.length - ws.length) pad) ((ls.findIdx? (· == k)).getD 0) = nth 0 ws ((ls.findIdx? (· == k)).getD 0) := by
  have hlt : (ls.findIdx? (· == k)).getD 0 < ls.length := by
    rcases hi : ls.findIdx? (· == k) with _ | i
    · exact absurd (List.findIdx?_eq_none_iff.mp hi k hk) (by simp)
    · exact (List.findIdx?_eq_some_iff_getElem.mp hi).1
  rw [Nat.sub_eq_zero_of_le h, List.replicate_zero, List.append_nil, nth, nth, List.getD_eq_getElem?_getD, List.getElem?_take_of_lt hlt, ← List.getD_eq_getElem?_getD]

/-! ### The commands -/

/-- `t` is `s` with the words `ws` of frame `fr` ready for a row of `n` lanes, and `q` left in the queue. -/
structure State.Filled (s : State) (g fr n : Nat) (ws : List Nat) (q : List QItem) (t : State) : Prop where
  fill : s.fillWords g n 300 = t
  alike : s.RowAlike g t
  length : t.plk.groups.length = s.plk.groups.length
  sent : t.sent = s.sent
  frame : (t.grp g).frame = some fr
  words : (t.grp g).words = ws
  ready : n ≤ ws.length
  queue : t.queue g = q
  within : Within [.regs, .plk, .syn] (among [Reg.PAGE_STATUS (grpPage g)]) s t

theorem State.filled_self {s : State} {g fr n : Nat} (hf : (s.grp g).frame = some fr) (hn : n ≤ (s.grp g).words.length) :
    s.Filled g fr n (s.grp g).words (s.queue g) s :=
  ⟨State.fillWords_ready (.inl hn), .refl g s, rfl, rfl, hf, rfl, hn, rfl, .refl s⟩

theorem State.filled_run {s : State} {g fr n : Nat} {r : Run} {q : List QItem} (hs : s.Shape) (hg : g < 6) (hf : (s.grp g).frame = some fr) (hw : (s.grp g).words = [])
    (hn : 0 < n) (hfin : (s.grp g).fin = false) (hq : takeItem fr (s.queue g) = some (.run r, q)) (hr : s.sendsRun g fr r = true) (h64 : r.vals.length ≠ 64)
    (hp : n ≤ (packet 1 r none).length) :
    s.Filled g fr n (packet 1 r none) q ((s.setQueue g q).setGrp g { s.grp g with words := packet 1 r none, runs := (s.grp g).runs + 1 }) := by
  have hlen : g < (s.setQueue g q).plk.groups.length := by rw [show (s.setQueue g q).plk = s.plk from rfl, hs.groups]; exact hg
  have hset := (s.setQueue g q).setGrp_within g { s.grp g with words := packet 1 r none, runs := (s.grp g).runs + 1 }
  refine ⟨State.fillWords_run hlen hf hw hn hfin hq hr h64 hp, ?_, State.setGrp_groups_length _ _ _, hset.sent (by decide), ?_, ?_, hp, ?_, ?_⟩
  · exact (s.rowAlike_setQueue g g q).trans (State.rowAlike_setGrp hg hlen rfl rfl ⟨rfl, rfl, rfl, rfl, rfl⟩)
  · rw [State.grp_setGrp_same hlen]; exact hf
  · rw [State.grp_setGrp_same hlen]
  · exact (hset.queue (by decide) g).trans (State.queue_setQueue_same (by rw [hs.queues]; exact hg) q)
  · exact ((s.setQueue_within g q).widen (by decide)).trans (hset.widen (by decide))

section
variable {s : State} {g : Fin 6} (hs : s.Shape) (he : s.enabled (Reg.page 7 0) = true)
include hs

omit hs in
/-- The frame of a command that ends with a row. -/
theorem Within.rowEnded {m : List Nat} {l : List Fld} {t : State} (h : Within l (among m) s t) (hl : ∀ f ∈ l, f ∈ [Fld.regs, .hif, .sent, .plk]) :
    Within [.regs, .hif, .sent, .plk] (among m) s t.endCycle := (h.widen hl).ended (by decide)

include he in
theorem ends_fillerRow (hf : (s.grp g).frame = none) : Ends (.streamRowSend g) s fun t => t.sent = (s.beforeRow g).sent ++ [(s.beforeRow g).blocks g fun _ => fillerBlock] ∧
    (t.grp g).pos = ((s.beforeRow g).grp g).pos + 1 ∧ Within [.regs, .hif, .sent, .plk] (among [Reg.PAGE_STATUS (grpPage g)]) s t := by
  have heq : s.rowSend g = s.rowOut g fun _ => (true, fillerBlock) := by simp [State.rowSend, he, hf, State.fillerRow, State.controlRow]
  refine ends_of_done (congrArg done heq) ⟨?_, ?_, (s.rowOut_within g _).rowEnded (by decide)⟩
  · rw [State.endCycle_sent, State.rowOut_sent]
    rfl
  · rw [State.grp_endCycle, State.grp_rowOut (by rw [hs.groups]; exact g.isLt)]

include he in
/-- A row of stream words, from a state that is `s` but for the words read from the queue. -/
theorem ends_streamRow {t : State} {fr : Nat} {ls ws : List Nat} {q : List QItem} (hf : (s.grp g).frame = some fr)
    (hls : ls = (List.range 16).filter fun k => (s.rf (Reg.PLK_GRP_MASK g) 15 0).testBit k) (hne : ls ≠ []) (h : s.Filled g fr ls.length ws q t) : Ends (.streamRowSend g) s fun t =>
      t.sent = (s.beforeRow g).sent ++ [.plkRow g ((s.beforeRow g).rowWords g
        (fun k => if ls.contains k then (false, nth 0 ws ((ls.findIdx? (· == k)).getD 0)) else (true, fillerBlock)) fun _ => fillerBlock)] ∧
      (t.grp g).words = ws.drop ls.length ∧ (t.grp g).frame = some fr ∧ t.queue g = q ∧ (t.grp g).pos = ((s.beforeRow g).grp g).pos + 1 ∧
      Within [.regs, .hif, .sent, .plk, .syn] (among [Reg.PAGE_STATUS (grpPage g)]) s t := by
  have hg : g.val < s.plk.groups.length := by rw [hs.groups]; exact g.isLt
  have hgt : g.val < t.plk.groups.length := by rw [h.length]; exact hg
  have hpos : 0 < ls.length := List.length_pos_of_ne_nil hne
  obtain ⟨own, hown⟩ : ∃ own : Nat → Bool × Nat, own = fun k => if (s.rf (Reg.PLK_GRP_MASK g) 15 0).testBit k then
      (false, nth 0 (ws.take ls.length ++ List.replicate (ls.length - ws.length) padWord) ((ls.findIdx? (· == k)).getD 0)) else (true, fillerBlock) := ⟨_, rfl⟩
  have heq : s.rowSend g = (t.rowOut g own).setGrp g { (t.rowOut g own).grp g with words := ws.drop ls.length } := by
    rw [State.rowSend, if_neg (by simp [he]), if_neg (by simp [hf])]
    dsimp only
    rw [← hls, Nat.max_eq_right hpos, h.fill, h.words, if_neg (by have := h.ready; omega), hown]
  have hown' : ∀ k < 16, own k = if ls.contains k then (false, nth 0 ws ((ls.findIdx? (· == k)).getD 0)) else (true, fillerBlock) := fun k hk => by
    have hmask : ls.contains k = (s.rf (Reg.PLK_GRP_MASK g) 15 0).testBit k := by rw [hls]; exact contains_maskLanes _ k hk
    rw [hown, hmask]
    dsimp only
    by_cases hb : (s.rf (Reg.PLK_GRP_MASK g) 15 0).testBit k = true
    · rw [if_pos hb, if_pos hb, nth_ready (List.contains_iff_mem.mp (hmask.trans hb)) h.ready]
    · rw [if_neg hb, if_neg hb]
  have hbefore := h.alike.beforeRow g.isLt hg hgt
  have hset := (t.rowOut g own).setGrp_within g { (t.rowOut g own).grp g with words := ws.drop ls.length }
  have hgrp : ((t.rowOut g own).setGrp g { (t.rowOut g own).grp g with words := ws.drop ls.length }).grp g =
      { (t.beforeRow g).grp g with pos := ((t.beforeRow g).grp g).pos + 1, words := ws.drop ls.length } := by
    rw [State.grp_setGrp_same (by simpa using hgt), State.grp_rowOut hgt]
  refine ends_of_done (congrArg done heq) ⟨?_, ?_, ?_, ?_, ?_, ?_⟩
  · rw [State.endCycle_sent, hset.sent (by decide), State.rowOut_sent, h.alike.beforeRow_sent h.sent, hbefore.rowWords hown']
  · rw [State.grp_endCycle, hgrp]
  · rw [State.grp_endCycle, hgrp]
    exact (State.frame_beforeRow hgt).trans h.frame
  · rw [State.queue_endCycle, hset.queue (by decide), (t.rowOut_within g own).queue (by decide), h.queue]
  · rw [State.grp_endCycle, hgrp, hbefore.pos]
  · exact (((h.within.widen (by decide)).trans ((t.rowOut_within g own).widen (by decide))).trans (hset.widen (by decide))).ended (by decide)

omit hs in
/-- The reserved position sent by a command of its own. -/
theorem ends_reserved {c : Instr} (hc : exec c s = done (s.reserved g)) (hg : g.val < s.plk.groups.length) : Ends c s fun t =>
    t.sent = s.sent ++ [.plkRow g (s.rowWords g ((s.grp g).reservedOwn g) ((s.grp g).reservedTrain g))] ∧ t.grp g = (s.grp g).afterReserved ∧
      Within [.regs, .hif, .sent, .plk] (among [Reg.PAGE_STATUS (grpPage g)]) s t :=
  ends_of_done hc ⟨s.reserved_sent g, State.grp_reserved hg, (s.reserved_within g).rowEnded (by decide)⟩

include he in
theorem ends_alignSend (hp : (s.grp g).pos = 127) (h0 : (s.grp g).slot = 0) : Ends (.alignSend g) s fun t =>
    t.sent = s.sent ++ [.plkRow g (s.rowWords g (fun k => (true, controlBlock 0x2D (laneBits g k + (s.grp g).align * 256)))
      fun k => controlBlock 0x2D (laneBits g k + (s.grp g).align * 256))] ∧ (t.grp g).align = ((s.grp g).align + 1) % 65536 ∧
    (t.grp g).pos = 0 ∧ (t.grp g).slot = 1 ∧ Within [.regs, .hif, .sent, .plk] (among [Reg.PAGE_STATUS (grpPage g)]) s t := by
  obtain ⟨t, ht, hsent, hgrp, hw⟩ := ends_reserved (c := .alignSend g) (congrArg done (if_pos ⟨he, hp, h0⟩)) (by rw [hs.groups]; exact g.isLt)
  have hown : (s.grp g).reservedOwn g = fun k => (true, controlBlock 0x2D (laneBits g k + (s.grp g).align * 256)) := funext fun _ => if_pos h0
  have htrain : (s.grp g).reservedTrain g = fun k => controlBlock 0x2D (laneBits g k + (s.grp g).align * 256) := funext fun _ => if_pos h0
  have hafter : (s.grp g).afterReserved.align = ((s.grp g).align + 1) % 65536 := by rw [Grp.afterReserved, if_pos h0]
  obtain ⟨hpos, hslot⟩ := (s.grp g).afterReserved_pos
  exact ⟨t, ht, by rw [hsent, hown, htrain], by rw [hgrp, hafter], by rw [hgrp, hpos], by rw [hgrp, hslot, h0], hw⟩

include he in
theorem ends_commandCopy {c k : Nat} {rest : List (Nat × Nat)} (hc : (s.grp g).cmds = (c, k) :: rest) (hp : (s.grp g).pos = 127)
    (hfits : (s.grp g).commandFits = true) : Ends (.commandCopySend g) s fun t =>
      t.sent = s.sent ++ [s.blocks g fun _ => controlBlock 0x66 c] ∧ (t.grp g).cmds = (if k ≤ 1 then rest else (c, k - 1) :: rest) ∧
      (t.grp g).pos = 0 ∧ (t.grp g).slot = ((s.grp g).slot + 1) % 128 ∧ (t.grp g).lastCmd = true ∧
      Within [.regs, .hif, .sent, .plk] (among [Reg.PAGE_STATUS (grpPage g)]) s t := by
  have h0 : (s.grp g).slot ≠ 0 := by
    simp only [Grp.commandFits, Bool.and_eq_true, decide_eq_true_eq] at hfits
    exact hfits.2.1
  obtain ⟨t, ht, hsent, hgrp, hw⟩ := ends_reserved (c := .commandCopySend g) (congrArg done (if_pos ⟨he, hp, hfits, by simp [hc]⟩)) (by rw [hs.groups]; exact g.isLt)
  have hown : (s.grp g).reservedOwn g = fun _ => (true, controlBlock 0x66 c) := funext fun k => by rw [Grp.reservedOwn, if_neg h0, hfits, hc]
  have htrain : (s.grp g).reservedTrain g = fun _ => fillerBlock := funext fun _ => if_neg h0
  have hafter : (s.grp g).afterReserved.cmds = (if k ≤ 1 then rest else (c, k - 1) :: rest) ∧ (s.grp g).afterReserved.lastCmd = true := by
    rw [Grp.afterReserved, if_neg h0, hfits, hc]
    exact ⟨rfl, rfl⟩
  obtain ⟨hpos, hslot⟩ := (s.grp g).afterReserved_pos
  exact ⟨t, ht, by rw [hsent, hown, htrain, State.blocks], by rw [hgrp, hafter.1], by rw [hgrp, hpos], by rw [hgrp, hslot], by rw [hgrp, hafter.2], hw⟩

include he in
theorem ends_groupEnd {n : Nat} {h : Bool} (hf : (s.grp g).frame = some n) (hfin : (s.grp g).fin = true) (hw : (s.grp g).words = [])
    (hh : h = ((s.grp g).hold || s.grpMode g == 2)) : Ends (.groupEndSend g) s fun t =>
      t.sent = (s.beforeRow g).sent ++
        [(s.beforeRow g).blocks g fun k => controlBlock 0x87 (laneBits g k + b2n h * 128 + n % 65536 * 256 + (s.grp g).runs % 2 ^ 24 * 2 ^ 24)] ∧
      (t.grp g).frame = none ∧ t.rf (Reg.PLK_GRP_RUNS g) 23 0 = (s.grp g).runs % 2 ^ 24 ∧ t.queue g = s.queue g ∧
      t.rn (Reg.PLK_GRP_HELD g) = min (2 ^ 32 - 1) (s.rn (Reg.PLK_GRP_HELD g) + b2n h) ∧
      Within [.regs, .hif, .sent, .plk] (among [Reg.PLK_GRP_HELD g, Reg.PLK_GRP_RUNS g, Reg.PAGE_STATUS (grpPage g)]) s t := by
  have heq : s.groupEnd g = s.sendEnd g h := by
    rw [State.groupEnd, if_neg (by simp [he]), State.fillWords_ready (.inr hfin)]
    dsimp only
    rw [if_pos ⟨by simp [hf], hfin, by simp [hw]⟩, hh]
  have hend := State.ended_sendEnd (by rw [hs.groups]; exact g.isLt) he hf h
  exact ends_of_done (congrArg done heq) ⟨hend.sent, by rw [State.grp_endCycle, hend.grp]; rfl, hend.runs, hend.within.queue (by decide) g, hend.held,
    hend.within.rowEnded (by decide)⟩

include he in
theorem ends_groupEnd_lost {n m : Nat} (hf : (s.grp g).frame = some n) (hfin : (s.grp g).fin = false) (hw : (s.grp g).words = [])
    (hq : takeItem n (s.queue g) = some (.lost m, [])) : Ends (.groupEndSend g) s fun t =>
      (t.grp g).hold = true ∧ (t.grp g).frame = some n ∧ t.queue g = [] ∧ t.sent = s.sent ∧
      Within [.regs, .hif, .plk, .syn] (among [Reg.PAGE_STATUS (grpPage g)]) s t := by
  have hg : g.val < s.plk.groups.length := by rw [hs.groups]; exact g.isLt
  have hqs : g.val < s.syn.queues.length := by rw [hs.queues]; exact g.isLt
  have hgrp := State.grp_setGrp_same (s := s.setQueue g []) hg { s.grp g with hold := true }
  have heq : s.groupEnd g = (s.setQueue g []).setGrp g { s.grp g with hold := true } := by
    rw [State.groupEnd, if_neg (by simp [he]), State.fillWords_lost hg hqs hf hw (by decide) hfin hq]
    dsimp only
    rw [hgrp, if_neg (by simp [hfin])]
  have hset := (s.setQueue g []).setGrp_within g { s.grp g with hold := true }
  refine ends_of_done (congrArg done heq) ⟨?_, ?_, ?_, hset.sent (by decide), ?_⟩
  · rw [State.grp_endCycle, hgrp]
  · rw [State.grp_endCycle, hgrp]; exact hf
  · exact (hset.queue (by decide) g).trans (State.queue_setQueue_same hqs [])
  · exact (((s.setQueue_within g []).widen (by decide)).trans (hset.widen (by decide))).ended (by decide)

end

/-- Settles O36, command by command. -/
theorem rowsAreSent : Obligations.RowsAreSent := by
  unfold Obligations.RowsAreSent
  intro g s hs he
  refine ⟨ends_fillerRow hs he, fun fr ls ws q hf hls hne hready => ?_, ends_alignSend hs he, fun hno => ?_, fun c k rest => ends_commandCopy hs he, fun hno => ?_,
    fun n h => ends_groupEnd hs he, fun n m => ends_groupEnd_lost hs he⟩
  · rcases hready with ⟨hn, rfl, rfl⟩ | ⟨r, hw, hfin, hq, hr, h64, rfl, hp⟩
    · exact ends_streamRow hs he hf hls hne (State.filled_self hf hn)
    · exact ends_streamRow hs he hf hls hne (State.filled_run hs g.isLt hf hw (List.length_pos_of_ne_nil hne) hfin hq hr h64 hp)
  · exact ends_of_done (t := s) (congrArg done (if_neg fun h => hno h.2)) ((Within.refl s).ended (by decide))
  · have hnot : ¬(s.enabled (Reg.page 7 0) = true ∧ (s.grp g).pos = 127 ∧ (s.grp g).commandFits = true ∧ (!(s.grp g).cmds.isEmpty) = true) := by
      rintro ⟨-, hp, hfits, hc⟩
      rcases hno with h | h | h
      · simp [h] at hc
      · exact h hp
      · rw [hfits] at h; exact absurd h (by decide)
    exact ends_of_done (t := s) (congrArg done (if_neg hnot)) ((Within.refl s).ended (by decide))

end Sys2Proof.Machine

/-! ## Roles, stages and states of lanes (R156, R169, R175, R178) -/
namespace Sys2Proof.Machine

/-! ### The registers of a group -/

/-- Where the registers lie that a group's bring-up and lanes write. -/
theorem grpReg_cases {g a : Nat} (h : grpReg g a = true) : a = Reg.PLK_UP ∨
    a / 0x1000 = 0x701 + g ∧ (a % 0x1000 = 0x10 ∨ a % 0x1000 = 0x34 ∨ a % 0x1000 = 0x48 ∨ a % 0x1000 = 0x4C) ∨
    0x708 + 16 * g ≤ a / 0x1000 ∧ a / 0x1000 < 0x718 + 16 * g ∧ (a % 0x1000 = 0x10 ∨ a % 0x1000 = 0x44) := by
  rcases Bool.or_eq_true_iff.mp h with h | h
  · have hm := mem_of_among h
    simp only [List.mem_cons, List.not_mem_nil, or_false, Reg.PLK_GRP_STATUS, Reg.PLK_GRP_MASK, Reg.PLK_UP, Reg.PAGE_STATUS, Reg.SEQ, grpPage, Reg.page] at hm ⊢
    omega
  · obtain ⟨k, hk, ha⟩ := List.any_eq_true.mp h
    have hk := List.mem_range.mp hk
    have hm := mem_of_among ha
    simp only [List.mem_cons, List.not_mem_nil, or_false, Reg.PLK_LANE_STATUS, Reg.PAGE_STATUS, lanePage, Reg.page, Reg.PLK_UP] at hm ⊢
    omega

/-- Registers of the link that neither events nor a group's roles and stages write, by their place in their page. -/
theorem grpReg_eq_false {g a : Nat} (hup : a ≠ Reg.PLK_UP) (h10 : a % 0x1000 ≠ 0x10) (h34 : a % 0x1000 ≠ 0x34) (h44 : a % 0x1000 ≠ 0x44)
    (h48 : a % 0x1000 ≠ 0x48 ∨ 0x708 ≤ a / 0x1000) (h4C : a % 0x1000 ≠ 0x4C ∨ 0x708 ≤ a / 0x1000 ∨ a / 0x1000 = 0x700) (hg : g < 6) : grpReg g a = false := by
  refine Bool.eq_false_iff.mpr fun h => ?_
  rcases grpReg_cases h with h | h | h <;> omega

theorem grpReg_grp (g : Nat) {a : Nat} (h : a ∈ [Reg.PLK_GRP_STATUS g, Reg.PLK_GRP_MASK g, Reg.PLK_UP, Reg.PAGE_STATUS (grpPage g), Reg.SEQ (grpPage g)]) : grpReg g a = true := by
  rw [grpReg, among_of_mem h, Bool.true_or]

theorem grpReg_lane {g l a : Nat} (hl : l / 16 = g) (h : a ∈ [Reg.PLK_LANE_STATUS l, Reg.PAGE_STATUS (lanePage l)]) : grpReg g a = true := by
  rw [grpReg, Bool.or_eq_true_iff]
  refine .inr (List.any_eq_true.mpr ⟨l % 16, List.mem_range.mpr (Nat.mod_lt _ (by decide)), ?_⟩)
  rw [show 16 * g + l % 16 = l by omega]
  exact among_of_mem h

/-- Lane `k` of a group whose map names a lane of its own. -/
theorem State.phys_group {s : State} {g k : Nat} (h : nth 0 (s.grp g).map k < 16) : s.phys g k / 16 = g ∧ (g < 6 → s.phys g k < 96) := by
  simp only [State.phys]
  omega

/-! ### Roles (R156) -/

section
variable (s : State) (l r : Nat)

theorem State.setRole_within : Within [.regs] (among [Reg.PLK_LANE_STATUS l, Reg.PLK_GRP_STATUS (l / 16), Reg.PLK_GRP_MASK (l / 16)]) s (s.setRole l r) :=
  (((s.wf_within _ _ _ _).one (by decide) (by simp)).trans ((State.wf_within _ _ _ _ _).one (by decide) (by simp))).trans
    ((State.wf_within _ _ _ _ _).one (by decide) (by simp))

/-- HEALTHY and STANDIN do not touch a lane's own status. -/
theorem State.grpHealth_within (g : Nat) : Within [.regs] (among [Reg.PLK_GRP_STATUS g, Reg.PLK_GRP_MASK g]) s (s.grpHealth g) :=
  ((s.wf_within _ _ _ _).one (by decide) (by simp)).trans ((State.wf_within _ _ _ _ _).one (by decide) (by simp))

theorem laneStatus_apart (g m : Nat) : among [Reg.PLK_GRP_STATUS g, Reg.PLK_GRP_MASK g] (Reg.PLK_LANE_STATUS m) = false := by
  refine among_eq_false ?_
  simp only [List.forall_mem_cons, List.mem_singleton, forall_eq, Reg.PLK_GRP_STATUS, Reg.PLK_GRP_MASK, Reg.PLK_LANE_STATUS]
  omega

theorem State.rf_setRole_lane (m hi lo : Nat) : (s.setRole l r).rf (Reg.PLK_LANE_STATUS m) hi lo = (s.wf (Reg.PLK_LANE_STATUS l) 1 0 r).rf (Reg.PLK_LANE_STATUS m) hi lo :=
  (State.grpHealth_within _ _).rf (laneStatus_apart _ _) hi lo

theorem State.role_setRole {r : Nat} (hr : r < 4) : (s.setRole l r).role l = r := by
  rw [State.role, State.rf_setRole_lane, State.rf_wf_same _ _ (by decide) (by decide)]
  exact Nat.mod_eq_of_lt hr

theorem State.role_setRole_other {m : Nat} (h : m ≠ l) : (s.setRole l r).role m = s.role m := by
  rw [State.role, State.rf_setRole_lane, (s.wf_within _ _ _ _).rf (by simp only [Reg.PLK_LANE_STATUS, beq_eq_false_iff_ne]; omega), State.role]

/-- The report in a lane's status stands. -/
theorem State.rf_setRole_report (m : Nat) {hi lo : Nat} (hl : lo ≤ hi) (h2 : 2 ≤ lo) : (s.setRole l r).rf (Reg.PLK_LANE_STATUS m) hi lo = s.rf (Reg.PLK_LANE_STATUS m) hi lo := by
  rw [State.rf_setRole_lane]
  by_cases h : m = l
  · rw [h, State.rf_wf_other _ _ (by decide) (by decide) hl (by omega)]
  · exact (s.wf_within _ _ _ _).rf (by simp only [Reg.PLK_LANE_STATUS, beq_eq_false_iff_ne]; omega) hi lo

/-- The group's own fields outside HEALTHY, and its data mask, stand. -/
theorem State.setRole_status (g : Nat) {hi lo : Nat} (hl : lo ≤ hi) (hh : hi < 15 ∨ 19 < lo) : (s.setRole l r).rf (Reg.PLK_GRP_STATUS g) hi lo = s.rf (Reg.PLK_GRP_STATUS g) hi lo := by
  have hmask : Reg.PLK_GRP_STATUS g ≠ Reg.PLK_GRP_MASK (l / 16) := by simp only [Reg.PLK_GRP_STATUS, Reg.PLK_GRP_MASK]; omega
  have hlane : Reg.PLK_GRP_STATUS g ≠ Reg.PLK_LANE_STATUS l := by simp only [Reg.PLK_GRP_STATUS, Reg.PLK_LANE_STATUS]; omega
  rw [State.setRole, State.grpHealth, (State.wf_within _ _ _ _ _).rf (beq_eq_false_iff_ne.mpr hmask)]
  rw [← (s.wf_within (Reg.PLK_LANE_STATUS l) 1 0 r).rf (beq_eq_false_iff_ne.mpr hlane)]
  by_cases h : g = l / 16
  · rw [h, State.rf_wf_other _ _ (by decide) (by decide) hl (by omega)]
  · exact (State.wf_within _ _ _ _ _).rf (by simp only [Reg.PLK_GRP_STATUS, beq_eq_false_iff_ne]; omega) hi lo

theorem State.setRole_mask (g : Nat) : (s.setRole l r).rf (Reg.PLK_GRP_MASK g) 15 0 = s.rf (Reg.PLK_GRP_MASK g) 15 0 := by
  have hstatus : Reg.PLK_GRP_MASK g ≠ Reg.PLK_GRP_STATUS (l / 16) := by simp only [Reg.PLK_GRP_STATUS, Reg.PLK_GRP_MASK]; omega
  have hlane : Reg.PLK_GRP_MASK g ≠ Reg.PLK_LANE_STATUS l := by simp only [Reg.PLK_GRP_MASK, Reg.PLK_LANE_STATUS]; omega
  rw [← (s.wf_within (Reg.PLK_LANE_STATUS l) 1 0 r).rf (beq_eq_false_iff_ne.mpr hlane), State.setRole, State.grpHealth]
  rw [← (State.wf_within (s.wf (Reg.PLK_LANE_STATUS l) 1 0 r) (Reg.PLK_GRP_STATUS (l / 16)) 19 15 _).rf (beq_eq_false_iff_ne.mpr hstatus)]
  by_cases h : g = l / 16
  · rw [h, State.rf_wf_other _ _ (by decide) (by decide) (by decide) (by omega)]
  · exact (State.wf_within _ _ _ _ _).rf (by simp only [Reg.PLK_GRP_MASK, beq_eq_false_iff_ne]; omega) 15 0

end

/-! ### STATE of a lane (R180) -/

section
variable (s : State) {l : Nat}

theorem evtReg_laneStatus (hl : l < 96) : evtReg (Reg.PAGE_STATUS (lanePage l)) = false := by
  apply evtReg_plk <;> simp only [Reg.PAGE_STATUS, lanePage, Reg.page] <;> omega

theorem State.laneState_within (l v : Nat) : Within evtFields (fun a => evtReg a || a == Reg.PAGE_STATUS (lanePage l)) s (s.laneState l v) := s.toState_within _ _ _

theorem State.pgState_laneState (hl : l < 96) {v : Nat} (hv : v < 8) : (s.laneState l v).pgState (lanePage l) = v := s.pgState_toState hv (evtReg_laneStatus hl) _

theorem State.rd_laneState (v : Nat) {a : Nat} (he : evtReg a = false) (ha : a ≠ Reg.PAGE_STATUS (lanePage l)) : (s.laneState l v).rd a = s.rd a :=
  s.rd_toState _ v _ he ha

theorem laneStatus_ne {l m : Nat} (h : m ≠ l) : Reg.PAGE_STATUS (lanePage m) ≠ Reg.PAGE_STATUS (lanePage l) := by
  simp only [Reg.PAGE_STATUS, lanePage, Reg.page]
  omega

theorem State.pgState_laneState_other {m : Nat} (hm : m < 96) (h : m ≠ l) (v : Nat) : (s.laneState l v).pgState (lanePage m) = s.pgState (lanePage m) :=
  congrArg (fld · 2 0) (s.rd_laneState v (evtReg_laneStatus hm) (laneStatus_ne h))

theorem State.rf_laneState_lane {m : Nat} (hm : m < 96) (v hi lo : Nat) : (s.laneState l v).rf (Reg.PLK_LANE_STATUS m) hi lo = s.rf (Reg.PLK_LANE_STATUS m) hi lo := by
  refine congrArg (fld · hi lo) (s.rd_laneState v ?_ ?_)
  · apply evtReg_plk <;> simp only [Reg.PLK_LANE_STATUS] <;> omega
  · simp only [Reg.PLK_LANE_STATUS, Reg.PAGE_STATUS, lanePage, Reg.page]; omega

/-- A lane takes a role with a state: its own role changes, no other. -/
theorem State.role_taken {m r : Nat} (hm : m < 96) (hr : r < 4) (v : Nat) : ((s.setRole l r).laneState l v).role m = if m = l then r else s.role m := by
  rw [State.role, State.rf_laneState_lane _ hm]
  split
  · next h => rw [h]; exact s.role_setRole l hr
  · next h => exact s.role_setRole_other l r h

theorem State.state_taken {m v : Nat} (hm : m < 96) (hv : v < 8) (r : Nat) :
    ((s.setRole l r).laneState l v).pgState (lanePage m) = if m = l then v else s.pgState (lanePage m) := by
  split
  · next h => rw [← h]; exact State.pgState_laneState _ hm hv
  · next h =>
    rw [State.pgState_laneState_other _ hm h]
    refine (s.setRole_within l r).rf (among_eq_false ?_) 2 0
    simp only [List.forall_mem_cons, List.mem_singleton, forall_eq, Reg.PLK_LANE_STATUS, Reg.PLK_GRP_STATUS, Reg.PLK_GRP_MASK, Reg.PAGE_STATUS, lanePage, Reg.page]
    omega

end

/-! ### Steps on the lanes of a group -/

/-- `t` is `s` after steps on the roles and lanes of group `g` that leave its stage, its mask and MODE alone. -/
structure State.RoleStep (g : Nat) (s t : State) : Prop where
  within : Within (.plk :: evtFields) (fun a => evtReg a || grpReg g a) s t
  status : ∀ hi lo, lo ≤ hi → hi < 15 ∨ 19 < lo → t.rf (Reg.PLK_GRP_STATUS g) hi lo = s.rf (Reg.PLK_GRP_STATUS g) hi lo
  mask : t.rf (Reg.PLK_GRP_MASK g) 15 0 = s.rf (Reg.PLK_GRP_MASK g) 15 0
  groups : t.plk.groups.length = s.plk.groups.length
  lanes : t.plk.lanes.length = s.plk.lanes.length
  eqDone : t.plk.eqDone = s.plk.eqDone

section
variable {g : Nat} {s t u : State}

theorem State.RoleStep.refl (g : Nat) (s : State) : s.RoleStep g s := ⟨.refl s, fun _ _ _ _ => rfl, rfl, rfl, rfl, rfl⟩

theorem State.RoleStep.trans (h : s.RoleStep g t) (k : t.RoleStep g u) : s.RoleStep g u :=
  ⟨h.within.trans k.within, fun hi lo hl hh => (k.status hi lo hl hh).trans (h.status hi lo hl hh), k.mask.trans h.mask, k.groups.trans h.groups,
    k.lanes.trans h.lanes, k.eqDone.trans h.eqDone⟩

theorem State.RoleStep.stage (h : s.RoleStep g t) : t.stage g = s.stage g := h.status 3 0 (by decide) (by decide)

/-- A step that does not touch the link's state nor the group's STATUS and MASK. -/
theorem State.RoleStep.of_regs {l : List Fld} (h : Within l (fun a => evtReg a || grpReg g a) s t) (hl : ∀ f ∈ l, f ∈ evtFields)
    (hs : t.rd (Reg.PLK_GRP_STATUS g) = s.rd (Reg.PLK_GRP_STATUS g)) (hm : t.rd (Reg.PLK_GRP_MASK g) = s.rd (Reg.PLK_GRP_MASK g)) : s.RoleStep g t := by
  have hplk : t.plk = s.plk := h.plk fun hf => absurd (hl _ hf) (by decide)
  exact ⟨h.widen fun f hf => List.mem_cons_of_mem _ (hl f hf), fun hi lo _ _ => congrArg (fld · hi lo) hs, congrArg (fld · 15 0) hm, by rw [hplk], by rw [hplk],
    by rw [hplk]⟩

theorem State.roleStep_setRole (s : State) {l : Nat} (r : Nat) (hl : l / 16 = g) : s.RoleStep g (s.setRole l r) := by
  have hw := s.setRole_within l r
  have hplk := hw.plk (by decide)
  refine ⟨hw.mono (by decide) fun a ha => ?_, fun hi lo hl hh => s.setRole_status l r g hl hh, s.setRole_mask l r g, by rw [hplk], by rw [hplk], by rw [hplk]⟩
  have ha := mem_of_among ha
  rw [hl] at ha
  rw [Bool.or_eq_true_iff]
  rcases List.mem_cons.mp ha with rfl | ha
  · exact .inr (grpReg_lane hl (by simp))
  · exact .inr (grpReg_grp g (List.mem_append_left [Reg.PLK_UP, Reg.PAGE_STATUS (grpPage g), Reg.SEQ (grpPage g)] ha))

theorem evtReg_grp (hg : g < 6) : evtReg (Reg.PLK_GRP_STATUS g) = false ∧ evtReg (Reg.PLK_GRP_MASK g) = false := by
  constructor <;> apply evtReg_plk <;> simp only [Reg.PLK_GRP_STATUS, Reg.PLK_GRP_MASK] <;> omega

theorem State.roleStep_laneState (s : State) {l : Nat} (v : Nat) (hg : g < 6) (hl : l / 16 = g) : s.RoleStep g (s.laneState l v) := by
  have hw := s.laneState_within l v
  refine .of_regs (hw.regs_mono fun a ha => ?_) (fun f hf => hf) (s.rd_laneState v (evtReg_grp hg).1 ?_) (s.rd_laneState v (evtReg_grp hg).2 ?_)
  · rcases Bool.or_eq_true_iff.mp ha with ha | ha
    · rw [ha, Bool.true_or]
    · rw [beq_iff_eq.mp ha, grpReg_lane hl (by simp), Bool.or_true]
  · simp only [Reg.PLK_GRP_STATUS, Reg.PAGE_STATUS, lanePage, Reg.page]; omega
  · simp only [Reg.PLK_GRP_MASK, Reg.PAGE_STATUS, lanePage, Reg.page]; omega

theorem State.roleStep_laneStatus (s : State) {l : Nat} (hi lo v : Nat) (hl : l / 16 = g) : s.RoleStep g (s.wf (Reg.PLK_LANE_STATUS l) hi lo v) := by
  have hw := s.wf_within (Reg.PLK_LANE_STATUS l) hi lo v
  refine .of_regs (hw.regs_mono fun a ha => ?_) (by decide) (hw.rd ?_) (hw.rd ?_)
  · rw [beq_iff_eq.mp ha, grpReg_lane hl (by simp), Bool.or_true]
  · simp only [beq_eq_false_iff_ne, Reg.PLK_GRP_STATUS, Reg.PLK_LANE_STATUS]; omega
  · simp only [beq_eq_false_iff_ne, Reg.PLK_GRP_MASK, Reg.PLK_LANE_STATUS]; omega

theorem State.roleStep_setLane (s : State) (l : Nat) (v : Lane) : s.RoleStep g (s.setLane l v) :=
  ⟨(s.setLane_within l v).widen (by decide), fun _ _ _ _ => rfl, rfl, rfl, s.setLane_lanes_length l v, rfl⟩

theorem State.roleStep_setGrp (s : State) (v : Grp) : s.RoleStep g (s.setGrp g v) := by
  have hw := s.setGrp_within g v
  have hkeep : ∀ a, a % 0x1000 ≠ 0x10 → among [Reg.PAGE_STATUS (grpPage g)] a = false := fun a ha => among_eq_false (by
    simp only [List.mem_singleton, forall_eq, Reg.PAGE_STATUS, grpPage, Reg.page]; omega)
  refine ⟨hw.mono (by decide) fun a ha => ?_, fun hi lo _ _ => hw.rf (hkeep _ ?_) hi lo, hw.rf (hkeep _ ?_) 15 0, s.setGrp_groups_length g v, by rw [State.setGrp_plk],
    by rw [State.setGrp_plk]⟩
  · rw [List.mem_singleton.mp (mem_of_among ha), grpReg_grp g (by simp), Bool.or_true]
  · simp only [Reg.PLK_GRP_STATUS]; omega
  · simp only [Reg.PLK_GRP_MASK]; omega

end

/-! ### The stage (R169) -/

section
variable (s : State) {g v : Nat} (hg : g < 6) (hv : v < 16)
include hg hv

/-- What a change of stage does. -/
theorem State.setStage_spec : (s.setStage g v).stage g = v ∧ (s.stage g ≠ v → (s.setStage g v).rb Reg.PLK_UP g = (v == stageData)) ∧
    (∀ hi lo, lo ≤ hi → 3 < lo → (s.setStage g v).rf (Reg.PLK_GRP_STATUS g) hi lo = s.rf (Reg.PLK_GRP_STATUS g) hi lo) ∧
    Within evtFields (fun a => evtReg a || among [Reg.PLK_GRP_STATUS g, Reg.PLK_UP] a) s (s.setStage g v) := by
  by_cases h : s.stage g = v
  · rw [State.setStage, if_pos h]
    exact ⟨h, fun hn => absurd h hn, fun _ _ _ _ => rfl, .refl s⟩
  obtain ⟨u, hu⟩ : ∃ u, u = (s.wf (Reg.PLK_GRP_STATUS g) 3 0 v).wb Reg.PLK_UP g (v == stageData) := ⟨_, rfl⟩
  have heq : s.setStage g v = (u.evt (736 + 8 * g)).when (v == stageData) fun s => s.evt (737 + 8 * g) := by rw [State.setStage, if_neg h, hu]
  have hev : Within evtFields evtReg u (s.setStage g v) := by
    rw [heq]
    exact (u.evt_within _).trans (State.when_within _ (State.evt_within _ _))
  have hup : evtReg Reg.PLK_UP = false := by decide
  have hfirst : Within [.regs] (among [Reg.PLK_GRP_STATUS g, Reg.PLK_UP]) s u := by
    rw [hu]
    exact ((s.wf_within _ _ _ _).one (by decide) (by simp)).trans ((State.wb_within _ _ _ _).one (by decide) (by simp))
  have hstatus : ∀ hi lo, (s.setStage g v).rf (Reg.PLK_GRP_STATUS g) hi lo = (s.wf (Reg.PLK_GRP_STATUS g) 3 0 v).rf (Reg.PLK_GRP_STATUS g) hi lo := fun hi lo => by
    rw [hev.rf (evtReg_grp hg).1, hu]
    exact (State.wb_within _ _ _ _).rf (by simp only [beq_eq_false_iff_ne, Reg.PLK_GRP_STATUS, Reg.PLK_UP]; omega) hi lo
  refine ⟨?_, fun _ => ?_, fun hi lo hl hh => ?_, (hfirst.mono (by decide) (by simp +contextual)).trans (hev.regs_mono (by simp +contextual))⟩
  · rw [State.stage, hstatus, State.rf_wf_same _ _ (by decide) (by decide)]
    exact Nat.mod_eq_of_lt hv
  · rw [hev.rb hup, hu, State.rb_wb_same _ _ (by omega), if_pos rfl]
  · rw [hstatus, State.rf_wf_other _ _ (by decide) (by decide) hl (by omega)]

/-- A bring-up that fails in stage `v`. -/
theorem State.bringupFail_spec : (s.bringupFail g v).stage g = stageFailed ∧ (s.bringupFail g v).rf (Reg.PLK_GRP_STATUS g) 23 20 = v ∧
    Within evtFields (fun a => evtReg a || among [Reg.PLK_GRP_STATUS g, Reg.PLK_UP] a) s (s.bringupFail g v) := by
  obtain ⟨hstage, -, hstatus, hw⟩ := (s.wf (Reg.PLK_GRP_STATUS g) 23 20 v).setStage_spec hg (v := stageFailed) (by decide)
  refine ⟨hstage, (hstatus 23 20 (by decide) (by decide)).trans ((State.rf_wf_same _ _ (by decide) (by decide) _).trans (Nat.mod_eq_of_lt hv)), ?_⟩
  exact ((s.wf_within _ _ _ _).mono (by decide) fun a ha => by simp [among, beq_iff_eq.mp ha]).trans hw

end

/-- A change of stage, among the registers of the group. -/
theorem Within.stageReg {g : Nat} {s t : State} (h : Within evtFields (fun a => evtReg a || among [Reg.PLK_GRP_STATUS g, Reg.PLK_UP] a) s t) :
    Within (.plk :: evtFields) (fun a => evtReg a || grpReg g a) s t :=
  have hsub : [Reg.PLK_GRP_STATUS g, Reg.PLK_UP] ⊆ [Reg.PLK_GRP_STATUS g, Reg.PLK_GRP_MASK g, Reg.PLK_UP, Reg.PAGE_STATUS (grpPage g), Reg.SEQ (grpPage g)] := by simp
  h.mono (fun f hf => List.mem_cons_of_mem _ hf) fun a ha => Bool.or_eq_true_iff.mpr <| (Bool.or_eq_true_iff.mp ha).imp id fun ha =>
    grpReg_grp g (hsub (mem_of_among ha))

end Sys2Proof.Machine

/-! ## Bring-up (R169, R170) -/
namespace Sys2Proof.Machine

theorem evtReg_lane {l o : Nat} (hl : l < 96) (ho : o < 0x1000) (h : o ≠ 0x1C) : evtReg (0x708000 + 0x1000 * l + o) = false := by
  apply evtReg_plk <;> omega

/-! ### What bring-up reads and does not change -/

section
variable {g : Nat} {s t : State} (hg : g < 6) (h : Within (.plk :: evtFields) (fun a => evtReg a || grpReg g a) s t)
include hg h

omit hg in
theorem Within.grpKeeps {a : Nat} (hl : 0x700000 ≤ a) (hu : a < 0x800000) (he : a % 0x1000 ≠ 0x1C) (ha : grpReg g a = false) : t.rd a = s.rd a :=
  h.rd (by rw [evtReg_plk hl hu he, ha]; rfl)

theorem Within.bcStatus (m : Nat) (hm : m < 6) : t.rd (Reg.PLK_GRP_BC_STATUS m) = s.rd (Reg.PLK_GRP_BC_STATUS m) := by
  refine h.grpKeeps ?_ ?_ ?_ (grpReg_eq_false ?_ ?_ ?_ ?_ ?_ ?_ hg) <;> simp only [Reg.PLK_GRP_BC_STATUS, Reg.PLK_UP] <;> omega

theorem Within.grpCtrl (m : Nat) (hm : m < 6) : t.rd (Reg.PLK_GRP_CTRL m) = s.rd (Reg.PLK_GRP_CTRL m) := by
  refine h.rd (Bool.or_eq_false_iff.mpr ⟨by apply evtReg_plk <;> simp only [Reg.PLK_GRP_CTRL] <;> omega, Bool.eq_false_iff.mpr fun hr => ?_⟩)
  have := grpReg_cases hr
  simp only [Reg.PLK_GRP_CTRL, Reg.PLK_UP] at this
  omega

theorem Within.laneCtrl {l : Nat} (hl : l < 96) : t.rd (Reg.PAGE_CTRL (lanePage l)) = s.rd (Reg.PAGE_CTRL (lanePage l)) := by
  refine h.grpKeeps ?_ ?_ ?_ (grpReg_eq_false ?_ ?_ ?_ ?_ ?_ ?_ hg) <;> simp only [Reg.PAGE_CTRL, lanePage, Reg.page, Reg.PLK_UP] <;> omega

theorem Within.gateMisc : t.rd Reg.PWR_GATE_MISC = s.rd Reg.PWR_GATE_MISC := by
  refine h.rd (Bool.or_eq_false_iff.mpr ⟨by decide, Bool.eq_false_iff.mpr fun hr => ?_⟩)
  have := grpReg_cases hr
  simp only [Reg.PWR_GATE_MISC, Reg.PLK_UP] at this
  omega

end

/-- A lane's register outside its STATE and role. -/
theorem State.RoleStep.laneTakes {g l : Nat} {s t : State} (h : s.RoleStep g t) (hg : g < 6) (hl : l < 96) : t.laneTakes l = s.laneTakes l := by
  have henabled : t.enabled (lanePage l) = s.enabled (lanePage l) := congrArg (bit · 0) (h.within.laneCtrl hg hl)
  have hgate : ∀ i, t.rb Reg.PWR_GATE_MISC i = s.rb Reg.PWR_GATE_MISC i := fun i => congrArg (bit · i) (h.within.gateMisc hg)
  rw [State.laneTakes, henabled, h.eqDone, hgate, State.laneTakes]

/-! ### Lanes that fail a stage (R169) -/

/-- What the failing of the logical lanes `bad` changes. -/
structure State.LanesFailed (g : Nat) (bad : List Nat) (s t : State) : Prop where
  step : s.RoleStep g t
  grp : t.grp g = { s.grp g with taking := (s.grp g).taking.filter fun j => !bad.contains j }
  out : ∀ k ∈ bad, t.role (s.phys g k) = roleFenced ∧ t.pgState (lanePage (s.phys g k)) = stFenced
  kept : ∀ m < 96, m ∉ bad.map (s.phys g) → t.role m = s.role m ∧ t.pgState (lanePage m) = s.pgState (lanePage m)
  report : ∀ m < 96, t.rf (Reg.PLK_LANE_STATUS m) 31 28 = s.rf (Reg.PLK_LANE_STATUS m) 31 28
  lane : ∀ m, (t.lane m).clean = (s.lane m).clean ∧ (t.lane m).rxIn = (s.lane m).rxIn

theorem State.LanesFailed.nil (g : Nat) (s : State) : s.LanesFailed g [] s :=
  ⟨.refl g s, by simp, by simp, fun _ _ _ => ⟨rfl, rfl⟩, fun _ _ => rfl, fun _ => ⟨rfl, rfl⟩⟩

section
variable {g : Nat} {s t : State} (hg : g < 6)
include hg

theorem State.laneFails_spec {k : Nat} (hlen : g < s.plk.groups.length) (hk : nth 0 (s.grp g).map k < 16) : s.LanesFailed g [k] (s.laneFails g k) := by
  obtain ⟨hdiv, hlt⟩ := s.phys_group hk
  obtain ⟨l, hl⟩ : ∃ l, l = s.phys g k := ⟨_, rfl⟩
  rw [← hl] at hdiv hlt
  have hlt := hlt hg
  obtain ⟨a, ha⟩ : ∃ a, a = (s.setRole l roleFenced).laneState l stFenced := ⟨_, rfl⟩
  obtain ⟨b, hb⟩ : ∃ b, b = a.setLane l { a.lane l with failed := true } := ⟨_, rfl⟩
  have heq : s.laneFails g k = b.setGrp g { b.grp g with taking := (b.grp g).taking.filter (· ≠ k) } := by rw [hb, ha, hl]; rfl
  have hsa : s.RoleStep g a := by rw [ha]; exact (s.roleStep_setRole _ hdiv).trans (State.roleStep_laneState _ _ hg hdiv)
  have hab : a.RoleStep g b := by rw [hb]; exact a.roleStep_setLane _ _
  have hstep := (hsa.trans hab).trans (b.roleStep_setGrp { b.grp g with taking := (b.grp g).taking.filter (· ≠ k) })
  have hplk : a.plk = s.plk := by
    rw [ha]
    exact ((State.laneState_within _ _ _).plk (by decide)).trans ((s.setRole_within l roleFenced).plk (by decide))
  have hgrp : b.grp g = s.grp g := by rw [hb, State.grp_setLane, State.grp, hplk, State.grp]
  have hset := b.setGrp_within g { b.grp g with taking := (b.grp g).taking.filter (· ≠ k) }
  have hregs : ∀ x, Reg.PAGE_STATUS (grpPage g) ≠ x → (s.laneFails g k).rd x = a.rd x := fun x hx => by
    rw [heq, hset.rd (among_eq_false (by simpa using hx)), hb]
    rfl
  have hstatus : ∀ m, Reg.PAGE_STATUS (grpPage g) ≠ Reg.PLK_LANE_STATUS m := fun m => (grpStatus_apart hg m).2.1
  have hpage : ∀ m, Reg.PAGE_STATUS (grpPage g) ≠ Reg.PAGE_STATUS (lanePage m) := fun m => grpStatus_ne_lane hg m
  have hrole : ∀ m < 96, (s.laneFails g k).role m = if m = l then roleFenced else s.role m := fun m hm => by
    rw [State.role, State.rf, hregs _ (hstatus m), ha]
    exact s.role_taken hm (by decide) _
  have hstate : ∀ m < 96, (s.laneFails g k).pgState (lanePage m) = if m = l then stFenced else s.pgState (lanePage m) := fun m hm => by
    rw [State.pgState, State.rf, hregs _ (hpage m), ha]
    exact s.state_taken hm (by decide) _
  refine ⟨by rw [heq]; exact hstep, ?_, fun j hj => ?_, fun m hm hne => ?_, fun m hm => ?_, fun m => ?_⟩
  · rw [heq, State.grp_setGrp_same (by rw [hab.groups, hsa.groups]; exact hlen), hgrp]
    simp
  · rw [List.mem_singleton.mp hj, ← hl, hrole l hlt, hstate l hlt, if_pos rfl, if_pos rfl]
    exact ⟨rfl, rfl⟩
  · have hne : m ≠ l := fun h => hne (by rw [h, hl]; exact List.mem_singleton_self _)
    rw [hrole m hm, hstate m hm, if_neg hne, if_neg hne]
    exact ⟨rfl, rfl⟩
  · rw [State.rf, hregs _ (hstatus m), ha]
    exact (State.rf_laneState_lane _ hm _ 31 28).trans (s.rf_setRole_report l _ m (by decide) (by decide))
  · have hlane : a.lane m = s.lane m := by rw [State.lane, hplk, State.lane]
    rw [heq, State.lane_setGrp, hb, State.lane_setLane, ← hlane]
    split
    · next h => rw [← h.1]; exact ⟨rfl, rfl⟩
    · exact ⟨rfl, rfl⟩

theorem State.lanesFailed_all {bad : List Nat} (hlen : g < s.plk.groups.length) (hk : ∀ k ∈ bad, nth 0 (s.grp g).map k < 16) :
    s.LanesFailed g bad (s.eachOf bad fun k s => s.laneFails g k) := by
  induction bad generalizing s with
  | nil => exact .nil g s
  | cons k bad ih =>
    have h1 := s.laneFails_spec hg hlen (hk k (by simp))
    have hmap : ((s.laneFails g k).grp g).map = (s.grp g).map := by rw [h1.grp]
    have hphys : (s.laneFails g k).phys g = s.phys g := funext fun j => by rw [State.phys, hmap, State.phys]
    have h2 := ih (s := s.laneFails g k) (by rw [h1.step.groups]; exact hlen) fun j hj => by rw [hmap]; exact hk j (by simp [hj])
    have hrange : ∀ j ∈ k :: bad, s.phys g j < 96 := fun j hj => (s.phys_group (hk j hj)).2 hg
    refine ⟨h1.step.trans h2.step, ?_, fun j hj => ?_, fun m hm hne => ?_, fun m hm => (h2.report m hm).trans (h1.report m hm), fun m =>
      ⟨(h2.lane m).1.trans (h1.lane m).1, (h2.lane m).2.trans (h1.lane m).2⟩⟩
    · rw [State.eachOf, List.foldl_cons]
      refine h2.grp.trans ?_
      rw [h1.grp, List.filter_filter]
      simp [Bool.and_comm]
    · by_cases hlater : s.phys g j ∈ bad.map (s.phys g)
      · obtain ⟨i, hi, hij⟩ := List.mem_map.mp hlater
        have hout := h2.out i hi
        rwa [hphys, hij] at hout
      · obtain ⟨hr, hst⟩ := h2.kept _ (hrange j hj) (by rw [hphys]; exact hlater)
        have hjk : s.phys g j = s.phys g k := by
          rcases List.mem_cons.mp hj with rfl | hj
          · rfl
          · exact absurd (List.mem_map_of_mem hj) hlater
        obtain ⟨hr1, hst1⟩ := h1.out k (List.mem_singleton_self k)
        rw [← hjk] at hr1 hst1
        exact ⟨hr.trans hr1, hst.trans hst1⟩
    · rw [List.map_cons, List.mem_cons, not_or] at hne
      obtain ⟨hr, hst⟩ := h2.kept m hm (by rw [hphys]; exact hne.2)
      obtain ⟨hr1, hst1⟩ := h1.kept m hm (by simpa using hne.1)
      exact ⟨hr.trans hr1, hst.trans hst1⟩

end

/-! ### From stage to stage (R169) -/

/-- `t` is `s` after steps that leave the roles, the lanes and the map of group `g` alone. -/
structure State.StageStep (g : Nat) (s t : State) : Prop where
  within : Within (.plk :: evtFields) (fun a => evtReg a || grpReg g a) s t
  map : (t.grp g).map = (s.grp g).map
  taking : (t.grp g).taking = (s.grp g).taking
  role : ∀ m < 96, t.role m = s.role m
  state : ∀ m < 96, t.pgState (lanePage m) = s.pgState (lanePage m)

section
variable {g : Nat} {s t u : State}

theorem State.StageStep.refl (g : Nat) (s : State) : s.StageStep g s := ⟨.refl s, rfl, rfl, fun _ _ => rfl, fun _ _ => rfl⟩

theorem State.StageStep.trans (h : s.StageStep g t) (k : t.StageStep g u) : s.StageStep g u :=
  ⟨h.within.trans k.within, k.map.trans h.map, k.taking.trans h.taking, fun m hm => (k.role m hm).trans (h.role m hm), fun m hm => (k.state m hm).trans (h.state m hm)⟩

theorem State.StageStep.phys (h : s.StageStep g t) (k : Nat) : t.phys g k = s.phys g k := by rw [State.phys, h.map, State.phys]

theorem State.stageStep_setGrp (hg : g < 6) (hlen : g < s.plk.groups.length) {v : Grp} (hm : v.map = (s.grp g).map) (ht : v.taking = (s.grp g).taking) :
    s.StageStep g (s.setGrp g v) := by
  have hkeep : ∀ {a}, Reg.PAGE_STATUS (grpPage g) ≠ a → among [Reg.PAGE_STATUS (grpPage g)] a = false := fun h => among_eq_false (by simpa using h)
  refine ⟨(s.roleStep_setGrp v).within, by rw [State.grp_setGrp_same hlen, hm], by rw [State.grp_setGrp_same hlen, ht], fun m _ => ?_, fun m _ => ?_⟩
  · exact (s.setGrp_within g v).rf (hkeep (grpStatus_apart hg m).2.1) 1 0
  · exact (s.setGrp_within g v).rf (hkeep (grpStatus_ne_lane hg m)) 2 0

/-- A step on the stage alone. -/
theorem Within.stageStep (h : Within evtFields (fun a => evtReg a || among [Reg.PLK_GRP_STATUS g, Reg.PLK_UP] a) s t) : s.StageStep g t := by
  have hkeep : ∀ a, evtReg a = false → a ≠ Reg.PLK_GRP_STATUS g → a ≠ Reg.PLK_UP → t.rd a = s.rd a := fun a he hs hu =>
    h.rd (by rw [he, among_eq_false (by simpa using ⟨hs.symm, hu.symm⟩)]; rfl)
  refine ⟨h.stageReg, by rw [h.grp (by decide)], by rw [h.grp (by decide)], fun m hm => ?_, fun m hm => ?_⟩
  · refine congrArg (fld · 1 0) (hkeep _ ?_ ?_ ?_)
    · apply evtReg_plk <;> simp only [Reg.PLK_LANE_STATUS] <;> omega
    · simp only [Reg.PLK_LANE_STATUS, Reg.PLK_GRP_STATUS]; omega
    · simp only [Reg.PLK_LANE_STATUS, Reg.PLK_UP]; omega
  · refine congrArg (fld · 2 0) (hkeep _ (evtReg_laneStatus hm) ?_ ?_)
    · simp only [Reg.PAGE_STATUS, lanePage, Reg.page, Reg.PLK_GRP_STATUS]; omega
    · simp only [Reg.PAGE_STATUS, lanePage, Reg.page, Reg.PLK_UP]; omega

variable (hg : g < 6) (hlen : g < s.plk.groups.length)
include hg hlen

/-- The stage before DATA gives way to the next one. -/
theorem State.nextStage_spec (h6 : s.stage g ≤ 6) : s.StageStep g (s.nextStage g) ∧
    (s.stage g ≠ 2 ∨ s.rb (Reg.PLK_GRP_BC_STATUS g) 31 = true → (s.nextStage g).stage g = s.stage g + 1 ∧ ((s.nextStage g).grp g).held = false) := by
  obtain ⟨u, hu⟩ : ∃ u, u = s.setGrp g { s.grp g with held := false } := ⟨_, rfl⟩
  have hset : s.StageStep g u := by rw [hu]; exact State.stageStep_setGrp hg hlen rfl rfl
  have hstage : u.stage g = s.stage g := by rw [hu]; exact (s.roleStep_setGrp _).stage
  have hbc : u.rb (Reg.PLK_GRP_BC_STATUS g) 31 = s.rb (Reg.PLK_GRP_BC_STATUS g) 31 := congrArg (bit · 31) (hset.within.bcStatus hg g hg)
  have heq : s.nextStage g = if s.stage g = 2 ∧ !s.rb (Reg.PLK_GRP_BC_STATUS g) 31 then u.bringupFail g 2 else u.setStage g (s.stage g + 1) := by
    rw [State.nextStage, ← hu, hstage, hbc, if_neg (show ¬ s.stage g = 7 by omega)]
  obtain ⟨hnext, -, -, hw⟩ := u.setStage_spec hg (v := s.stage g + 1) (by omega)
  rw [heq]
  split
  · next hfail =>
    refine ⟨hset.trans (u.bringupFail_spec hg (v := 2) (by decide)).2.2.stageStep, fun hup => ?_⟩
    rcases hup with h | h
    · exact absurd hfail.1 h
    · simp [h] at hfail
  · exact ⟨hset.trans hw.stageStep, fun _ => ⟨hnext, by rw [hw.grp (by decide), hu, State.grp_setGrp_same hlen]⟩⟩

/-- BRINGUP_STAGE_DONE before DATA. -/
theorem State.bringupDone_spec (h6 : s.stage g ≤ 6) : s.StageStep g (s.bringupDone g) ∧
    (s.stageDone g = true → s.stage g ≠ 2 ∨ s.rb (Reg.PLK_GRP_BC_STATUS g) 31 = true →
      (s.rb (Reg.PLK_GRP_CTRL g) 1 = false → (s.bringupDone g).stage g = s.stage g + 1 ∧ ((s.bringupDone g).grp g).held = false) ∧
      (s.rb (Reg.PLK_GRP_CTRL g) 1 = true → (s.bringupDone g).stage g = s.stage g ∧ ((s.bringupDone g).grp g).held = true)) := by
  unfold State.bringupDone
  split
  · next h => exact ⟨.refl g s, fun hd => by simp [hd] at h⟩
  split
  · next h =>
    refine ⟨State.stageStep_setGrp hg hlen rfl rfl, fun _ _ => ⟨fun hn => by simp [hn] at h, fun _ => ⟨(s.roleStep_setGrp _).stage, ?_⟩⟩⟩
    rw [State.grp_setGrp_same hlen]
  · next h =>
    obtain ⟨hstep, hnext⟩ := State.nextStage_spec hg hlen h6
    exact ⟨hstep, fun _ hup => ⟨fun _ => hnext hup, fun hm => absurd hm h⟩⟩

end

/-! ### Timeouts (R169) -/

/-- The lanes that have done their part, or that no report of DESKEW and RATE names. -/
def State.leftAt (s : State) (g failing : Nat) : List Nat :=
  (s.grp g).taking.filter fun k => s.laneDone g (s.stage g) k && !(decide (6 ≤ s.stage g) && failing.testBit k)

section
variable {g failing : Nat} {s t : State} (hg : g < 6) (hlen : g < s.plk.groups.length) (hmap : ∀ k < 16, nth 0 (s.grp g).map k < 16)
  (htaking : ∀ k ∈ (s.grp g).taking, k < 16)

/-- The lanes that fail at the timeout. -/
def State.failAt (s : State) (g failing : Nat) : List Nat :=
  (s.grp g).taking.filter fun k => !s.laneDone g (s.stage g) k || (decide (6 ≤ s.stage g) && failing.testBit k)

theorem State.filter_failAt (s : State) (g failing : Nat) : ((s.grp g).taking.filter fun j => !(s.failAt g failing).contains j) = s.leftAt g failing := by
  refine List.filter_congr fun j hj => ?_
  rw [State.failAt, Bool.eq_iff_iff]
  simp [List.mem_filter, hj]

theorem State.mem_failAt {k : Nat} (hk : k ∈ (s.grp g).taking) : k ∈ s.failAt g failing ↔ k ∉ s.leftAt g failing := by
  simp only [State.failAt, State.leftAt, List.mem_filter, hk, true_and]
  cases s.laneDone g (s.stage g) k <;> simp

include hg hmap in
/-- A lane has done its part of a stage before and after other lanes fail. -/
theorem State.LanesFailed.laneDone {bad : List Nat} (h : s.LanesFailed g bad t) (st : Nat) {k : Nat} (hk : k < 16) : t.laneDone g st k = s.laneDone g st k := by
  have hm : (t.grp g).map = (s.grp g).map := by rw [h.grp]
  have hphys : t.phys g k = s.phys g k := by rw [State.phys, hm, State.phys]
  have hbc : t.rb (Reg.PLK_GRP_BC_STATUS g) 31 = s.rb (Reg.PLK_GRP_BC_STATUS g) 31 := congrArg (bit · 31) (h.step.within.bcStatus hg g hg)
  have hrep := h.report _ ((s.phys_group (hmap k hk)).2 hg)
  unfold State.laneDone
  dsimp only
  rw [hphys, hrep, hbc, (h.lane _).1, (h.lane _).2]

end

/-! ### DATA (R156, R169) -/

/-- A loop with an invariant that counts its steps. -/
theorem State.each_counted {P : Nat → State → Prop} {n : Nat} {f : Nat → State → State} {s : State} (h : P 0 s)
    (hf : ∀ i < n, ∀ u, P i u → P (i + 1) (f i u)) : P n (s.each n f) := by
  induction n with
  | zero => exact h
  | succ n ih => exact hf n (by omega) _ (ih fun i hi => hf i (by omega))

/-- The role that lane `k` of those taking part is given: DATA for the first fifteen. -/
def givenRole (taking : List Nat) (k : Nat) : Nat := if (taking.filter (· < k)).length < 15 then roleData else roleStandin

/-- Lane `k` is given its role. -/
def State.giveRole (s : State) (g : Nat) (taking : List Nat) (k : Nat) : State :=
  if !taking.contains k then s
  else (s.setRole (s.phys g k) (givenRole taking k)).laneState (s.phys g k) (if (taking.filter (· < k)).length < 15 then stRun else stIdle)

theorem State.reachData_eq (s : State) (g : Nat) : s.reachData g =
    ((s.each 16 fun k u => u.giveRole g (s.grp g).taking k).setGrp g { (s.each 16 fun k u => u.giveRole g (s.grp g).taking k).grp g with
      data := (s.each 16 fun k u => u.giveRole g (s.grp g).taking k).lanesOf g roleData }).setStage g stageData := by
  have hgive : (fun k (u : State) => if !(s.grp g).taking.contains k then u
      else if ((s.grp g).taking.filter (· < k)).length < 15 then (u.setRole (u.phys g k) roleData).laneState (u.phys g k) stRun
      else (u.setRole (u.phys g k) roleStandin).laneState (u.phys g k) stIdle) = fun k u => u.giveRole g (s.grp g).taking k := by
    funext k u
    unfold State.giveRole givenRole
    split
    · rfl
    · split <;> rfl
  rw [← hgive]
  rfl

section
variable {g : Nat} {s : State} (hg : g < 6) (hmap : ∀ k < 16, nth 0 (s.grp g).map k < 16)
include hg hmap

theorem State.giveRole_spec (taking : List Nat) {k : Nat} (hk : k < 16) : s.RoleStep g (s.giveRole g taking k) ∧ (s.giveRole g taking k).plk = s.plk ∧
    ∀ m < 96, (s.giveRole g taking k).role m = if m = s.phys g k ∧ taking.contains k = true then givenRole taking k else s.role m := by
  obtain ⟨hdiv, hlt⟩ := s.phys_group (hmap k hk)
  unfold State.giveRole
  cases hc : taking.contains k
  · exact ⟨.refl g s, rfl, fun m _ => by simp⟩
  · rw [if_neg (by simp)]
    refine ⟨(s.roleStep_setRole _ hdiv).trans (State.roleStep_laneState _ _ hg hdiv), ?_, fun m hm => ?_⟩
    · exact ((State.laneState_within _ _ _).plk (by decide)).trans ((s.setRole_within _ _).plk (by decide))
    · have hr : givenRole taking k < 4 := by unfold givenRole; split <;> decide
      rw [s.role_taken hm hr]
      simp

/-- The roles given out at DATA: each lane taking part has its own, the others keep theirs. -/
theorem State.giveRoles_spec (taking : List Nat) : s.RoleStep g (s.each 16 fun k u => u.giveRole g taking k) ∧
    (s.each 16 fun k u => u.giveRole g taking k).plk = s.plk ∧
    ((∀ i < 16, ∀ j < 16, s.phys g i = s.phys g j → i = j) → ∀ k < 16,
      (s.each 16 fun k u => u.giveRole g taking k).roleOf g k = if taking.contains k then givenRole taking k else s.roleOf g k) := by
  have hall := State.each_counted (s := s) (n := 16) (f := fun k u => u.giveRole g taking k) (P := fun i u => s.RoleStep g u ∧ u.plk = s.plk ∧
    ((∀ i < 16, ∀ j < 16, s.phys g i = s.phys g j → i = j) → ∀ k < 16,
      u.role (s.phys g k) = if k < i ∧ taking.contains k = true then givenRole taking k else s.roleOf g k))
    ⟨.refl g s, rfl, fun _ k _ => by simp [State.roleOf]⟩ ?_
  · obtain ⟨hstep, hplk, hroles⟩ := hall
    refine ⟨hstep, hplk, fun hinj k hk => ?_⟩
    have hphys : ∀ u : State, u.plk = s.plk → u.phys g k = s.phys g k := fun u hu => by rw [State.phys, State.grp, hu, State.phys, State.grp]
    rw [State.roleOf, hphys _ hplk, hroles hinj k hk]
    simp [hk]
  · rintro i hi u ⟨hstep, hplk, hroles⟩
    have hgrp : u.grp g = s.grp g := by rw [State.grp, hplk, State.grp]
    have hphys : ∀ k, u.phys g k = s.phys g k := fun k => by rw [State.phys, hgrp, State.phys]
    obtain ⟨hstep', hplk', hrole⟩ := State.giveRole_spec (s := u) hg (by rw [hgrp]; exact hmap) taking hi
    refine ⟨hstep.trans hstep', hplk'.trans hplk, fun hinj k hk => ?_⟩
    rw [hrole _ ((s.phys_group (hmap k hk)).2 hg), hphys, hroles hinj k hk]
    by_cases hki : k = i
    · subst hki
      by_cases hc : taking.contains k = true
      · rw [if_pos ⟨rfl, hc⟩, if_pos ⟨by omega, hc⟩]
      · rw [if_neg (by simp only [hc]; simp), if_neg (by simp), if_neg (by simp only [hc]; simp)]
    · rw [if_neg fun h => hki (hinj k hk i hi h.1)]
      have hlt : k < i + 1 ↔ k < i := by omega
      simp only [hlt]

/-- The group reaches DATA. -/
theorem State.reachData_spec (hlen : g < s.plk.groups.length) : Within (.plk :: evtFields) (fun a => evtReg a || grpReg g a) s (s.reachData g) ∧
    (s.reachData g).stage g = stageData ∧ (s.stage g ≠ stageData → (s.reachData g).rb Reg.PLK_UP g = true) ∧
    (s.reachData g).rf (Reg.PLK_GRP_MASK g) 15 0 = s.rf (Reg.PLK_GRP_MASK g) 15 0 ∧
    ((s.reachData g).grp g).data = (List.range 16).filter (fun k => (s.reachData g).roleOf g k == roleData) ∧
    ((∀ i < 16, ∀ j < 16, s.phys g i = s.phys g j → i = j) → ∀ k < 16,
      (s.reachData g).roleOf g k = if (s.grp g).taking.contains k then givenRole (s.grp g).taking k else s.roleOf g k) := by
  obtain ⟨hroles, hplk, hgiven⟩ := State.giveRoles_spec hg hmap (s.grp g).taking
  have heq := s.reachData_eq g
  generalize (s.each 16 fun k u => u.giveRole g (s.grp g).taking k) = u at hroles hplk hgiven heq
  have hlen' : g < u.plk.groups.length := by rw [hplk]; exact hlen
  have hset := u.roleStep_setGrp (g := g) { u.grp g with data := u.lanesOf g roleData }
  have hkept := State.stageStep_setGrp hg hlen' (v := { u.grp g with data := u.lanesOf g roleData }) rfl rfl
  have hdata : ((u.setGrp g { u.grp g with data := u.lanesOf g roleData }).grp g).data = u.lanesOf g roleData := by rw [State.grp_setGrp_same hlen']
  rw [heq]
  generalize u.setGrp g { u.grp g with data := u.lanesOf g roleData } = v at hset hkept hdata
  obtain ⟨hstage, hup, -, hw⟩ := v.setStage_spec hg (v := stageData) (by decide)
  have hlast := hkept.trans hw.stageStep
  have hrole : ∀ k < 16, (v.setStage g stageData).roleOf g k = u.roleOf g k := fun k hk => by
    have hm : u.grp g = s.grp g := by rw [State.grp, hplk, State.grp]
    rw [State.roleOf, hlast.phys, State.roleOf, hlast.role _ ((u.phys_group (by rw [hm]; exact hmap k hk)).2 hg)]
  refine ⟨hroles.within.trans hlast.within, hstage, fun hne => ?_, ?_, ?_, fun hinj k hk => ?_⟩
  · rw [hup (by rw [hset.stage, hroles.stage]; exact hne)]
    rfl
  · have hmask : among [Reg.PLK_GRP_STATUS g, Reg.PLK_UP] (Reg.PLK_GRP_MASK g) = false := among_eq_false (by
      simp only [List.forall_mem_cons, List.mem_singleton, forall_eq, Reg.PLK_GRP_STATUS, Reg.PLK_UP, Reg.PLK_GRP_MASK]; omega)
    rw [hw.rf (by rw [(evtReg_grp hg).2, hmask]; rfl), hset.mask, hroles.mask]
  · rw [hw.grp (by decide), hdata, State.lanesOf]
    exact List.filter_congr fun k hk => by rw [hrole k (List.mem_range.mp hk)]
  · rw [hrole k hk, hgiven hinj k hk]

end

end Sys2Proof.Machine

/-! ## Bring-up as commands (R169, R170, R176) -/
namespace Sys2Proof.Machine

/-! ### BRINGUP_STAGE_DONE and its timeout -/

section
variable {g : Nat} {s : State} (hg : g < 6) (hlen : g < s.plk.groups.length)
include hg hlen

/-- A stage that is done, the seventh with it. -/
theorem State.bringupDone_within (hmap : s.stage g = 7 → ∀ k < 16, nth 0 (s.grp g).map k < 16) :
    Within (.plk :: evtFields) (fun a => evtReg a || grpReg g a) s (s.bringupDone g) := by
  by_cases h6 : s.stage g ≤ 6
  · exact (State.bringupDone_spec hg hlen h6).1.within
  unfold State.bringupDone
  split
  · exact .refl s
  · next hd =>
    have hset := State.stageStep_setGrp (v := { s.grp g with held := false }) hg hlen rfl rfl
    have h7 : s.stage g = 7 := by
      simp only [State.stageDone, Bool.not_eq_true', Bool.and_eq_false_iff, decide_eq_false_iff_not, not_or, Bool.not_eq_false] at hd
      omega
    split
    · exact (s.roleStep_setGrp _).within
    · have hstage : (s.setGrp g { s.grp g with held := false }).stage g = 7 := (s.roleStep_setGrp _).stage.trans h7
      have heq : s.nextStage g = (s.setGrp g { s.grp g with held := false }).reachData g := by
        rw [State.nextStage, hstage, if_neg (by simp), if_pos rfl]
      rw [heq]
      exact hset.within.trans (State.reachData_spec hg (by rw [hset.map]; exact hmap h7) (by simpa using hlen)).1

variable (hmap : ∀ k < 16, nth 0 (s.grp g).map k < 16) (htaking : ∀ k ∈ (s.grp g).taking, k < 16)
include hmap htaking

/-- The timeout of a stage (R169). -/
theorem State.bringupTimeout_spec (failing : Nat) :
    (1 ≤ s.stage g → s.stage g ≤ 7 → (s.leftAt g failing).length < 8 ∨ s.stage g = 2 ∧ s.rb (Reg.PLK_GRP_BC_STATUS g) 31 = false →
      (s.bringupTimeout g failing).stage g = stageFailed ∧ (s.bringupTimeout g failing).rf (Reg.PLK_GRP_STATUS g) 23 20 = s.stage g ∧
        ((s.bringupTimeout g failing).grp g).taking = s.leftAt g failing) ∧
    (1 ≤ s.stage g → s.stage g ≤ 6 → 8 ≤ (s.leftAt g failing).length →
      (s.stage g = 2 → s.rb (Reg.PLK_GRP_BC_STATUS g) 31 = true ∧ (s.grp g).lock = true) → (s.stage g = 6 → (s.grp g).deskew = true) →
      s.rb (Reg.PLK_GRP_CTRL g) 1 = false →
      (s.bringupTimeout g failing).stage g = s.stage g + 1 ∧ ((s.bringupTimeout g failing).grp g).taking = s.leftAt g failing) ∧
    (1 ≤ s.stage g → s.stage g ≤ 6 → ∀ k ∈ (s.grp g).taking, k ∉ s.leftAt g failing →
      (s.bringupTimeout g failing).roleOf g k = roleFenced ∧ (s.bringupTimeout g failing).pgState (lanePage ((s.bringupTimeout g failing).phys g k)) = stFenced) ∧
    Within (.plk :: evtFields) (fun a => evtReg a || grpReg g a) s (s.bringupTimeout g failing) := by
  by_cases hst : s.stage g = 0 ∨ 7 < s.stage g
  · rw [State.bringupTimeout, if_pos hst]
    exact ⟨by omega, by omega, by omega, .refl s⟩
  have hfailed := State.lanesFailed_all (s := s) (bad := s.failAt g failing) hg hlen fun k hk => hmap k (htaking k (List.mem_of_mem_filter hk))
  have heq : s.bringupTimeout g failing = if ((s.eachOf (s.failAt g failing) fun k s => s.laneFails g k).grp g).taking.length < 8 ∨
      (s.stage g = 2 ∧ !(s.eachOf (s.failAt g failing) fun k s => s.laneFails g k).rb (Reg.PLK_GRP_BC_STATUS g) 31) then
        (s.eachOf (s.failAt g failing) fun k s => s.laneFails g k).bringupFail g (s.stage g)
      else (s.eachOf (s.failAt g failing) fun k s => s.laneFails g k).bringupDone g := by rw [State.bringupTimeout, if_neg hst]; rfl
  generalize (s.eachOf (s.failAt g failing) fun k s => s.laneFails g k) = u at hfailed heq
  have hgrp : u.grp g = { s.grp g with taking := s.leftAt g failing } := by rw [hfailed.grp, s.filter_failAt]
  have hstage : u.stage g = s.stage g := hfailed.step.stage
  have hbc : u.rb (Reg.PLK_GRP_BC_STATUS g) 31 = s.rb (Reg.PLK_GRP_BC_STATUS g) 31 := congrArg (bit · 31) (hfailed.step.within.bcStatus hg g hg)
  have hctrl : u.rb (Reg.PLK_GRP_CTRL g) 1 = s.rb (Reg.PLK_GRP_CTRL g) 1 := congrArg (bit · 1) (hfailed.step.within.grpCtrl hg g hg)
  have hlen' : g < u.plk.groups.length := by rw [hfailed.step.groups]; exact hlen
  have hphys : ∀ k, u.phys g k = s.phys g k := fun k => by rw [State.phys, hgrp, State.phys]
  have hleft : (u.grp g).taking = s.leftAt g failing := by rw [hgrp]
  rw [hleft, hbc] at heq
  obtain ⟨hfs, hff, hfw⟩ := u.bringupFail_spec hg (v := s.stage g) (by omega)
  have hdone := State.bringupDone_spec (s := u) hg hlen'
  rw [hstage, hbc, hctrl] at hdone
  refine ⟨fun _ _ h => ?_, fun _ h6 h8 hlock hdeskew hauto => ?_, fun _ h6 k hk hnot => ?_, ?_⟩
  · rw [heq, if_pos (h.imp id fun h => ⟨h.1, by rw [h.2]; rfl⟩)]
    exact ⟨hfs, hff, by rw [hfw.grp (by decide), hleft]⟩
  · have hok : ¬((s.leftAt g failing).length < 8 ∨ s.stage g = 2 ∧ (!s.rb (Reg.PLK_GRP_BC_STATUS g) 31) = true) := by
      rintro (h | ⟨h, hb⟩)
      · omega
      · simp [(hlock h).1] at hb
    have hall : u.stageDone g = true := by
      have hlanes : ((u.grp g).taking.all fun k => u.laneDone g (u.stage g) k) = true := by
        rw [hleft, hstage, List.all_eq_true]
        intro k hk
        obtain ⟨hk, hd⟩ := List.mem_filter.mp hk
        rw [hfailed.laneDone hg hmap _ (htaking k hk)]
        exact (Bool.and_eq_true_iff.mp hd).1
      have hlocked : (u.grp g).lock = (s.grp g).lock ∧ (u.grp g).deskew = (s.grp g).deskew := by rw [hgrp]; exact ⟨rfl, rfl⟩
      unfold State.stageDone
      dsimp only
      rw [hlanes, hstage, hlocked.1, hlocked.2]
      have h7 : (s.stage g != 7) = true := by simp; omega
      by_cases h2 : s.stage g = 2
      · simp [h2, (hlock h2).2]
      · by_cases h6 : s.stage g = 6
        · simp [h6, hdeskew h6]
        · simp [h2, h6]; omega
    rw [heq, if_neg hok]
    obtain ⟨hstep, hgo⟩ := hdone h6
    refine ⟨((hgo hall ?_).1 hauto).1, by rw [hstep.taking, hleft]⟩
    by_cases h2 : s.stage g = 2
    · exact .inr (hlock h2).1
    · exact .inl h2
  · have hout := hfailed.out k ((State.mem_failAt hk).mpr hnot)
    have hlast : u.StageStep g (s.bringupTimeout g failing) := by
      rw [heq]
      split
      · exact hfw.stageStep
      · exact (hdone h6).1
    have hlt := (s.phys_group (hmap k (htaking k hk))).2 hg
    rw [State.roleOf, hlast.phys, hphys, hlast.role _ hlt, hlast.state _ hlt]
    exact hout
  · rw [heq]
    refine hfailed.step.within.trans ?_
    split
    · exact hfw.stageReg
    · exact State.bringupDone_within hg hlen' fun _ => by rw [hgrp]; exact hmap

end

/-! ### Maps (R156, R169) -/

/-- Sixteen entries that name every lane are a permutation of them. -/
theorem perm_range_of_all {m : List Nat} (hlen : m.length = 16) (h : ∀ i < 16, i ∈ m) : m.Perm (List.range 16) := by
  have hsub : (List.range 16).Subperm m := List.subperm_of_subset List.nodup_range fun i hi => h i (List.mem_range.mp hi)
  exact (hsub.perm_of_length_le (by simp [hlen])).symm

section
variable {m : List Nat} (hm : m.Perm (List.range 16))
include hm

theorem nth_perm_lt {k : Nat} (hk : k < 16) : nth 0 m k < 16 := by
  have hk' : k < m.length := by rw [hm.length_eq]; simpa using hk
  rw [nth, List.getD_eq_getElem _ _ hk']
  exact List.mem_range.mp (hm.mem_iff.mp (List.getElem_mem hk'))

theorem nth_perm_inj {i j : Nat} (hi : i < 16) (hj : j < 16) (h : nth 0 m i = nth 0 m j) : i = j := by
  have hi' : i < m.length := by rw [hm.length_eq]; simpa using hi
  have hj' : j < m.length := by rw [hm.length_eq]; simpa using hj
  rw [nth, nth, List.getD_eq_getElem _ _ hi', List.getD_eq_getElem _ _ hj'] at h
  exact (List.Nodup.getElem_inj_iff (hm.nodup_iff.mpr List.nodup_range)).mp h

end

/-! ### The start (R169, R178) -/

theorem State.role_wf_report (s : State) (l : Nat) {hi lo : Nat} (hh : hi < 32) (hl : lo ≤ hi) (h2 : 2 ≤ lo) (v m : Nat) :
    (s.wf (Reg.PLK_LANE_STATUS l) hi lo v).role m = s.role m := by
  by_cases h : m = l
  · rw [h]
    exact State.rf_wf_other _ _ hh hl (by decide) (by omega) _
  · exact (s.wf_within _ _ _ _).rf (by simp only [Reg.PLK_LANE_STATUS, beq_eq_false_iff_ne]; omega) 1 0

theorem State.mapWritten_length (s : State) (g : Nat) : (s.mapWritten g).length = 16 := by simp [State.mapWritten]

section
variable {g : Nat} {s : State} (hg : g < 6)
include hg

theorem Within.mapWritten {t : State} (h : Within (.plk :: evtFields) (fun a => evtReg a || grpReg g a) s t) : t.mapWritten g = s.mapWritten g := by
  have hlo : t.rd (Reg.PLK_GRP_MAP_LO g) = s.rd (Reg.PLK_GRP_MAP_LO g) := by
    refine h.grpKeeps ?_ ?_ ?_ (grpReg_eq_false ?_ ?_ ?_ ?_ ?_ ?_ hg) <;> simp only [Reg.PLK_GRP_MAP_LO, Reg.PLK_UP] <;> omega
  have hhi : t.rd (Reg.PLK_GRP_MAP_HI g) = s.rd (Reg.PLK_GRP_MAP_HI g) := by
    refine h.grpKeeps ?_ ?_ ?_ (grpReg_eq_false ?_ ?_ ?_ ?_ ?_ ?_ hg) <;> simp only [Reg.PLK_GRP_MAP_HI, Reg.PLK_UP] <;> omega
  refine List.map_congr_left fun k _ => ?_
  by_cases hk : k < 8
  · rw [if_pos hk, State.rf, hlo, State.rf]
  · rw [if_neg hk, State.rf, hhi, State.rf]

theorem State.RoleStep.takers {t : State} (h : s.RoleStep g t) (hm : (s.mapWritten g).Perm (List.range 16)) : t.takers g = s.takers g := by
  unfold State.takers
  rw [h.within.mapWritten hg]
  refine List.filter_congr fun k hk => h.laneTakes hg ?_
  have := nth_perm_lt hm (List.mem_range.mp hk)
  omega

/-- A lane starts a bring-up. -/
theorem State.laneStarts_spec {k : Nat} (hlen : g < s.plk.groups.length) (hk : nth 0 (s.grp g).map k < 16) : s.RoleStep g (s.laneStarts g k) ∧
    (s.laneStarts g k).grp g = { s.grp g with taking := (s.grp g).taking ++ if s.laneTakes (s.phys g k) then [k] else [] } ∧
    ∀ m < 96, (s.laneStarts g k).role m = if m = s.phys g k then roleNone else s.role m := by
  obtain ⟨hdiv, hlt⟩ := s.phys_group hk
  obtain ⟨l, hl⟩ : ∃ l, l = s.phys g k := ⟨_, rfl⟩
  rw [← hl] at hdiv hlt ⊢
  obtain ⟨a, ha⟩ : ∃ a, a = (s.wf (Reg.PLK_LANE_STATUS l) 27 24 k).wf (Reg.PLK_LANE_STATUS l) 31 28 0 := ⟨_, rfl⟩
  have hsa : s.RoleStep g a := by rw [ha]; exact (s.roleStep_laneStatus _ _ _ hdiv).trans (State.roleStep_laneStatus _ _ _ _ hdiv)
  have hagrp : a.grp g = s.grp g := by rw [ha]; rfl
  have htakes : a.laneTakes l = s.laneTakes l := hsa.laneTakes hg (hlt hg)
  obtain ⟨b, hb⟩ : ∃ b, b = a.setLane l { a.lane l with byLoss := false, ready := false, leaving := false, failed := !s.laneTakes l, clean := 0, good := 0, rxIn := none } := ⟨_, rfl⟩
  obtain ⟨c, hc⟩ : ∃ c, c = (b.setRole l roleNone).laneState l (if b.enabled (lanePage l) then stIdle else stOff) := ⟨_, rfl⟩
  have heq : s.laneStarts g k = if s.laneTakes l then c.setGrp g { c.grp g with taking := (c.grp g).taking ++ [k] } else c := by
    rw [hc, hb, ← htakes, ha, hl]
    rfl
  have hac : a.RoleStep g c := by
    rw [hc, hb]
    exact ((a.roleStep_setLane l _).trans (State.roleStep_setRole _ _ hdiv)).trans (State.roleStep_laneState _ _ hg hdiv)
  have hsc := hsa.trans hac
  have hgrp : c.grp g = s.grp g := by
    rw [hc, (State.laneState_within _ _ _).grp (by decide), (State.setRole_within _ _ _).grp (by decide), hb, State.grp_setLane, hagrp]
  have hrole : ∀ m < 96, c.role m = if m = l then roleNone else s.role m := fun m hm => by
    have ham : a.role m = s.role m := by rw [ha, State.role_wf_report _ _ (by decide) (by decide) (by decide), State.role_wf_report _ _ (by decide) (by decide) (by decide)]
    have hbm : b.role m = s.role m := by rw [hb]; exact ham
    rw [hc, b.role_taken hm (by decide), hbm]
  rw [heq]
  split
  · refine ⟨hsc.trans (c.roleStep_setGrp _), ?_, fun m hm => ?_⟩
    · rw [State.grp_setGrp_same (by rw [hsc.groups]; exact hlen), hgrp]
    · exact ((c.setGrp_within g _).rf (among_eq_false (by simpa using (grpStatus_apart hg m).2.1)) 1 0).trans (hrole m hm)
  · refine ⟨hsc, ?_, hrole⟩
    rw [hgrp, List.append_nil]

/-- Every lane of the map starts; those that take part do so in order. -/
theorem State.lanesStart_spec {m : List Nat} (hlen : g < s.plk.groups.length) (hmap : (s.grp g).map = m) (hm : m.Perm (List.range 16)) (ht : (s.grp g).taking = []) :
    s.RoleStep g (s.each 16 fun k s => s.laneStarts g k) ∧
    (s.each 16 fun k s => s.laneStarts g k).grp g = { s.grp g with taking := (List.range 16).filter fun k => s.laneTakes (16 * g + nth 0 m k) } ∧
    ∀ k < 16, (s.each 16 fun k s => s.laneStarts g k).role (16 * g + nth 0 m k) = roleNone := by
  refine State.each_counted (s := s) (n := 16) (f := fun k s => s.laneStarts g k) (P := fun i u => s.RoleStep g u ∧
    u.grp g = { s.grp g with taking := (List.range i).filter fun k => s.laneTakes (16 * g + nth 0 m k) } ∧
    ∀ k < i, u.role (16 * g + nth 0 m k) = roleNone) ⟨.refl g s, ?_, by simp⟩ ?_
  · rw [List.range_zero, List.filter_nil, ← ht]
  · rintro i hi u ⟨hstep, hgrp, hrole⟩
    have hphys : u.phys g i = 16 * g + nth 0 m i := by rw [State.phys, hgrp, ← hmap]
    have hrange : ∀ k < 16, 16 * g + nth 0 m k < 96 := fun k hk => by have := nth_perm_lt hm hk; omega
    obtain ⟨hstep', hgrp', hrole'⟩ := State.laneStarts_spec (s := u) (k := i) hg (by rw [hstep.groups]; exact hlen)
      (by rw [hgrp]; exact hmap ▸ nth_perm_lt hm hi)
    refine ⟨hstep.trans hstep', ?_, fun k hk => ?_⟩
    · rw [hgrp', hgrp, hphys, hstep.laneTakes hg (hrange i hi), List.range_succ, List.filter_append]
      simp [List.filter_cons]
    · rw [hrole' _ (hrange k (by omega)), hphys]
      split
      · rfl
      · next hne => exact hrole k (by rcases Nat.lt_succ_iff_lt_or_eq.mp hk with h | h; exact h; exact absurd (by rw [h]) hne)

/-- A group's record at the start of a bring-up with map `m`. -/
def Grp.started (x : Grp) (m : List Nat) : Grp :=
  { x with map := m, held := false, deskew := false, rate := false, restripe := false, changed := false, taking := [], data := [] }

/-- The state at the start of a bring-up, before its lanes start. -/
def State.cleared (s : State) (g : Nat) : State :=
  (s.setGrp g (s.grp g).gone).setGrp g (((s.setGrp g (s.grp g).gone).grp g).started (s.mapWritten g))

omit hg in
theorem State.bringupStart_eq (hall : ∀ i < 16, i ∈ s.mapWritten g) : s.bringupStart g =
    if (((s.cleared g).each 16 fun k s => s.laneStarts g k).grp g).taking.length < 8 then ((s.cleared g).each 16 fun k s => s.laneStarts g k).bringupFail g 1
    else (((s.cleared g).each 16 fun k s => s.laneStarts g k).wf (Reg.PLK_GRP_STATUS g) 23 20 0).setStage g 1 := by
  have hno : ¬((List.range 16).any fun i => !(s.mapWritten g).contains i) = true := by
    rw [List.any_eq_true]
    rintro ⟨i, hi, hc⟩
    simp only [Bool.not_eq_true', List.contains_eq_mem, decide_eq_false_iff_not] at hc
    exact hc (hall i (List.mem_range.mp hi))
  exact if_neg hno

omit hg in
theorem State.bringupStart_fail (hall : ¬∀ i < 16, i ∈ s.mapWritten g) : s.bringupStart g = s.bringupFail g 0 := by
  refine if_pos ?_
  simp only [not_forall] at hall
  obtain ⟨i, hi, hm⟩ := hall
  exact List.any_eq_true.mpr ⟨i, List.mem_range.mpr hi, by simpa [State.mapWritten] using hm⟩

omit hg in
theorem State.cleared_spec (hlen : g < s.plk.groups.length) : s.RoleStep g (s.cleared g) ∧ (s.cleared g).grp g = (s.grp g).gone.started (s.mapWritten g) := by
  have h1 := s.roleStep_setGrp (g := g) (s.grp g).gone
  refine ⟨h1.trans (State.roleStep_setGrp _ _), ?_⟩
  rw [State.cleared, State.grp_setGrp_same (by rw [h1.groups]; exact hlen), State.grp_setGrp_same hlen]

/-- BRINGUP with a map that is no permutation, or with one. -/
theorem State.bringupStart_spec (hlen : g < s.plk.groups.length) :
    Within (.plk :: evtFields) (fun a => evtReg a || grpReg g a) s (s.bringupStart g) ∧
    (s.bringupStart g).stage g = (if (List.range 16).all (fun i => (s.mapWritten g).contains i) && decide (8 ≤ (s.takers g).length) then 1 else 15) ∧
    ((∀ i < 16, i ∈ s.mapWritten g) → ((s.bringupStart g).grp g).map = s.mapWritten g ∧ ((s.bringupStart g).grp g).taking = s.takers g ∧
      ((s.bringupStart g).grp g).frame = none ∧ (∀ k < 16, (s.bringupStart g).roleOf g k = roleNone) ∧
      (s.bringupStart g).rf (Reg.PLK_GRP_STATUS g) 23 20 = if (s.takers g).length < 8 then 1 else 0) := by
  by_cases hall : ∀ i < 16, i ∈ s.mapWritten g
  · have hperm := perm_range_of_all (s.mapWritten_length g) hall
    have hyes : (List.range 16).all (fun i => (s.mapWritten g).contains i) = true := by
      rw [List.all_eq_true]; exact fun i hi => List.contains_iff_mem.mpr (hall i (List.mem_range.mp hi))
    obtain ⟨hsb, hgrpb⟩ := State.cleared_spec hlen
    have heq := State.bringupStart_eq hall
    generalize s.cleared g = b at hsb hgrpb heq
    obtain ⟨hbc, hgrpc, hrole⟩ := State.lanesStart_spec (s := b) hg (by rw [hsb.groups]; exact hlen) (by rw [hgrpb]; rfl) hperm (by rw [hgrpb]; rfl)
    generalize (b.each 16 fun k s => s.laneStarts g k) = c at hbc hgrpc hrole heq
    have htaking : (c.grp g).taking = s.takers g := by
      rw [hgrpc]
      refine List.filter_congr fun k hk => hsb.laneTakes hg ?_
      have := nth_perm_lt hperm (List.mem_range.mp hk)
      omega
    have hmapc : (c.grp g).map = s.mapWritten g := by rw [hgrpc, hgrpb]; rfl
    have hframe : (c.grp g).frame = none := by rw [hgrpc, hgrpb]; rfl
    rw [htaking] at heq
    have hlast : ∀ t, Within evtFields (fun a => evtReg a || among [Reg.PLK_GRP_STATUS g, Reg.PLK_UP] a) c t →
        (t.grp g).map = s.mapWritten g ∧ (t.grp g).taking = s.takers g ∧ (t.grp g).frame = none ∧ ∀ k < 16, t.roleOf g k = roleNone := fun t hw => by
      have hk := hw.stageStep (g := g)
      have hgrp : t.grp g = c.grp g := hw.grp (by decide) g
      refine ⟨by rw [hgrp, hmapc], by rw [hgrp, htaking], by rw [hgrp, hframe], fun k hk16 => ?_⟩
      have hphys : c.phys g k = 16 * g + nth 0 (s.mapWritten g) k := by rw [State.phys, hmapc]
      rw [State.roleOf, hk.phys, hphys, hk.role _ (by have := nth_perm_lt hperm hk16; omega), hrole k hk16]
    rw [hyes, Bool.true_and]
    by_cases h8 : (s.takers g).length < 8
    · obtain ⟨hst, hfail, hw⟩ := c.bringupFail_spec hg (v := 1) (by decide)
      obtain ⟨h1, h2, h3, h4⟩ := hlast _ hw
      rw [heq, if_pos h8, if_pos h8, if_neg (by simpa using h8)]
      exact ⟨(hsb.trans hbc).within.trans hw.stageReg, hst, fun _ => ⟨h1, h2, h3, h4, hfail⟩⟩
    · obtain ⟨hst, -, hfield, hw⟩ := (c.wf (Reg.PLK_GRP_STATUS g) 23 20 0).setStage_spec hg (v := 1) (by decide)
      have hw := ((c.wf_within (Reg.PLK_GRP_STATUS g) 23 20 0).mono (m := evtFields) (q := fun a => evtReg a || among [Reg.PLK_GRP_STATUS g, Reg.PLK_UP] a) (by decide)
        fun a ha => by simp [among, beq_iff_eq.mp ha]).trans hw
      obtain ⟨h1, h2, h3, h4⟩ := hlast _ hw
      rw [heq, if_neg h8, if_neg h8, if_pos (by simpa using h8)]
      refine ⟨(hsb.trans hbc).within.trans hw.stageReg, hst, fun _ => ⟨h1, h2, h3, h4, ?_⟩⟩
      rw [hfield 23 20 (by decide) (by decide), State.rf_wf_same _ _ (by decide) (by decide), Nat.zero_mod]
  · obtain ⟨hst, -, hw⟩ := s.bringupFail_spec hg (v := 0) (by decide)
    have hno : (List.range 16).all (fun i => (s.mapWritten g).contains i) = false := by
      refine Bool.eq_false_iff.mpr fun h => hall fun i hi => List.contains_iff_mem.mp (List.all_eq_true.mp h i (List.mem_range.mpr hi))
    rw [State.bringupStart_fail hall, hno]
    exact ⟨hw.stageReg, by rw [hst]; rfl, fun h => absurd h hall⟩

end

/-! ### Commands of a group (R178) -/

/-- The row of PLK_GRP_CMD. -/
def rowGrpCmd : RegRow := ⟨0x40, 0x0, 1, .wo, 0x0, 0xFFFFFFFF, [], []⟩

theorem grpCmd_reg : ∀ g < 6, regRow (Reg.PLK_GRP_CMD g) = some rowGrpCmd ∧ hasHeader (Reg.PLK_GRP_CMD g / 0x100000) (Reg.PLK_GRP_CMD g / 0x1000 % 256) = true ∧
    Reg.PLK_GRP_CMD g / 0x1000 * 0x1000 = grpPage g := by decide

/-- A command of group `g` acts on a state in which SEQ alone has moved. -/
theorem exec_grpCmd {c : Instr} {s : State} {p : Party} {g : Fin 6} {v : Word} (hc : exec c s = done (s.regWrite p (Reg.PLK_GRP_CMD g) v fun s => s.grpCmd g v))
    (h : Allowed s p (Reg.PLK_GRP_CMD g) v) : ∃ u, exec c s = done (u.grpCmd g v) ∧ Within [.regs] (among [Reg.SEQ (grpPage g)]) s u := by
  obtain ⟨hrow, hhead, hpage⟩ := grpCmd_reg g g.isLt
  have hne : Reg.PLK_GRP_CMD g ≠ Reg.SEQ (Reg.PLK_GRP_CMD g / 0x1000 * 0x1000) := by
    rw [hpage]
    simp only [Reg.PLK_GRP_CMD, Reg.SEQ, grpPage, Reg.page]
    omega
  obtain ⟨u, hu, hw⟩ := State.regWrite_command h hrow rfl hhead hne fun s => s.grpCmd g v
  rw [hpage] at hw
  exact ⟨u, hc.trans (congrArg done hu), hw⟩

section
variable {s u : State} {g : Fin 6} (hw : Within [.regs] (among [Reg.SEQ (grpPage g)]) s u)
include hw

/-- The register that a command moves, among those of its group. -/
theorem Within.seqStep : s.RoleStep g u := by
  have hkeep : ∀ a, a % 0x1000 ≠ 0x34 → among [Reg.SEQ (grpPage g)] a = false := fun a ha => among_eq_false (by
    simp only [List.mem_singleton, forall_eq, Reg.SEQ, grpPage, Reg.page]; omega)
  refine .of_regs (hw.regs_mono fun a ha => ?_) (by decide) (hw.rd (hkeep _ ?_)) (hw.rd (hkeep _ ?_))
  · rw [List.mem_singleton.mp (mem_of_among ha), grpReg_grp g (by simp), Bool.or_true]
  · simp only [Reg.PLK_GRP_STATUS]; omega
  · simp only [Reg.PLK_GRP_MASK]; omega

theorem Within.seqGrp : u.grp g = s.grp g := hw.grp (by decide) g

end

section
variable {s : State} {g : Fin 6} (hs : s.Shape)
include hs

theorem ends_bringup_start {p : Party} (h : Allowed s p (Reg.PLK_GRP_CMD g) 1) (hheld : (s.grp g).held = false) : Ends (.bringup p g) s fun t =>
    t.stage g = (if (List.range 16).all (fun i => (s.mapWritten g).contains i) && decide (8 ≤ (s.takers g).length) then 1 else 15) ∧
    ((∀ i < 16, i ∈ s.mapWritten g) → (t.grp g).map = s.mapWritten g ∧ (t.grp g).taking = s.takers g ∧ (t.grp g).frame = none ∧ (∀ k < 16, t.roleOf g k = roleNone) ∧
      t.rf (Reg.PLK_GRP_STATUS g) 23 20 = if (s.takers g).length < 8 then 1 else 0) ∧
    Within (.plk :: evtFields) (fun a => evtReg a || grpReg g a) s t := by
  obtain ⟨u, hu, hw⟩ := exec_grpCmd (c := .bringup p g) rfl h
  have hstep := hw.seqStep
  have heq : u.grpCmd g 1 = u.bringupStart g := by
    change u.bringup g = _
    rw [State.bringup, hw.seqGrp, hheld]
    rfl
  obtain ⟨hwithin, hstage, hgo⟩ := State.bringupStart_spec (s := u) g.isLt (by rw [hstep.groups, hs.groups]; exact g.isLt)
  have hmap : u.mapWritten g = s.mapWritten g := hstep.within.mapWritten g.isLt
  rw [hmap] at hstage hgo
  refine ends_of_done (hu.trans (congrArg done heq)) ⟨?_, fun hall => ?_, (hstep.within.trans hwithin).ended (by decide)⟩
  · refine Eq.trans hstage ?_
    by_cases hall : ∀ i < 16, i ∈ s.mapWritten g
    · rw [hstep.takers g.isLt (perm_range_of_all (s.mapWritten_length g) hall)]
    · have hno : (List.range 16).all (fun i => (s.mapWritten g).contains i) = false := by
        refine Bool.eq_false_iff.mpr fun h => hall fun i hi => List.contains_iff_mem.mp (List.all_eq_true.mp h i (List.mem_range.mpr hi))
      rw [hno, Bool.false_and, Bool.false_and]
  · have hgo := hgo hall
    rw [hstep.takers g.isLt (perm_range_of_all (s.mapWritten_length g) hall)] at hgo
    exact hgo

theorem ends_bringup_held {p : Party} (h : Allowed s p (Reg.PLK_GRP_CMD g) 1) (hheld : (s.grp g).held = true) (h6 : s.stage g ≤ 6)
    (hbc : s.stage g ≠ 2 ∨ s.rb (Reg.PLK_GRP_BC_STATUS g) 31 = true) : Ends (.bringup p g) s fun t =>
      t.stage g = s.stage g + 1 ∧ (t.grp g).held = false ∧ (t.grp g).taking = (s.grp g).taking ∧ Within (.plk :: evtFields) (fun a => evtReg a || grpReg g a) s t := by
  obtain ⟨u, hu, hw⟩ := exec_grpCmd (c := .bringup p g) rfl h
  have hstep := hw.seqStep
  have heq : u.grpCmd g 1 = u.nextStage g := by
    change u.bringup g = _
    rw [State.bringup, hw.seqGrp, hheld]
    rfl
  have hup : u.rb (Reg.PLK_GRP_BC_STATUS g) 31 = s.rb (Reg.PLK_GRP_BC_STATUS g) 31 := congrArg (bit · 31) (hstep.within.bcStatus g.isLt g g.isLt)
  obtain ⟨hkept, hnext⟩ := State.nextStage_spec (s := u) g.isLt (by rw [hstep.groups, hs.groups]; exact g.isLt) (by rw [hstep.stage]; exact h6)
  rw [hstep.stage, hup] at hnext
  obtain ⟨hstage, hno⟩ := hnext hbc
  have hc := hu.trans (congrArg done heq)
  generalize u.nextStage g = t at hc hkept hstage hno
  exact ends_of_done hc ⟨hstage, hno, hkept.taking.trans (by rw [hw.seqGrp]), (hstep.within.trans hkept.within).ended (by decide)⟩

theorem ends_bringupStageDone (h6 : s.stage g ≤ 6) (hd : s.stageDone g = true) (hbc : s.stage g ≠ 2 ∨ s.rb (Reg.PLK_GRP_BC_STATUS g) 31 = true) :
    Ends (.bringupStageDone g) s fun t => (s.rb (Reg.PLK_GRP_CTRL g) 1 = false → t.stage g = s.stage g + 1 ∧ (t.grp g).held = false) ∧
      (s.rb (Reg.PLK_GRP_CTRL g) 1 = true → t.stage g = s.stage g ∧ (t.grp g).held = true) ∧
      (t.grp g).taking = (s.grp g).taking ∧ Within (.plk :: evtFields) (fun a => evtReg a || grpReg g a) s t := by
  obtain ⟨hkept, hgo⟩ := State.bringupDone_spec (s := s) g.isLt (by rw [hs.groups]; exact g.isLt) h6
  obtain ⟨hauto, hmanual⟩ := hgo hd hbc
  have hc : exec (.bringupStageDone g) s = done (s.bringupDone g) := rfl
  generalize s.bringupDone g = t at hc hauto hmanual hkept
  exact ends_of_done hc ⟨hauto, hmanual, hkept.taking, hkept.within.ended (by decide)⟩

theorem ends_reachData (h7 : s.stage g = 7) (hrate : (s.grp g).rate = true) (hauto : s.rb (Reg.PLK_GRP_CTRL g) 1 = false) (hall : ∀ i < 16, i ∈ (s.grp g).map)
    (hlen : (s.grp g).map.length = 16) : Ends (.bringupStageDone g) s fun t =>
      t.stage g = 8 ∧ t.rb Reg.PLK_UP g = true ∧ t.rf (Reg.PLK_GRP_MASK g) 15 0 = s.rf (Reg.PLK_GRP_MASK g) 15 0 ∧
      (∀ k < 16, t.roleOf g k = (if (s.grp g).taking.contains k then (if ((s.grp g).taking.filter (· < k)).length < 15 then roleData else roleStandin) else s.roleOf g k)) ∧
      (t.grp g).data = (List.range 16).filter (fun k => t.roleOf g k == roleData) ∧
      Within (.plk :: evtFields) (fun a => evtReg a || grpReg g a) s t := by
  have hperm := perm_range_of_all hlen hall
  have hg : g.val < s.plk.groups.length := by rw [hs.groups]; exact g.isLt
  obtain ⟨v, hv⟩ : ∃ v, v = s.setGrp g { s.grp g with held := false } := ⟨_, rfl⟩
  have hset : s.StageStep g v := by rw [hv]; exact State.stageStep_setGrp g.isLt hg rfl rfl
  have hrole : s.RoleStep g v := by rw [hv]; exact s.roleStep_setGrp _
  have hlanes : ((s.grp g).taking.all fun k => s.laneDone g 7 k) = true := List.all_eq_true.mpr fun _ _ => rfl
  have hdone : s.stageDone g = true := by
    unfold State.stageDone
    dsimp only
    rw [h7, hlanes, hrate]
    rfl
  have heq : s.bringupDone g = v.reachData g := by
    rw [State.bringupDone, hdone, if_neg (by simp), if_neg (by simp [hauto]), State.nextStage, ← hv, hrole.stage, h7, if_neg (by simp), if_pos rfl]
  have hphys : ∀ i, v.phys g i = 16 * g + nth 0 (s.grp g).map i := fun i => by rw [hset.phys, State.phys]
  obtain ⟨hw, hstage, hup, hmask, hdata, hgiven⟩ := State.reachData_spec (s := v) g.isLt (by rw [hset.map]; exact fun k hk => nth_perm_lt hperm hk)
    (by rw [hrole.groups]; exact hg)
  have hup := hup (by rw [hrole.stage, h7]; decide)
  have hroles : ∀ k < 16, (v.reachData g).roleOf g k = if (s.grp g).taking.contains k then givenRole (s.grp g).taking k else s.roleOf g k := fun k hk => by
    refine (hgiven (fun i hi j hj hij => nth_perm_inj hperm hi hj ?_) k hk).trans ?_
    · rw [hphys, hphys] at hij
      omega
    · rw [hset.taking, State.roleOf, hset.phys, hset.role _ ((s.phys_group (nth_perm_lt hperm hk)).2 g.isLt), State.roleOf]
  have hw := hset.within.trans hw
  have hmask := hmask.trans hrole.mask
  generalize v.reachData g = t at heq hw hstage hup hmask hdata hroles
  exact ends_of_done (congrArg done heq) ⟨hstage, hup, hmask, hroles, hdata, hw.ended (by decide)⟩

theorem ends_restripe {p : Party} (h : Allowed s p (Reg.PLK_GRP_CMD g) 2) : Ends (.restripe p g) s fun t =>
    (t.grp g).restripe = true ∧ Within [.regs, .hif, .plk] (among [Reg.SEQ (grpPage g), Reg.PAGE_STATUS (grpPage g)]) s t := by
  obtain ⟨u, hu, hw⟩ := exec_grpCmd (c := .restripe p g) rfl h
  refine ends_of_done (t := u.setGrp g { u.grp g with restripe := true }) hu ⟨?_, ?_⟩
  · rw [State.grp_endCycle, State.grp_setGrp_same (by rw [hw.seqStep.groups, hs.groups]; exact g.isLt)]
  · exact ((hw.mono (by decide) fun _ => among_mono (by simp)).trans ((u.setGrp_within g _).mono (by decide) fun _ => among_mono (by simp))).ended (by decide)

theorem ends_sendMsg {p : Party} (h : Allowed s p (Reg.PLK_GRP_CMD g) 3) : Ends (.sendMsg p g) s fun t =>
    (t.grp g).cmds = (s.grp g).cmds ++ [(s.rn (Reg.PLK_GRP_TX_LO g) / 256 + s.rf (Reg.PLK_GRP_TX_HI g) 23 0 * 2 ^ 24, 2)] ∧
    Within [.regs, .hif, .plk] (among [Reg.SEQ (grpPage g), Reg.PAGE_STATUS (grpPage g)]) s t := by
  obtain ⟨u, hu, hw⟩ := exec_grpCmd (c := .sendMsg p g) rfl h
  obtain ⟨c, hc⟩ : ∃ c, c = u.rn (Reg.PLK_GRP_TX_LO g) / 256 + u.rf (Reg.PLK_GRP_TX_HI g) 23 0 * 2 ^ 24 := ⟨_, rfl⟩
  have heq : u.grpCmd g 3 = u.setGrp g { u.grp g with cmds := (u.grp g).cmds ++ [(c % 2 ^ 48, 2)] } := by rw [hc]; rfl
  have hlo : u.rn (Reg.PLK_GRP_TX_LO g) = s.rn (Reg.PLK_GRP_TX_LO g) := hw.rn (among_eq_false (by
    simp only [List.mem_singleton, forall_eq, Reg.SEQ, grpPage, Reg.page, Reg.PLK_GRP_TX_LO]; omega))
  have hhi : u.rf (Reg.PLK_GRP_TX_HI g) 23 0 = s.rf (Reg.PLK_GRP_TX_HI g) 23 0 := hw.rf (among_eq_false (by
    simp only [List.mem_singleton, forall_eq, Reg.SEQ, grpPage, Reg.page, Reg.PLK_GRP_TX_HI]; omega)) 23 0
  refine ends_of_done (hu.trans (congrArg done heq)) ⟨?_, ?_⟩
  · rw [State.grp_endCycle, State.grp_setGrp_same (by rw [hw.seqStep.groups, hs.groups]; exact g.isLt), hw.seqGrp, hc, hlo, hhi, Nat.mod_eq_of_lt]
    have h1 : s.rn (Reg.PLK_GRP_TX_LO g) < 2 ^ 32 := (s.rd _).isLt
    have h2 : s.rf (Reg.PLK_GRP_TX_HI g) 23 0 < 2 ^ 24 := Nat.mod_lt _ (by decide)
    omega
  · exact ((hw.mono (by decide) fun _ => among_mono (by simp)).trans ((u.setGrp_within g _).mono (by decide) fun _ => among_mono (by simp))).ended (by decide)

end

/-! ### Equalisation words (R170) -/

theorem leNat_lt (l : List Byte) : leNat l < 256 ^ l.length := by
  induction l with
  | nil => decide
  | cons b t ih =>
    have hb := b.isLt
    rw [leNat, List.length_cons, Nat.pow_succ]
    omega

theorem leAt_lt (l : List Byte) (i n : Nat) : leAt l i n < 256 ^ n :=
  (leNat_lt _).trans_le (Nat.pow_le_pow_right (by decide) (by simp))

theorem State.pair64_wr64 (s : State) (a : Nat) {n : Nat} (hn : n < 2 ^ 64) : (s.wr64 a n).pair64 a = n := by
  have hlo : (s.wr64 a n).rd a = wd n := (State.rd_wr_other _ _ _ _ (by omega)).trans (State.rd_wr_same _ _ _)
  have hhi : (s.wr64 a n).rd (a + 4) = wd (n / 2 ^ 32) := State.rd_wr_same _ _ _
  rw [State.pair64, State.rn, State.rn, hlo, hhi]
  simp only [wd, BitVec.toNat_ofNat]
  omega

theorem faultReg_laneEq {l : Nat} (hl : l < 96) : faultReg (Reg.PLK_LANE_EQ l) = false := by
  apply faultReg_plk <;> simp only [Reg.PLK_LANE_EQ] <;> omega

/-- Equalisation words and their table's identity set; what follows is an event or a NOTICE fault. -/
theorem State.eqWords_spec {s u t : State} {w : Nat → Word} {n : Nat} (hn : n < 2 ^ 64)
    (hu : u = (({ s with plk := { s.plk with eqDone := true } } : State).each 96 fun l s => s.wr (Reg.PLK_LANE_EQ l) (w l)).wr64 Reg.PLK_EQ_ID_LO n)
    (ht : Within noticeFields faultReg u t) :
    (∀ l < 96, t.rd (Reg.PLK_LANE_EQ l) = w l) ∧ t.pair64 Reg.PLK_EQ_ID_LO = n ∧ t.plk.eqDone = true ∧
    Within (.plk :: noticeFields) (fun a => faultReg a || among [Reg.PLK_EQ_ID_LO, Reg.PLK_EQ_ID_LO + 4] a || (List.range 96).any fun l => a == Reg.PLK_LANE_EQ l) s t := by
  obtain ⟨a, ha⟩ : ∃ a : State, a = { s with plk := { s.plk with eqDone := true } } := ⟨_, rfl⟩
  obtain ⟨b, hb⟩ : ∃ b, b = a.each 96 fun l s => s.wr (Reg.PLK_LANE_EQ l) (w l) := ⟨_, rfl⟩
  have hab : Within [.regs] (fun x => (List.range 96).any fun l => x == Reg.PLK_LANE_EQ l) a b := by
    rw [hb]
    refine State.each_within _ _ _ fun l hl v => (v.wr_within _ _).regs_mono fun x hx => ?_
    exact List.any_eq_true.mpr ⟨l, List.mem_range.mpr hl, hx⟩
  have hbu : Within [.regs] (among [Reg.PLK_EQ_ID_LO, Reg.PLK_EQ_ID_LO + 4]) b u := by
    rw [hu, ← ha, ← hb]
    exact ((b.wn_within _ _).one (by decide) (by simp)).trans ((State.wn_within _ _ _).one (by decide) (by simp))
  have hsa : Within [.plk] (fun _ => false) s a := by
    rw [ha]
    exact .of_same (fun f => by cases f <;> first | (left; decide) | (right; rfl)) rfl
  have hidu : u.pair64 Reg.PLK_EQ_ID_LO = n := by rw [hu]; exact State.pair64_wr64 _ _ hn
  refine ⟨fun l hl => ?_, ?_, ?_, ?_⟩
  · have hid : among [Reg.PLK_EQ_ID_LO, Reg.PLK_EQ_ID_LO + 4] (Reg.PLK_LANE_EQ l) = false := among_eq_false (by
      simp only [List.forall_mem_cons, List.mem_singleton, forall_eq, Reg.PLK_EQ_ID_LO, Reg.PLK_LANE_EQ]; omega)
    rw [ht.rd (faultReg_laneEq hl), hbu.rd hid, hb]
    exact State.rd_each_wr a (fun i j hij => by simp only [Reg.PLK_LANE_EQ] at hij; omega) w 96 l hl
  · rw [State.pair64, State.rn, State.rn, ht.rd (a := Reg.PLK_EQ_ID_LO) (by decide), ht.rd (a := Reg.PLK_EQ_ID_LO + 4) (by decide)]
    exact hidu
  · rw [ht.plk (by decide), hbu.plk (by decide), hab.plk (by decide), ha]
  · exact ((hsa.mono (by decide) (by simp)).trans (hab.mono (by decide) (by simp +contextual))).trans
      ((hbu.mono (by decide) (by simp +contextual)).trans (ht.mono (fun _ hf => List.mem_cons_of_mem _ hf) (by simp +contextual)))

/-- An equalisation image that R170 takes. -/
abbrev EqImage (img : List Byte) : Prop :=
  img.length = 448 ∧ leAt img 0 4 = 0x51454C50 ∧ leAt img 4 2 = 1 ∧ leAt img 6 2 = 96 ∧ leAt img 8 4 = crc32c (img.drop 64) ∧ leAt img 12 8 ≠ 0

theorem ends_eqTableApply {s : State} {img : List Byte} {ok : Bool} (hok : ok = (decide (EqImage img) && ((img.drop 20).take 44).all (fun b => b = 0))) :
    Ends (.eqTableApply img) s fun t =>
      (∀ l < 96, t.rd (Reg.PLK_LANE_EQ l) = if ok then applyLim (wd (leAt img (64 + 4 * l) 4) &&& 0x3F1F0FFF) .taps else 0x30000000) ∧
      t.pair64 Reg.PLK_EQ_ID_LO = (if ok then leAt img 12 8 else 0) ∧ t.plk.eqDone = true ∧ (ok = false → t.fltPending 258 = true) ∧
      Within (.plk :: noticeFields) (fun a => faultReg a || among [Reg.PLK_EQ_ID_LO, Reg.PLK_EQ_ID_LO + 4] a || (List.range 96).any fun l => a == Reg.PLK_LANE_EQ l) s t := by
  have hiff : ok = true ↔ img.length = 448 ∧ leAt img 0 4 = 0x51454C50 ∧ leAt img 4 2 = 1 ∧ leAt img 6 2 = 96 ∧ leAt img 8 4 = crc32c (img.drop 64) ∧
      leAt img 12 8 ≠ 0 ∧ ((img.drop 20).take 44).all (fun b => b = 0) = true := by
    rw [hok, Bool.and_eq_true, decide_eq_true_eq, EqImage]
    simp only [and_assoc]
  cases ok with
  | true =>
    obtain ⟨u, hu⟩ : ∃ u, u = (({ s with plk := { s.plk with eqDone := true } } : State).each 96 fun l s =>
        s.wr (Reg.PLK_LANE_EQ l) (applyLim (wd (leAt img (64 + 4 * l) 4) &&& 0x3F1F0FFF) .taps)).wr64 Reg.PLK_EQ_ID_LO (leAt img 12 8) := ⟨_, rfl⟩
    have heq : s.eqApply img = u.evt 977 := by
      rw [hu]
      exact if_pos (hiff.mp rfl)
    obtain ⟨hwords, hid, hdone, hw⟩ := State.eqWords_spec (s := s) (w := fun l => applyLim (wd (leAt img (64 + 4 * l) 4) &&& 0x3F1F0FFF) .taps) (leAt_lt img 12 8) hu
      (u.evt_within 977).toNotice
    have hc : exec (.eqTableApply img) s = done (u.evt 977) := congrArg done heq
    generalize u.evt 977 = t at hc hwords hid hdone hw
    exact ends_of_done hc ⟨hwords, hid, hdone, by simp, hw.ended (by decide)⟩
  | false =>
    obtain ⟨u, hu⟩ : ∃ u, u = (({ s with plk := { s.plk with eqDone := true } } : State).each 96 fun l s => s.wr (Reg.PLK_LANE_EQ l) 0x30000000).wr64 Reg.PLK_EQ_ID_LO 0 := ⟨_, rfl⟩
    have heq : s.eqApply img = (u.evt 978).notice 258 := by
      rw [hu]
      exact if_neg fun h => absurd (hiff.mpr h) (by decide)
    have hnote := (u.evt_within 978).toNotice.trans (State.notice_within (u.evt 978) 258 0 0 [] (by decide) (by decide))
    obtain ⟨hwords, hid, hdone, hw⟩ := State.eqWords_spec (s := s) (w := fun _ => 0x30000000) (n := 0) (by decide) hu hnote
    have hpend := State.notice_pending (u.evt 978) (src := 258) 0 0 [] (by decide)
    have hc : exec (.eqTableApply img) s = done ((u.evt 978).notice 258) := congrArg done heq
    generalize (u.evt 978).notice 258 = t at hc hwords hid hdone hw hpend
    exact ends_of_done hc ⟨hwords, hid, hdone, fun _ => hpend, hw.ended (by decide)⟩

/-! ### An uncorrectable word of a queue (R176) -/

theorem ends_plkQueueUncorr {s : State} {g : Fin 6} (hs : s.Shape) (word : Fin 16384) : Ends (.plkQueueUncorr g word) s fun t =>
    t.queue g = (match runAt word (s.queue g) with | some (i, n) => upd (s.queue g) i (.lost n) | none => s.queue g) ∧
    t.rf (Reg.PLK_GRP_STATUS g) 30 28 = 4 ∧ t.fltPending 257 = true ∧ Within (.syn :: noticeFields) (fun a => faultReg a || among [Reg.PLK_GRP_STATUS g] a) s t := by
  obtain ⟨u, hu⟩ : ∃ u, u = (match runAt word (s.queue g) with | some (i, n) => s.setQueue g (upd (s.queue g) i (.lost n)) | none => s) := ⟨_, rfl⟩
  obtain ⟨t, ht⟩ : ∃ t, t = (u.wf (Reg.PLK_GRP_STATUS g) 30 28 4).notice 257 := ⟨_, rfl⟩
  have hq : u.queue g = (match runAt word (s.queue g) with | some (i, n) => upd (s.queue g) i (.lost n) | none => s.queue g) := by
    rw [hu]
    cases runAt word (s.queue g) with
    | none => rfl
    | some x => exact State.queue_setQueue_same (by rw [hs.queues]; exact g.isLt) _
  have hsu : Within [.syn] (fun _ => false) s u := by
    rw [hu]
    cases runAt word (s.queue g) with
    | none => exact .refl s
    | some x => exact s.setQueue_within _ _
  have hfield := u.wf_within (Reg.PLK_GRP_STATUS g) 30 28 4
  have hnote : Within noticeFields faultReg (u.wf (Reg.PLK_GRP_STATUS g) 30 28 4) t := by rw [ht]; exact State.notice_within _ 257 0 0 [] (by decide) (by decide)
  have hfault : faultReg (Reg.PLK_GRP_STATUS g) = false := by apply faultReg_plk <;> simp only [Reg.PLK_GRP_STATUS] <;> omega
  have hc : exec (.plkQueueUncorr g word) s = done t := by rw [ht, hu]; rfl
  refine ends_of_done hc ⟨?_, ?_, ?_, ?_⟩
  · rw [State.queue_endCycle, hnote.queue (by decide), hfield.queue (by decide), hq]
  · exact (hnote.rf hfault 30 28).trans (State.rf_wf_same _ _ (by decide) (by decide) _)
  · rw [ht]
    exact State.notice_pending _ 0 0 [] (by decide)
  · refine Within.ended ?_ (by decide)
    exact ((hsu.mono (by decide) (by simp)).trans (hfield.mono (by decide) fun a ha => by simp [among, beq_iff_eq.mp ha])).trans
      (hnote.mono (fun _ hf => List.mem_cons_of_mem _ hf) (by simp +contextual))

/-- Settles O39, command by command. -/
theorem bringupStages : Obligations.BringupStages := by
  unfold Obligations.BringupStages
  intro g s hs
  refine ⟨fun p => ends_bringup_start hs, fun p h hheld _ h6 hbc => ends_bringup_held hs h hheld h6 hbc, ends_bringupStageDone hs, ends_reachData hs,
    fun failing left hleft hmap htaking => ?_, fun p => ends_restripe hs, fun p => ends_sendMsg hs, fun img ok => ends_eqTableApply, ends_plkQueueUncorr hs⟩
  obtain ⟨hfail, hgo, hout, hw⟩ := State.bringupTimeout_spec g.isLt (by rw [hs.groups]; exact g.isLt) hmap htaking failing.toNat
  rw [show s.leftAt g failing.toNat = left from hleft.symm] at hfail hgo hout
  have hc : exec (.bringupStageTimeout g failing) s = done (s.bringupTimeout g failing.toNat) := rfl
  generalize s.bringupTimeout g failing.toNat = t at hc hfail hgo hout hw
  exact ends_of_done hc ⟨hfail, hgo, hout, hw.ended (by decide)⟩

end Sys2Proof.Machine

/-! ## Reports, losses and returns of lanes (R167, R169, R172, R175, R179) -/
namespace Sys2Proof.Machine

/-! ### What a report records (R167) -/

/-- The report of lane `l`, before the firmware's corrections. -/
def State.recorded (s : State) (l rx status errs : Nat) : State :=
  ((s.wf (Reg.PLK_LANE_STATUS l) 31 28 status).cntSat (Reg.PLK_LANE_SYNC_ERR l) 32 errs).setLane l
    { s.lane l with rxIn := some rx, clean := if 2 ≤ status ∧ errs = 0 then (s.lane l).clean + 1 else 0, good := if status = 4 ∧ errs = 0 then (s.lane l).good + 1 else 0 }

theorem State.reportIn_eq (s : State) (g k rx status errs : Nat) : s.reportIn g k rx status errs = (s.recorded (s.phys g k) rx status errs).correct (s.phys g k) status errs := rfl

section
variable (s : State) (l rx status errs : Nat)

theorem State.recorded_within : Within [.regs, .plk] (among [Reg.PLK_LANE_STATUS l, Reg.PLK_LANE_SYNC_ERR l]) s (s.recorded l rx status errs) :=
  (((s.wf_within _ _ _ _).one (by decide) (by simp)).trans ((State.cntSat_within _ _ _ _).one (by decide) (by simp))).trans ((State.setLane_within _ _ _).widen (by decide))

@[simp] theorem State.rd_setLane (s : State) (l : Nat) (v : Lane) (a : Nat) : (s.setLane l v).rd a = s.rd a := rfl

@[simp] theorem State.grp_recorded (g : Nat) : (s.recorded l rx status errs).grp g = s.grp g := rfl

theorem laneStatus_ne_syncErr (l m : Nat) : Reg.PLK_LANE_STATUS m ≠ Reg.PLK_LANE_SYNC_ERR l := by
  simp only [Reg.PLK_LANE_STATUS, Reg.PLK_LANE_SYNC_ERR]; omega

theorem State.rd_recorded_status (m : Nat) : (s.recorded l rx status errs).rd (Reg.PLK_LANE_STATUS m) = (s.wf (Reg.PLK_LANE_STATUS l) 31 28 status).rd (Reg.PLK_LANE_STATUS m) := by
  rw [State.recorded, State.rd_setLane]
  exact (State.cntSat_within _ _ _ _).rd (beq_eq_false_iff_ne.mpr (laneStatus_ne_syncErr l m))

theorem State.recorded_status {status : Nat} (h : status < 16) : (s.recorded l rx status errs).rf (Reg.PLK_LANE_STATUS l) 31 28 = status := by
  rw [State.rf, State.rd_recorded_status]
  exact (State.rf_wf_same _ _ (by decide) (by decide) _).trans (Nat.mod_eq_of_lt h)

/-- The other fields of a lane's status stand. -/
theorem State.recorded_other {hi lo : Nat} (hl : lo ≤ hi) (hh : hi < 28) : (s.recorded l rx status errs).rf (Reg.PLK_LANE_STATUS l) hi lo = s.rf (Reg.PLK_LANE_STATUS l) hi lo := by
  rw [State.rf, State.rd_recorded_status]
  exact State.rf_wf_other _ _ (by decide) (by decide) hl (by omega) _

theorem State.recorded_role : (s.recorded l rx status errs).role l = s.role l := s.recorded_other l rx status errs (by decide) (by decide)

theorem State.rn_cntSat_add (s : State) (a k : Nat) : (s.cntSat a 32 k).rn a = min (2 ^ 32 - 1) (s.rn a + k) := by
  have hlt := (s.rd a).isLt
  rw [State.cntSat, State.rn, State.wf, State.rd_wr_same, ← fld_full, fld_setFld_same _ (by decide) (by decide), State.rf, fld_full, satAdd, State.rn]
  split <;> omega

theorem State.recorded_errs : (s.recorded l rx status errs).rn (Reg.PLK_LANE_SYNC_ERR l) = min (2 ^ 32 - 1) (s.rn (Reg.PLK_LANE_SYNC_ERR l) + errs) := by
  rw [State.recorded, State.rn, State.rd_setLane, ← State.rn, State.rn_cntSat_add, (s.wf_within _ _ _ _).rn (beq_eq_false_iff_ne.mpr (laneStatus_ne_syncErr l l).symm)]

theorem State.lane_recorded (hl : l < s.plk.lanes.length) : (s.recorded l rx status errs).lane l =
    { s.lane l with rxIn := some rx, clean := if 2 ≤ status ∧ errs = 0 then (s.lane l).clean + 1 else 0, good := if status = 4 ∧ errs = 0 then (s.lane l).good + 1 else 0 } :=
  (State.lane_setLane _ _ _ _).trans (if_pos ⟨rfl, hl⟩)

end

/-! ### The map that ORDER writes (R169) -/

theorem foldl_length_fst {α β γ : Type} (f : List β × γ → α → List β × γ) (hf : ∀ x a, (f x a).1.length = x.1.length + 1) (l : List α) (x : List β × γ) :
    (l.foldl f x).1.length = x.1.length + l.length := by
  induction l generalizing x with
  | nil => rfl
  | cons a l ih => rw [List.foldl_cons, ih, hf, List.length_cons]; omega

theorem State.orderMap_perm {s : State} {g : Nat} {m : List Nat} (h : s.orderMap g = some m) : m.Perm (List.range 16) := by
  unfold State.orderMap at h
  dsimp only at h
  split at h
  · next hc =>
    rw [Option.some.injEq] at h
    rw [h] at hc
    refine perm_range_of_all ?_ fun i hi => List.contains_iff_mem.mp (List.all_eq_true.mp hc.2 i (List.mem_range.mpr hi))
    rw [← h, foldl_length_fst]
    · rfl
    · intro x k
      split <;> simp
  · exact absurd h (by simp)

section
variable {s : State} {g : Nat}

/-- What the correction of ORDER leaves alone. -/
structure State.Reordered (g : Nat) (s t : State) : Prop where
  within : Within [.regs, .plk] (fun a => grpReg g a || among [Reg.PLK_GRP_MAP_LO g, Reg.PLK_GRP_MAP_HI g] a) s t
  status : ∀ m hi lo, lo ≤ hi → hi < 24 ∨ 27 < lo → t.rf (Reg.PLK_LANE_STATUS m) hi lo = s.rf (Reg.PLK_LANE_STATUS m) hi lo
  lane : ∀ m, (t.lane m).clean = (s.lane m).clean ∧ (t.lane m).good = (s.lane m).good

theorem State.Reordered.refl (g : Nat) (s : State) : s.Reordered g s := ⟨.refl s, fun _ _ _ _ _ => rfl, fun _ => ⟨rfl, rfl⟩⟩

theorem State.Reordered.trans {t u : State} (h : s.Reordered g t) (k : t.Reordered g u) : s.Reordered g u :=
  ⟨h.within.trans k.within, fun m hi lo hl hh => (k.status m hi lo hl hh).trans (h.status m hi lo hl hh),
    fun m => ⟨(k.lane m).1.trans (h.lane m).1, (k.lane m).2.trans (h.lane m).2⟩⟩

/-- A lane's logical number as the corrected map gives it, and its input to be reported anew. -/
def State.renumber (s : State) (l k : Nat) : State := (s.wf (Reg.PLK_LANE_STATUS l) 27 24 k).setLane l { s.lane l with rxIn := none }

theorem State.renumber_reordered (s : State) {l : Nat} (hl : l / 16 = g) (k : Nat) : s.Reordered g (s.renumber l k) := by
  have hw := s.wf_within (Reg.PLK_LANE_STATUS l) 27 24 k
  refine ⟨(hw.mono (by decide) fun a ha => ?_).trans ((State.setLane_within _ _ _).widen (by decide)), fun m hi lo hlo hh => ?_, fun m => ?_⟩
  · rw [beq_iff_eq.mp ha, grpReg_lane hl (by simp), Bool.true_or]
  · rw [State.renumber, State.rf, State.rd_setLane]
    by_cases hm : m = l
    · rw [hm]
      exact State.rf_wf_other _ _ (by decide) (by decide) hlo (by omega) _
    · exact hw.rf (by simp only [Reg.PLK_LANE_STATUS, beq_eq_false_iff_ne]; omega) hi lo
  · rw [State.renumber, State.lane_setLane]
    split
    · next h => rw [← h.1]; exact ⟨rfl, rfl⟩
    · exact ⟨rfl, rfl⟩

/-- A group's record with the map `m`, and the lanes that take part by their new numbers. -/
def Grp.remapped (x : Grp) (m : List Nat) : Grp :=
  let phys := x.taking.map fun k => nth 0 x.map k
  { x with map := m, taking := (List.range 16).filter fun k => phys.contains (nth 0 m k) }

/-- Eight entries of a map from entry `o`, as a map register holds them. -/
def mapWord (m : List Nat) (o : Nat) : Nat := (List.range 8).foldl (fun a i => a + nth 0 m (o + i) * 16 ^ i) 0

theorem State.reorder_eq {m : List Nat} (hm : s.orderMap g = some m) (hne : m ≠ (s.grp g).map) : s.reorder g =
    (((s.setGrp g ((s.grp g).remapped m)).wn (Reg.PLK_GRP_MAP_LO g) (mapWord m 0)).wn (Reg.PLK_GRP_MAP_HI g) (mapWord m 8)).each 16 fun k s => s.renumber (s.phys g k) k := by
  rw [State.reorder, hm]
  exact if_neg hne

/-- The map registers rewritten. -/
theorem State.mapWords_reordered (s : State) (g lo hi : Nat) : s.Reordered g ((s.wn (Reg.PLK_GRP_MAP_LO g) lo).wn (Reg.PLK_GRP_MAP_HI g) hi) := by
  have hw : Within [.regs] (among [Reg.PLK_GRP_MAP_LO g, Reg.PLK_GRP_MAP_HI g]) s ((s.wn (Reg.PLK_GRP_MAP_LO g) lo).wn (Reg.PLK_GRP_MAP_HI g) hi) :=
    ((s.wn_within _ _).one (by decide) (by simp)).trans ((State.wn_within _ _ _).one (by decide) (by simp))
  refine ⟨hw.mono (by decide) (by simp +contextual), fun n hi lo _ _ => hw.rf (among_eq_false ?_) hi lo, fun n => by rw [hw.lane (by decide)]; exact ⟨rfl, rfl⟩⟩
  simp only [List.forall_mem_cons, List.mem_singleton, forall_eq, Reg.PLK_GRP_MAP_LO, Reg.PLK_GRP_MAP_HI, Reg.PLK_LANE_STATUS]
  omega

theorem State.setGrp_reordered (hg : g < 6) (v : Grp) : s.Reordered g (s.setGrp g v) := by
  have hset := s.setGrp_within g v
  refine ⟨hset.regs_mono fun a ha => ?_, fun n hi lo _ _ => ?_, fun n => by rw [State.lane_setGrp]; exact ⟨rfl, rfl⟩⟩
  · rw [List.mem_singleton.mp (mem_of_among ha), grpReg_grp g (by simp), Bool.true_or]
  · rw [hset.rf (among_eq_false (by simpa using (grpStatus_apart hg n).2.1))]

theorem State.reorder_reordered (hg : g < 6) (hlen : g < s.plk.groups.length) : s.Reordered g (s.reorder g) := by
  rcases hm : s.orderMap g with _ | m
  · rw [State.reorder, hm]
    exact .refl g s
  by_cases hne : m = (s.grp g).map
  · have hsame : s.reorder g = s := by
      rw [State.reorder, hm]
      exact if_pos hne
    rw [hsame]
    exact .refl g s
  rw [State.reorder_eq hm hne]
  have hperm := State.orderMap_perm hm
  have hset := State.setGrp_reordered (s := s) hg ((s.grp g).remapped m)
  have hgrp := State.grp_setGrp_same hlen ((s.grp g).remapped m)
  generalize s.setGrp g ((s.grp g).remapped m) = v at hset hgrp
  have hwords := v.mapWords_reordered g (mapWord m 0) (mapWord m 8)
  have hkept : ((v.wn (Reg.PLK_GRP_MAP_LO g) (mapWord m 0)).wn (Reg.PLK_GRP_MAP_HI g) (mapWord m 8)).grp g = v.grp g :=
    ((State.wn_within _ _ _).grp (by decide) g).trans ((State.wn_within _ _ _).grp (by decide) g)
  generalize (v.wn (Reg.PLK_GRP_MAP_LO g) (mapWord m 0)).wn (Reg.PLK_GRP_MAP_HI g) (mapWord m 8) = u at hwords hkept
  have hmap : (u.grp g).map = m := by rw [hkept, hgrp]; rfl
  refine (hset.trans hwords).trans (State.each_induction (P := fun w => u.Reordered g w ∧ w.grp g = u.grp g) ⟨.refl g u, rfl⟩ fun k hk w hw => ?_).1
  have hdiv : w.phys g k / 16 = g := (w.phys_group (by rw [hw.2, hmap]; exact nth_perm_lt hperm hk)).1
  exact ⟨hw.1.trans (w.renumber_reordered hdiv k), hw.2⟩

end

end Sys2Proof.Machine

/-! ## Corrections of the firmware, and the loss of a lane (R169, R172, R342) -/
namespace Sys2Proof.Machine

/-! ### Corrections (R169) -/

section
variable (s : State) {l status errs : Nat}

/-- A report of STATUS 4 or more is corrected in ORDER alone. -/
theorem State.correct_high (h : 4 ≤ status) : s.correct l status errs = s ∨ s.stage (l / 16) = 5 ∧ s.correct l status errs = s.reorder (l / 16) := by
  have h2 : ¬ status < 2 := by omega
  have h2' : (status == 2) = false := by simp; omega
  have h3 : (status == 3) = false := by simp; omega
  unfold State.correct
  simp only [h2, h2', h3, decide_false, Bool.false_and, Bool.or_false, Bool.and_false, Bool.false_eq_true, if_false]
  split
  · exact .inl rfl
  · split
    · next h => exact .inr ⟨by simpa using (Bool.and_eq_true_iff.mp h).2, rfl⟩
    · exact .inl rfl

/-- A lane that is not returning is corrected in SLIP, POLARITY and ORDER alone. -/
theorem State.correct_stage (hback : s.pgState (lanePage l) ≠ stReturning) (h3 : s.stage (l / 16) ≠ 3) (h4 : s.stage (l / 16) ≠ 4) (h5 : s.stage (l / 16) ≠ 5) :
    s.correct l status errs = s := by
  have hb : (s.pgState (lanePage l) == stReturning) = false := by simpa using hback
  have h3 : (s.stage (l / 16) == 3) = false := by simpa using h3
  have h4 : (s.stage (l / 16) == 4) = false := by simpa using h4
  have h5 : (s.stage (l / 16) == 5) = false := by simpa using h5
  simp [State.correct, hb, h3, h4, h5]

theorem State.correct_slip (hback : s.pgState (lanePage l) ≠ stReturning) (htaking : (s.grp (l / 16)).taking.contains (s.logical l) = true) (h3 : s.stage (l / 16) = 3) :
    s.correct l status errs = if status < 2 ∨ status = 2 ∧ errs ≠ 0 then s.slipLane l else s := by
  have hb : (s.pgState (lanePage l) == stReturning) = false := by simpa using hback
  have hst : (s.slipLane l).stage (l / 16) = 3 := (s.roleStep_laneStatus (g := l / 16) 22 16 _ rfl).stage.trans h3
  unfold State.correct
  simp only [hb, htaking, h3, Bool.or_true, Bool.false_or, Bool.not_true, Bool.false_eq_true, if_false, Nat.reduceBEq, Bool.false_and, beq_self_eq_true, Bool.true_and,
    Bool.not_false]
  by_cases hc : status < 2 ∨ status = 2 ∧ errs ≠ 0
  · have hc' : (decide (status < 2) || status == 2 && decide (errs ≠ 0)) = true := by simpa using hc
    simp only [if_pos hc, if_pos hc', hst]
    rfl
  · have hc' : ¬(decide (status < 2) || status == 2 && decide (errs ≠ 0)) = true := by simpa using hc
    simp only [if_neg hc, if_neg hc', h3]
    rfl

theorem State.correct_polarity (hback : s.pgState (lanePage l) ≠ stReturning) (htaking : (s.grp (l / 16)).taking.contains (s.logical l) = true) (h4 : s.stage (l / 16) = 4) :
    s.correct l status errs = if status = 3 then s.wb (Reg.PLK_LANE_CTRL l) 0 true else s := by
  have hb : (s.pgState (lanePage l) == stReturning) = false := by simpa using hback
  have hst : (s.wb (Reg.PLK_LANE_CTRL l) 0 true).stage (l / 16) = 4 := by
    refine Eq.trans ?_ h4
    exact (s.wb_within _ _ _).rf (by simp only [Reg.PLK_GRP_STATUS, Reg.PLK_LANE_CTRL, beq_eq_false_iff_ne]; omega) 3 0
  unfold State.correct
  simp only [hb, htaking, h4, Bool.or_true, Bool.false_or, Bool.not_true, Bool.false_eq_true, if_false, Nat.reduceBEq, Bool.false_and, beq_self_eq_true, Bool.true_and,
    Bool.not_false]
  by_cases hc : status = 3
  · simp only [hc, beq_self_eq_true, if_true, hst]
    rfl
  · have hc' : (status == 3) = false := by simpa using hc
    simp only [hc, hc', Bool.false_eq_true, if_false, h4]
    rfl

theorem State.correct_order (hback : s.pgState (lanePage l) ≠ stReturning) (htaking : (s.grp (l / 16)).taking.contains (s.logical l) = true) (h5 : s.stage (l / 16) = 5) :
    s.correct l status errs = s.reorder (l / 16) := by
  have hb : (s.pgState (lanePage l) == stReturning) = false := by simpa using hback
  unfold State.correct
  simp only [hb, htaking, h5, Bool.or_true, Bool.false_or, Bool.not_true, Bool.false_eq_true, if_false, Nat.reduceBEq, Bool.false_and, beq_self_eq_true, Bool.true_and,
    Bool.not_false, if_true]

/-- One slip more, at most 65 (R179). -/
theorem State.slipLane_spec : (s.slipLane l).rf (Reg.PLK_LANE_STATUS l) 22 16 = min 65 (s.rf (Reg.PLK_LANE_STATUS l) 22 16 + 1) ∧ (s.slipLane l).role l = s.role l ∧
    Within [.regs] (among [Reg.PLK_LANE_STATUS l]) s (s.slipLane l) := by
  refine ⟨?_, ?_, (s.wf_within _ _ _ _).one (by decide) (by simp)⟩
  · refine (State.rf_wf_same s (Reg.PLK_LANE_STATUS l) (by decide) (by decide) _).trans ?_
    omega
  · exact State.rf_wf_other _ _ (by decide) (by decide) (by decide) (by decide) _

end

/-! ### A lane lost (R172) -/

/-- Lane `l`, in service with a role or not, has been lost. -/
structure State.LaneLost (l : Nat) (s t : State) : Prop where
  role : t.role l = roleFenced
  state : t.pgState (lanePage l) = stFenced
  losses : t.rn (Reg.PLK_LANE_LOSSES l) = min (2 ^ 32 - 1) (s.rn (Reg.PLK_LANE_LOSSES l) + 1)
  hold : (t.grp (l / 16)).hold = ((s.grp (l / 16)).hold || s.role l == roleData)
  within : Within (.plk :: noticeFields) (fun a => fenceReg a || grpReg (l / 16) a || among [Reg.PLK_LANE_LOSSES l, Reg.PAGE_CTRL (lanePage l)] a) s t

section
variable {l : Nat} {s t u : State} (hl : l < 96)
include hl

theorem fenceReg_lane : fenceReg (Reg.PLK_LANE_STATUS l) = false ∧ fenceReg (Reg.PAGE_STATUS (lanePage l)) = false ∧ fenceReg (Reg.PLK_LANE_LOSSES l) = false := by
  refine ⟨?_, ?_, ?_⟩ <;> apply fenceReg_plk <;> simp only [Reg.PLK_LANE_STATUS, Reg.PAGE_STATUS, lanePage, Reg.page, Reg.PLK_LANE_LOSSES] <;> omega

/-- What the collector does after the loss. -/
theorem State.LaneLost.after (h : s.LaneLost l t) (k : Within noticeFields fenceReg t u) : s.LaneLost l u := by
  obtain ⟨hst, hpg, hlo⟩ := fenceReg_lane hl
  exact ⟨(k.rf hst 1 0).trans h.role, (k.rf hpg 2 0).trans h.state, (k.rn hlo).trans h.losses, by rw [k.grp (by decide), h.hold],
    h.within.trans (k.mono (fun _ hf => List.mem_cons_of_mem _ hf) fun a ha => by simp [ha])⟩

/-- What the collector does before the loss. -/
theorem State.LaneLost.before (k : Within noticeFields fenceReg s t) (h : t.LaneLost l u) : s.LaneLost l u := by
  obtain ⟨hst, -, hlo⟩ := fenceReg_lane hl
  have hrole : t.role l = s.role l := k.rf hst 1 0
  exact ⟨h.role, h.state, by rw [h.losses, k.rn hlo], by rw [h.hold, k.grp (by decide), hrole],
    (k.mono (fun _ hf => List.mem_cons_of_mem _ hf) fun a ha => by simp [ha]).trans h.within⟩

/-- The reaction of a lane: FENCE_REQ is set, and the lane lost. -/
theorem State.laneLost_laneLoss (hlen : l / 16 < s.plk.groups.length) : s.LaneLost l ((s.wb (Reg.PAGE_CTRL (lanePage l)) 3 true).laneLoss l) := by
  obtain ⟨a, ha⟩ : ∃ a, a = s.wb (Reg.PAGE_CTRL (lanePage l)) 3 true := ⟨_, rfl⟩
  obtain ⟨b, hb⟩ : ∃ b, b = a.cntSat (Reg.PLK_LANE_LOSSES l) 32 1 := ⟨_, rfl⟩
  obtain ⟨c, hc⟩ : ∃ c, c = (b.setRole l roleFenced).laneState l stFenced := ⟨_, rfl⟩
  obtain ⟨d, hd⟩ : ∃ d, d = c.setLane l { c.lane l with byLoss := true, ready := false, leaving := false, clean := 0 } := ⟨_, rfl⟩
  obtain ⟨e, he⟩ : ∃ e, e = d.when (a.role l == roleData) fun s => s.setGrp (l / 16) { s.grp (l / 16) with hold := true } := ⟨_, rfl⟩
  have heq : a.laneLoss l = e.evt (785 + 2 * l) := by rw [he, hd, hc, hb]; rfl
  have hg : l / 16 < 6 := by omega
  have hsa : Within [.regs] (fun x => x == Reg.PAGE_CTRL (lanePage l)) s a := by rw [ha]; exact s.wb_within _ _ _
  have hab : Within [.regs] (fun x => x == Reg.PLK_LANE_LOSSES l) a b := by rw [hb]; exact a.cntSat_within _ _ _
  have hbc : b.RoleStep (l / 16) c := by rw [hc]; exact (b.roleStep_setRole _ rfl).trans (State.roleStep_laneState _ _ hg rfl)
  have hcd : c.RoleStep (l / 16) d := by rw [hd]; exact c.roleStep_setLane _ _
  have hde : d.RoleStep (l / 16) e := by
    rw [he, State.when]
    split
    · exact d.roleStep_setGrp _
    · exact .refl _ _
  have hev := e.evt_within (785 + 2 * l)
  have hplk : c.plk = s.plk := by
    rw [hc, (State.laneState_within _ _ _).plk (by decide), (b.setRole_within l roleFenced).plk (by decide), hab.plk (by decide), hsa.plk (by decide)]
  have hgrp : d.grp (l / 16) = s.grp (l / 16) := by rw [hd, State.grp_setLane, State.grp, hplk, State.grp]
  have harole : a.role l = s.role l := hsa.rf (by simp only [Reg.PLK_LANE_STATUS, Reg.PAGE_CTRL, lanePage, Reg.page, beq_eq_false_iff_ne]; omega) 1 0
  have hend : ∀ x, evtReg x = false → Reg.PAGE_STATUS (grpPage (l / 16)) ≠ x → (e.evt (785 + 2 * l)).rd x = c.rd x := fun x hx hne => by
    have hkeep : e.rd x = d.rd x := by
      rw [he]
      exact (State.when_within _ (d.setGrp_within _ _)).rd (among_eq_false (by simpa using hne))
    rw [hev.rd hx, hkeep, hd, State.rd_setLane]
  obtain ⟨-, hstatus, hpage, -, -⟩ := grpStatus_apart hg l
  rw [← ha, heq]
  refine ⟨?_, ?_, ?_, ?_, ?_⟩
  · rw [State.role, State.rf, hend _ (evtReg_of_faultReg (faultReg_of_fenceReg (fenceReg_lane hl).1)) hstatus, hc]
    exact (b.role_taken hl (by decide) stFenced).trans (if_pos rfl)
  · rw [State.pgState, State.rf, hend _ (evtReg_laneStatus hl) hpage, hc]
    exact (b.state_taken hl (by decide) roleFenced).trans (if_pos rfl)
  · have hevt : evtReg (Reg.PLK_LANE_LOSSES l) = false := evtReg_of_faultReg (faultReg_of_fenceReg (fenceReg_lane hl).2.2)
    have hreg : grpReg (l / 16) (Reg.PLK_LANE_LOSSES l) = false := by
      refine grpReg_eq_false ?_ ?_ ?_ ?_ ?_ ?_ hg <;> simp only [Reg.PLK_LANE_LOSSES, Reg.PLK_UP] <;> omega
    rw [hev.rn hevt, ((hbc.trans hcd).trans hde).within.rn (by rw [hevt, hreg]; rfl), hb, State.rn_cntSat,
      hsa.rn (by simp only [Reg.PLK_LANE_LOSSES, Reg.PAGE_CTRL, lanePage, Reg.page, beq_eq_false_iff_ne]; omega)]
  · rw [hev.grp (by decide), he, State.when, harole]
    cases hdata : s.role l == roleData
    · rw [if_neg (by simp), hgrp, Bool.or_false]
    · rw [if_pos rfl, State.grp_setGrp_same (by rw [hcd.groups, hbc.groups, hab.plk (by decide), hsa.plk (by decide)]; exact hlen), Bool.or_true]
  · have hmid := ((hbc.trans hcd).trans hde).within
    have hevt : ∀ x, evtReg x = true → fenceReg x = true := fun x hx => by simp [fenceReg, faultReg, hx]
    refine (((hsa.mono (by decide) fun x hx => ?_).trans (hab.mono (by decide) fun x hx => ?_)).trans (hmid.mono (by decide) fun x hx => ?_)).trans
      (hev.mono (by decide) fun x hx => ?_)
    · simp [among, beq_iff_eq.mp hx]
    · simp [among, beq_iff_eq.mp hx]
    · rcases Bool.or_eq_true_iff.mp hx with hx | hx
      · simp [hevt x hx]
      · simp [hx]
    · simp [hevt x hx]

end

/-! ### The fault of a lane (R342) -/

/-- With no window open a FENCE fault of the device's own is recorded as a primary one (R333, R345). -/
theorem State.judge_fence (s : State) {r : Report} (hc : baseClass r.src = some 2) (hne : r.src ≠ 133) :
    ∃ u n, s.judge [] r = (u, some ⟨r, 2, 0, false, false, 0, 0, n⟩) ∧ Within noticeFields reportReg s u := by
  have h133 : (r.src == 133) = false := by simpa using hne
  have hraise := s.setFltSrc_report r.src { s.fltSrc r.src with raises := satAdd 16 (s.fltSrc r.src).raises 1 }
  unfold State.judge
  simp only [hc, h133, State.when, windowFor, List.find?_nil, Nat.reduceBEq, Nat.reduceEqDiff, Bool.false_eq_true, if_false, decide_false, Bool.false_and]
  cases srcLoc fltRanges r.src <;> exact ⟨_, _, rfl, hraise⟩

/-- The way of a single report whose record is primary: the reaction, the pending bit, the log. -/
theorem State.raiseGroup_primary (s : State) (react : React) {r : Report} {u : State} {x : FRec} (hj : s.judge s.flt.windows r = (u, some x)) (hx : x.kind = 0) :
    ∃ (v : State) (y : FRec), Within noticeFields reportReg u v ∧ y.rep = x.rep ∧ y.cls = x.cls ∧ y.lasting = x.lasting ∧ y.kind = 0 ∧
      (s.raiseGroup react [r]).1 = ((v.reactRec react y).1.noteRec (v.reactRec react y).2.1).logRec (v.reactRec react y).2.1 := by
  have hstore : ∀ (b : Bool) l, Within noticeFields reportReg u (if b then u.storeWr 0x140 l else u) := fun b l => by
    split
    · exact u.storeWr_report _ _
    · exact .refl u
  have hkind : ¬ x.kind = 2 := by omega
  unfold State.raiseGroup
  simp only [List.foldl_cons, List.foldl_nil, List.nil_append, hj]
  refine ⟨_, if x.kind = 2 then x else { x with seq := nextSeq u.fltSeq, kind := 0 }, hstore _ _, ?_, ?_, ?_, ?_, rfl⟩ <;> rw [if_neg hkind]

theorem lane_source (l : Fin 96) : baseClass (148 + l) = some 2 ∧ srcDetector (148 + l) = some (.lane l) := (by decide : ∀ l : Fin 96, baseClass (148 + l) = some 2 ∧
  srcDetector (148 + l) = some (.lane l)) l

section
variable {s : State} {l : Fin 96} (hlen : l.val / 16 < s.plk.groups.length) (hp : s.pgState (lanePage l) ≠ stFenced)
include hlen hp

/-- The reaction of a record against a lane that is not FENCED yet. -/
theorem State.reactRec_lane {y : FRec} (hsrc : y.rep.src = 148 + l) (hcls : y.cls = 2) (hlast : y.lasting = false) (hkind : y.kind = 0) :
    s.LaneLost l (s.reactRec fenceUnit y).1 ∧ (s.reactRec fenceUnit y).2.1.rep.src = 148 + l := by
  obtain ⟨hbase, hdet⟩ := lane_source l
  have hne : (148 + l.val) ≠ 133 := by omega
  have hunit : srcUnit y.rep = some (.lane l) := by simp only [srcUnit, hsrc, if_neg hne, hbase, if_pos, hdet]
  have hdetail : (s.unitDetail y).rep.src = 148 + l ∧ (s.unitDetail y).lasting = false := by
    unfold State.unitDetail
    split
    · split
      · exact ⟨hsrc, hlast⟩
      · exact ⟨hsrc, hlast⟩
    · exact ⟨hsrc, hlast⟩
  have hreact : fenceUnit false (.lane l) s = ((s.wb (Reg.PAGE_CTRL (lanePage l)) 3 true).laneLoss l, true) := by
    unfold fenceUnit
    dsimp only
    rw [State.fencePage, if_neg hp]
  have hlost := State.laneLost_laneLoss (s := s) l.isLt hlen
  have h02 : ¬ (0 : Nat) = 2 := by decide
  have h23 : ¬ (2 : Nat) = 3 := by decide
  unfold State.reactRec
  simp only [hkind, hcls, hlast, hunit, hdetail.2, State.when, h02, h23, Bool.false_eq_true, if_false, if_true, hreact]
  exact ⟨hlost.after l.isLt (State.openWindow_report _ _ _).toFence, hdetail.1⟩

variable (hw : s.flt.windows = [])
include hw

theorem State.raiseGroup_lane {r : Report} (hr : r.src = 148 + l) : s.LaneLost l (s.raiseGroup fenceUnit [r]).1 ∧
    (s.raiseGroup fenceUnit [r]).1.fltPending (148 + l) = true := by
  obtain ⟨hbase, -⟩ := lane_source l
  have hlt : 148 + l.val < 512 := by omega
  obtain ⟨u, n, hj, hu⟩ := s.judge_fence (r := r) (hr ▸ hbase) (by omega)
  obtain ⟨v, y, hv, hyrep, hycls, hylast, hykind, h⟩ := s.raiseGroup_primary fenceUnit (by rw [hw]; exact hj) rfl
  have hsv := (hu.trans hv).toFence
  obtain ⟨-, hpg, -⟩ := fenceReg_lane l.isLt
  have hpv : v.pgState (lanePage l) ≠ stFenced := by rw [State.pgState, hsv.rf hpg]; exact hp
  obtain ⟨hreact, hsrc⟩ := State.reactRec_lane (s := v) (l := l) (y := y) (by rw [hsv.plk (by decide)]; exact hlen) hpv (by rw [hyrep]; exact hr) hycls hylast hykind
  rw [h]
  generalize v.reactRec fenceUnit y = z at hreact hsrc
  have hnote := z.1.noteRec_within z.2.1 (by rw [hsrc]; exact hlt)
  have hlog := (z.1.noteRec z.2.1).logRec_report z.2.1
  refine ⟨((hreact.before l.isLt hsv).after l.isLt hnote.noticeToFence).after l.isLt hlog.toFence, ?_⟩
  exact (hlog.pendingKept hlt).trans (hsrc ▸ z.1.noteRec_pending z.2.1)

theorem State.raiseWith_lane {r : Report} (hr : r.src = 148 + l) : s.LaneLost l (s.raiseWith fenceUnit [r]) ∧
    (s.raiseWith fenceUnit [r]).fltPending (148 + l) = true := by
  have hlt : 148 + l.val < 512 := by omega
  obtain ⟨hgroup, hpend⟩ := State.raiseGroup_lane hlen hp hw hr
  unfold State.raiseWith
  generalize s.raiseGroup fenceUnit [r] = z at hgroup hpend
  obtain ⟨u, full⟩ := z
  obtain ⟨v, hv⟩ : ∃ v, v = if full then (u.raiseGroup noReact [⟨478, 0, 0, [], false⟩]).1 else u := ⟨_, rfl⟩
  have hfull : Within noticeFields fenceReg u v ∧ v.fltPending (148 + l) = true := by
    rw [hv]
    split
    · exact ⟨(u.raiseGroup_notice noReact _ (by decide) (by decide)).noticeToFence, (u.raiseGroup_reported .geo noReact (by decide)).pending _ hlt hpend⟩
    · exact ⟨.refl u, hpend⟩
  have hpair := v.pairUpdate_within.toReport
  dsimp only
  rw [← hv]
  exact ⟨(hgroup.after l.isLt hfull.1).after l.isLt hpair.toFence, (hpair.pendingKept hlt).trans hfull.2⟩

/-- A fault of the device's own against a lane (R172): the lane is lost and 148 + l is pending. -/
theorem State.faultOne_lane : s.LaneLost l (s.faultOne (148 + l)) ∧ (s.faultOne (148 + l)).fltPending (148 + l) = true := by
  have hlt : 148 + l.val < 512 := by omega
  have hdetail := (s.detail_within (148 + l) 0 0).noticeToFence
  have hflt : (s.detail (148 + l) 0 0).2.flt = s.flt := by
    unfold State.detail
    split <;> rfl
  unfold State.faultOne
  generalize s.detail (148 + l) 0 0 = d at hdetail hflt ⊢
  obtain ⟨lo, u⟩ := d
  obtain ⟨-, hpg, -⟩ := fenceReg_lane l.isLt
  have hne : (148 + l.val) ≠ 133 := by omega
  have hnamed : u.nameSubs [⟨148 + l, lo, 0, [], false⟩] = ([⟨148 + l, lo, 0, [], false⟩], u) := by simp [State.nameSubs, State.nameSub, hne]
  obtain ⟨hraise, hpend⟩ := State.raiseWith_lane (s := u) (l := l) (r := ⟨148 + l, lo, 0, [], false⟩) (by rw [hdetail.plk (by decide)]; exact hlen)
    (by rw [State.pgState, hdetail.rf hpg]; exact hp) ((congrArg Flt.windows hflt).trans hw) rfl
  have hkeep : ∀ a, fenceReg a = false → 0x800000 ≤ a → (u.raiseWith fenceUnit [⟨148 + l, lo, 0, [], false⟩]).rd a = u.rd a := fun a ha hbig => by
    refine hraise.within.rd ?_
    have hl := l.isLt
    have hreg : grpReg (l / 16) a = false := Bool.eq_false_iff.mpr fun h => by
      rcases grpReg_cases h with h | h | h
      · simp only [Reg.PLK_UP] at h; omega
      · omega
      · omega
    rw [ha, hreg, among_eq_false]
    · rfl
    · simp only [List.forall_mem_cons, List.mem_singleton, forall_eq, Reg.PLK_LANE_LOSSES, Reg.PAGE_CTRL, lanePage, Reg.page]
      omega
  have hpairs : (u.raiseWith fenceUnit [⟨148 + l, lo, 0, [], false⟩]).mgtLost = u.mgtLost := by
    simp only [State.mgtLost, State.mgtState, State.rf, hkeep Reg.MGT_PAIR (by decide) (by decide)]
  have hcore : (u.raiseWith fenceUnit [⟨148 + l, lo, 0, [], false⟩]).coreActive = u.coreActive := by
    simp only [State.coreActive, State.rf, hkeep Reg.CLK_CORE_SEL (by decide) (by decide)]
  have hfault := State.fault_named hnamed rfl hcore hpairs
  have hkick := (u.raiseWith fenceUnit [⟨148 + l, lo, 0, [], false⟩]).panelKick_report
  change s.LaneLost l (u.fault [⟨148 + l, lo, 0, [], false⟩]) ∧ (u.fault [⟨148 + l, lo, 0, [], false⟩]).fltPending (148 + l) = true
  rw [hfault]
  exact ⟨(hraise.after l.isLt hkick.toFence).before l.isLt hdetail, (hkick.pendingKept hlt).trans hpend⟩

end

end Sys2Proof.Machine

/-! ## Reports, losses and returns as commands -/
namespace Sys2Proof.Machine

/-! ### A report received (R167) -/

/-- The registers that a report of lane `l` writes before its corrections. -/
abbrev toldRegs (g l : Nat) : List Nat := [Reg.PLK_GRP_BC_STATUS g, Reg.PLK_LANE_STATUS l, Reg.PLK_LANE_SYNC_ERR l, Reg.PAGE_STATUS (grpPage g)]

/-- `u` is `s` after a report of lane `l` of group `g` has been received and recorded. -/
structure State.Told (s : State) (g l rx st errs : Nat) (u : State) : Prop where
  within : Within [.regs, .plk] (among (toldRegs g l)) s u
  grp : u.grp g = { s.grp g with msg := true }
  groups : u.plk.groups.length = s.plk.groups.length
  status : u.rf (Reg.PLK_LANE_STATUS l) 31 28 = st
  other : ∀ hi lo, lo ≤ hi → hi < 28 → u.rf (Reg.PLK_LANE_STATUS l) hi lo = s.rf (Reg.PLK_LANE_STATUS l) hi lo
  count : u.rn (Reg.PLK_LANE_SYNC_ERR l) = min (2 ^ 32 - 1) (s.rn (Reg.PLK_LANE_SYNC_ERR l) + errs)
  lane : u.lane l = { s.lane l with rxIn := some rx, clean := if 2 ≤ st ∧ errs = 0 then (s.lane l).clean + 1 else 0, good := if st = 4 ∧ errs = 0 then (s.lane l).good + 1 else 0 }

theorem State.told_recorded {s : State} {g l rx st errs : Nat} (hs : s.Shape) (hg : g < 6) (hl : l < 96) (hst : st < 16) :
    s.Told g l rx st errs ((s.heard g).recorded l rx st errs) := by
  have hw := s.heard_within g
  have hkeep : ∀ x, x ≠ Reg.PLK_GRP_BC_STATUS g → x ≠ Reg.PAGE_STATUS (grpPage g) → (s.heard g).rd x = s.rd x := fun x h1 h2 =>
    hw.rd (among_eq_false (by simpa using ⟨h1.symm, h2.symm⟩))
  have hstatus : (s.heard g).rd (Reg.PLK_LANE_STATUS l) = s.rd (Reg.PLK_LANE_STATUS l) := by
    refine hkeep _ ?_ (grpStatus_apart hg l).2.1.symm
    simp only [Reg.PLK_LANE_STATUS, Reg.PLK_GRP_BC_STATUS]; omega
  have herrs : (s.heard g).rd (Reg.PLK_LANE_SYNC_ERR l) = s.rd (Reg.PLK_LANE_SYNC_ERR l) := by
    refine hkeep _ ?_ ?_ <;> simp only [Reg.PLK_LANE_SYNC_ERR, Reg.PLK_GRP_BC_STATUS, Reg.PAGE_STATUS, grpPage, Reg.page] <;> omega
  have hlanes : (s.heard g).plk.lanes = s.plk.lanes := by
    rw [State.heard, (State.wb_within _ _ _ _).plk (by decide), State.setGrp_plk]
  have hlane : (s.heard g).lane l = s.lane l := by rw [State.lane, hlanes, State.lane]
  refine ⟨?_, ?_, ?_, State.recorded_status _ _ _ _ hst, fun hi lo hlo hh => ?_, ?_, ?_⟩
  · exact (hw.regs_mono fun _ => among_mono (by simp)).trans ((State.recorded_within _ _ _ _ _).regs_mono fun _ => among_mono (by simp))
  · rw [State.grp_recorded, State.grp_heard (by rw [hs.groups]; exact hg)]
  · exact s.heard_groups_length g
  · rw [State.recorded_other _ _ _ _ _ hlo hh, State.rf, hstatus, State.rf]
  · rw [State.recorded_errs, State.rn, herrs, State.rn]
  · rw [State.lane_recorded _ _ _ _ _ (by rw [hlanes, hs.lanes]; exact hl), hlane]

section
variable {s u : State} {g l rx st errs : Nat} (h : s.Told g l rx st errs u)
include h

theorem State.Told.keeps {x : Nat} (ho : x % 0x1000 ≠ 0x44) (h54 : x % 0x1000 ≠ 0x54) (h70 : x % 0x1000 ≠ 0x70) (h10 : x ≠ Reg.PAGE_STATUS (grpPage g)) :
    u.rd x = s.rd x := by
  refine h.within.rd (among_eq_false ?_)
  simp only [List.forall_mem_cons, List.mem_singleton, forall_eq]
  refine ⟨?_, ?_, ?_, h10.symm⟩ <;> simp only [Reg.PLK_GRP_BC_STATUS, Reg.PLK_LANE_STATUS, Reg.PLK_LANE_SYNC_ERR] <;> omega

theorem State.Told.role : u.role l = s.role l := h.other 1 0 (by decide) (by decide)

theorem State.Told.stage (hg : g < 6) : u.stage g = s.stage g := by
  refine congrArg (fld · 3 0) (h.keeps ?_ ?_ ?_ (grpStatus_ne_status hg g).symm) <;> simp only [Reg.PLK_GRP_STATUS] <;> omega

theorem State.Told.state (hg : g < 6) : u.pgState (lanePage l) = s.pgState (lanePage l) := by
  refine congrArg (fld · 2 0) (h.keeps ?_ ?_ ?_ (grpStatus_ne_lane hg l).symm) <;> simp only [Reg.PAGE_STATUS, lanePage, Reg.page] <;> omega

theorem State.Told.lossErrs : u.rf Reg.PLK_LOSS_ERRS 15 0 = s.rf Reg.PLK_LOSS_ERRS 15 0 := by
  refine congrArg (fld · 15 0) (h.keeps (by decide) (by decide) (by decide) ?_)
  simp only [Reg.PAGE_STATUS, grpPage, Reg.page, Reg.PLK_LOSS_ERRS]; omega

theorem State.Told.losses : u.rn (Reg.PLK_LANE_LOSSES l) = s.rn (Reg.PLK_LANE_LOSSES l) := by
  refine congrArg BitVec.toNat (h.keeps ?_ ?_ ?_ ?_) <;> simp only [Reg.PLK_LANE_LOSSES, Reg.PAGE_STATUS, grpPage, Reg.page] <;> omega

theorem State.Told.logical (hl : l / 16 = g) : u.logical l = s.logical l := by rw [State.logical, hl, h.grp, State.logical, hl]

end

/-- LANE_REPORT as a report recorded, corrected, and judged for a loss. -/
theorem exec_laneReport {s : State} {g : Fin 6} {k rx st : Fin 16} {errs : Fin 65536} (hs : s.Shape) (hlock : (s.grp g).lock = true) (hm : nth 0 (s.grp g).map k < 16) :
    ∃ u v, s.Told g (s.phys g k) rx st errs u ∧ u.correct (s.phys g k) st errs = v ∧
      exec (.laneReport g k rx st errs) s = done (if st.val < 4 ∨ max 1 (v.rf Reg.PLK_LOSS_ERRS 15 0) ≤ errs.val then v.lossReport (s.phys g k) else v) := by
  have hl := (s.phys_group hm).2 g.isLt
  have hphys : (s.heard g).phys g k = s.phys g k := by rw [State.phys, State.grp_heard (by rw [hs.groups]; exact g.isLt), State.phys]
  refine ⟨_, _, State.told_recorded (rx := rx) (st := st) (errs := errs) hs g.isLt hl st.isLt, rfl, ?_⟩
  change done (s.bcMessage g _) = _
  rw [State.bcMessage_locked hlock, State.laneReport, State.reportIn_eq, hphys]

section
variable {s : State} {g : Fin 6} {k rx st : Fin 16} {errs : Fin 65536} {l : Nat} (hs : s.Shape) (hlock : (s.grp g).lock = true) (hl : l = s.phys g k)
  (hm : nth 0 (s.grp g).map k < 16)
include hs hlock hl hm

/-- A report that keeps its lane. -/
theorem ends_laneReport_good (h4 : 4 ≤ st.val) (herrs : errs.val < max 1 (s.rf Reg.PLK_LOSS_ERRS 15 0)) : Ends (.laneReport g k rx st errs) s fun t =>
    t.rf (Reg.PLK_LANE_STATUS l) 31 28 = st.val ∧ t.rn (Reg.PLK_LANE_SYNC_ERR l) = min (2 ^ 32 - 1) (s.rn (Reg.PLK_LANE_SYNC_ERR l) + errs) ∧
    (t.lane l).clean = (if errs.val = 0 then (s.lane l).clean + 1 else 0) ∧
    (t.lane l).good = (if st.val = 4 ∧ errs.val = 0 then (s.lane l).good + 1 else 0) ∧
    (s.stage g ≠ 5 → (t.lane l).rxIn = some rx.val ∧ (t.grp g).map = (s.grp g).map ∧ Within [.regs, .hif, .plk] (among (toldRegs g l)) s t) ∧
    Within [.regs, .hif, .plk] (fun a => grpReg g a || among [Reg.PLK_GRP_BC_STATUS g, Reg.PLK_GRP_MAP_LO g, Reg.PLK_GRP_MAP_HI g, Reg.PLK_LANE_SYNC_ERR l] a) s t := by
  obtain ⟨u, v, hu, hv, hc⟩ := exec_laneReport (rx := rx) (st := st) (errs := errs) hs hlock hm
  obtain ⟨hdiv, hlt⟩ := s.phys_group hm
  rw [← hl] at hu hv hc hdiv hlt
  have hr : u.Reordered g v ∧ (s.stage g ≠ 5 → v = u) := by
    rcases State.correct_high u (l := l) (errs := errs) h4 with h | ⟨h5, h⟩
    · rw [hv] at h
      rw [h]
      exact ⟨.refl g u, fun _ => rfl⟩
    · rw [hv, hdiv] at h
      rw [hdiv, hu.stage g.isLt] at h5
      rw [h]
      exact ⟨State.reorder_reordered g.isLt (by rw [hu.groups, hs.groups]; exact g.isLt), fun hne => absurd h5 hne⟩
  obtain ⟨hr, hsame⟩ := hr
  have hkeep : ∀ x, x % 0x1000 ≠ 0x10 → x % 0x1000 ≠ 0x34 → x % 0x1000 ≠ 0x44 → x % 0x1000 ≠ 0x48 → x % 0x1000 ≠ 0x50 → x ≠ Reg.PLK_UP →
      (x % 0x1000 ≠ 0x4C ∨ x / 0x1000 = 0x700) → (x % 0x1000 ≠ 0x54 ∨ 0x708 ≤ x / 0x1000) → v.rd x = u.rd x := fun x h10 h34 h44 h48 h50 hup h4C h54 => by
    refine hr.within.rd ?_
    rw [grpReg_eq_false hup h10 h34 h44 (.inl h48) (h4C.imp id .inr) g.isLt, among_eq_false]
    · rfl
    · simp only [List.forall_mem_cons, List.mem_singleton, forall_eq, Reg.PLK_GRP_MAP_LO, Reg.PLK_GRP_MAP_HI]
      omega
  have hloss : v.rf Reg.PLK_LOSS_ERRS 15 0 = s.rf Reg.PLK_LOSS_ERRS 15 0 :=
    (congrArg (fld · 15 0) (hkeep Reg.PLK_LOSS_ERRS (by decide) (by decide) (by decide) (by decide) (by decide) (by decide) (.inr (by decide)) (.inl (by decide)))).trans
      (hu.lossErrs)
  rw [hloss, if_neg (by omega)] at hc
  have herr : v.rn (Reg.PLK_LANE_SYNC_ERR l) = u.rn (Reg.PLK_LANE_SYNC_ERR l) := by
    refine congrArg BitVec.toNat (hkeep _ ?_ ?_ ?_ ?_ ?_ ?_ ?_ ?_) <;> simp only [Reg.PLK_LANE_SYNC_ERR, Reg.PLK_UP] <;> omega
  refine ends_of_done hc ⟨?_, herr.trans hu.count, ?_, ?_, fun hne => ?_, ?_⟩
  · exact (hr.status l 31 28 (by decide) (by decide)).trans hu.status
  · rw [State.lane_endCycle, (hr.lane l).1, hu.lane]
    have h2 : 2 ≤ st.val := by omega
    simp only [h2, true_and]
  · rw [State.lane_endCycle, (hr.lane l).2, hu.lane]
  · rw [State.lane_endCycle, State.grp_endCycle, hsame hne, hu.lane, hu.grp]
    exact ⟨rfl, rfl, (hu.within.widen (by decide)).ended (by decide)⟩
  · refine Within.ended (Within.trans (hu.within.mono (by decide) fun a ha => ?_) (hr.within.mono (by decide) fun a ha => ?_)) (by decide)
    · rcases List.mem_cons.mp (mem_of_among ha) with rfl | ha
      · simp [among]
      rcases List.mem_cons.mp ha with rfl | ha
      · rw [grpReg_lane hdiv (by simp), Bool.true_or]
      rcases List.mem_cons.mp ha with rfl | ha
      · simp [among]
      · rw [List.mem_singleton.mp ha, grpReg_grp g (by simp), Bool.true_or]
    · exact Bool.or_eq_true_iff.mpr ((Bool.or_eq_true_iff.mp ha).imp id fun ha => among_mono (by simp) ha)

/-- A report on a lane that takes part in bring-up. -/
theorem ends_laneReport_training (hrole : s.role l = roleNone) (hback : s.pgState (lanePage l) ≠ 6) (ht : (s.grp g).taking.contains (s.logical l) = true) (h4 : st.val < 4) :
    Ends (.laneReport g k rx st errs) s fun t =>
      (s.stage g = 3 → st.val < 2 ∨ st.val = 2 ∧ errs.val ≠ 0 → t.rf (Reg.PLK_LANE_STATUS l) 22 16 = min 65 (s.rf (Reg.PLK_LANE_STATUS l) 22 16 + 1)) ∧
      (s.stage g = 4 → st.val = 3 → t.rb (Reg.PLK_LANE_CTRL l) 0 = true) ∧ t.role l = roleNone ∧
      (s.stage g ≠ 5 → Within [.regs, .hif, .plk]
        (among [Reg.PLK_GRP_BC_STATUS g, Reg.PLK_LANE_STATUS l, Reg.PLK_LANE_CTRL l, Reg.PLK_LANE_SYNC_ERR l, Reg.PAGE_STATUS (grpPage g)]) s t) := by
  obtain ⟨u, v, hu, hv, hc⟩ := exec_laneReport (rx := rx) (st := st) (errs := errs) hs hlock hm
  obtain ⟨hdiv, -⟩ := s.phys_group hm
  rw [← hl] at hu hv hc hdiv
  have hbacku : u.pgState (lanePage l) ≠ stReturning := by rw [hu.state g.isLt]; exact hback
  have htu : (u.grp (l / 16)).taking.contains (u.logical l) = true := by rw [hdiv, hu.grp, hu.logical hdiv]; exact ht
  have hstage : u.stage (l / 16) = s.stage g := by rw [hdiv]; exact hu.stage g.isLt
  have hfinal : (s.stage g = 3 → st.val < 2 ∨ st.val = 2 ∧ errs.val ≠ 0 → v.rf (Reg.PLK_LANE_STATUS l) 22 16 = min 65 (s.rf (Reg.PLK_LANE_STATUS l) 22 16 + 1)) ∧
      (s.stage g = 4 → st.val = 3 → v.rb (Reg.PLK_LANE_CTRL l) 0 = true) ∧ v.role l = u.role l ∧
      (s.stage g ≠ 5 → Within [.regs] (among [Reg.PLK_LANE_STATUS l, Reg.PLK_LANE_CTRL l]) u v) := by
    rw [← hv]
    by_cases h3 : s.stage g = 3
    · obtain ⟨hslip, hsrole, hsw⟩ := u.slipLane_spec (l := l)
      rw [State.correct_slip u hbacku htu (hstage.trans h3)]
      split
      · exact ⟨fun _ _ => by rw [hslip, hu.other 22 16 (by decide) (by decide)], fun h => by omega, hsrole, fun _ => hsw.regs_mono fun _ => among_mono (by simp)⟩
      · next hno => exact ⟨fun _ h => absurd h hno, fun h => by omega, rfl, fun _ => .refl u⟩
    by_cases h4' : s.stage g = 4
    · rw [State.correct_polarity u hbacku htu (hstage.trans h4')]
      have hw := u.wb_within (Reg.PLK_LANE_CTRL l) 0 true
      have hne : (Reg.PLK_LANE_STATUS l == Reg.PLK_LANE_CTRL l) = false := by simp only [Reg.PLK_LANE_STATUS, Reg.PLK_LANE_CTRL, beq_eq_false_iff_ne]; omega
      split
      · exact ⟨fun h => absurd h h3, fun _ _ => (State.rb_wb_same _ _ (by decide) _ _).trans (if_pos rfl), hw.rf hne 1 0, fun _ => hw.one (by decide) (by simp)⟩
      · next hno => exact ⟨fun h => absurd h h3, fun _ h => absurd h hno, rfl, fun _ => .refl u⟩
    by_cases h5 : s.stage g = 5
    · have hr := State.reorder_reordered (s := u) (g := l / 16) (by omega) (by rw [hu.groups, hs.groups]; omega)
      rw [State.correct_order u hbacku htu (hstage.trans h5)]
      exact ⟨fun h => absurd h h3, fun h => absurd h h4', hr.status l 1 0 (by decide) (by decide), fun h => absurd h5 h⟩
    · rw [State.correct_stage u hbacku (by rw [hstage]; exact h3) (by rw [hstage]; exact h4') (by rw [hstage]; exact h5)]
      exact ⟨fun h => absurd h h3, fun h => absurd h h4', rfl, fun _ => .refl u⟩
  obtain ⟨hslip, hinv, hvrole, hw⟩ := hfinal
  have hnone : v.role l = roleNone := by rw [hvrole, hu.role, hrole]
  have hkept : v.lossReport l = v := if_neg (by rw [hnone]; decide)
  rw [if_pos (.inl h4), hkept] at hc
  refine ends_of_done hc ⟨hslip, hinv, hnone, fun h5 => Within.ended (Within.trans (hu.within.mono (by decide) ?_) ((hw h5).mono (by decide) ?_)) (by decide)⟩
  · exact fun _ => among_mono (by simp)
  · exact fun _ => among_mono (by simp)

/-- A report that loses its lane. -/
theorem ends_laneReport_lost (hst : s.stage g = stageData) (hrole : s.role l = roleData ∨ s.role l = roleStandin) (h4 : s.pgState (lanePage l) ≠ 4)
    (h6 : s.pgState (lanePage l) ≠ 6) (hwin : s.flt.windows = []) (hbad : st.val < 4 ∨ max 1 (s.rf Reg.PLK_LOSS_ERRS 15 0) ≤ errs.val) :
    Ends (.laneReport g k rx st errs) s fun t =>
      t.role l = roleFenced ∧ t.pgState (lanePage l) = 4 ∧ t.rn (Reg.PLK_LANE_LOSSES l) = min (2 ^ 32 - 1) (s.rn (Reg.PLK_LANE_LOSSES l) + 1) ∧
      t.fltPending (148 + l) = true ∧ (t.grp g).hold = ((s.grp g).hold || s.role l == roleData) ∧
      Within (.plk :: noticeFields)
        (fun a => fenceReg a || grpReg g a || among [Reg.PLK_GRP_BC_STATUS g, Reg.PLK_LANE_SYNC_ERR l, Reg.PLK_LANE_LOSSES l, Reg.PAGE_CTRL (lanePage l)] a) s t := by
  obtain ⟨u, v, hu, hv, hc⟩ := exec_laneReport (rx := rx) (st := st) (errs := errs) hs hlock hm
  obtain ⟨hdiv, hlt⟩ := s.phys_group hm
  rw [← hl] at hu hv hc hdiv hlt
  have hlt := hlt g.isLt
  have hstage : u.stage (l / 16) = 8 := by rw [hdiv]; exact (hu.stage g.isLt).trans hst
  have hvu : v = u := by
    rw [← hv]
    exact State.correct_stage u (by rw [hu.state g.isLt]; exact h6) (by rw [hstage]; decide) (by rw [hstage]; decide) (by rw [hstage]; decide)
  have hlost : u.lossReport l = u.faultOne (148 + l) := if_pos (by rw [hu.role]; exact hrole)
  rw [hvu, hu.lossErrs, if_pos hbad, hlost] at hc
  obtain ⟨hloss, hpend⟩ := State.faultOne_lane (s := u) (l := ⟨l, hlt⟩) (by rw [hu.groups, hs.groups, hdiv]; exact g.isLt) (by rw [hu.state g.isLt]; exact h4)
    (by rw [hu.within.flt (by decide)]; exact hwin)
  change u.LaneLost l (u.faultOne (148 + l)) at hloss
  change (u.faultOne (148 + l)).fltPending (148 + l) = true at hpend
  generalize u.faultOne (148 + l) = t at hc hloss hpend
  refine ends_of_done hc ⟨hloss.role, hloss.state, hloss.losses.trans (by rw [hu.losses]), hpend, ?_, ?_⟩
  · have hhold := hloss.hold
    rw [hdiv, hu.grp, hu.role] at hhold
    exact hhold
  · have hw := hloss.within
    rw [hdiv] at hw
    refine Within.ended (Within.trans (hu.within.mono (by decide) fun a ha => ?_) (hw.regs_mono fun a ha => ?_)) (by decide)
    · rcases List.mem_cons.mp (mem_of_among ha) with rfl | ha
      · simp [among]
      rcases List.mem_cons.mp ha with rfl | ha
      · rw [grpReg_lane hdiv (by simp), Bool.or_true, Bool.true_or]
      rcases List.mem_cons.mp ha with rfl | ha
      · simp [among]
      · rw [List.mem_singleton.mp ha, grpReg_grp g (by simp), Bool.or_true, Bool.true_or]
    · exact Bool.or_eq_true_iff.mpr ((Bool.or_eq_true_iff.mp ha).imp id fun ha => among_mono (by simp) ha)

omit hl in
/-- LANE_LOST. -/
theorem ends_laneLost (hl : l = s.phys g k) (hrole : s.role l = roleData ∨ s.role l = roleStandin) (h4 : s.pgState (lanePage l) ≠ 4) (hwin : s.flt.windows = []) :
    Ends (.laneLost g k) s fun t =>
      t.role l = roleFenced ∧ t.pgState (lanePage l) = 4 ∧ t.rn (Reg.PLK_LANE_LOSSES l) = min (2 ^ 32 - 1) (s.rn (Reg.PLK_LANE_LOSSES l) + 1) ∧
      t.fltPending (148 + l) = true ∧ (t.grp g).hold = ((s.grp g).hold || s.role l == roleData) ∧
      Within (.plk :: noticeFields) (fun a => fenceReg a || grpReg g a || among [Reg.PLK_GRP_BC_STATUS g, Reg.PLK_LANE_LOSSES l, Reg.PAGE_CTRL (lanePage l)] a) s t := by
  obtain ⟨hdiv, hlt⟩ := s.phys_group hm
  rw [← hl] at hdiv hlt
  have hlt := hlt g.isLt
  have hg : g.val < s.plk.groups.length := by rw [hs.groups]; exact g.isLt
  have hgrp := State.grp_heard hg
  have hw := s.heard_within g
  have hgroups := s.heard_groups_length g
  have hc : exec (.laneLost g k) s = done ((s.heard g).lossReport ((s.heard g).phys g k)) := congrArg done (State.bcMessage_locked hlock _)
  have hphys : (s.heard g).phys g k = l := by rw [State.phys, hgrp, hl, State.phys]
  rw [hphys] at hc
  generalize s.heard g = u at hc hgrp hw hgroups
  have hkeep : ∀ x, x % 0x1000 ≠ 0x70 → x ≠ Reg.PAGE_STATUS (grpPage g) → u.rd x = s.rd x := fun x h70 hpg => hw.rd (among_eq_false (by
    simp only [List.forall_mem_cons, List.mem_singleton, forall_eq]
    exact ⟨by simp only [Reg.PLK_GRP_BC_STATUS]; omega, hpg.symm⟩))
  have hurole : u.role l = s.role l := congrArg (fld · 1 0) (hkeep _ (by simp only [Reg.PLK_LANE_STATUS]; omega) (grpStatus_apart g.isLt l).2.1.symm)
  have hustate : u.pgState (lanePage l) = s.pgState (lanePage l) :=
    congrArg (fld · 2 0) (hkeep _ (by simp only [Reg.PAGE_STATUS, lanePage, Reg.page]; omega) (grpStatus_ne_lane g.isLt l).symm)
  have hulosses : u.rn (Reg.PLK_LANE_LOSSES l) = s.rn (Reg.PLK_LANE_LOSSES l) := by
    refine congrArg BitVec.toNat (hkeep _ ?_ ?_) <;> simp only [Reg.PLK_LANE_LOSSES, Reg.PAGE_STATUS, grpPage, Reg.page] <;> omega
  have hlost : u.lossReport l = u.faultOne (148 + l) := if_pos (by rw [hurole]; exact hrole)
  rw [hlost] at hc
  obtain ⟨hloss, hpend⟩ := State.faultOne_lane (s := u) (l := ⟨l, hlt⟩) (by rw [hgroups]; exact hdiv ▸ hg) (by rw [hustate]; exact h4)
    (by rw [hw.flt (by decide)]; exact hwin)
  change u.LaneLost l (u.faultOne (148 + l)) at hloss
  change (u.faultOne (148 + l)).fltPending (148 + l) = true at hpend
  generalize u.faultOne (148 + l) = t at hc hloss hpend
  refine ends_of_done hc ⟨hloss.role, hloss.state, hloss.losses.trans (by rw [hulosses]), hpend, ?_, ?_⟩
  · have hhold := hloss.hold
    rw [hdiv, hgrp, hurole] at hhold
    exact hhold
  · have hlw := hloss.within
    rw [hdiv] at hlw
    refine Within.ended (Within.trans (hw.mono (by decide) fun a ha => ?_) (hlw.regs_mono fun a ha => ?_)) (by decide)
    · rcases List.mem_cons.mp (mem_of_among ha) with rfl | ha
      · simp [among]
      · rw [List.mem_singleton.mp ha, grpReg_grp g (by simp), Bool.or_true, Bool.true_or]
    · exact Bool.or_eq_true_iff.mpr ((Bool.or_eq_true_iff.mp ha).imp id fun ha => among_mono (by simp) ha)

end

/-! ### Detection, returns and slips (R172, R175, R179) -/

section
variable {s : State} (hs : s.Shape) (l : Fin 96)
include hs

theorem ends_txDetectFail (hrole : s.role l = roleData ∨ s.role l = roleStandin) (h4 : s.pgState (lanePage l) ≠ 4) (hwin : s.flt.windows = []) : Ends (.txDetectFail l) s fun t =>
    t.role l = roleFenced ∧ t.pgState (lanePage l) = 4 ∧ t.rn (Reg.PLK_LANE_LOSSES l) = min (2 ^ 32 - 1) (s.rn (Reg.PLK_LANE_LOSSES l) + 1) ∧ t.fltPending (148 + l) = true ∧
    Within (.plk :: noticeFields) (fun a => fenceReg a || grpReg (l / 16) a || among [Reg.PLK_LANE_LOSSES l, Reg.PAGE_CTRL (lanePage l)] a) s t := by
  obtain ⟨hloss, hpend⟩ := State.faultOne_lane (s := s) (l := l) (by rw [hs.groups]; omega) h4 hwin
  have hc : exec (.txDetectFail l) s = done (s.faultOne (148 + l)) := congrArg done (if_pos hrole)
  generalize s.faultOne (148 + l.val) = t at hc hloss hpend
  exact ends_of_done hc ⟨hloss.role, hloss.state, hloss.losses, hpend, hloss.within.ended (by decide)⟩

omit hs in
theorem ends_laneAutoReturn (hctrl : s.rb (Reg.PLK_GRP_CTRL (l / 16)) 0 = true) (hloss : (s.lane l).byLoss = true) (hret : s.laneReturns l = true) :
    Ends (.laneAutoReturn l) s fun t => t.pgState (lanePage l) = 5 ∧ t.rb (Reg.PAGE_CTRL (lanePage l)) 3 = false ∧
      Within (.plk :: .freeCtr :: evtFields) (fun a => evtReg a || among [Reg.PAGE_CTRL (lanePage l), Reg.PAGE_STATUS (lanePage l)] a) s t := by
  obtain ⟨a, ha⟩ : ∃ a, a = s.wb (Reg.PAGE_CTRL (lanePage l)) 3 false := ⟨_, rfl⟩
  obtain ⟨b, hb⟩ : ∃ b, b = a.laneState l stTest := ⟨_, rfl⟩
  have hsa : Within [.regs] (fun x => x == Reg.PAGE_CTRL (lanePage l)) s a := by rw [ha]; exact s.wb_within _ _ _
  have hab := a.laneState_within l stTest
  have hstate : b.pgState (lanePage l) = 5 := by rw [hb]; exact a.pgState_laneState l.isLt (by decide)
  rw [← hb] at hab
  have hseed : Within [.plk, .freeCtr] (fun _ => false) b (b.seedLane l 3) :=
    .of_same (fun f => by cases f <;> first | (left; decide) | (right; rfl)) rfl
  have hc : exec (.laneAutoReturn l) s = done (b.seedLane l 3) := by
    rw [hb, ha]
    exact congrArg done (if_pos (by rw [hctrl, hloss, hret]; rfl))
  have hreq : b.rb (Reg.PAGE_CTRL (lanePage l)) 3 = false := by
    have hne : Reg.PAGE_CTRL (lanePage l) ≠ Reg.PAGE_STATUS (lanePage l) := by simp only [Reg.PAGE_CTRL, Reg.PAGE_STATUS]; omega
    have hevt : evtReg (Reg.PAGE_CTRL (lanePage l)) = false := by
      have hl := l.isLt
      apply evtReg_plk <;> simp only [Reg.PAGE_CTRL, lanePage, Reg.page] <;> omega
    rw [hab.rb (by rw [hevt, beq_eq_false_iff_ne.mpr hne]; rfl), ha]
    exact (State.rb_wb_same _ _ (by decide) _ _).trans (if_pos rfl)
  generalize b.seedLane l 3 = t at hseed hc
  refine ends_of_done hc ⟨(hseed.rf rfl 2 0).trans hstate, (hseed.rb rfl 3).trans hreq, ?_⟩
  exact (((hsa.mono (by decide) fun x hx => by simp [among, beq_iff_eq.mp hx]).trans (hab.mono (by decide) fun x hx => by
    rcases Bool.or_eq_true_iff.mp hx with hx | hx
    · simp [hx]
    · simp [among, beq_iff_eq.mp hx])).trans (hseed.mono (by decide) (by simp))).ended (by decide)

theorem ends_laneReturnQualified (hq : s.laneQualified l = true) : Ends (.laneReturnQualified l) s fun t =>
    (t.lane l).ready = true ∧ Within [.hif, .plk] (fun _ => false) s t := by
  refine ends_of_done (congrArg done (if_pos hq)) ⟨?_, ((s.setLane_within _ _).widen (by decide)).ended (by decide)⟩
  rw [State.lane_endCycle, State.lane_setLane, if_pos ⟨rfl, by rw [hs.lanes]; exact l.isLt⟩]

end

/-- The row of PLK_LANE_SLIP. -/
def rowLaneSlip : RegRow := ⟨0x4C, 0x0, 1, .wo, 0x0, 0xFFFFFFFF, [], []⟩

theorem laneSlip_reg (l : Fin 96) : regRow (Reg.PLK_LANE_SLIP l) = some rowLaneSlip ∧ hasHeader (Reg.PLK_LANE_SLIP l / 0x100000) (Reg.PLK_LANE_SLIP l / 0x1000 % 256) = true ∧
    Reg.PLK_LANE_SLIP l / 0x1000 * 0x1000 = lanePage l := (by decide : ∀ l : Fin 96, regRow (Reg.PLK_LANE_SLIP l) = some rowLaneSlip ∧
      hasHeader (Reg.PLK_LANE_SLIP l / 0x100000) (Reg.PLK_LANE_SLIP l / 0x1000 % 256) = true ∧ Reg.PLK_LANE_SLIP l / 0x1000 * 0x1000 = lanePage l) l

theorem ends_laneSlip {s : State} {p : Party} {l : Fin 96} {v : Word} (h : Allowed s p (Reg.PLK_LANE_SLIP l) v) : Ends (.laneSlip p l v) s fun t =>
    t.rf (Reg.PLK_LANE_STATUS l) 22 16 =
      (if bit v 0 = true ∧ (s.role l = roleNone ∨ s.role l = roleFenced) then min 65 (s.rf (Reg.PLK_LANE_STATUS l) 22 16 + 1) else s.rf (Reg.PLK_LANE_STATUS l) 22 16) ∧
    Within [.regs, .hif] (among [Reg.PLK_LANE_STATUS l, Reg.SEQ (lanePage l)]) s t := by
  obtain ⟨hrow, hhead, hpage⟩ := laneSlip_reg l
  have hne : Reg.PLK_LANE_SLIP l ≠ Reg.SEQ (Reg.PLK_LANE_SLIP l / 0x1000 * 0x1000) := by
    rw [hpage]
    simp only [Reg.PLK_LANE_SLIP, Reg.SEQ, lanePage, Reg.page]
    omega
  obtain ⟨u, hu, hw⟩ := State.regWrite_command h hrow rfl hhead hne fun s => s.laneSlip l v
  rw [hpage] at hw
  have hstatus : u.rd (Reg.PLK_LANE_STATUS l) = s.rd (Reg.PLK_LANE_STATUS l) := hw.rd (among_eq_false (by
    simp only [List.mem_singleton, forall_eq, Reg.SEQ, lanePage, Reg.page, Reg.PLK_LANE_STATUS]; omega))
  have hrole : u.role l = s.role l := congrArg (fld · 1 0) hstatus
  have hcount : u.rf (Reg.PLK_LANE_STATUS l) 22 16 = s.rf (Reg.PLK_LANE_STATUS l) 22 16 := congrArg (fld · 22 16) hstatus
  obtain ⟨hslip, -, hsw⟩ := u.slipLane_spec (l := l)
  have hspec : (u.laneSlip l v).rf (Reg.PLK_LANE_STATUS l) 22 16 =
      (if bit v 0 = true ∧ (s.role l = roleNone ∨ s.role l = roleFenced) then min 65 (s.rf (Reg.PLK_LANE_STATUS l) 22 16 + 1) else s.rf (Reg.PLK_LANE_STATUS l) 22 16) ∧
      Within [.regs] (among [Reg.PLK_LANE_STATUS l]) u (u.laneSlip l v) := by
    rw [State.laneSlip, hrole]
    split
    · exact ⟨by rw [hslip, hcount], hsw⟩
    · exact ⟨hcount, .refl u⟩
  have hc : exec (.laneSlip p l v) s = done (u.laneSlip l v) := congrArg done hu
  generalize u.laneSlip l v = t at hc hspec
  refine ends_of_done hc ⟨hspec.1, Within.ended (Within.trans (hw.mono (by decide) ?_) (hspec.2.mono (by decide) ?_)) (by decide)⟩
  · exact fun _ => among_mono (by simp)
  · exact fun _ => among_mono (by simp)

/-- Settles O38, command by command. -/
theorem lanesLeaveAndReturn : Obligations.LanesLeaveAndReturn := by
  unfold Obligations.LanesLeaveAndReturn
  intro s hs
  refine ⟨fun g k rx st errs l hlock hl hm => ends_laneReport_good hs hlock hl hm, fun g k rx st errs l hlock hl hm => ends_laneReport_training hs hlock hl hm,
    fun g k rx st errs l hlock hl hm => ends_laneReport_lost hs hlock hl hm, fun g k l hlock hl hm => ends_laneLost hs hlock hm hl, ends_txDetectFail hs, fun l hrole => ?_,
    ends_laneAutoReturn, ends_laneReturnQualified hs, fun p l v => ends_laneSlip⟩
  have hno : ¬(s.role l = roleData ∨ s.role l = roleStandin) := by
    rcases hrole with h | h <;> rw [h] <;> decide
  exact ends_of_done (t := s) (congrArg done (if_neg hno)) ((Within.refl s).ended (by decide))

end Sys2Proof.Machine

/-! ## What is sent only grows: events and NOTICE faults (R41 to R43, R333) -/
namespace Sys2Proof.Machine

/-- All that was sent in `s` has been sent in `t`, in the same order. -/
def State.Grows (s t : State) : Prop := s.sent <+: t.sent

section
variable {s t u : State}

theorem State.Grows.trans (h : s.Grows t) (k : t.Grows u) : s.Grows u := List.IsPrefix.trans h k

/-- A step that sends nothing. -/
theorem State.Grows.of_sent (h : t.sent = s.sent) : s.Grows t := by rw [State.Grows, h]

theorem State.Grows.append {l : List Output} (h : t.sent = s.sent ++ l) : s.Grows t := ⟨l, h.symm⟩

theorem State.each_grows {n : Nat} {f : Nat → State → State} (s : State) (h : ∀ i < n, ∀ u : State, u.Grows (f i u)) : s.Grows (s.each n f) :=
  State.each_induction (P := fun u => s.Grows u) (.of_sent rfl) fun i hi u hu => hu.trans (h i hi u)

theorem State.when_grows {c : Bool} {f : State → State} (h : s.Grows (f s)) : s.Grows (s.when c f) := by
  unfold State.when
  split
  · exact h
  · exact .of_sent rfl

theorem State.toVector_grows (s : State) (p v : Nat) : s.Grows (s.toVector p v) := by
  unfold State.toVector
  split
  · exact .of_sent rfl
  · split
    · exact .of_sent rfl
    · exact .append rfl

theorem State.toSvc_grows (s : State) (src : Nat) : s.Grows (s.toSvc src) := by
  unfold State.toSvc
  split <;> exact .of_sent rfl

theorem State.toTarget_grows (s : State) (src n : Nat) : s.Grows (s.toTarget src n) := by
  unfold State.toTarget
  dsimp only
  split
  · split
    · split
      · exact s.toVector_grows _ _
      · exact .of_sent rfl
    · split
      · exact .append rfl
      · exact s.toSvc_grows src
  · exact .of_sent rfl

theorem State.evt_grows (s : State) (src : Nat) : s.Grows (s.evt src) := by
  unfold State.evt
  split
  · exact .of_sent rfl
  · split
    · dsimp only
      split
      · exact .of_sent rfl
      · refine State.Grows.trans ?_ (State.each_grows _ fun n _ u => u.toTarget_grows src n)
        exact .of_sent rfl
    · exact .of_sent rfl

theorem State.Grows.evt (h : s.Grows t) (src : Nat) : s.Grows (t.evt src) := h.trans (t.evt_grows src)

theorem State.Grows.ite {c : Prop} [Decidable c] (h : s.Grows t) (k : s.Grows u) : s.Grows (if c then t else u) := by
  split
  · exact h
  · exact k

/-! ### A NOTICE fault -/

theorem State.storeWr_grows (s : State) (off : Nat) (l : List Byte) : s.Grows (s.storeWr off l) :=
  .of_sent ((s.storeWr_within off l (p := fun _ => false)).sent (by decide))

theorem State.Grows.storeFlag (h : s.Grows t) (off : Nat) (l : List Byte) (i : Nat) (b : Bool) : s.Grows ((t.storeWr off l).setStoreFlag i b) :=
  (h.trans (t.storeWr_grows off l)).trans (State.storeWr_grows _ _ _)

theorem State.absorb_grows (s : State) (w : Window) : s.Grows (s.absorb w) := by
  unfold State.absorb
  split
  · exact .of_sent rfl
  · refine State.Grows.evt ?_ _
    exact .of_sent rfl

theorem State.logRec_grows (s : State) (r : FRec) : s.Grows (s.logRec r) := by
  unfold State.logRec
  dsimp only
  split
  · exact .of_sent rfl
  · have hone := State.Grows.evt (s := s) (t := State.wn { s with flt := { s.flt with
      log := Sparse.set (fun _ => (0, [])) s.flt.log (s.rn Reg.FLT_LOG_WR % 1024) (s.rn Reg.FLT_LOG_WR, s.recWords r) } } Reg.FLT_LOG_WR (s.rn Reg.FLT_LOG_WR + 1))
      (.of_sent rfl) (1859 - r.cls)
    have htwo := State.Grows.evt (hone.storeFlag 0xC0 (wordBytes (s.recWords r)) 0 true) 1862
    exact .ite (.storeFlag (.ite htwo hone) _ _ _ _) (.ite htwo hone)

theorem State.pairUpdate_grows (s : State) : s.Grows s.pairUpdate := by
  unfold State.pairUpdate
  split
  · exact .of_sent rfl
  · refine State.Grows.evt ?_ _
    exact .of_sent rfl

/-- The judgement of a NOTICE fault raises no event but a window's. -/
theorem State.judge_grows (s : State) (ws : List Window) {r : Report} (h : baseClass r.src = some 0) : s.Grows (s.judge ws r).1 := by
  have hne := baseClass_notice_ne h
  have habsorb : ∀ v w, s.Grows ((s.setFltSrc r.src v).absorb w) := fun v w => (s.setFltSrc r.src v).absorb_grows w
  unfold State.judge
  simp only [h, hne, State.when, Nat.reduceBEq, Bool.false_eq_true, ↓reduceIte, OfNat.zero_ne_ofNat, decide_true, Bool.true_and]
  cases srcLoc fltRanges r.src
  all_goals
    dsimp only
    split
    · split
      · exact .of_sent rfl
      · exact habsorb _ _
    · split
      · rename_i hc; cases hc
      · split <;> exact .of_sent rfl

theorem State.runRecs_grows (s : State) (react : React) (seq : Nat) (first : Bool) {l : List FRec} (h : ∀ r ∈ l, r.cls = 0) : s.Grows (s.runRecs react seq first l).1 := by
  induction l generalizing s first with
  | nil => exact .of_sent rfl
  | cons r t ih =>
    have hreact : ∀ q : FRec, q.cls = 0 → s.reactRec react q = (s, q, false) := fun q hq => s.reactRec_notice react hq
    have hcls : (if r.kind = 2 then r else { r with seq := seq, kind := if first then 0 else 1 }).cls = 0 := by split <;> exact h r (by simp)
    unfold State.runRecs
    simp only [hreact _ hcls]
    refine State.Grows.trans (State.Grows.trans ?_ (State.logRec_grows _ _)) (ih _ _ fun x hx => h x (by simp [hx]))
    exact .of_sent rfl

theorem State.notice_grows (s : State) {src : Nat} (h : baseClass src = some 0) : s.Grows (s.notice src) := by
  have hdetail : s.Grows (s.detail src 0 0).2 := by
    unfold State.detail
    split <;> exact .of_sent rfl
  unfold State.notice
  refine (hdetail.trans ?_).trans (State.pairUpdate_grows _)
  generalize (s.detail src 0 0).2 = u
  generalize (s.detail src 0 0).1 = lo
  have hj := u.judge_grows u.flt.windows (r := ⟨src, lo, 0, [], false⟩) h
  have hc := (u.judge_notice u.flt.windows ⟨src, lo, 0, [], false⟩ h).2
  unfold State.raiseGroup
  simp only [List.foldl_cons, List.foldl_nil, List.nil_append]
  exact (State.Grows.ite (hj.trans (State.storeWr_grows _ _ _)) hj).trans (State.runRecs_grows _ _ _ _ fun y hy => (hc y (Option.mem_toList.mp (rankSort_mem hy))).1)

end

end Sys2Proof.Machine

/-! ## Steps of a group at a release (R161, R173) -/
namespace Sys2Proof.Machine

/-- The registers of a group that a release may write. -/
abbrev releaseRegs (g : Nat) : List Nat :=
  [Reg.PLK_GRP_FRAMES g, Reg.PLK_GRP_HELD g, Reg.PLK_GRP_LATE g, Reg.PLK_GRP_STATUS g, Reg.PLK_GRP_RUNS g, Reg.PAGE_STATUS (grpPage g)]

/-- Where the registers lie that a release may write. -/
theorem releaseRegs_place {g a : Nat} (h : among (releaseRegs g) a = true) :
    a / 0x1000 = 0x701 + g ∧ a % 0x1000 ≠ 0xC ∧ a % 0x1000 ≠ 0x1C ∧ a % 0x1000 ≠ 0x4C := by
  have hm := mem_of_among h
  simp only [List.mem_cons, List.not_mem_nil, or_false, Reg.PLK_GRP_FRAMES, Reg.PLK_GRP_HELD, Reg.PLK_GRP_LATE, Reg.PLK_GRP_STATUS, Reg.PLK_GRP_RUNS,
    Reg.PAGE_STATUS, grpPage, Reg.page] at hm
  omega

/-- `t` is `s` after steps at a release on the groups of `l`: other groups stand, no lane is marked to leave or to join, what was sent and raised stays so. -/
structure State.LinkStep (l : List Nat) (s t : State) : Prop where
  within : Within (.plk :: .syn :: noticeFields) (fun a => faultReg a || l.any fun g => among (releaseRegs g) a) s t
  grp : ∀ m ∉ l, t.grp m = s.grp m
  queue : ∀ m ∉ l, t.queue m = s.queue m
  lane : ∀ k, k / 16 ∉ l → t.lane k = s.lane k
  marks : ∀ k, (t.lane k).leaving = (s.lane k).leaving ∧ (t.lane k).ready = (s.lane k).ready
  groups : t.plk.groups.length = s.plk.groups.length
  lanes : t.plk.lanes.length = s.plk.lanes.length
  queues : t.syn.queues.length = s.syn.queues.length
  grows : s.Grows t
  pending : ∀ src < 512, s.fltPending src = true → t.fltPending src = true

section
variable {l : List Nat} {g : Nat} {s t u : State}

theorem State.LinkStep.refl (l : List Nat) (s : State) : s.LinkStep l s :=
  ⟨.refl s, fun _ _ => rfl, fun _ _ => rfl, fun _ _ => rfl, fun _ => ⟨rfl, rfl⟩, rfl, rfl, rfl, .of_sent rfl, fun _ _ h => h⟩

theorem State.LinkStep.trans (h : s.LinkStep l t) (k : t.LinkStep l u) : s.LinkStep l u where
  within := h.within.trans k.within
  grp m hm := (k.grp m hm).trans (h.grp m hm)
  queue m hm := (k.queue m hm).trans (h.queue m hm)
  lane i hi := (k.lane i hi).trans (h.lane i hi)
  marks i := ⟨(k.marks i).1.trans (h.marks i).1, (k.marks i).2.trans (h.marks i).2⟩
  groups := k.groups.trans h.groups
  lanes := k.lanes.trans h.lanes
  queues := k.queues.trans h.queues
  grows := h.grows.trans k.grows
  pending src hs hp := k.pending src hs (h.pending src hs hp)

theorem State.LinkStep.mono {m : List Nat} (h : s.LinkStep l t) (hlm : l ⊆ m) : s.LinkStep m t where
  within := h.within.regs_mono fun a ha => by
    rw [Bool.or_eq_true_iff, List.any_eq_true] at ha ⊢
    exact ha.imp_right fun ⟨g, hg, hga⟩ => ⟨g, hlm hg, hga⟩
  grp k hk := h.grp k fun hl => hk (hlm hl)
  queue k hk := h.queue k fun hl => hk (hlm hl)
  lane k hk := h.lane k fun hl => hk (hlm hl)
  marks := h.marks
  groups := h.groups
  lanes := h.lanes
  queues := h.queues
  grows := h.grows
  pending := h.pending

/-- Registers stand that neither the collector nor a release of the groups writes. -/
theorem State.LinkStep.rd (h : s.LinkStep l t) {a : Nat} (ha : faultReg a = false) (hp : ∀ g ∈ l, among (releaseRegs g) a = false) : t.rd a = s.rd a := by
  refine h.within.rd ?_
  rw [ha, Bool.false_or, List.any_eq_false]
  exact fun g hg => Bool.eq_false_iff.mp (hp g hg)

/-- Registers of the link stand whose page is not one of the groups'. -/
theorem State.LinkStep.rd_page (h : s.LinkStep l t) {a : Nat} (ho : a % 0x1000 ≠ 0x1C) (hl : 0x700000 ≤ a) (hu : a < 0x800000) (hp : ∀ g ∈ l, a / 0x1000 ≠ 0x701 + g) :
    t.rd a = s.rd a :=
  h.rd (faultReg_plk hl hu ho) fun g hg => Bool.eq_false_iff.mpr fun hm => hp g hg (releaseRegs_place hm).1

/-- PAGE_CTRL and the mask of every group stand. -/
theorem State.LinkStep.rd_offset (h : s.LinkStep l t) {a : Nat} (ho : a % 0x1000 = 0xC ∨ a % 0x1000 = 0x4C) (hl : 0x700000 ≤ a) (hu : a < 0x800000) : t.rd a = s.rd a :=
  h.rd (faultReg_plk hl hu (by omega)) fun g _ => Bool.eq_false_iff.mpr fun hm => by have := releaseRegs_place hm; omega

end

/-! ### The steps -/

section
variable {g : Nat} {s t : State}

/-- No register that a group's release writes is a pending bit. -/
theorem releaseRegs_pend {g : Nat} (hg : g < 6) {src : Nat} (hs : src < 512) : among (releaseRegs g) (Reg.FLT_PEND (src / 32)) = false := by
  refine Bool.eq_false_iff.mpr fun h => ?_
  have := (releaseRegs_place h).1
  simp only [Reg.FLT_PEND] at this
  omega

theorem evtReg_fltPend {src : Nat} (hs : src < 512) : evtReg (Reg.FLT_PEND (src / 32)) = false := by
  apply evtReg_eq_false <;> simp only [Reg.FLT_PEND, Reg.SVC_BMC_EVT] <;> omega

/-- A step on registers of the group. -/
theorem Within.linkStep (hg : g < 6) (h : Within [.regs] (among (releaseRegs g)) s t) : s.LinkStep [g] t where
  within := h.mono (by decide) (by simp +contextual)
  grp m _ := h.grp (by decide) m
  queue m _ := h.queue (by decide) m
  lane k _ := h.lane (by decide) k
  marks k := by rw [h.lane (by decide) k]; exact ⟨rfl, rfl⟩
  groups := by rw [h.plk (by decide)]
  lanes := by rw [h.plk (by decide)]
  queues := by rw [h.syn (by decide)]
  grows := .of_sent (h.sent (by decide))
  pending src hs hp := (h.rb (releaseRegs_pend hg hs) _).trans hp

/-- A step of the collector. -/
theorem Within.linkStep_notice (l : List Nat) (h : Within noticeFields faultReg s t) (hg : s.Grows t) (hp : ∀ src < 512, s.fltPending src = true → t.fltPending src = true) :
    s.LinkStep l t where
  within := h.mono (by decide) (by simp +contextual)
  grp m _ := h.grp (by decide) m
  queue m _ := h.queue (by decide) m
  lane k _ := h.lane (by decide) k
  marks k := by rw [h.lane (by decide) k]; exact ⟨rfl, rfl⟩
  groups := by rw [h.plk (by decide)]
  lanes := by rw [h.plk (by decide)]
  queues := by rw [h.syn (by decide)]
  grows := hg
  pending := hp

theorem State.linkStep_evt (l : List Nat) (s : State) (src : Nat) : s.LinkStep l (s.evt src) :=
  (s.evt_within src).toNotice.linkStep_notice l (s.evt_grows src) fun _ hs hp => ((s.evt_within src).rb (evtReg_fltPend hs) _).trans hp

theorem State.notice_keepsPending (s : State) {src : Nat} (h : baseClass src = some 0) {m : Nat} (hm : m < 512) (hp : s.fltPending m = true) : (s.notice src).fltPending m = true := by
  have hdetail : (s.detail src 0 0).2.fltPending m = true := by
    unfold State.detail
    split <;> exact hp
  exact ((State.pairUpdate_within _).toReport.pendingKept hm).trans ((State.raiseGroup_reported _ .geo noReact (r := ⟨src, _, 0, [], false⟩) h).pending m hm hdetail)

theorem State.linkStep_grpNotice (s : State) {g : Nat} (hg : g < 6) (cause : Nat) : s.LinkStep [g] (s.grpNotice g cause) := by
  have hclass : baseClass (245 + 2 * g) = some 0 := (by decide : ∀ g < 6, baseClass (245 + 2 * g) = some 0) g hg
  have hfirst : Within [.regs] (among (releaseRegs g)) s (s.wf (Reg.PLK_GRP_STATUS g) 30 28 cause) := (s.wf_within _ _ _ _).one (by decide) (by simp)
  exact (hfirst.linkStep hg).trans ((State.notice_within _ _ 0 0 [] hclass (by omega)).linkStep_notice _ (State.notice_grows _ hclass) fun _ => State.notice_keepsPending _ hclass)

theorem State.linkStep_setGrp (s : State) {g : Nat} (hg : g < 6) (v : Grp) : s.LinkStep [g] (s.setGrp g v) where
  within := (s.setGrp_within g v).mono (by decide) fun a ha => by
    rw [Bool.or_eq_true_iff, List.any_eq_true]
    exact .inr ⟨g, List.mem_singleton_self g, among_mono (by simp) ha⟩
  grp m hm := s.grp_setGrp_other (Ne.symm (by simpa using hm)) v
  queue m _ := (s.setGrp_within g v).queue (by decide) m
  lane k _ := s.lane_setGrp g v k
  marks k := by rw [s.lane_setGrp]; exact ⟨rfl, rfl⟩
  groups := s.setGrp_groups_length g v
  lanes := by rw [s.setGrp_plk]
  queues := by rw [(s.setGrp_within g v).syn (by decide)]
  grows := .of_sent ((s.setGrp_within g v).sent (by decide))
  pending src hs hp := by
    refine ((s.setGrp_within g v).rb (Bool.eq_false_iff.mpr fun h => ?_) _).trans hp
    exact absurd (among_mono (m := releaseRegs g) (by simp) h) (by rw [releaseRegs_pend hg hs]; decide)

theorem State.linkStep_setQueue (s : State) (g : Nat) (q : List QItem) : s.LinkStep [g] (s.setQueue g q) where
  within := (s.setQueue_within g q).widen (by decide)
  grp m _ := s.grp_setQueue g q m
  queue m hm := s.queue_setQueue_other (Ne.symm (by simpa using hm)) q
  lane k _ := (s.setQueue_within g q (q := fun _ => false)).lane (by decide) k
  marks k := by rw [(s.setQueue_within g q (q := fun _ => false)).lane (by decide)]; exact ⟨rfl, rfl⟩
  groups := by rw [(s.setQueue_within g q (q := fun _ => false)).plk (by decide)]
  lanes := by rw [(s.setQueue_within g q (q := fun _ => false)).plk (by decide)]
  queues := by simp [State.setQueue, upd]
  grows := .of_sent ((s.setQueue_within g q (q := fun _ => false)).sent (by decide))
  pending src _ hp := ((s.setQueue_within g q (q := fun _ => false)).rb rfl _).trans hp

/-- What a lane sends leaves its marks. -/
theorem State.laneWord_marks (s : State) (l : Nat) (own : Bool × Nat) (train : Nat) :
    (s.laneWord l own train).2.leaving = (s.lane l).leaving ∧ (s.laneWord l own train).2.ready = (s.lane l).ready := by
  cases hu : s.laneUse l <;> simp only [State.laneWord, hu, State.laneBlock, and_self]

theorem State.linkStep_putRow (hmap : ∀ k < 16, nth 0 (s.grp g).map k < 16) (own : Nat → Bool × Nat) (train : Nat → Nat) : s.LinkStep [g] (s.putRow g own train) where
  within := (s.putRow_within g own train (q := _)).widen (by decide)
  grp m _ := s.grp_putRow g own train m
  queue m _ := (s.putRow_within g own train (q := fun _ => false)).queue (by decide) m
  lane l hl := State.each_induction (P := fun u => u.lane l = s.lane l) rfl fun k hk u hu =>
    (u.lane_setLane_other (fun h => hl (List.mem_singleton.mpr (by rw [← h, (s.phys_group (hmap k hk)).1]))) _).trans hu
  marks l := State.each_induction (P := fun u => (u.lane l).leaving = (s.lane l).leaving ∧ (u.lane l).ready = (s.lane l).ready) ⟨rfl, rfl⟩ fun k _ u hu => by
    rw [State.lane_setLane]
    split
    · next h => rw [← h.1]; exact s.laneWord_marks _ _ _
    · exact hu
  groups := by rw [s.putRow_groups]
  lanes := s.putRow_lanes_length g own train
  queues := by rw [(s.putRow_within g own train (q := fun _ => false)).syn (by decide)]
  grows := .append (s.putRow_sent g own train)
  pending src _ hp := ((s.putRow_within g own train (q := fun _ => false)).rb rfl _).trans hp

theorem State.linkStep_beforeRow (hg : g < 6) (hmap : ∀ k < 16, nth 0 (s.grp g).map k < 16) : s.LinkStep [g] (s.beforeRow g) := by
  unfold State.beforeRow
  split
  · rw [State.reserved_eq]
    exact (State.linkStep_putRow hmap _ _).trans (State.linkStep_setGrp _ hg _)
  · exact .refl _ s

theorem State.linkStep_rowOut (hg : g < 6) (hlen : g < s.plk.groups.length) (hmap : ∀ k < 16, nth 0 (s.grp g).map k < 16) (own : Nat → Bool × Nat) : s.LinkStep [g] (s.rowOut g own) := by
  have hkeep : ∀ k < 16, nth 0 ((s.beforeRow g).grp g).map k < 16 := by
    obtain ⟨_, _, _, _, _, hb⟩ := State.grp_beforeRow hlen
    rw [hb]
    exact hmap
  rw [State.rowOut_eq]
  exact ((State.linkStep_beforeRow hg hmap).trans (State.linkStep_putRow hkeep _ _)).trans (State.linkStep_setGrp _ hg _)

theorem State.linkStep_sendEnd (hg : g < 6) (hlen : g < s.plk.groups.length) (hmap : ∀ k < 16, nth 0 (s.grp g).map k < 16) (hold : Bool) : s.LinkStep [g] (s.sendEnd g hold) := by
  unfold State.sendEnd
  dsimp only
  split
  · exact .refl _ s
  · split
    · exact State.linkStep_setGrp _ hg _
    · have hruns : ∀ u : State, u.LinkStep [g] (u.wf (Reg.PLK_GRP_RUNS g) 23 0 (s.grp g).runs) := fun u => ((u.wf_within _ _ _ _).one (by decide) (by simp)).linkStep hg
      have hheld : ∀ u : State, u.LinkStep [g] (u.when hold fun s => s.cntSat (Reg.PLK_GRP_HELD g) 32 1) := fun u =>
        (Within.one (State.when_within _ (State.cntSat_within _ _ _ _)) (by decide) (by simp)).linkStep hg
      exact (((State.linkStep_rowOut hg hlen hmap _).trans (hruns _)).trans (hheld _)).trans (State.linkStep_setGrp _ hg _)

end

end Sys2Proof.Machine

/-! ## What a group's release depends on (R161, R162, R173) -/
namespace Sys2Proof.Machine

section
variable {l : List Nat} {g : Nat} {s t u : State}

/-- Whether a group sends markers depends on its stop and its stage, beside what no release changes. -/
theorem State.LinkStep.grpSends (h : s.LinkStep l t) (hg : g < 6) (hstop : (t.grp g).stopped = (s.grp g).stopped) (hstage : t.stage g = s.stage g) :
    t.grpSends g = s.grpSends g := by
  have hcommon : t.rd (Reg.PAGE_CTRL (Reg.page 7 0)) = s.rd (Reg.PAGE_CTRL (Reg.page 7 0)) := h.rd_offset (.inl (by decide)) (by decide) (by decide)
  have hown : t.rd (Reg.PAGE_CTRL (grpPage g)) = s.rd (Reg.PAGE_CTRL (grpPage g)) := by
    apply h.rd_offset <;> simp only [Reg.PAGE_CTRL, grpPage, Reg.page] <;> omega
  have hcmt : t.rd (Reg.PAGE_STATUS cmtPage) = s.rd (Reg.PAGE_STATUS cmtPage) := h.rd (by decide) fun m _ => Bool.eq_false_iff.mpr fun hm => by
    have := (releaseRegs_place hm).1
    simp only [Reg.PAGE_STATUS, cmtPage, Reg.page] at this
    omega
  simp only [State.grpSends, State.enabled, State.rb, State.cmtRuns, State.pgState, State.rf, hcommon, hown, hcmt, hstop, hstage, h.within.pwr (by decide)]

theorem State.LinkStep.enabled (h : s.LinkStep l t) : t.enabled (Reg.page 7 0) = s.enabled (Reg.page 7 0) :=
  congrArg (bit · 0) (h.rd_offset (a := Reg.PAGE_CTRL (Reg.page 7 0)) (.inl (by decide)) (by decide) (by decide))

theorem State.LinkStep.geo (h : s.LinkStep l t) : t.geo = s.geo := h.within.geo (by decide)

theorem State.LinkStep.mask (h : s.LinkStep l t) (hg : g < 6) : t.rd (Reg.PLK_GRP_MASK g) = s.rd (Reg.PLK_GRP_MASK g) := by
  apply h.rd_offset <;> simp only [Reg.PLK_GRP_MASK] <;> omega

/-- The registers of a lane's page stand. -/
theorem State.LinkStep.rd_lane (h : s.LinkStep l t) (hl : ∀ m ∈ l, m < 6) {k a : Nat} (hk : k < 96) (hp : a / 0x1000 = 0x708 + k) (ho : a % 0x1000 ≠ 0x1C) : t.rd a = s.rd a :=
  h.rd_page ho (by omega) (by omega) fun m hm => by have := hl m hm; omega

theorem State.LinkStep.role (h : s.LinkStep l t) (hl : ∀ m ∈ l, m < 6) {k : Nat} (hk : k < 96) : t.role k = s.role k :=
  congrArg (fld · 1 0) (h.rd_lane hl hk (by simp only [Reg.PLK_LANE_STATUS]; omega) (by simp only [Reg.PLK_LANE_STATUS]; omega))

/-- The registers of another group stand. -/
theorem State.LinkStep.rd_grp (h : s.LinkStep l t) (hg : g < 6) (hgl : g ∉ l) {a : Nat} (hp : a / 0x1000 = 0x701 + g) (ho : a % 0x1000 ≠ 0x1C) : t.rd a = s.rd a :=
  h.rd_page ho (by omega) (by omega) fun m hm hm' => hgl (by rwa [show g = m by omega])

/-! ### Settled groups -/

/-- A group stays settled where its record, its MODE and its lanes' roles stand. -/
theorem State.Settled.kept (h : s.Settled g) (hstep : s.LinkStep l t) (hl : ∀ m ∈ l, m < 6) (hg : g < 6) (hmap : (t.grp g).map = (s.grp g).map)
    (hrestripe : (t.grp g).restripe = (s.grp g).restripe) (hchanged : (t.grp g).changed = (s.grp g).changed) (hdata : (t.grp g).data = (s.grp g).data)
    (hmode : t.grpMode g = s.grpMode g) : t.Settled g := by
  have hphys : ∀ k, t.phys g k = s.phys g k := fun k => by rw [State.phys, hmap, State.phys]
  have hrole : ∀ k < 16, t.roleOf g k = s.roleOf g k := fun k hk => by
    rw [State.roleOf, hphys, hstep.role hl ((s.phys_group (h.map k hk)).2 hg), State.roleOf]
  refine ⟨by rw [hmap]; exact h.map, hrestripe.trans h.restripe, hchanged.trans h.changed, fun k hk => ?_, hmode.trans h.mode, ?_, ?_⟩
  · rw [hphys, (hstep.marks _).1, (hstep.marks _).2]
    exact h.lanes k hk
  · rw [hdata]
    exact ⟨fun k hk => ⟨(h.data.1 k hk).1, (hrole k (h.data.1 k hk).1).trans (h.data.1 k hk).2⟩, fun k hk hr => h.data.2 k hk ((hrole k hk).symm.trans hr)⟩
  · rw [hdata, h.mask]
    exact (congrArg (fld · 15 0) (hstep.mask hg)).symm

/-- A group that the steps leave alone stays settled. -/
theorem State.LinkStep.settled (h : s.LinkStep l t) (hl : ∀ m ∈ l, m < 6) (hg : g < 6) (hgl : g ∉ l) (hs : s.Settled g) : t.Settled g := by
  refine hs.kept h hl hg ?_ ?_ ?_ ?_ (congrArg (fld · 14 13) (h.rd_grp hg hgl ?_ ?_))
  iterate 4 rw [h.grp g hgl]
  all_goals simp only [Reg.PLK_GRP_STATUS]; omega

/-- A group that the steps leave alone sends the same next rows. -/
theorem State.LinkStep.rowAlike (h : s.LinkStep l t) (hl : ∀ m ∈ l, m < 6) (hg : g < 6) (hgl : g ∉ l) (hmap : ∀ k < 16, nth 0 (s.grp g).map k < 16) : s.RowAlike g t := by
  have hgrp := h.grp g hgl
  refine ⟨fun k hk => ?_, by rw [hgrp], h.lanes, by rw [hgrp], by rw [hgrp], by rw [hgrp], by rw [hgrp], by rw [hgrp]⟩
  obtain ⟨hdiv, hlt⟩ := s.phys_group (hmap k hk)
  have hlt := hlt hg
  generalize s.phys g k = m at hdiv hlt
  have hbypass : t.rd (Reg.PLL_STATUS 2) = s.rd (Reg.PLL_STATUS 2) := h.rd (by decide) fun j hj => Bool.eq_false_iff.mpr fun hm => by
    have := (releaseRegs_place hm).1
    have := hl j hj
    simp only [Reg.PLL_STATUS] at *
    omega
  have hpage : t.rd (Reg.PAGE_STATUS (grpPage g)) = s.rd (Reg.PAGE_STATUS (grpPage g)) := by
    apply h.rd_grp hg hgl <;> simp only [Reg.PAGE_STATUS, grpPage, Reg.page] <;> omega
  have hstatus : t.rd (Reg.PLK_GRP_STATUS g) = s.rd (Reg.PLK_GRP_STATUS g) := by
    apply h.rd_grp hg hgl <;> simp only [Reg.PLK_GRP_STATUS] <;> omega
  have hlane : t.rd (Reg.PAGE_STATUS (lanePage m)) = s.rd (Reg.PAGE_STATUS (lanePage m)) := by
    apply h.rd_lane hl hlt <;> simp only [Reg.PAGE_STATUS, lanePage, Reg.page] <;> omega
  refine ⟨congrArg (bit · 9) hbypass, ?_, h.role hl hlt, congrArg (fld · 2 0) hlane, ?_, ?_, ?_, ?_, h.lane m (by rw [hdiv]; exact hgl)⟩
  · rw [hdiv, State.pgState, State.rf, hpage, State.pgState, State.rf]
  · apply h.rd_lane hl hlt <;> simp only [Reg.PLK_LANE_CTRL] <;> omega
  · rw [hdiv]; exact congrArg (fld · 3 0) hstatus
  · rw [hdiv, hgrp]
  · rw [hdiv, hgrp]

end

/-! ### A settled group's restriping changes nothing (R173 to R175) -/

section
variable {g n : Nat} {s : State}

/-- A loop whose steps change nothing. -/
theorem State.each_fixed {f : Nat → State → State} (h : ∀ i < n, f i s = s) : s.each n f = s :=
  State.each_induction (P := fun u => u = s) rfl fun i hi u hu => by rw [hu, h i hi]

theorem State.Settled.ackCheck (h : s.Settled g) : s.ackCheck g = s := by simp [State.ackCheck, h.changed]

theorem State.Settled.laneLeaves (h : s.Settled g) : s.laneLeaves g = s :=
  State.each_fixed fun k hk => by simp [h.lanes k hk]

theorem State.Settled.newData (h : s.Settled g) : s.newData g = (s.grp g).data := by
  have hstay : ((s.grp g).data.filter fun k => s.roleOf g k == roleData) = (s.grp g).data :=
    List.filter_eq_self.mpr fun k hk => beq_iff_eq.mpr (h.data.1 k hk).2
  simp [State.newData, h.restripe, h.mode, hstay]

theorem State.Settled.restripe_eq (h : s.Settled g) : s.restripe g = (s.setGrp g (s.grp g), false) := by
  have hroles : (s.each 16 fun k u => if (s.grp g).data.contains k then
      (if u.role (u.phys g k) ≠ roleData then (u.setRole (u.phys g k) roleData).laneState (u.phys g k) stRun else u)
      else if u.role (u.phys g k) = roleData then (u.setRole (u.phys g k) roleStandin).laneState (u.phys g k) stIdle else u) = s :=
    State.each_fixed fun k hk => by
      by_cases hd : k ∈ (s.grp g).data
      · rw [if_pos (List.contains_iff_mem.mpr hd), if_neg (not_not.mpr (show s.role (s.phys g k) = roleData from (h.data.1 k hd).2))]
      · rw [if_neg (by simpa using hd), if_neg (show ¬ s.role (s.phys g k) = roleData from fun hr => hd (h.data.2 k hk hr))]
  have hsame : ({ s.grp g with restripe := false, data := (s.grp g).data } : Grp) = s.grp g := by rw [← h.restripe]
  unfold State.restripe
  rw [h.laneLeaves]
  dsimp only
  rw [h.newData, hroles, hsame, if_pos h.mask]

end

end Sys2Proof.Machine

/-! ## The end of a frame that is still being sent (R161) -/
namespace Sys2Proof.Machine

/-- `t` is `s` after steps at a release on group `g` that change nothing of what decides about its lanes and its markers. -/
structure State.CalmStep (g : Nat) (s t : State) : Prop where
  step : s.LinkStep [g] t
  map : (t.grp g).map = (s.grp g).map
  restripe : (t.grp g).restripe = (s.grp g).restripe
  changed : (t.grp g).changed = (s.grp g).changed
  data : (t.grp g).data = (s.grp g).data
  stopped : (t.grp g).stopped = (s.grp g).stopped
  status : ∀ hi lo, lo ≤ hi → hi < 28 → t.rf (Reg.PLK_GRP_STATUS g) hi lo = s.rf (Reg.PLK_GRP_STATUS g) hi lo
  frames : t.rd (Reg.PLK_GRP_FRAMES g) = s.rd (Reg.PLK_GRP_FRAMES g)

section
variable {g n : Nat} {s t u : State}

theorem State.CalmStep.refl (g : Nat) (s : State) : s.CalmStep g s := ⟨.refl _ s, rfl, rfl, rfl, rfl, rfl, fun _ _ _ _ => rfl, rfl⟩

theorem State.CalmStep.trans (h : s.CalmStep g t) (k : t.CalmStep g u) : s.CalmStep g u :=
  ⟨h.step.trans k.step, k.map.trans h.map, k.restripe.trans h.restripe, k.changed.trans h.changed, k.data.trans h.data, k.stopped.trans h.stopped,
    fun hi lo hl hh => (k.status hi lo hl hh).trans (h.status hi lo hl hh), k.frames.trans h.frames⟩

theorem State.CalmStep.settled (h : s.CalmStep g t) (hg : g < 6) (hs : s.Settled g) : t.Settled g :=
  hs.kept h.step (by simpa using hg) hg h.map h.restripe h.changed h.data (h.status 14 13 (by decide) (by decide))

theorem State.CalmStep.grpSends (h : s.CalmStep g t) (hg : g < 6) : t.grpSends g = s.grpSends g := h.step.grpSends hg h.stopped (h.status 3 0 (by decide) (by decide))

/-- A step that leaves the group's record alone, and FRAMES and STATUS. -/
theorem State.LinkStep.calm (h : s.LinkStep [g] t) (hgrp : t.grp g = s.grp g) (hs : t.rd (Reg.PLK_GRP_STATUS g) = s.rd (Reg.PLK_GRP_STATUS g))
    (hf : t.rd (Reg.PLK_GRP_FRAMES g) = s.rd (Reg.PLK_GRP_FRAMES g)) : s.CalmStep g t := by
  refine ⟨h, ?_, ?_, ?_, ?_, ?_, fun hi lo _ _ => congrArg (fld · hi lo) hs, hf⟩
  all_goals rw [hgrp]

theorem State.calm_setQueue (s : State) (g : Nat) (q : List QItem) : s.CalmStep g (s.setQueue g q) :=
  (s.linkStep_setQueue g q).calm (s.grp_setQueue g q g) ((s.setQueue_within g q (q := fun _ => false)).rd rfl) ((s.setQueue_within g q (q := fun _ => false)).rd rfl)

theorem pageStatus_apart (g : Nat) : Reg.PAGE_STATUS (grpPage g) ≠ Reg.PLK_GRP_FRAMES g ∧ Reg.PAGE_STATUS (grpPage g) ≠ Reg.PLK_GRP_STATUS g := by
  simp only [Reg.PAGE_STATUS, grpPage, Reg.page, Reg.PLK_GRP_FRAMES, Reg.PLK_GRP_STATUS]
  omega

/-- END and its count leave these registers of the group alone. -/
theorem endRegs_apart (g : Nat) : ∀ a ∈ [Reg.PLK_GRP_FRAMES g, Reg.PLK_GRP_STATUS g, Reg.PLK_GRP_LATE g],
    among [Reg.PLK_GRP_HELD g, Reg.PLK_GRP_RUNS g, Reg.PAGE_STATUS (grpPage g)] a = false := by
  refine fun a ha => among_eq_false ?_
  simp only [List.mem_cons, List.not_mem_nil, or_false] at ha
  simp only [List.forall_mem_cons, List.mem_singleton, forall_eq, Reg.PAGE_STATUS, grpPage, Reg.page, Reg.PLK_GRP_FRAMES, Reg.PLK_GRP_STATUS, Reg.PLK_GRP_RUNS,
    Reg.PLK_GRP_HELD, Reg.PLK_GRP_LATE] at ha ⊢
  omega

theorem State.calm_setGrp (hg : g < 6) (hlen : g < s.plk.groups.length) {v : Grp} (hm : v.map = (s.grp g).map) (hr : v.restripe = (s.grp g).restripe)
    (hc : v.changed = (s.grp g).changed) (hd : v.data = (s.grp g).data) (hst : v.stopped = (s.grp g).stopped) : s.CalmStep g (s.setGrp g v) := by
  have hkeep : ∀ {a}, Reg.PAGE_STATUS (grpPage g) ≠ a → among [Reg.PAGE_STATUS (grpPage g)] a = false := fun h => among_eq_false (by simpa using h)
  obtain ⟨hframes, hstatus⟩ := pageStatus_apart g
  refine ⟨s.linkStep_setGrp hg v, ?_, ?_, ?_, ?_, ?_, fun hi lo _ _ => (s.setGrp_within g v).rf (hkeep hstatus) hi lo, (s.setGrp_within g v).rd (hkeep hframes)⟩
  all_goals rw [State.grp_setGrp_same hlen]
  · exact hm
  · exact hr
  · exact hc
  · exact hd
  · exact hst

/-- The end of a frame, sent or given up. -/
theorem State.calm_sendEnd {m : Nat} (hg : g < 6) (hlen : g < s.plk.groups.length) (hmap : ∀ k < 16, nth 0 (s.grp g).map k < 16) (hf : (s.grp g).frame = some m) (hold : Bool) :
    s.CalmStep g (s.sendEnd g hold) ∧ ((s.sendEnd g hold).grp g).frame = none ∧ (s.sendEnd g hold).queue g = s.queue g := by
  by_cases he : s.enabled (Reg.page 7 0) = true
  · have hend := State.ended_sendEnd hlen he hf hold
    have hstep := State.linkStep_sendEnd hg hlen hmap hold
    obtain ⟨_, _, _, _, _, hb⟩ := State.grp_beforeRow hlen
    have hgrp := hend.grp
    rw [hb] at hgrp
    have hw := hend.within
    refine ⟨⟨hstep, ?_, ?_, ?_, ?_, ?_, fun hi lo _ _ => hw.rf (endRegs_apart g _ (by simp)) hi lo, hw.rd (endRegs_apart g _ (by simp))⟩, ?_, hw.queue (by decide) g⟩
    all_goals rw [hgrp]; rfl
  · have heq : s.sendEnd g hold = s.setGrp g (s.grp g).gone := by
      rw [State.sendEnd]
      simp only [hf, he, Bool.not_false, if_true]
      rfl
    rw [heq]
    exact ⟨State.calm_setGrp hg hlen rfl rfl rfl rfl rfl, by rw [State.grp_setGrp_same hlen]; rfl, (s.setGrp_within g _).queue (by decide) g⟩

/-- A late frame: its count, its event, the NOTICE with cause 1. -/
def State.lateNoted (s : State) (g : Nat) : State := ((s.cntSat (Reg.PLK_GRP_LATE g) 32 1).evt (739 + 8 * g)).grpNotice g 1

theorem State.lateNoted_spec (s : State) (hg : g < 6) : s.CalmStep g (s.lateNoted g) ∧ (s.lateNoted g).grp g = s.grp g ∧ (s.lateNoted g).queue g = s.queue g ∧
    (s.lateNoted g).rn (Reg.PLK_GRP_LATE g) = min (2 ^ 32 - 1) (s.rn (Reg.PLK_GRP_LATE g) + 1) ∧ (s.lateNoted g).rf (Reg.PLK_GRP_STATUS g) 30 28 = 1 ∧
    (s.lateNoted g).fltPending (245 + 2 * g) = true ∧ (∀ a ∈ [Reg.PLK_GRP_RUNS g, Reg.PLK_GRP_HELD g], (s.lateNoted g).rd a = s.rd a) := by
  obtain ⟨c, hc⟩ : ∃ c, c = s.cntSat (Reg.PLK_GRP_LATE g) 32 1 := ⟨_, rfl⟩
  have hcount : Within [.regs] (fun a => a == Reg.PLK_GRP_LATE g) s c := by rw [hc]; exact State.cntSat_within _ _ _ _
  have hevt := c.evt_within (739 + 8 * g)
  obtain ⟨hcause, hpend, hlow, hw⟩ := (c.evt (739 + 8 * g)).grpNotice_spec hg (cause := 1) (by decide)
  have hstep : s.LinkStep [g] (s.lateNoted g) := by
    rw [State.lateNoted, ← hc]
    exact (((hcount.one (by decide) (by simp)).linkStep hg).trans (c.linkStep_evt _ _)).trans (State.linkStep_grpNotice _ hg 1)
  have heq : s.lateNoted g = (c.evt (739 + 8 * g)).grpNotice g 1 := by rw [State.lateNoted, hc]
  have hgrp : (s.lateNoted g).grp g = s.grp g := by rw [heq, hw.grp (by decide), hevt.grp (by decide), hcount.grp (by decide)]
  have hqueue : (s.lateNoted g).queue g = s.queue g := by rw [heq, hw.queue (by decide), hevt.queue (by decide), hcount.queue (by decide)]
  have hafter : ∀ a ∈ [Reg.PLK_GRP_RUNS g, Reg.PLK_GRP_HELD g, Reg.PLK_GRP_FRAMES g, Reg.PLK_GRP_LATE g], (s.lateNoted g).rd a = c.rd a := fun a ha => by
    simp only [List.mem_cons, List.not_mem_nil, or_false, Reg.PLK_GRP_RUNS, Reg.PLK_GRP_HELD, Reg.PLK_GRP_FRAMES, Reg.PLK_GRP_LATE] at ha
    have hfault : faultReg a = false := by apply faultReg_plk <;> omega
    have hne : a ≠ Reg.PLK_GRP_STATUS g := by simp only [Reg.PLK_GRP_STATUS]; omega
    rw [heq, hw.rd (by rw [hfault, beq_eq_false_iff_ne.mpr hne]; rfl), hevt.rd (evtReg_of_faultReg hfault)]
  have hbefore : ∀ a ∈ [Reg.PLK_GRP_RUNS g, Reg.PLK_GRP_HELD g, Reg.PLK_GRP_FRAMES g, Reg.PLK_GRP_STATUS g], c.rd a = s.rd a := fun a ha => by
    refine hcount.rd (beq_eq_false_iff_ne.mpr ?_)
    simp only [List.mem_cons, List.not_mem_nil, or_false, Reg.PLK_GRP_RUNS, Reg.PLK_GRP_HELD, Reg.PLK_GRP_FRAMES, Reg.PLK_GRP_STATUS, Reg.PLK_GRP_LATE] at ha ⊢
    omega
  have hstatus : ∀ hi lo, (c.evt (739 + 8 * g)).rf (Reg.PLK_GRP_STATUS g) hi lo = s.rf (Reg.PLK_GRP_STATUS g) hi lo := fun hi lo => by
    rw [hevt.rf (evtReg_grp hg).1, State.rf, hbefore _ (by simp), State.rf]
  refine ⟨⟨hstep, ?_, ?_, ?_, ?_, ?_, fun hi lo hl hh => ?_, ?_⟩, hgrp, hqueue, ?_, by rw [heq]; exact hcause, by rw [heq]; exact hpend, fun a ha => ?_⟩
  iterate 5 rw [hgrp]
  · rw [heq, hlow hi lo hl hh, hstatus]
  · rw [hafter _ (by simp), hbefore _ (by simp)]
  · rw [State.rn, hafter _ (by simp), ← State.rn, hc, State.rn_cntSat]
  · have ha' := List.mem_append_left [Reg.PLK_GRP_FRAMES g, Reg.PLK_GRP_LATE g] ha
    have ha'' := List.mem_append_left [Reg.PLK_GRP_FRAMES g, Reg.PLK_GRP_STATUS g] ha
    rw [hafter a ha', hbefore a ha'']

/-- The frame of another number that is still being sent ends with HOLD, and is late unless its runs are left out on purpose. -/
def State.endStale (s : State) (g n : Nat) : State :=
  match (s.grp g).frame with
  | some m =>
    if m = n then s
    else
      let late := s.enabled (Reg.page 7 0) && !s.reportedShort g m
      (s.sendEnd g true).when late fun s => s.lateNoted g
  | none => s

theorem State.endStale_none (h : (s.grp g).frame = none) : s.endStale g n = s := by rw [State.endStale, h]

theorem State.endStale_same (h : (s.grp g).frame = some n) : s.endStale g n = s := by simp [State.endStale, h]

theorem State.endStale_other {m : Nat} (h : (s.grp g).frame = some m) (hm : m ≠ n) :
    s.endStale g n = (s.sendEnd g true).when (s.enabled (Reg.page 7 0) && !s.reportedShort g m) fun s => s.lateNoted g := by
  simp only [State.endStale, h, if_neg hm]

section
variable {m : Nat} (hg : g < 6) (hlen : g < s.plk.groups.length) (hmap : ∀ k < 16, nth 0 (s.grp g).map k < 16)
include hg hlen hmap

theorem State.calm_endStale : s.CalmStep g (s.endStale g n) ∧ ((s.grp g).frame ≠ some n → ((s.endStale g n).grp g).frame = none) ∧
    (s.endStale g n).queue g = s.queue g := by
  cases hf : (s.grp g).frame with
  | none => rw [State.endStale_none hf]; exact ⟨.refl g s, fun _ => hf, rfl⟩
  | some m =>
    by_cases hm : m = n
    · rw [State.endStale_same (by rw [hf, hm])]
      exact ⟨.refl g s, fun h => absurd (by rw [hm]) h, rfl⟩
    obtain ⟨hcalm, hframe, hqueue⟩ := State.calm_sendEnd hg hlen hmap hf true
    obtain ⟨hlate, hgrp, hkept, -⟩ := (s.sendEnd g true).lateNoted_spec hg
    rw [State.endStale_other hf hm, State.when]
    split
    · exact ⟨hcalm.trans hlate, fun _ => by rw [hgrp]; exact hframe, hkept.trans hqueue⟩
    · exact ⟨hcalm, fun _ => hframe, hqueue⟩

omit hmap in
/-- What a stale frame's end shows. -/
theorem State.endStale_shows (hf : (s.grp g).frame = some m) (hm : m ≠ n) (he : s.enabled (Reg.page 7 0) = true) :
    (s.endStale g n).rn (Reg.PLK_GRP_LATE g) = min (2 ^ 32 - 1) (s.rn (Reg.PLK_GRP_LATE g) + if s.reportedShort g m then 0 else 1) ∧
    (s.reportedShort g m = false → (s.endStale g n).rf (Reg.PLK_GRP_STATUS g) 30 28 = 1 ∧ (s.endStale g n).fltPending (245 + 2 * g) = true) ∧
    (s.endStale g n).rf (Reg.PLK_GRP_RUNS g) 23 0 = (s.grp g).runs % 2 ^ 24 ∧
    (s.endStale g n).rn (Reg.PLK_GRP_HELD g) = min (2 ^ 32 - 1) (s.rn (Reg.PLK_GRP_HELD g) + 1) := by
  have hend := State.ended_sendEnd hlen he hf true
  have hlate : (s.sendEnd g true).rn (Reg.PLK_GRP_LATE g) = s.rn (Reg.PLK_GRP_LATE g) := hend.within.rn (endRegs_apart g _ (by simp))
  obtain ⟨-, -, -, hcount, hcause, hpend, hkeep⟩ := (s.sendEnd g true).lateNoted_spec hg
  rw [State.endStale_other hf hm, he]
  cases hshort : s.reportedShort g m
  · simp only [Bool.not_false, Bool.and_true, State.when, if_true, Bool.false_eq_true, if_false]
    refine ⟨by rw [hcount, hlate], fun _ => ⟨hcause, hpend⟩, ?_, ?_⟩
    · rw [State.rf, hkeep _ (by simp), ← State.rf, hend.runs]
    · rw [State.rn, hkeep _ (by simp), ← State.rn, hend.held]
      rfl
  · simp only [Bool.not_true, Bool.and_false, State.when, if_true, Bool.false_eq_true, if_false]
    refine ⟨?_, fun h => absurd h (by decide), hend.runs, hend.held⟩
    have := (s.rd (Reg.PLK_GRP_LATE g)).isLt
    rw [hlate, State.rn]
    omega

end

end

end Sys2Proof.Machine

/-! ## The release of one group (R161, R162, R173) -/
namespace Sys2Proof.Machine

/-- The FRAME marker of frame `n` on logical lane `k`. -/
def State.frameMarker (s : State) (g n k : Nat) : Nat :=
  controlBlock 0x78 (laneBits g k + n % 65536 * 256 + s.rf (Reg.PLK_GRP_MASK g) 15 0 * 2 ^ 24 + s.grpMode g * 2 ^ 40 + s.geo.layout * 2 ^ 42 +
    s.rf (Reg.PLK_GRP_STATUS g) 27 24 * 2 ^ 44)

/-- A group that has a frame to send. -/
def Grp.begun (x : Grp) (n : Nat) : Grp := { x with frame := some n, hold := false, runs := 0, pair := none, words := [], fin := false, short := false }

/-- The markers of a frame are sent, and the group has it to send. -/
def State.markFrame (s : State) (g n : Nat) : State :=
  let t := (s.controlRow g (s.frameMarker g n)).cntWrap (Reg.PLK_GRP_FRAMES g)
  t.setGrp g ((t.grp g).begun n)

/-- A queue says that frame `n` is held from its start. -/
def heldFromStart (n : Nat) (q : List QItem) : Bool := q.any fun i => i == .start n true

/-- A queue after the starts are read, and the ends where they are of no use. -/
def afterStart (held : Bool) (q : List QItem) : List QItem := q.filter fun i => match i with | .start _ _ => false | .fin _ _ => !held | _ => true

/-- Frame `n` starts in a group; where it is held from its start it ends at once. -/
def State.startFrame (s : State) (g n : Nat) : State :=
  let t := s.markFrame g n
  let u := t.setQueue g (afterStart (heldFromStart n (t.queue g)) (t.queue g))
  if heldFromStart n (t.queue g) then u.sendEnd g true else u

/-- A group's release after a stale frame has ended: the items of other frames leave its queue, and its next frame starts. -/
def State.releaseRest (s : State) (g n : Nat) : State × Bool :=
  let t := s.setQueue g (dropOld n (s.queue g))
  if !t.grpSends g then (t, false) else (((t.ackCheck g).restripe g).1.startFrame g n, ((t.ackCheck g).restripe g).2)

theorem State.releaseGroup_eq (s : State) (g n : Nat) : s.releaseGroup g n = (s.endStale g n).releaseRest g n := by
  unfold State.releaseGroup State.endStale State.lateNoted State.releaseRest
  cases (s.grp g).frame
  all_goals dsimp only
  case' some m => generalize (if m = n then s else _) = s
  all_goals
    generalize s.setQueue g (dropOld n (s.queue g)) = t
    generalize (t.ackCheck g).restripe g = r
    obtain ⟨u, degraded⟩ := r
    unfold State.startFrame State.markFrame Grp.begun State.frameMarker heldFromStart afterStart
    rfl

theorem heldFromStart_iff {n : Nat} {q : List QItem} : heldFromStart n q = true ↔ QItem.start n true ∈ q := by simp [heldFromStart]

theorem mem_dropOld {n : Nat} {q : List QItem} {i : QItem} : i ∈ dropOld n q ↔ i ∈ q ∧ i.frame = n := by simp [dropOld]

theorem run_mem_afterStart {held : Bool} {q : List QItem} {r : Run} : QItem.run r ∈ afterStart held q ↔ QItem.run r ∈ q := by simp [afterStart]

theorem mem_of_afterStart {held : Bool} {q : List QItem} {i : QItem} (h : i ∈ afterStart held q) : i ∈ q := (List.mem_filter.mp h).1

theorem heldFromStart_dropOld (n : Nat) (q : List QItem) : heldFromStart n (dropOld n q) = heldFromStart n q := by
  rw [Bool.eq_iff_iff, heldFromStart_iff, heldFromStart_iff, mem_dropOld]
  exact and_iff_left rfl

/-! ### The start of a frame -/

section
variable {g n : Nat} {s : State}

/-- What the start of frame `n` leaves of a group. -/
structure State.Started (s : State) (g n : Nat) (t : State) : Prop where
  step : s.LinkStep [g] t
  within : Within [.regs, .sent, .plk, .syn] (among [Reg.PLK_GRP_FRAMES g, Reg.PLK_GRP_HELD g, Reg.PLK_GRP_RUNS g, Reg.PAGE_STATUS (grpPage g)]) s t
  frames : t.rd (Reg.PLK_GRP_FRAMES g) = s.rd (Reg.PLK_GRP_FRAMES g) + 1
  marker : (s.beforeRow g).blocks g (s.frameMarker g n) ∈ t.sent
  queue : t.queue g = afterStart (heldFromStart n (s.queue g)) (s.queue g)
  sending : heldFromStart n (s.queue g) = false → (t.grp g).frame = some n ∧ (t.grp g).words = [] ∧ (t.grp g).hold = false ∧
    t.rd (Reg.PLK_GRP_RUNS g) = s.rd (Reg.PLK_GRP_RUNS g) ∧ t.rd (Reg.PLK_GRP_HELD g) = s.rd (Reg.PLK_GRP_HELD g)
  held : heldFromStart n (s.queue g) = true →
    (t.grp g).frame = none ∧ t.rf (Reg.PLK_GRP_RUNS g) 23 0 = 0 ∧ t.rn (Reg.PLK_GRP_HELD g) = min (2 ^ 32 - 1) (s.rn (Reg.PLK_GRP_HELD g) + 1)

variable (hg : g < 6) (hlen : g < s.plk.groups.length) (hqs : g < s.syn.queues.length) (hmap : ∀ k < 16, nth 0 (s.grp g).map k < 16)

theorem framesRegs_apart (g : Nat) : ∀ a ∈ [Reg.PLK_GRP_RUNS g, Reg.PLK_GRP_HELD g], among [Reg.PLK_GRP_FRAMES g, Reg.PAGE_STATUS (grpPage g)] a = false := by
  refine fun a ha => among_eq_false ?_
  simp only [List.mem_cons, List.not_mem_nil, or_false] at ha
  simp only [List.forall_mem_cons, List.mem_singleton, forall_eq, Reg.PAGE_STATUS, grpPage, Reg.page, Reg.PLK_GRP_FRAMES, Reg.PLK_GRP_RUNS, Reg.PLK_GRP_HELD] at ha ⊢
  omega

include hg hlen hmap in
/-- The markers go out, and the group has the frame. -/
theorem State.markFrame_spec : s.LinkStep [g] (s.markFrame g n) ∧
    Within [.regs, .sent, .plk] (among [Reg.PLK_GRP_FRAMES g, Reg.PAGE_STATUS (grpPage g)]) s (s.markFrame g n) ∧
    (s.markFrame g n).rd (Reg.PLK_GRP_FRAMES g) = s.rd (Reg.PLK_GRP_FRAMES g) + 1 ∧
    (s.beforeRow g).blocks g (s.frameMarker g n) ∈ (s.markFrame g n).sent ∧
    ∃ x : Grp, x.map = (s.grp g).map ∧ (s.markFrame g n).grp g = x.begun n := by
  obtain ⟨r, hr⟩ : ∃ r, r = s.controlRow g (s.frameMarker g n) := ⟨_, rfl⟩
  obtain ⟨c, hc⟩ : ∃ c, c = r.cntWrap (Reg.PLK_GRP_FRAMES g) := ⟨_, rfl⟩
  have heq : s.markFrame g n = c.setGrp g ((c.grp g).begun n) := by rw [hc, hr]; rfl
  have hrow : Within [.regs, .sent, .plk] (among [Reg.PAGE_STATUS (grpPage g)]) s r := by rw [hr]; exact s.rowOut_within g _
  have hcount : Within [.regs] (fun a => a == Reg.PLK_GRP_FRAMES g) r c := by rw [hc]; exact State.cntWrap_within _ _
  have hset := c.setGrp_within g ((c.grp g).begun n)
  have hapart : among [Reg.PAGE_STATUS (grpPage g)] (Reg.PLK_GRP_FRAMES g) = false := among_eq_false (by simpa using (pageStatus_apart g).1)
  have hrlen : r.plk.groups.length = s.plk.groups.length := by rw [hr]; exact s.rowOut_groups_length g _
  have hgrp : c.grp g = r.grp g := hcount.grp (by decide) g
  have hmapr : (r.grp g).map = (s.grp g).map := by
    obtain ⟨_, _, _, _, _, hb⟩ := State.grp_beforeRow hlen
    rw [hr, State.controlRow, State.grp_rowOut hlen, hb]
  rw [heq]
  refine ⟨?_, ?_, ?_, ?_, c.grp g, by rw [hgrp, hmapr], State.grp_setGrp_same (by rw [hcount.plk (by decide), hrlen]; exact hlen) _⟩
  · refine State.LinkStep.trans (t := c) ?_ (c.linkStep_setGrp hg _)
    rw [hr] at hcount
    exact (State.linkStep_rowOut hg hlen hmap _).trans ((hcount.one (by decide) (by simp)).linkStep hg)
  · exact ((hrow.regs_mono fun _ => among_mono (by simp)).trans (hcount.one (by decide) (by simp))).trans (hset.mono (by decide) fun _ => among_mono (by simp))
  · rw [hset.rd hapart, hc, State.rd_cntWrap_same, hrow.rd hapart]
  · rw [hset.sent (by decide), hcount.sent (by decide), hr, State.controlRow_sent]
    exact List.mem_append_right _ (List.mem_singleton_self _)

include hg hlen hqs hmap in
theorem State.started_startFrame (he : s.enabled (Reg.page 7 0) = true) : s.Started g n (s.startFrame g n) := by
  obtain ⟨hstep, hwithin, hframes, hmarker, x, hx, hgrp⟩ := State.markFrame_spec (n := n) hg hlen hmap
  have hqueue : (s.markFrame g n).queue g = s.queue g := hwithin.queue (by decide) g
  obtain ⟨u, hu⟩ : ∃ u, u = (s.markFrame g n).setQueue g (afterStart (heldFromStart n (s.queue g)) (s.queue g)) := ⟨_, rfl⟩
  have heq : s.startFrame g n = if heldFromStart n (s.queue g) then u.sendEnd g true else u := by rw [State.startFrame, hqueue, hu]
  have hcut : s.LinkStep [g] u := by rw [hu]; exact hstep.trans (State.linkStep_setQueue _ _ _)
  have hset : Within [.syn] (among [Reg.PLK_GRP_FRAMES g, Reg.PAGE_STATUS (grpPage g)]) (s.markFrame g n) u := by rw [hu]; exact State.setQueue_within _ _ _
  have hto : Within [.regs, .sent, .plk, .syn] (among [Reg.PLK_GRP_FRAMES g, Reg.PAGE_STATUS (grpPage g)]) s u :=
    (hwithin.widen (by decide)).trans (hset.widen (by decide))
  have huframes : u.rd (Reg.PLK_GRP_FRAMES g) = s.rd (Reg.PLK_GRP_FRAMES g) + 1 := by
    rw [← hframes, hu]
    exact ((State.setQueue_within _ _ _ (q := fun _ => false)).rd rfl)
  have hugrp : u.grp g = x.begun n := (hset.grp (by decide) g).trans hgrp
  have huqueue : u.queue g = afterStart (heldFromStart n (s.queue g)) (s.queue g) := by
    rw [hu]
    exact State.queue_setQueue_same (by rw [hstep.queues]; exact hqs) _
  have husent : (s.beforeRow g).blocks g (s.frameMarker g n) ∈ u.sent := by rw [hset.sent (by decide)]; exact hmarker
  rw [heq]
  cases hheld : heldFromStart n (s.queue g)
  · rw [if_neg (by decide)]
    rw [hheld] at huqueue
    refine ⟨hcut, hto.regs_mono fun _ => among_mono (by simp), huframes, husent, by rw [hheld]; exact huqueue, fun _ => ?_, fun h => absurd (hheld.symm.trans h) (by decide)⟩
    rw [hugrp]
    exact ⟨rfl, rfl, rfl, hto.rd (framesRegs_apart g _ (by simp)), hto.rd (framesRegs_apart g _ (by simp))⟩
  · rw [if_pos rfl]
    rw [hheld] at huqueue
    have hulen : g < u.plk.groups.length := by rw [hcut.groups]; exact hlen
    have huf : (u.grp g).frame = some n := by rw [hugrp]; rfl
    have humap : ∀ k < 16, nth 0 (u.grp g).map k < 16 := by rw [hugrp]; exact hx ▸ hmap
    have hend := State.ended_sendEnd hulen (hcut.enabled.trans he) huf true
    have hlast := State.linkStep_sendEnd hg hulen humap true
    refine ⟨hcut.trans hlast, ?_, ?_, hlast.grows.subset husent, ?_, fun h => absurd (hheld.symm.trans h) (by decide), fun _ => ⟨?_, ?_, ?_⟩⟩
    · exact (hto.regs_mono fun _ => among_mono (by simp)).trans (hend.within.mono (by decide) fun _ => among_mono (by simp))
    · rw [hend.within.rd (endRegs_apart g _ (by simp)), huframes]
    · rw [hend.within.queue (by decide), huqueue, hheld]
    · exact (State.calm_sendEnd hg hulen humap huf true).2.1
    · rw [hend.runs, hugrp]; rfl
    · rw [hend.held, State.rn, hto.rd (framesRegs_apart g _ (by simp)), State.rn]; rfl

end

end Sys2Proof.Machine

/-! ## LINK_RELEASE (R161, R173) -/
namespace Sys2Proof.Machine

/-- What the release of frame `n` leaves of group `g`, by the state `s` before all releases. -/
structure State.Released (s : State) (g n : Nat) (t : State) : Prop where
  runs : ∀ r : Run, QItem.run r ∈ t.queue g ↔ QItem.run r ∈ s.queue g ∧ r.frame = n
  items : ∀ i ∈ t.queue g, i.frame = n
  frames : t.rd (Reg.PLK_GRP_FRAMES g) = if s.grpSends g then s.rd (Reg.PLK_GRP_FRAMES g) + 1 else s.rd (Reg.PLK_GRP_FRAMES g)
  marker : s.grpSends g = true → (s.grp g).frame = none →
    (s.beforeRow g).blocks g (fun k => controlBlock 0x78 (laneBits g k + n % 65536 * 256 + s.rf (Reg.PLK_GRP_MASK g) 15 0 * 2 ^ 24 +
      s.geo.layout * 2 ^ 42 + s.rf (Reg.PLK_GRP_STATUS g) 27 24 * 2 ^ 44)) ∈ t.sent
  sending : s.grpSends g = true → QItem.start n true ∉ s.queue g → (t.grp g).frame = some n ∧ (t.grp g).words = [] ∧ (t.grp g).hold = false
  held : s.grpSends g = true → QItem.start n true ∈ s.queue g → (s.grp g).frame = none →
    (t.grp g).frame = none ∧ t.rf (Reg.PLK_GRP_RUNS g) 23 0 = 0 ∧ t.rn (Reg.PLK_GRP_HELD g) = min (2 ^ 32 - 1) (s.rn (Reg.PLK_GRP_HELD g) + 1)
  idle : s.grpSends g = false → (s.grp g).frame ≠ some n → (t.grp g).frame = none
  stale : ∀ m, (s.grp g).frame = some m → m ≠ n → s.enabled (Reg.page 7 0) = true →
    t.rn (Reg.PLK_GRP_LATE g) = min (2 ^ 32 - 1) (s.rn (Reg.PLK_GRP_LATE g) + if s.reportedShort g m then 0 else 1) ∧
    (s.reportedShort g m = false → t.rf (Reg.PLK_GRP_STATUS g) 30 28 = 1 ∧ t.fltPending (245 + 2 * g) = true) ∧
    (QItem.start n true ∉ s.queue g →
      t.rf (Reg.PLK_GRP_RUNS g) 23 0 = (s.grp g).runs % 2 ^ 24 ∧ t.rn (Reg.PLK_GRP_HELD g) = min (2 ^ 32 - 1) (s.rn (Reg.PLK_GRP_HELD g) + 1))

section
variable {l : List Nat} {g n : Nat} {s t u : State}

/-- Rows of control blocks that differ on no lane. -/
theorem State.RowAlike.blocks (h : s.RowAlike g t) {f f' : Nat → Nat} (hf : ∀ k < 16, f' k = f k) : t.blocks g f' = s.blocks g f := by
  rw [State.blocks, State.blocks, h.rowWords fun k hk => by rw [hf k hk]]

/-- The release of one group stands through those of others. -/
theorem State.Released.later (h : s.Released g n t) (hstep : t.LinkStep l u) (hg : g < 6) (hgl : g ∉ l) : s.Released g n u := by
  have hrd : ∀ {a}, a / 0x1000 = 0x701 + g → a % 0x1000 ≠ 0x1C → u.rd a = t.rd a := fun hp ho => hstep.rd_grp hg hgl hp ho
  have hframes : u.rd (Reg.PLK_GRP_FRAMES g) = t.rd (Reg.PLK_GRP_FRAMES g) := by apply hrd <;> simp only [Reg.PLK_GRP_FRAMES] <;> omega
  have hruns : u.rd (Reg.PLK_GRP_RUNS g) = t.rd (Reg.PLK_GRP_RUNS g) := by apply hrd <;> simp only [Reg.PLK_GRP_RUNS] <;> omega
  have hheld : u.rd (Reg.PLK_GRP_HELD g) = t.rd (Reg.PLK_GRP_HELD g) := by apply hrd <;> simp only [Reg.PLK_GRP_HELD] <;> omega
  have hlate : u.rd (Reg.PLK_GRP_LATE g) = t.rd (Reg.PLK_GRP_LATE g) := by apply hrd <;> simp only [Reg.PLK_GRP_LATE] <;> omega
  have hstatus : u.rd (Reg.PLK_GRP_STATUS g) = t.rd (Reg.PLK_GRP_STATUS g) := by apply hrd <;> simp only [Reg.PLK_GRP_STATUS] <;> omega
  refine ⟨?_, ?_, hframes.trans h.frames, fun hs hf => hstep.grows.subset (h.marker hs hf), ?_, ?_, ?_, fun m hf hm he => ?_⟩
  · rw [hstep.queue g hgl]; exact h.runs
  · rw [hstep.queue g hgl]; exact h.items
  · rw [hstep.grp g hgl]; exact h.sending
  · rw [hstep.grp g hgl, State.rf, hruns, State.rn, hheld]; exact h.held
  · rw [hstep.grp g hgl]; exact h.idle
  · obtain ⟨hcount, hnotice, hshown⟩ := h.stale m hf hm he
    refine ⟨by rw [State.rn, hlate]; exact hcount, fun hr => ⟨?_, hstep.pending _ (by omega) (hnotice hr).2⟩, fun hq => ?_⟩
    · rw [State.rf, hstatus]; exact (hnotice hr).1
    · rw [State.rf, hruns, State.rn, hheld]; exact hshown hq

/-- The release of one group after those of others. -/
theorem State.Released.earlier (h : t.Released g n u) (hstep : s.LinkStep l t) (hl : ∀ m ∈ l, m < 6) (hg : g < 6) (hgl : g ∉ l) (hs : s.Settled g)
    (hlen : g < s.plk.groups.length) : s.Released g n u := by
  have hrd : ∀ {a}, a / 0x1000 = 0x701 + g → a % 0x1000 ≠ 0x1C → t.rd a = s.rd a := fun hp ho => hstep.rd_grp hg hgl hp ho
  have hframes : t.rd (Reg.PLK_GRP_FRAMES g) = s.rd (Reg.PLK_GRP_FRAMES g) := by apply hrd <;> simp only [Reg.PLK_GRP_FRAMES] <;> omega
  have hheld : t.rn (Reg.PLK_GRP_HELD g) = s.rn (Reg.PLK_GRP_HELD g) := by refine congrArg BitVec.toNat (hrd ?_ ?_) <;> simp only [Reg.PLK_GRP_HELD] <;> omega
  have hlate : t.rn (Reg.PLK_GRP_LATE g) = s.rn (Reg.PLK_GRP_LATE g) := by refine congrArg BitVec.toNat (hrd ?_ ?_) <;> simp only [Reg.PLK_GRP_LATE] <;> omega
  have hstatus : ∀ hi lo, t.rf (Reg.PLK_GRP_STATUS g) hi lo = s.rf (Reg.PLK_GRP_STATUS g) hi lo := fun hi lo => by
    refine congrArg (fld · hi lo) (hrd ?_ ?_) <;> simp only [Reg.PLK_GRP_STATUS] <;> omega
  have hgrp := hstep.grp g hgl
  have hqueue := hstep.queue g hgl
  have hsends : t.grpSends g = s.grpSends g := hstep.grpSends hg (by rw [hgrp]) (hstatus 3 0)
  have hshort : ∀ m, t.reportedShort g m = s.reportedShort g m := fun m => by rw [State.reportedShort, hgrp, hqueue, State.reportedShort]
  have hmask : t.rf (Reg.PLK_GRP_MASK g) 15 0 = s.rf (Reg.PLK_GRP_MASK g) 15 0 := congrArg (fld · 15 0) (hstep.mask hg)
  have halike := (hstep.rowAlike hl hg hgl hs.map).beforeRow hg hlen (by rw [hstep.groups]; exact hlen)
  obtain ⟨hr, hi, hf, hm, ho, hh, hd, hst⟩ := h
  rw [hsends] at hf hm ho hh hd
  rw [hgrp] at hm hh hd hst
  rw [hqueue] at hr ho hh hst
  rw [hheld] at hh hst
  rw [hstep.enabled, hlate] at hst
  refine ⟨hr, hi, by rw [hf, hframes], fun h1 h2 => ?_, ho, hh, hd, fun m => by rw [← hshort]; exact hst m⟩
  have hsent := hm h1 h2
  rwa [hmask, hstatus, hstep.geo, halike.blocks fun _ _ => rfl] at hsent

end

/-! ### One group -/

/-- A group sends markers only while the common page is enabled (R176). -/
theorem State.enabled_of_grpSends {s : State} {g : Nat} (h : s.grpSends g = true) : s.enabled (Reg.page 7 0) = true := by
  simp only [State.grpSends, Bool.and_eq_true] at h
  obtain ⟨⟨⟨⟨⟨hen, -⟩, -⟩, -⟩, -⟩, -⟩ := h
  exact hen

/-- A group after a stale frame has ended and the items of other frames have left its queue. -/
def State.queueCut (s : State) (g n : Nat) : State := (s.endStale g n).setQueue g (dropOld n (s.queue g))

section
variable {g n : Nat} {s t : State} (hg : g < 6) (hlen : g < s.plk.groups.length) (hs : s.Settled g)
include hg hlen hs

theorem State.calm_queueCut : s.CalmStep g (s.queueCut g n) :=
  (State.calm_endStale hg hlen hs.map).1.trans (State.calm_setQueue _ _ _)

/-- The whole release of a settled group. -/
theorem State.releaseGroup_settled : s.releaseGroup g n =
    (if s.grpSends g then ((s.queueCut g n).setGrp g ((s.queueCut g n).grp g)).startFrame g n else s.queueCut g n, false) := by
  have hcalm := State.calm_queueCut (n := n) hg hlen hs
  have hset := hcalm.settled hg hs
  have hsends := hcalm.grpSends hg
  rw [State.releaseGroup_eq, State.releaseRest, (State.calm_endStale hg hlen hs.map).2.2]
  change (if !(s.queueCut g n).grpSends g then (s.queueCut g n, false)
    else ((((s.queueCut g n).ackCheck g).restripe g).1.startFrame g n, (((s.queueCut g n).ackCheck g).restripe g).2)) = _
  rw [hset.ackCheck, hset.restripe_eq, hsends]
  cases s.grpSends g
  · rw [if_pos (by decide), if_neg (by decide)]
  · rw [if_neg (by decide), if_pos rfl]

omit hs in
/-- What a stale frame's end shows stands through steps that leave its registers alone. -/
theorem State.stale_shown (hstep : (s.endStale g n).LinkStep [g] t) (hlate : t.rd (Reg.PLK_GRP_LATE g) = (s.endStale g n).rd (Reg.PLK_GRP_LATE g))
    (hstatus : t.rd (Reg.PLK_GRP_STATUS g) = (s.endStale g n).rd (Reg.PLK_GRP_STATUS g))
    (hcounts : QItem.start n true ∉ s.queue g →
      t.rd (Reg.PLK_GRP_RUNS g) = (s.endStale g n).rd (Reg.PLK_GRP_RUNS g) ∧ t.rd (Reg.PLK_GRP_HELD g) = (s.endStale g n).rd (Reg.PLK_GRP_HELD g))
    (m : Nat) (hf : (s.grp g).frame = some m) (hm : m ≠ n) (he : s.enabled (Reg.page 7 0) = true) :
    t.rn (Reg.PLK_GRP_LATE g) = min (2 ^ 32 - 1) (s.rn (Reg.PLK_GRP_LATE g) + if s.reportedShort g m then 0 else 1) ∧
    (s.reportedShort g m = false → t.rf (Reg.PLK_GRP_STATUS g) 30 28 = 1 ∧ t.fltPending (245 + 2 * g) = true) ∧
    (QItem.start n true ∉ s.queue g →
      t.rf (Reg.PLK_GRP_RUNS g) 23 0 = (s.grp g).runs % 2 ^ 24 ∧ t.rn (Reg.PLK_GRP_HELD g) = min (2 ^ 32 - 1) (s.rn (Reg.PLK_GRP_HELD g) + 1)) := by
  obtain ⟨hcount, hnotice, hruns, hheld⟩ := State.endStale_shows hg hlen hf hm he
  refine ⟨(congrArg BitVec.toNat hlate).trans hcount, fun hr => ⟨(congrArg (fld · 30 28) hstatus).trans (hnotice hr).1, hstep.pending _ (by omega) (hnotice hr).2⟩,
    fun hq => ⟨(congrArg (fld · 23 0) (hcounts hq).1).trans hruns, (congrArg BitVec.toNat (hcounts hq).2).trans hheld⟩⟩

/-- A group that sends no markers. -/
theorem State.released_idle (hqs : g < s.syn.queues.length) (hsend : s.grpSends g = false) : s.Released g n (s.queueCut g n) := by
  obtain ⟨hcalm, hgone, -⟩ := State.calm_endStale (n := n) hg hlen hs.map
  have hrd : ∀ a, (s.queueCut g n).rd a = (s.endStale g n).rd a := fun a => (State.setQueue_within _ _ _ (q := fun _ => false)).rd rfl
  have hqueue : (s.queueCut g n).queue g = dropOld n (s.queue g) := State.queue_setQueue_same (by rw [hcalm.step.queues]; exact hqs) _
  refine ⟨fun r => ?_, fun i hi => ?_, ?_, fun h => ?_, fun h => ?_, fun h => ?_, fun _ => hgone,
    State.stale_shown hg hlen (State.linkStep_setQueue _ _ _) (hrd _) (hrd _) fun _ => ⟨hrd _, hrd _⟩⟩
  · rw [hqueue, mem_dropOld]; rfl
  · rw [hqueue, mem_dropOld] at hi; exact hi.2
  · rw [hsend, if_neg (by decide), hrd, hcalm.frames]
  all_goals exact absurd (hsend.symm.trans h) (by decide)

/-- A group that sends the markers of the frame. -/
theorem State.released_sends (hqs : g < s.syn.queues.length) (hsend : s.grpSends g = true)
    (hstart : State.Started ((s.queueCut g n).setGrp g ((s.queueCut g n).grp g)) g n t) : s.Released g n t := by
  obtain ⟨v, hv⟩ : ∃ v, v = (s.queueCut g n).setGrp g ((s.queueCut g n).grp g) := ⟨_, rfl⟩
  rw [← hv] at hstart
  have hcut := State.calm_queueCut (n := n) hg hlen hs
  have hclen : g < (s.queueCut g n).plk.groups.length := by rw [hcut.step.groups]; exact hlen
  have hset := (s.queueCut g n).setGrp_within g ((s.queueCut g n).grp g)
  have hcalm : s.CalmStep g v := by rw [hv]; exact hcut.trans (State.calm_setGrp hg hclen rfl rfl rfl rfl rfl)
  have hqueue : v.queue g = dropOld n (s.queue g) := by
    rw [hv, hset.queue (by decide)]
    exact State.queue_setQueue_same (by rw [(State.calm_endStale hg hlen hs.map).1.step.queues]; exact hqs) _
  have hrd : ∀ {a}, Reg.PAGE_STATUS (grpPage g) ≠ a → v.rd a = (s.endStale g n).rd a := fun ha => by
    rw [hv, hset.rd (among_eq_false (by simpa using ha))]
    exact (State.setQueue_within _ _ _ (q := fun _ => false)).rd rfl
  have hruns : v.rd (Reg.PLK_GRP_RUNS g) = (s.endStale g n).rd (Reg.PLK_GRP_RUNS g) := hrd (by simp only [Reg.PAGE_STATUS, grpPage, Reg.page, Reg.PLK_GRP_RUNS]; omega)
  have hheld : v.rd (Reg.PLK_GRP_HELD g) = (s.endStale g n).rd (Reg.PLK_GRP_HELD g) := hrd (by simp only [Reg.PAGE_STATUS, grpPage, Reg.page, Reg.PLK_GRP_HELD]; omega)
  have hlate : v.rd (Reg.PLK_GRP_LATE g) = (s.endStale g n).rd (Reg.PLK_GRP_LATE g) := hrd (by simp only [Reg.PAGE_STATUS, grpPage, Reg.page, Reg.PLK_GRP_LATE]; omega)
  have hafter : ∀ a ∈ [Reg.PLK_GRP_LATE g, Reg.PLK_GRP_STATUS g], t.rd a = v.rd a := fun a ha => hstart.within.rd <| among_eq_false <| by
    simp only [List.mem_cons, List.not_mem_nil, or_false] at ha
    simp only [List.forall_mem_cons, List.mem_singleton, forall_eq, Reg.PAGE_STATUS, grpPage, Reg.page, Reg.PLK_GRP_FRAMES, Reg.PLK_GRP_STATUS, Reg.PLK_GRP_RUNS,
      Reg.PLK_GRP_HELD, Reg.PLK_GRP_LATE] at ha ⊢
    omega
  have hq : heldFromStart n (v.queue g) = heldFromStart n (s.queue g) := by rw [hqueue, heldFromStart_dropOld]
  have hfree : QItem.start n true ∉ s.queue g → heldFromStart n (v.queue g) = false := fun h => by rw [hq]; exact Bool.eq_false_iff.mpr (mt heldFromStart_iff.mp h)
  have hstep : (s.endStale g n).LinkStep [g] v := by rw [hv]; exact (State.linkStep_setQueue _ _ _).trans (State.linkStep_setGrp _ hg _)
  refine ⟨fun r => ?_, fun i hi => ?_, ?_, fun _ hf => ?_, fun _ h => ?_, fun _ h hf => ?_, fun h => ?_, State.stale_shown hg hlen (hstep.trans hstart.step) ?_ ?_ fun h => ?_⟩
  · rw [hstart.queue, run_mem_afterStart, hqueue, mem_dropOld]; rfl
  · rw [hstart.queue] at hi
    have hi := mem_of_afterStart hi
    rw [hqueue, mem_dropOld] at hi
    exact hi.2
  · rw [hsend, if_pos rfl, hstart.frames, hcalm.frames]
  · have halike : s.RowAlike g v := by
      rw [hv, State.queueCut, State.endStale_none hf]
      exact (s.rowAlike_setQueue g _ _).trans (State.rowAlike_setGrp hg hlen rfl rfl ⟨rfl, rfl, rfl, rfl, rfl⟩)
    have hmode : v.grpMode g = 0 := (hcalm.settled hg hs).mode
    have hmask : v.rf (Reg.PLK_GRP_MASK g) 15 0 = s.rf (Reg.PLK_GRP_MASK g) 15 0 := congrArg (fld · 15 0) (hcalm.step.mask hg)
    rw [← (halike.beforeRow hg hlen (by rw [hcalm.step.groups]; exact hlen)).blocks (f' := v.frameMarker g n) fun k _ => ?_]
    · exact hstart.marker
    · rw [State.frameMarker, hmode, hmask, hcalm.step.geo, hcalm.status 27 24 (by decide) (by decide), Nat.zero_mul, Nat.add_zero]
  · obtain ⟨hframe, hwords, hhold, -⟩ := hstart.sending (hfree h)
    exact ⟨hframe, hwords, hhold⟩
  · obtain ⟨hframe, hcount, hsat⟩ := hstart.held (hq.trans (heldFromStart_iff.mpr h))
    refine ⟨hframe, hcount, ?_⟩
    rw [hsat, State.rn, hheld, State.endStale_none hf, State.rn]
  · exact absurd (hsend.symm.trans h) (by decide)
  · rw [hafter _ (by simp), hlate]
  · rw [hafter _ (by simp), hrd (pageStatus_apart g).2]
  · obtain ⟨-, -, -, hr, hh⟩ := hstart.sending (hfree h)
    exact ⟨hr.trans hruns, hh.trans hheld⟩

/-- The release of one settled group. -/
theorem State.released_releaseGroup (hqs : g < s.syn.queues.length) : (s.releaseGroup g n).2 = false ∧ s.LinkStep [g] (s.releaseGroup g n).1 ∧
    s.Released g n (s.releaseGroup g n).1 ∧ ((s.grp g).frame = none →
      Within [.regs, .sent, .plk, .syn] (among [Reg.PLK_GRP_FRAMES g, Reg.PLK_GRP_HELD g, Reg.PLK_GRP_RUNS g, Reg.PAGE_STATUS (grpPage g)]) s (s.releaseGroup g n).1) := by
  have hcut := State.calm_queueCut (n := n) hg hlen hs
  have hquiet : (s.grp g).frame = none → Within [.syn] (among [Reg.PLK_GRP_FRAMES g, Reg.PLK_GRP_HELD g, Reg.PLK_GRP_RUNS g, Reg.PAGE_STATUS (grpPage g)]) s (s.queueCut g n) :=
    fun hf => by rw [State.queueCut, State.endStale_none hf]; exact s.setQueue_within _ _
  rw [State.releaseGroup_settled hg hlen hs]
  cases hsend : s.grpSends g
  · rw [if_neg (by decide)]
    dsimp only
    exact ⟨rfl, hcut.step, State.released_idle hg hlen hs hqs hsend, fun hf => (hquiet hf).widen (by decide)⟩
  · rw [if_pos rfl]
    dsimp only
    have hclen : g < (s.queueCut g n).plk.groups.length := by rw [hcut.step.groups]; exact hlen
    have hcalm := hcut.trans (State.calm_setGrp hg hclen (v := (s.queueCut g n).grp g) rfl rfl rfl rfl rfl)
    have hstart := State.started_startFrame (n := n) hg (by rw [hcalm.step.groups]; exact hlen) (by rw [hcalm.step.queues]; exact hqs) (hcalm.settled hg hs).map
      (hcalm.step.enabled.trans (State.enabled_of_grpSends hsend))
    refine ⟨rfl, hcalm.step.trans hstart.step, State.released_sends hg hlen hs hqs hsend hstart, fun hf => ?_⟩
    exact ((hquiet hf).widen (by decide)).trans (((State.setGrp_within _ _ _).mono (by decide) fun _ => among_mono (by simp)).trans hstart.within)

end

end Sys2Proof.Machine

/-! ## All groups at a release (R161, R173) -/
namespace Sys2Proof.Machine

/-- One group at the release of frame `n`, after the groups before it. -/
def State.releaseNext (n : Nat) (acc : State × List Report) (g : Nat) : State × List Report :=
  ((acc.1.releaseGroup g n).1, if (acc.1.releaseGroup g n).2 then acc.2 ++ [⟨244 + 2 * g, 0, 0, [], false⟩] else acc.2)

/-- The first `i` groups at the release of frame `n`. -/
def State.releaseFirst (s : State) (n i : Nat) : State × List Report := (List.range i).foldl (State.releaseNext n) (s, [])

theorem State.releaseFirst_succ (s : State) (n i : Nat) : s.releaseFirst n (i + 1) = State.releaseNext n (s.releaseFirst n i) i := by
  rw [State.releaseFirst, List.range_succ, List.foldl_append, State.releaseFirst]
  rfl

theorem execLinkRelease_eq {s : State} {e : Epoch} (h : s.cmt.latched = some e) : execLinkRelease s =
    done (if (s.releaseFirst e.count 6).2.isEmpty then (s.releaseFirst e.count 6).1 else (s.releaseFirst e.count 6).1.fault (s.releaseFirst e.count 6).2) := by
  unfold execLinkRelease
  rw [h]
  rfl

theorem State.linkStep_endCycle (l : List Nat) (s : State) : s.LinkStep l s.endCycle := by
  have hw : Within [.hif] (fun _ => false) s s.endCycle := (Within.refl s).ended (by decide)
  exact (hw.mono (by decide) fun _ h => nomatch h).linkStep_notice l (.of_sent s.endCycle_sent) fun _ _ hp => (hw.rb rfl _).trans hp

section
variable {s : State} (hs : s.Shape) (hset : ∀ g < 6, s.Settled g)
include hs hset

/-- What the releases of the first groups leave, group by group. -/
theorem State.releaseFirst_spec (n : Nat) {i : Nat} (hi : i ≤ 6) : (s.releaseFirst n i).2 = [] ∧ s.LinkStep (List.range i) (s.releaseFirst n i).1 ∧
    (∀ g < i, s.Released g n (s.releaseFirst n i).1) ∧ ((∀ g < 6, (s.grp g).frame = none) → Within [.regs, .sent, .plk, .syn] (fun a => (List.range i).any fun g =>
      among [Reg.PLK_GRP_FRAMES g, Reg.PLK_GRP_HELD g, Reg.PLK_GRP_RUNS g, Reg.PAGE_STATUS (grpPage g)] a) s (s.releaseFirst n i).1) := by
  induction i with
  | zero => exact ⟨rfl, .refl _ s, fun g hg => absurd hg (Nat.not_lt_zero g), fun _ => .refl s⟩
  | succ i ih =>
    obtain ⟨hnone, hstep, hdone, hquiet⟩ := ih (by omega)
    rw [State.releaseFirst_succ]
    generalize s.releaseFirst n i = acc at hnone hstep hdone hquiet
    obtain ⟨u, reports⟩ := acc
    have hig : i < 6 := by omega
    have hl : ∀ m ∈ List.range i, m < 6 := fun m hm => by have := List.mem_range.mp hm; omega
    have hil : i ∉ List.range i := by simp
    have hlen : i < s.plk.groups.length := by rw [hs.groups]; exact hig
    obtain ⟨hup, hown, hrel, hstill⟩ := State.released_releaseGroup (n := n) hig (by rw [hstep.groups]; exact hlen) (hstep.settled hl hig hil (hset i hig))
      (by rw [hstep.queues, hs.queues]; exact hig)
    rw [State.releaseNext]
    dsimp only at hnone hstep hquiet hown hrel hstill hup ⊢
    rw [hup]
    refine ⟨hnone, (hstep.mono (by simp)).trans (hown.mono (by simp)), fun g hg => ?_, fun hf => ?_⟩
    · by_cases h : g = i
      · rw [h]
        exact hrel.earlier hstep hl hig hil (hset i hig) hlen
      · exact (hdone g (by omega)).later hown (by omega) (by simpa using h)
    · refine ((hquiet hf).regs_mono fun a ha => ?_).trans ((hstill (by rw [hstep.grp i hil]; exact hf i hig)).regs_mono fun a ha => ?_)
      · obtain ⟨g, hg, hga⟩ := List.any_eq_true.mp ha
        exact List.any_eq_true.mpr ⟨g, List.mem_range.mpr (by have := List.mem_range.mp hg; omega), hga⟩
      · exact List.any_eq_true.mpr ⟨i, List.mem_range.mpr (by omega), ha⟩

/-- LINK_RELEASE of settled groups ends with every group released. -/
theorem ends_linkRelease {e : Epoch} (he : s.cmt.latched = some e) : Ends .linkRelease s fun t => s.LinkStep (List.range 6) t ∧ (∀ g < 6, s.Released g e.count t) ∧
    ((∀ g < 6, (s.grp g).frame = none) → Within [.regs, .hif, .sent, .plk, .syn] (fun a => (List.range 6).any fun g =>
      among [Reg.PLK_GRP_FRAMES g, Reg.PLK_GRP_HELD g, Reg.PLK_GRP_RUNS g, Reg.PAGE_STATUS (grpPage g)] a) s t) := by
  obtain ⟨hnone, hstep, hdone, hquiet⟩ := State.releaseFirst_spec hs hset e.count (Nat.le_refl 6)
  have hexec : exec .linkRelease s = done (s.releaseFirst e.count 6).1 := by
    change execLinkRelease s = _
    rw [execLinkRelease_eq he, hnone]
    rfl
  generalize (s.releaseFirst e.count 6).1 = u at hstep hdone hquiet hexec
  exact ends_of_done hexec ⟨hstep.trans (u.linkStep_endCycle _), fun g hg => (hdone g hg).later (u.linkStep_endCycle []) hg (by simp),
    fun hf => ((hquiet hf).widen (by decide)).ended (by decide)⟩

end

/-- Settles O35, group by group: the releases of other groups leave what one depends on and what it shows. -/
theorem releaseSendsFrame : Obligations.ReleaseSendsFrame := by
  unfold Obligations.ReleaseSendsFrame
  intro e s hs he hset
  obtain ⟨t, ht, hstep, hdone, hquiet⟩ := ends_linkRelease hs hset he
  refine ⟨t, ht, fun g hg => ⟨(hdone g hg).runs, (hdone g hg).items⟩, fun g hg hsend => ⟨?_, (hdone g hg).marker hsend, fun hq _ => (hdone g hg).sending hsend hq,
    (hdone g hg).held hsend⟩, fun g hg hsend => ⟨?_, (hdone g hg).idle hsend⟩, fun g hg => (hdone g hg).stale, hquiet, hstep.within⟩
  · rw [(hdone g hg).frames, hsend, if_pos rfl]
  · rw [(hdone g hg).frames, hsend, if_neg (by decide)]

end Sys2Proof.Machine
